-- ==== Sys2Proof/Word.lean ====
section
/-! DEFINITION. The words and the plain arithmetic of the model: bit fields of natural numbers (R4), two's-complement
readings and saturation (R6). A register value is a natural number below two to its field's width; a signal of the servo
engine is an integer. -/

namespace Sys2Proof

/-- One byte. -/
abbrev Byte := BitVec 8

/-- A head, 0 to 127 (R18). -/
abbrev HeadId := Fin 128
/-- A spindle, 0 to 31; its Bezel core, link and drive position carry the same number (R18). -/
abbrev SpinId := Fin 32
/-- A Bezel core, 0 to 31. -/
abbrev BezelId := Fin 32
/-- A Torc core, 0 to 3. -/
abbrev TorcId := Fin 4
/-- A data spot D0 to D3. -/
abbrev SpotId := Fin 4
/-- A loop number 0 FOC, 1 TRK, 2 TILT, 3 SLED, 4 LPWR (R93). -/
abbrev LoopId := Fin 5
/-- A surface: 2 × spindle + side (R35). -/
abbrev SurfId := Fin 64

/-- Bits [hi:lo] of a number. -/
def bits (x hi lo : Nat) : Nat := x / 2 ^ lo % 2 ^ (hi + 1 - lo)

/-- Bit n of a number. -/
def bit (x n : Nat) : Bool := x / 2 ^ n % 2 == 1

/-- A flag as a number. -/
def b2n (b : Bool) : Nat := if b then 1 else 0

/-- `x` with bits [lo + w - 1 : lo] replaced by the low bits of `v`. -/
def putBits (x lo w v : Nat) : Nat :=
  x / 2 ^ (lo + w) * 2 ^ (lo + w) + v % 2 ^ w * 2 ^ lo + x % 2 ^ lo

/-- The two's-complement reading of the low `w` bits (R6). -/
def toSigned (w x : Nat) : Int :=
  if x % 2 ^ w < 2 ^ (w - 1) then (x % 2 ^ w : Nat) else (x % 2 ^ w : Nat) - (2 ^ w : Nat)

/-- The low `w` bits of an integer, as two's complement. -/
def ofSigned (w : Nat) (x : Int) : Nat := (x % (2 ^ w : Nat)).toNat

/-- Saturation to the two's-complement range of `w` bits. -/
def satSigned (w : Nat) (x : Int) : Int :=
  if x < -(2 ^ (w - 1) : Nat) then -(2 ^ (w - 1) : Nat)
  else if (2 ^ (w - 1) : Nat) ≤ x then (2 ^ (w - 1) : Nat) - 1 else x

/-- Clamping an integer to [lo, hi]. -/
def clampInt (lo hi x : Int) : Int := if x < lo then lo else if hi < x then hi else x

/-- Arithmetic shift right (toward minus infinity). -/
def asr (x : Int) (n : Nat) : Int := Int.fdiv x (2 ^ n : Nat)

/-- Rounding to nearest of x / 2^n, halves toward plus infinity. -/
def rndShift (x : Int) (n : Nat) : Int := if n = 0 then x else asr (x + (2 ^ (n - 1) : Nat)) n

/-- Rounded division of naturals, halves up. -/
def divRound (a b : Nat) : Nat := (2 * a + b) / (2 * b)

/-- The `n` low bytes of a number, most significant first. -/
def bytesBE (n x : Nat) : List Byte :=
  (List.range n).map fun k => BitVec.ofNat 8 (x / 2 ^ (8 * (n - 1 - k)))

/-- The `n` low bytes of a number, least significant first (R263: multi-byte fields are little-endian). -/
def bytesLE (n x : Nat) : List Byte := (List.range n).map fun k => BitVec.ofNat 8 (x / 2 ^ (8 * k))

/-- The number whose bytes are given, least significant first. -/
def ofBytesLE : List Byte → Nat
  | [] => 0
  | b :: bs => b.toNat + 256 * ofBytesLE bs

/-- The number whose bytes are given, most significant first. -/
def ofBytesBE (bs : List Byte) : Nat := bs.foldl (fun a b => a * 256 + b.toNat) 0

/-- The little-endian number in bytes [at, at + n) of a list; bytes past its end count as 0. -/
def leAt (bs : List Byte) (pos n : Nat) : Nat := ofBytesLE ((bs.drop pos).take n)

/-- `n` bytes of 0. -/
def zeros (n : Nat) : List Byte := List.replicate n 0

/-- The `n` bits of a number, most significant first. -/
def bitsBE (n x : Nat) : List Bool := (List.range n).map fun k => bit x (n - 1 - k)

/-- The number whose bits are given, most significant first. -/
def ofBitsBE (bs : List Bool) : Nat := bs.foldl (fun a b => 2 * a + b2n b) 0

/-- Integer square root rounded down, by bisection with `fuel` steps. -/
def isqrtFuel (x : Nat) : Nat → Nat → Nat → Nat
  | 0, lo, _ => lo
  | fuel + 1, lo, hi =>
    if hi ≤ lo + 1 then lo
    else
      let mid := (lo + hi) / 2
      if mid * mid ≤ x then isqrtFuel x fuel mid hi else isqrtFuel x fuel lo mid

/-- Splitting a list into runs of `n`, with `fuel` runs at most. -/
def chunksFuel {α : Type} (n : Nat) : Nat → List α → List (List α)
  | 0, _ => []
  | _, [] => []
  | fuel + 1, l => l.take n :: chunksFuel n fuel (l.drop n)

/-- Splitting a list into runs of `n`. -/
def chunks {α : Type} (n : Nat) (l : List α) : List (List α) := chunksFuel n l.length l

end Sys2Proof
end

