-- ==== Sys2Proof/Machine/PartsServo.lean ====
section
/-! DEFINITION. The state of the links (R63 to R86), of the loops and law programs (R87 to R117) and of mode control
(R118 to R149). Every field's default is its value after a cold power-on; where the manual gives none, log entry 4. -/

namespace Sys2Proof.Machine

/-- A 66-bit block of a link frame, descrambled: its sync bits and its payload (R63). -/
structure Block where
  sync : BitVec 2
  payload : BitVec 64
deriving DecidableEq, Repr

/-- What a mailbox request of R75 was made for: it decides what the answer does. -/
inductive Purpose where
  /-- A release setting (step 2 of R340). -/
  | release
  /-- The write-guard limits (R146). -/
  | guard
  /-- The servo scales of HM_SCALE (R353, R355). -/
  | scale
  /-- The pending converter settings, to the pendant's shadow bank (R355). -/
  | correction
  /-- The pendant's drive law (R350). -/
  | laser
  /-- A margin scan of the companion's receiver (R80). -/
  | margin
deriving DecidableEq, Repr

/-- A mailbox request (R75) that has not completed. -/
structure MboxReq where
  tag : Nat
  write : Bool
  addr : Nat
  data : Nat
  purpose : Purpose
  /-- It waits for an HK block of a downstream frame. -/
  queued : Bool := true
  /-- Ticks since it was last issued, or since it failed. -/
  age : Nat := 0
  /-- Re-issues so far, of at most 3. -/
  reissues : Nat := 0
  /-- STATUS of the last answer, 0xFF before any; the last answer was busy. -/
  status : Nat := 255
  busy : Bool := false
  /-- It ended in a failure and waits 400 Ticks to be made again from the start; HL_MAILBOX_FAIL has been raised for it. -/
  failed : Bool := false
  raised : Bool := false
deriving DecidableEq, Repr

/-- A link's bring-up, margins and mailbox beyond its registers (R75, R78 to R80). -/
structure Port where
  /-- Ticks in the present STATE. -/
  age : Nat := 0
  /-- Consecutive failures (R78). -/
  fails : Nat := 0
  /-- The bring-up in progress uses full training. -/
  full : Bool := false
  /-- A retry waits 40 Ticks after a failed step. -/
  retryWait : Bool := false
  /-- The serial number and coefficients stored; journal-held (R86). -/
  stored : Option (Nat × Nat) := none
  /-- Serial number reported at ALIGN. -/
  serial : Nat := 0
  /-- The signal went away while the link was locked out (R78). -/
  wentAway : Bool := false
  /-- The signal of the link was lost while UP and its companion has not been found again (R79). -/
  lost : Bool := false
  /-- Ticks of a margin scan (R80). -/
  margin : Option Nat := none
  mbox : List MboxReq := []
  /-- The tag of the latest request; tags run from 1 to 255. -/
  lastTag : Nat := 0
  /-- HK blocks with a request in the downstream frame of the present Tick (R75). -/
  hk : List Nat := []
deriving DecidableEq, Repr

/-- The flags of H0 of the last intact upstream frame (R66). -/
structure HeadFlags where
  /-- RATE of H0. -/
  rate : Nat := 0
  pllLock : Bool := false
  laserOn : Bool := false
  /-- Actual write gates of D3 to D0, bit d for Dd. -/
  wg : Nat := 0
  safe : Bool := false
  sampleDrop : Bool := false
  underrun : Nat := 0
  wdBad : Bool := false
  cmdHeld : Bool := false
  guardTrip : Bool := false
  overcurrent : Bool := false
  overpower : Bool := false
deriving DecidableEq, Repr

/-- The last intact servo values of the upstream frame (R66, R73); 16-bit fields as integers. -/
structure HeadIn where
  fe : Int := 0
  te : Int := 0
  tilt : Int := 0
  sum : Int := 0
  ca : Int := 0
  mon : Int := 0
  iFoc : Int := 0
  iTrk : Int := 0
  iTilt : Int := 0
  stepPhase : Nat := 0
  temp : Int := 0
  /-- TEMP has come since the last M-tick (R365). -/
  tempNew : Bool := false
  feMax : Nat := 0
  teMax : Nat := 0
  sumMin : Nat := 0
  convSat : Nat := 0
deriving DecidableEq, Repr

/-- The downstream head frame being formed (R70). Beat and the inhibits are Keeper's. -/
structure HeadDown where
  seq : Nat := 0
  epoch : Nat := 0
  epochAdv : Bool := false
  rateNext : Nat := 0
  switchIn : Nat := 0
  beat : Nat := 0
  beatChk : Nat := 0
  laserInhibit : Bool := false
  writeInhibit : Bool := false
  focDrv : Int := 0
  trkDrv : Int := 0
  tiltDrv : Int := 0
  laserSet : Nat := 0
  stepN : Int := 0
  /-- 0 off, 1 hold, 2 quiet, 3 strong. -/
  coil : Nat := 0
  laserEn : Bool := false
  wLayer : Nat := 0
  wStripe : Nat := 0
  /-- Bit d for spot Dd, in both. -/
  wArm : Nat := 0
  /-- The spots of an arming that stands: W_ARM follows once the pendant's FIFO holds 4,096 bits (R210, R211); and the epoch under which
  the core has issued it (R76). -/
  armReq : Nat := 0
  armEpoch : Nat := 0
  wStop : Nat := 0
  /-- WCNT_D0 to WCNT_D3. -/
  wCnt : List Nat := [0, 0, 0, 0]
  /-- The channel bits of the write data, by spot (R70). -/
  wData : List (List Bool) := [[], [], [], []]
  /-- The bank named by WS0.BANK (R215). -/
  bank : Nat := 0
  /-- WS0 to WS3 (R215). -/
  ws : List Nat := [0, 0, 0, 0]
deriving DecidableEq, Repr

/-- What the device knows of a strategy bank of the pendant (R216): the layer it loads, the next class to load (8: all), the
CRC of the latest report, the mismatches in a row. -/
structure WsBank where
  layer : Option Nat := none
  next : Nat := 8
  crc : Option Nat := none
  misses : Nat := 0
deriving DecidableEq, Repr

/-- The head link beyond its registers (R73 to R81). -/
structure HeadLink where
  port : Port := {}
  /-- Full-scale current reported at ALIGN. -/
  iMax : Nat := 0
  /-- The head is marked faulted (R73). -/
  faulted : Bool := false
  /-- A frame has been received in this Tick. -/
  frameSeen : Bool := false
  badServo : Bool := false
  badTiming : Bool := false
  badHdr : Bool := false
  /-- Ticks of a receiver relock after a lane-rate change (R77). -/
  relock : Option Nat := none
  /-- RATE of H0 did not show the rate switched to: the countdown is repeated (R77). -/
  rateMiss : Bool := false
  flags : HeadFlags := {}
  held : HeadIn := {}
  /-- SAMPLE_TOTAL of the last intact header, and what it was to be at the next frame. -/
  sampleTotal : Nat := 0
  sampleNext : Nat := 0
  /-- SAMPLE_DROP of the last intact header: where the next interval begins is open until its SAMPLE_TOTAL is known (R69). -/
  dropTail : Bool := false
deriving DecidableEq, Repr

/-- The spindle link's downstream frame (R83). -/
structure SpinDown where
  seq : Nat := 0
  beat : Nat := 0
  beatChk : Nat := 0
  bridgeInhibit : Bool := false
  lockHold : Bool := true
  dutyA : Nat := 0
  dutyB : Nat := 0
  dutyC : Nat := 0
  bridgeEn : Bool := false
  shortBrake : Bool := false
  winAt : Nat := 0
  winEn : Bool := false
  chopMode : Nat := 0
  brakeIlim : Nat := 0
  unlockReq : Bool := false
  /-- 0 stop, 1 in, 2 out. -/
  trayCmd : Nat := 0
  led : Nat := 0
deriving DecidableEq, Repr

/-- The last intact values of the spindle link's upstream frame (R82). -/
structure SpinIn where
  brake : Bool := false
  bridgeOff : Bool := false
  chopOn : Bool := false
  shockTrip : Bool := false
  overvolt : Bool := false
  chopFault : Bool := false
  ia : Int := 0
  ib : Int := 0
  ic : Int := 0
  winSeq : Nat := 0
  winState : Nat := 0
  va : Nat := 0
  vb : Nat := 0
  vc : Nat := 0
  vbus : Nat := 0
  ichop : Nat := 0
  sx : Int := 0
  sy : Int := 0
  sz : Int := 0
  doorClosed : Bool := false
  lockEngaged : Bool := false
  trayIn : Bool := false
  trayOut : Bool := false
  cartPresent : Bool := false
  ejectNow : Bool := false
  ejectMs : Nat := 0
  temp : Int := 0
  /-- TEMP has come since the last M-tick (R365). -/
  tempNew : Bool := false
  speedRpm : Nat := 0
deriving DecidableEq, Repr

/-- The spindle link beyond its registers (R78 to R85). -/
structure SpinLink where
  port : Port := {}
  frameSeen : Bool := false
  badV : Bool := false
  badM : Bool := false
  badIO : Bool := false
  /-- Consecutive requested windows missing for want of an intact I block (R84). -/
  missWin : Nat := 0
  held : SpinIn := {}
  /-- The I block of the running window has arrived; with WIN_STATE 2 if `narrow`. -/
  sampled : Bool := false
  narrow : Bool := false
  /-- WIN_SEQ of the last intact I block since the link came UP, and the windows that have begun since: a window is a PWM period. -/
  winBase : Option Nat := none
  winGap : Nat := 0
deriving DecidableEq, Repr

/-- The running state of one stage (R94): x1, x2, y1, y2 of a biquad or differentiator, s of an integrator, yp of a slew
limit. -/
structure StageSt where
  x1 : Int := 0
  x2 : Int := 0
  y1 : Int := 0
  y2 : Int := 0
  s : Int := 0
  yp : Int := 0
deriving DecidableEq, Repr

/-- A law program running on a loop (R89, R98). -/
structure LawRun where
  slot : Nat
  st : List StageSt := List.replicate 16 {}
  /-- It has not run a Tick yet: a differentiator's x1 takes its first A (R98). -/
  fresh : Bool := true
  /-- Its output of the previous Tick was saturated (R97). -/
  sat : Bool := false
  /-- Its integrators were held in the last Tick (R97). -/
  held : Bool := false
  /-- Its stage outputs of the last Tick, and its last output, Q1.31. -/
  outs : List Int := []
  y : Int := 0
deriving DecidableEq, Repr

/-- What drives a loop (R119): nothing, a law, an open-loop drive of mode control, a frozen law, or a linear fall. -/
inductive Drive where
  | stopped
  | law (r : LawRun)
  /-- An open-loop drive, in LSB of the drive field (R121). -/
  | open_ (v : Int)
  | frozen (r : LawRun)
  /-- The fall of R119: the drive v0 before it, the Ticks done and the Ticks of the fall. -/
  | fall (v0 : Int) (j t : Nat)
deriving DecidableEq, Repr

/-- A hand-over in its blend Ticks (R124): the incoming law, the next j, and out(j − 1). -/
structure Blend where
  inc : LawRun
  j : Nat
  out : Int
deriving DecidableEq, Repr

/-- A law asked for and not yet begun, or refused and waiting (R107, R121, R122): the incoming slot, the Ticks of hold-off left
after a refusal, the Tick in which the budget first delayed it. -/
structure HandReq where
  slot : Nat
  wait : Option Nat := none
  delayed : Option Nat := none
deriving DecidableEq, Repr

/-- What a loop's registers showed before its Tick's computation: FE_COUNT, OUT_SAT, INT_HOLD and STAGE_SAT (R111). -/
structure LoopShown where
  fe : Nat := 0
  sat : Nat := 0
  hold : Nat := 0
  stages : Nat := 0
deriving DecidableEq, Repr

/-- One loop of a head (R87 to R99, R121 to R125). -/
structure LoopSt where
  drive : Drive := .stopped
  blend : Option Blend := none
  want : Option HandReq := none
  refusals : Nat := 0
  /-- The loop output of the last Tick, Q1.31. -/
  y : Int := 0
  /-- The field of the downstream frame: drive LSB, LASER_SET, or microsteps. -/
  field : Int := 0
  /-- The loop has faulted and FE_COUNT has not returned to 0 (R99). -/
  faulted : Bool := false
  /-- The fault is reported to mode control and not yet acted on. -/
  report : Bool := false
  /-- The loop error of the last Tick (R88). -/
  e : Int := 0
  /-- The hand-over asked for has been refused four times in a row and mode control has not yet acted on it (R123). -/
  failed : Bool := false
  /-- The hand-over asked for has completed and mode control has not yet acted on it. -/
  completed : Bool := false
  /-- The present Tick is the preload Tick of a hand-over (R121). -/
  preload : Bool := false
  /-- The cycles it has taken in the present Tick, once it has run (R106). -/
  cost : Option Nat := none
  /-- INV as it applies in the present Tick (R117). -/
  inv : Bool := false
  shown : LoopShown := {}
deriving DecidableEq, Repr

/-- A learning pass of a runout table (R102). -/
structure Learn where
  /-- The pass has met its starting wrap. -/
  running : Bool := false
  sums : List Int := []
  counts : List Nat := []
  wraps : Nat := 0
  /-- Its last wrap has come: the result is owed. -/
  done : Bool := false
  /-- The present Tick is a wrap at which none of the conditions of R103 holds: a pass may start with its sample, of this
  bin. -/
  clean : Bool := false
  bin : Nat := 0
deriving DecidableEq, Repr

/-- The steps of ACQUIRE (R126 to R128). -/
inductive Acq where
  | laserWait
  | sweep
  | capture
  | toFollow
  | sweepBack (v0 : Int)
deriving DecidableEq, Repr

/-- The steps of a layer jump (R130). -/
inductive JumpStep where
  | kick | coast | brake | settle | toFollow
deriving DecidableEq, Repr

/-- A layer jump (R130, R131). -/
structure Jump where
  deeper : Bool
  /-- One-layer jumps left, this one included. -/
  left : Nat
  step : JumpStep
  age : Nat
  /-- The FOCUS_FOLLOW output before the kick, in drive LSB. -/
  h : Int
  /-- FE has left the departing layer's S-curve. -/
  away : Bool
  /-- FE has entered the target layer's approach lobe. -/
  lobe : Bool
deriving DecidableEq, Repr

/-- A sled profile (R136): its microsteps, its form, the Ticks of its jerk, constant-acceleration and cruise phases, the Ticks
done and the microsteps issued. -/
structure Profile where
  dist : Int
  curved : Bool
  tj : Nat
  ta : Nat
  tv : Nat
  age : Nat := 0
  issued : Int := 0
deriving DecidableEq, Repr

/-- A seek (R140 to R143): its target, the target band, the phase it is in, and the long seeks made. -/
structure Seek where
  layer : Nat
  stripe : Nat
  band : Int
  longs : Nat := 0
  /-- A layer jump has been made and no ACRC-valid word read since (R140). -/
  jumped : Bool := false
  /-- The stripe read last asks for a further short seek to this band (R143). -/
  again : Option Nat := none
  /-- Its short seek has been made, or none was needed: the next ACRC-valid word read in FOLLOW judges it (R143). -/
  wait : Bool := false
  /-- The current band at the start of its long seek (R140, R142). -/
  start : Int := 0
deriving DecidableEq, Repr

/-- A short seek (R141), in 1/2^24 band. -/
structure ShortSeek where
  ref : Int
  target : Int
  count : Int
  /-- The band of the start, and the trapezoid that the reference follows, in 2⁻²⁴ band. -/
  start : Int := 0
  path : Profile := ⟨0, false, 0, 0, 0, 0, 0⟩
  /-- Sign of TE in the previous Tick. -/
  tePos : Bool
  /-- Band position: count and phase. -/
  pos : Int
  capture : Nat := 0
  late : Nat := 0
  /-- The capture has been made, and TRK is being handed over to TRACK_FOLLOW. -/
  ending : Bool := false
  /-- It returns to the band last followed after a TRK fault (row 5 of R148). -/
  back : Bool := false
deriving DecidableEq, Repr

/-- Mode control of a head beyond its registers (R118 to R149). -/
structure Motion where
  /-- Ticks in the current mode. -/
  age : Nat := 0
  lastLayer : Nat := 0
  acq : Acq := .laserWait
  /-- Ticks in the step of ACQUIRE. -/
  acqAge : Nat := 0
  sweep : Int := 0
  /-- S-curve phase 0 to 2, and the qualified S-curves of the sweep (R127). -/
  sphase : Nat := 0
  scount : Nat := 0
  sumOk : Bool := false
  tries : Nat := 0
  /-- Consecutive Ticks with |FE| below SETTLE_FE. -/
  settled : Nat := 0
  loss : Nat := 0
  jump : Option Jump := none
  bands : List Nat := []
  /-- In HOMING: the edge has been latched and the sled moves to its park position. -/
  homeEdge : Bool := false
  /-- Ticks and microsteps of the homing profile. -/
  homeAge : Nat := 0
  travel : Nat := 0
  /-- A PARK runs: its profile, then SAFE_PARK and PARKED (R147). -/
  parking : Bool := false
  /-- In RELOCATE: bands are being collected (R138). In SEEK_LONG: the profile has ended, and the Ticks since. -/
  collect : Bool := false
  sledAge : Option Nat := none
  /-- The layer against which the first ACRC-valid word after ACQUIRE is checked (R127). -/
  checkLayer : Option Nat := none
  profile : Option Profile := none
  /-- The sled was stopped at this Tick's boundary: STEP is 0 and COIL hold (R137). -/
  sledHalt : Bool := false
  /-- POS_VALID fell as the moving sled was stopped; no position has been found since (R137). -/
  lostPos : Bool := false
  /-- The STEP last taken waits for its frame. -/
  unsent : Bool := false
  /-- Steps of the last 400 Ticks, newest first. -/
  steps : List Int := []
  coil : Nat := 0
  seek : Option Seek := none
  pendSeek : Option (Nat × Nat) := none
  short : Option ShortSeek := none
  /-- The band last followed; a TRK fault asks for the return to it (row 5 of R148). -/
  lastBand : Nat := 0
  back : Option Nat := none
  guardClear : Nat := 0
  /-- A guard episode is running; the causes shown in the present Tick: 1 TE, 2 FE, 4 shock (R145). -/
  episode : Bool := false
  cause : Nat := 0
  /-- The latest limits have been answered with STATUS 0 (R146). -/
  guardAck : Bool := false
  /-- A park is due when the last open gate closes (R432). -/
  deferPark : Bool := false
  /-- The stripe and band pairs read on each layer since mount (R135). -/
  pairs : List (Nat × Nat × Nat) := []
  /-- LPWR has been handed over to LASER_WRITE (R217). -/
  laserWrite : Bool := false
  /-- REBUILD_SHARE (R249): the percents gathered over the revolutions, and whether rebuild work may use this revolution. -/
  share : Nat := 0
  shareTurn : Bool := false
  /-- The head has a reading place, a writing place of the throttle step (R374). -/
  placeR : Bool := false
  placeW : Bool := false
  /-- The mode of the next Tick boundary (R118). -/
  next : Option Nat := none
  /-- After SAFE_PARK the head goes to ACQUIRE (R123). -/
  reacquire : Bool := false
  /-- The target of the seek that failed last (R285). -/
  failedSeek : Option (Nat × Nat) := none
  /-- A layer jump that the first word after ACQUIRE asks for (R127). -/
  wantJump : Option Nat := none
  /-- Requests that wait for the next Tick boundary (R118, R148): FAULT, SAFE_PARK, STOP, PARK, ACQUIRE, HOME and RELOCATE. -/
  wantFault : Bool := false
  wantSafe : Bool := false
  wantStop : Bool := false
  wantPark : Bool := false
  wantAcquire : Bool := false
  wantHome : Bool := false
  wantReloc : Bool := false
deriving DecidableEq, Repr

/-- The Bezel core beyond its registers (R105 to R116). -/
structure Bezel where
  /-- The Tick of the last overrun (R112). -/
  lastOvr : Option Nat := none
  /-- The head adopted in slot 4 (R110, R251). -/
  adopted : Option HeadId := none
  /-- FORCE has been written in this Tick; it fires the trigger of the present Tick (R115). -/
  force : Bool := false
  forceNow : Bool := false
  node0Prev : Int := 0
  /-- Index of the next trace record, records written since arming, records still to write. -/
  wr : Nat := 0
  since : Nat := 0
  post : Nat := 0
  /-- A fault trigger event of the Tick (R115). -/
  faultEv : Bool := false
  coreFail : Bool := false
  /-- After its failure: the Tick boundaries until its heads are adopted (R251). -/
  adoptDue : Option Nat := none
deriving DecidableEq, Repr

end Sys2Proof.Machine
end

