-- ==== Sys2Proof/Machine/PartsData.lean ====
section
/-! DEFINITION. The state of the data path: the Facet lanes (R178 to R192), the sectors being read and written (R193 to
R229), the surfaces (R53 to R62) and the chains (R231 to R249). -/

namespace Sys2Proof.Machine

/-- GAIN, DC and ASYM of a lane in 1/4,096 of their units, and the means that they follow: the errors of marks and of spaces, and |y| where
the target is full, in 1/4,096 (R179). -/
structure Cond where
  gain : Int := 0
  dc : Int := 0
  asym : Int := 0
  mark : Int := 0
  space : Int := 0
  mag : Int := 0
deriving DecidableEq, Repr

/-- A Facet lane within the sector under its spot (R178 to R188), and what it made of the sector that ended last. -/
structure Lane where
  /-- Conditioned samples since the stripe start with their link-erasure marks, newest first. -/
  xs : List (Int × Bool) := []
  /-- The envelopes E of the last 4,096 bits outside spans, newest first (R187). -/
  envs : List Nat := []
  /-- The lane values reload at the next sector (R179). -/
  reload : Bool := true
  cond : Cond := {}
  /-- HL_SAMPLE_OVERFLOW has been raised for the sector (R31). -/
  overflowRaised : Bool := false
  /-- Of the sector that ended last: the detector value of every channel bit (R184); the position F (R191); the longest own
  span (R227); whether the envelope stayed below a quarter of R (R198). -/
  ls : List Int := []
  found : Option Nat := none
  longest : Nat := 0
  low : Bool := false
deriving DecidableEq, Repr

/-- The four lanes of a head and its stripe start (R190). -/
structure Facet where
  lanes : Vector Lane 4 := Vector.replicate 4 {}
  /-- SAMPLE_TOTAL at the latest stripe start, and whether the sector that began there is under the head (R190). -/
  start : Option Nat := none
  inSector : Bool := false
  /-- The layer and stripe under the head. -/
  layer : Nat := 0
  stripe : Nat := 0
  /-- The stripe is not known: its start was reported with a bad ACRC and followed none (R190). -/
  blind : Bool := false
  /-- The frame whose H0:H1 was corrupt waits one Tick for its SCOUNT (R73). -/
  waiting : Option (List Block) := none
  /-- The lanes are powered for the sectors under the head: it had a reading place when they began (R205, R374). -/
  powered : Bool := false
  /-- The layer and stripe of the sectors that the lanes' results belong to. -/
  past : Option (Nat × Nat) := none
deriving DecidableEq, Repr

/-- Why a sector is read. -/
inductive ReadFor where
  /-- A host command: pair and tag; pair 2³² for one whose command has been aborted (R204). -/
  | cmd (qid tag : Nat)
  /-- A member read of chain `c`, row `r`: for a rebuild (R244, R249), or of old data and parity for an overwrite (R241). -/
  | chain (c r member : Nat)
deriving DecidableEq, Repr

/-- A sector being read: its place, its expected header, and how far it has come up the ladder (R193 to R206). -/
structure ReadJob where
  id : Nat
  why : ReadFor
  surf : SurfId
  head : HeadId
  psa : Nat
  home : Nat
  /-- Position in the command, in sectors. -/
  lsn : Nat
  /-- Expected KINDs, VOLUME, LOGICAL and PLACEMENT_EPOCH (row 4 of R197). -/
  kinds : List Nat
  volume : Nat
  logical : Nat
  epoch : Nat
  /-- Chain, member and row, chain 0xFF when unchained. -/
  chain : Nat := 0xFF
  member : Nat := 0xFF
  row : Nat := 0
  /-- Ladder step 0 to 7, and the point of E4. -/
  step : Nat := 0
  point : Nat := 0
  /-- LAST_STEP and TIME_LIMIT in ms, 0 none (R202). -/
  lastStep : Nat := 6
  timeLimit : Nat := 0
  /-- A read of the medium is wanted: the sector is captured when it next passes its spot. -/
  wantRead : Bool := true
  /-- Ticks since the last pad bit of the E0 read; `none` before it (R202). -/
  age : Option Nat := none
  /-- The detector values of the last read, and F when it is to be tried beside P (R192, R193). -/
  cap : List Int := []
  found : Option Nat := none
  /-- The chosen sync position; `none` while a dual framing is open. -/
  frame : Option Nat := none
  ambig : Bool := false
  /-- The 17 codewords, header first: the 4,096 information bytes once converged. -/
  words : List (Option (List Byte)) := List.replicate 17 none
  /-- Codewords of the present step not yet decoded. -/
  open_ : List Nat := []
  /-- Channel values of codewords under decode, by codeword (R185). -/
  soft : List (Nat × List Int) := []
  /-- Soft store: the reads kept for E5, each a codeword, its unsatisfied checks after its last iteration and its values, oldest
  first (R201). -/
  stored : List (Nat × Nat × List Int) := []
  /-- Unsatisfied checks of the failing codewords after their last iteration (R201). -/
  bads : List (Nat × Nat) := []
  /-- Under SYNC_AMBIG at E1: the codewords that converged under F and under P (R193). -/
  convF : List (Nat × List Byte) := []
  convP : List (Nat × List Byte) := []
  /-- Unsatisfied checks of the codewords that failed under P. -/
  badsP : List (Nat × Nat) := []
  /-- The first of two blank reads has been seen, and the last read was blank (R198). -/
  blankOnce : Bool := false
  blank : Bool := false
  /-- The order in which it entered E2 on its head (R205). -/
  entered : Nat := 0
  /-- PSA mismatches (row 3 of R197). -/
  psaMiss : Nat := 0
  /-- A codeword has taken more than 3 iterations (R342). -/
  slow : Bool := false
  /-- A member read of a rebuild runs at E0 and E1 only; one that has failed there waits until it is returned to E2 (R244). -/
  brief : Bool := false
  held : Bool := false
  /-- The sector has completed, and its reallocation is queued (R226). -/
  realloc : Bool := false
  /-- Other commands that joined the ladder (R206), with the position of the sector in each. -/
  joined : List (Nat × Nat × Nat) := []
  /-- The descriptor epoch of its command (R243); the medium read under way was dispatched under an older one. -/
  desc : Nat := 0
  late : Bool := false
  /-- A member read that brings a member back (R249). -/
  resync : Bool := false
deriving DecidableEq, Repr

/-- How far a sector to be written has come (R221 to R229). -/
inductive WriteState where
  /-- Staged in DRAM, not armed. -/
  | staged
  | armed
  /-- Its gate is open. -/
  | writing
  /-- Complete under R221, waiting for its verification read if one is due. -/
  | complete
  /-- It has passed verification. -/
  | verified
deriving DecidableEq, Repr

/-- A remap record of R56. -/
structure RemapRec where
  home : Nat
  reason : Nat
  target : Nat
  volume : Nat
  epoch : Nat
  logical : Nat
  seq : Nat
deriving DecidableEq, Repr

/-- A sector to be written: its place and header, its owner and its history. -/
structure WriteJob where
  id : Nat
  /-- The host command that owns it, while that is outstanding. -/
  owner : Option (Nat × Nat)
  surf : SurfId
  head : HeadId
  /-- Home PSA, and the target PSA once assigned. -/
  home : Nat
  target : Nat
  kind : Nat
  volume : Nat
  flags : Nat
  epoch : Nat
  logical : Nat
  time : Nat
  chain : Nat
  member : Nat
  /-- The remap SEQ of the target, 0 for a first write at home (R223). -/
  seq : Nat
  /-- Reason of its remap record, 0 when it makes none. -/
  reason : Nat
  data : List Byte
  state : WriteState := .staged
  /-- Abandonments and failed verifications in a row (R226, R229). -/
  abandons : Nat := 0
  vfails : Nat := 0
  /-- A FUA or FLUSH waits on it (R227). -/
  waited : Bool := false
  /-- The number of the row it belongs to. -/
  row : Nat := 0
  /-- Its command was aborted or fenced while it was armed: it is dropped if it has not started (R220, R253). -/
  cancelled : Bool := false
  /-- The spot it is armed on; channel bits sent to the pendant and taken by the medium so far (R210). -/
  spot : SpotId := 0
  sent : Nat := 0
  /-- For a remap sector (KIND 0x10): its records, and whether it is copy B (R57). -/
  records : List RemapRec := []
  copyB : Bool := false
  /-- For a format record (KIND 0x11): its generation (R53). -/
  gen : Nat := 0
  /-- The bank that its spot latches (R215, R216). -/
  bank : Nat := 0
  /-- Its stripe has started, as the frames show. -/
  begun : Bool := false
  /-- The head that reads it back, and the head that has (R227). -/
  pass : Option HeadId := none
  readBack : Option HeadId := none
  /-- WG samples and flags of the sector so far (R221): the gate was open up to the first mark after the stripe start; it was not open from
  there on, or opened early; a fault of R221; the fault being WR_UNDERRUN. -/
  gateSeen : Bool := false
  gateLost : Bool := false
  bad : Bool := false
  under : Bool := false
  /-- M-ticks it has waited for temperature (R218), and since it was stuck (R226). -/
  tempWait : Nat := 0
  stuck : Option Nat := none
  /-- Admission order of its command (R280). -/
  order : Nat := 0
  /-- Staged data lost (R332). -/
  lost : Bool := false
  /-- Opcode of the command that staged it (R332). -/
  opc : Nat := 0x21
  /-- It brings a member back (R249). -/
  resync : Bool := false
  /-- Its remap record is on the medium and waits for those of its row's other members (R241). -/
  recorded : Bool := false
deriving DecidableEq, Repr

/-- The state of a surface's mount (R54, R59, R60, R285). -/
inductive Mount where
  | noDisc | unmounted | unformatted | scanning | mounted
deriving DecidableEq, Repr

/-- A surface (R53 to R62, R222 to R226). -/
structure Surface where
  mount : Mount := .noDisc
  discId : Nat := 0
  generation : Nat := 0
  /-- One above the highest generation whose stripe holds any written sector (R55). -/
  genNext : Nat := 0
  /-- The DRAM mirror: home PSA, target PSA, SEQ. -/
  mirror : List RemapRec := []
  nextSeq : Nat := 1
  /-- Records of the open remap sector, and markers held back until their rewrite is complete (R224). -/
  openRecs : List RemapRec := []
  markers : List RemapRec := []
  /-- Records made durable (R58). -/
  durable : Nat := 0
  /-- The next remap block, 0 to 3,983, and the next remap sector in it (R57). -/
  block : Nat := 0
  sector : Nat := 0
  /-- Frontier of each spot (R222), as a PSA. -/
  frontier : List Nat := [0, 0, 0, 0]
  /-- PSAs written or armed, to the device's knowledge (R218). -/
  written : List Nat := []
  /-- Power calibration stripes used, by layer (R351). -/
  pcaUsed : List Nat := List.replicate 16 0
  relocFull : Bool := false
  remapFull : Bool := false
  /-- A revolution of a head that writes here has passed since the last reallocation (R226). -/
  reallocTurn : Bool := false
deriving DecidableEq, Repr

/-- A row of a chain being gathered or written (R237 to R241): its positions staged so far. Row numbers repeat between the
volumes of a chain, so a row is named by its home PSA (log entry 16). -/
structure ChainRow where
  /-- Its home PSA, its volume and its number in it. -/
  psa : Nat
  volume : Nat
  row : Nat
  stream : Bool := false
  /-- Member and the number of the write job that holds its data. -/
  parts : List (Nat × Nat) := []
  /-- M-ticks since its first sector was staged. -/
  age : Nat := 0
  /-- A FLUSH or FUA needs it. -/
  needed : Bool := false
  /-- It has been padded and its members may be written; its parity has been formed. -/
  closed : Bool := false
  made : Bool := false
  /-- It rewrites a complete row (R241): the old stored bytes read so far, by member, and those still awaited. -/
  ovr : Bool := false
  olds : List (Nat × List Byte) := []
  await : List Nat := []
  /-- The row's placement epoch as written by it (R242). -/
  epoch : Nat := 1
  /-- The members that it writes anew, missing ones among them (R242, R248). -/
  touched : List Nat := []
  /-- BUDGET of the commands that staged its sectors (R241). -/
  budgets : List Nat := []
deriving DecidableEq, Repr

/-- A rebuild of a row in progress (R244, R249): the members missing and those wanted, the bytes read so far by member. -/
structure Rebuild where
  psa : Nat
  volume : Nat
  row : Nat
  stream : Bool := false
  missing : List Nat
  want : List Nat
  got : List (Nat × List Byte) := []
  /-- The failing read it serves, the overwrite it serves (R241), or the member it brings back (R249). -/
  job : Option Nat := none
  forOver : Bool := false
  resync : Option Nat := none
  /-- Members whose reads failed at E0 and E1 and wait there; the members missing number more than m for good; a read returned to
  E2 to E5 ended for want of budget (R244). -/
  held : List Nat := []
  dead : Bool := false
  late : Bool := false
  /-- The rebuilt bytes by member that wait for their rewrite (R245). -/
  made : List (Nat × List Byte) := []
deriving DecidableEq, Repr

/-- A chain beyond CH_CHAIN (R231 to R249). -/
structure Chain where
  rows : List ChainRow := []
  /-- Degraded rows: row and the bit mask of its missing members (R239). -/
  degraded : List (Nat × Nat) := []
  /-- Member being rebuilt or resynchronized. -/
  rebuilding : Option Nat := none
  rebuilds : List Rebuild := []
  /-- Rows that are complete (R239), and their placement epochs. -/
  complete : List (Nat × Nat) := []
  /-- The placement epochs of members above 1: home PSA, member, epoch (R242). -/
  epochs : List (Nat × Nat × Nat) := []
deriving DecidableEq, Repr

/-- What a home resolved to before a record changed it: reads admitted before the command of this order use it (R61). -/
structure Pin where
  order : Nat
  surf : SurfId
  home : Nat
  place : Nat × Nat × Nat
deriving DecidableEq, Repr

/-- The LDPC pool and the sectors in flight (R193 to R206). -/
structure Data where
  reads : List ReadJob := []
  writes : List WriteJob := []
  nextId : Nat := 1
  /-- Oldest first: what homes resolved to before the records that entered a mirror while admitted reads had not started (R61). -/
  pins : List Pin := []
  /-- Codewords waiting for or on the decode engines: read job, codeword and descriptor epoch at dispatch, in the order they
  became complete (R196, R243). -/
  queue : List (Nat × Nat × Nat) := []
  /-- DTIME at which the last of them became complete, and how many of the queue's last did then (R196). -/
  readyAt : Nat := 0
  tied : Nat := 0
  /-- The soft hold (R196). -/
  hold : List (Nat × Nat × Nat) := []
  /-- Codewords on the recovery engines. -/
  onRecovery : List (Nat × Nat × Nat) := []
  /-- LD_HOLD_FULL has been raised in this M-tick. -/
  holdFullRaised : Bool := false
deriving DecidableEq, Repr

end Sys2Proof.Machine
end

