-- ==== Sys2Proof/Syntax.lean ====
section
/-! DEFINITION. The commands of the block: the 227 operations and events of the table, with the operands that the outside
world gives each (the environment of 95_what_each_step_holds.md). -/

namespace Sys2Proof

open Sys2Proof.Machine (Block)

/-- A link: of a head to its pendant, or of a spindle to its bail. -/
inductive LinkId where
  | head (h : HeadId)
  | spin (s : SpinId)
deriving DecidableEq, Repr

/-- Which part of a 64-bit register a write covers. -/
inductive Half where
  | lower | upper | both
deriving DecidableEq, Repr

/-- A FIFO of R31: a sample FIFO with the channel bits it could not accept, or any other with the commands whose data
passed through it. -/
inductive Fifo where
  | sample (h : HeadId) (spot : SpotId) (first last : Nat)
  | other (number : Nat) (cmds : List (Nat × Nat))
deriving DecidableEq, Repr

/-- What the end of a bring-up step brings (R78): at ALIGN the companion's revision, serial number and full-scale drive
current and the measured latency; at TRAIN the coefficients; at VERIFY the eyes in 1/64 UI and 2 mV. -/
structure PhaseInfo where
  rev : Nat
  serial : Nat
  iMax : Nat
  latency : Nat
  coeffs : Nat
  eyeW : Nat
  eyeH : Nat
  compW : Nat
  compH : Nat
deriving DecidableEq, Repr

/-- The class of the data of a DRAM line, which the owning unit keeps (R330): the core 0 to 47 in the order of R17, the
commands that need the metadata, or for staging the sector it belongs to. -/
inductive Region where
  | coreMemory (core : Nat)
  | metadata (cmds : List (Nat × Nat))
  | readStaging (job : Nat)
  | softStore (job : Nat)
  | parity (chain row : Nat)
  | writeStaging (write : Nat)
  | free
  | trace
deriving DecidableEq, Repr

/-- What a line is read as (R326, R329): as it was written, or with bits flipped: bit b of byte n is number 8 × n + b, check bit n is
number 1,024 + n; for an array line, whether its copy in DRAM is good; whether the second copy, the refetch or the recomputation of
its class was good (R330); whether the read-back after the restore failed (R335). -/
inductive LineCheck where
  | good
  | bad (flips : List Nat) (copy restored again : Bool)
deriving DecidableEq, Repr

/-- A bad line of a scrub pass (R334): its SRAM group and its place in it, or its DRAM line index with group 0; the bits of
it that are flipped, and what else `LineCheck` says of a bad line. -/
structure BadLine where
  group : Nat
  loc : Nat
  region : Region
  flips : List Nat
  copy : Bool
  restored : Bool
  again : Bool
deriving DecidableEq, Repr

/-- What a converter run or reference check measures of a sub-ADC (R347): residual offset in 1/8 LSB, gain in 0.1 %, skew
in 2 ps, noise in 0.01 LSB rms, missing codes. -/
structure AdcResult where
  offset : Int
  gain : Int
  skew : Int
  noise : Nat
  missing : Nat
deriving DecidableEq, Repr

/-- A unit with ageing accounts (R359). -/
inductive LifeUnit where
  | head (h : HeadId)
  | spindle (s : SpinId)
  | device
deriving DecidableEq, Repr

/-- What a header scan makes of a sector (R60). -/
structure RemapRead where
  home : Nat
  reason : Nat
  target : Nat
  volume : Nat
  epoch : Nat
  logical : Nat
  seq : Nat
  /-- The sector's WRITE_TIME, for the header scan. -/
  time : Nat
deriving DecidableEq, Repr

/-- A written sector of the format record area as the reads of a mount found it (R54): its generation's stripe and its spot; bytes 0 to 63
of its header and of its user data, both empty when it did not decode; its DATA_CRC holds. -/
structure FormatRead where
  gen : Fin 16
  spot : Fin 4
  header : List Byte
  record : List Byte
  dataOk : Bool
deriving DecidableEq, Repr

/-- A written sector of the remap area as the reads of a mount found it (R57, R59): its block, its place in it, its copy, and the 32 bytes
of each of its records, none when it did not decode. -/
structure RemapSector where
  block : Nat
  sector : Nat
  copyB : Bool
  records : List (List Byte)
deriving DecidableEq, Repr

/-- A core whose heartbeat Keeper watches (R400), or a Clasp core found failed. -/
inductive MgmtCore where
  | crown (i : Fin 2)
  | hallmark (i : Fin 2)
  | clasp (c : Fin 6)
deriving DecidableEq, Repr

/-- The strap pins (R405). -/
structure Straps where
  boot : Fin 4
  width : Bool
  node : Fin 16
  safe : Bool
deriving DecidableEq, Repr

/-- Why a management message is refused (R447, R449). -/
inductive BadRequest where
  | pec
  | badLength (opcode : Nat)
  | unknown (opcode : Nat)
  | notNow (opcode : Nat)
deriving DecidableEq, Repr


/-- The commands of the block, one constructor per row of the table of operations and events, in its order. -/
inductive Instr where
  /-- TICK (R21). -/
  | tick
  /-- M_TICK (R21): the controller power in 10 mW, the power of zones 0 to 176 in mW, the readings of the die sensors 0 to 15. -/
  | mTick (power : Nat) (zones : List Nat) (die : List Nat)
  /-- PTM_PERIOD_EXPIRY (R25). -/
  | ptmPeriodExpiry
  /-- PTM_NOW (R25). -/
  | ptmNow
  /-- PTM_RESPONSE (R25): the master time and the local DTIME instant of R25. -/
  | ptmResponse (tm tl : Nat)
  /-- PTM_TIMEOUT (R25). -/
  | ptmTimeout
  /-- LIBTIME_OFS_WRITE (R27). -/
  | libtimeOfsWrite (half : Half) (value : Nat)
  /-- REGISTER_WRITE (R466): a BAR0 offset, 4 or 8 bytes, the value. -/
  | registerWrite (addr size value : Nat)
  /-- READ_CLEAR (R9): a BAR0 read: its value goes to the requester, its RC fields clear. -/
  | readClear (addr size : Nat)
  /-- LOWER_HALF_READ (R12): a 4-byte read of the lower half of a 64-bit register. -/
  | lowerHalfRead (addr : Nat)
  /-- FIFO_OVERFLOW (R31). -/
  | fifoOverflow (fifo : Fifo)
  /-- SERVO_HEARTBEAT_LOSS (R32). -/
  | servoHeartbeatLoss
  /-- HEAD_UPSTREAM_FRAME (R73). -/
  | headUpstreamFrame (h : HeadId) (blocks : List Block)
  /-- MAILBOX_ANSWER (R75): the HK block of R75. -/
  | mailboxAnswer (link : LinkId) (tag addr status data : Nat)
  /-- MAILBOX_TIMEOUT (R75). -/
  | mailboxTimeout (link : LinkId) (tag : Nat)
  /-- MAILBOX_BUSY_REISSUE (R75). -/
  | mailboxBusyReissue (link : LinkId) (tag : Nat)
  /-- MAILBOX_RETRY (R75). -/
  | mailboxRetry (link : LinkId) (tag : Nat)
  /-- HOME_SWITCH_REPORT (R139): the fields of the type 0x31 report (R139). -/
  | homeSwitchReport (h : HeadId) (seq steps : Nat) (closing : Bool)
  /-- BANK_REPORT (R216): the fields of the type 0x32 report (R216). -/
  | bankReport (h : HeadId) (bank crc : Nat)
  /-- CORRECTION_APPLIED_REPORT (R355): the stripe of the type 0x33 report (R355). -/
  | correctionAppliedReport (h : HeadId) (stripe : Nat)
  /-- RATE_SWITCH (R77): the rate asked for (R77). -/
  | rateSwitch (h : HeadId) (rate : Nat)
  /-- RATE_RELOCK_DONE (R77): whether both receivers relocked within 16 Ticks. -/
  | rateRelockDone (h : HeadId) (ok : Bool)
  /-- SIGNAL_DETECT (R78). -/
  | signalDetect (link : LinkId)
  /-- LINK_PHASE_DONE (R78). -/
  | linkPhaseDone (link : LinkId) (info : PhaseInfo)
  /-- LINK_PHASE_FAIL (R78). -/
  | linkPhaseFail (link : LinkId)
  /-- LINK_RETRY_DELAY (R78). -/
  | linkRetryDelay (link : LinkId)
  /-- RETRAIN (R78). -/
  | retrain (link : LinkId)
  /-- FULL_TRAIN (R78). -/
  | fullTrain (link : LinkId)
  /-- MARGIN_START (R80). -/
  | marginStart (link : LinkId)
  /-- MARGIN_SCAN_DONE (R80): the results of the scan, in the units of HL_MARGIN. -/
  | marginScanDone (link : LinkId) (eyeW eyeH compW compH : Nat)
  /-- SIGNAL_LOSS (R79). -/
  | signalLoss (link : LinkId)
  /-- SPINDLE_UPSTREAM_FRAME (R84). -/
  | spindleUpstreamFrame (s : SpinId) (blocks : List Block)
  /-- BAY_WAKE (R380). -/
  | bayWake (s : SpinId)
  /-- BEZEL_OVERRUN (R111): the incomplete loops in dispatch order and the cycles over. -/
  | bezelOverrun (b : BezelId) (late : List (HeadId × LoopId)) (cycles : Nat)
  /-- FOLLOWING_ERROR_FAULT (R99). -/
  | followingErrorFault (h : HeadId) (l : LoopId)
  /-- LEARN_PASS_START (R102). -/
  | learnPassStart (h : HeadId) (trk : Bool)
  /-- LEARN_PASS_END (R102). -/
  | learnPassEnd (h : HeadId) (trk : Bool)
  /-- LAW_COMMIT (R108): header word 0 as written. -/
  | lawCommit (h : HeadId) (slot : Fin 12) (word : Nat)
  /-- LAW_STRUCTURE_WRITE (R113): the structure word as written. -/
  | lawStructureWrite (h : HeadId) (slot : Fin 12) (stage : Fin 16) (word : Nat)
  /-- TRACE_ARM (R116): BZ_TRACE_CTL as written. -/
  | traceArm (b : BezelId) (word : Nat)
  /-- TRACE_FORCE (R115). -/
  | traceForce (b : BezelId)
  /-- TRACE_CAPTURE_DONE (R115). -/
  | traceCaptureDone (b : BezelId)
  /-- HANDOVER_RETRY (R122). -/
  | handoverRetry (h : HeadId) (l : LoopId)
  /-- LENS_CENTRE_END (R119). -/
  | lensCentreEnd (h : HeadId)
  /-- RAMP_TO_ZERO_END (R119). -/
  | rampToZeroEnd (h : HeadId)
  /-- ACQUIRE_LASER_WAIT_END (R126). -/
  | acquireLaserWaitEnd (h : HeadId)
  /-- FOCUS_SETTLED (R127). -/
  | focusSettled (h : HeadId)
  /-- SWEEP_END (R128). -/
  | sweepEnd (h : HeadId)
  /-- FOCUS_LOST (R129). -/
  | focusLost (h : HeadId)
  /-- JUMP_KICK_END (R130). -/
  | jumpKickEnd (h : HeadId)
  /-- JUMP_BRAKE_END (R130). -/
  | jumpBrakeEnd (h : HeadId)
  /-- JUMP_COAST_TIMEOUT (R131). -/
  | jumpCoastTimeout (h : HeadId)
  /-- JUMP_SETTLED (R130). -/
  | jumpSettled (h : HeadId)
  /-- SLED_PROFILE_END (R136). -/
  | sledProfileEnd (h : HeadId)
  /-- COIL_HOLD (R136). -/
  | coilHold (h : HeadId)
  /-- RELOCATE_TIMEOUT (R138). -/
  | relocateTimeout (h : HeadId)
  /-- HOME_TIMEOUT (R139). -/
  | homeTimeout (h : HeadId)
  /-- HOMING_PARK_DONE (R139). -/
  | homingParkDone (h : HeadId)
  /-- SEEK_REQUEST (R140). -/
  | seekRequest (h : HeadId) (layer : Fin 16) (stripe : Nat)
  /-- SLED_SETTLE_END (R142). -/
  | sledSettleEnd (h : HeadId)
  /-- SHORT_SEEK_CAPTURE (R141). -/
  | shortSeekCapture (h : HeadId)
  /-- SHORT_SEEK_TIMEOUT (R141). -/
  | shortSeekTimeout (h : HeadId)
  /-- GUARD_SETTLED (R144). -/
  | guardSettled (h : HeadId)
  /-- SHOCK_SETTLED (R144). -/
  | shockSettled (s : SpinId)
  /-- MO_GUARD_WRITE (R146): MO_GUARD as written. -/
  | moGuardWrite (h : HeadId) (word : Nat)
  /-- STOP (R147): a request of the host through MO_CTL, or of the firmware. -/
  | stop (h : HeadId) (byHost : Bool)
  /-- PARK (R147): a request of the host through MO_CTL, or of the firmware. -/
  | park (h : HeadId) (byHost : Bool)
  /-- HOME (R147): a request of the host through MO_CTL, or of the firmware. -/
  | home (h : HeadId) (byHost : Bool)
  /-- RELOCATE (R147): a request of the host through MO_CTL, or of the firmware. -/
  | relocate (h : HeadId) (byHost : Bool)
  /-- TORC_OVERRUN (R156): the bit mask of late spindles (R156). -/
  | torcOverrun (t : TorcId) (late : Nat)
  /-- TQ_CTL_RUN (R163). -/
  | tqCtlRun (s : SpinId) (run : Bool) (byHost : Bool)
  /-- SPEED_CMD (R163). -/
  | speedCmd (s : SpinId) (rpm : Nat)
  /-- CLEAR (R163). -/
  | clear (s : SpinId)
  /-- CHOP_TEST (R171). -/
  | chopTest (s : SpinId)
  /-- CHOP_TEST_DONE (R171). -/
  | chopTestDone (s : SpinId)
  /-- START_DOOR_WAIT_END (R164). -/
  | startDoorWaitEnd (s : SpinId)
  /-- LISTEN_END (R164): the observed speed in rpm and direction (R164). -/
  | listenEnd (s : SpinId) (speed : Nat) (reverse : Bool)
  /-- TEST_PULSES_DONE (R166): the six peaks in mA (R165). -/
  | testPulsesDone (s : SpinId) (peaks : List Nat)
  /-- ALIGN_END (R166). -/
  | alignEnd (s : SpinId)
  /-- RAMP_HANDOVER (R166). -/
  | rampHandover (s : SpinId)
  /-- RAMP_AGREE_TIMEOUT (R166). -/
  | rampAgreeTimeout (s : SpinId)
  /-- AT_SPEED (R159). -/
  | atSpeed (s : SpinId)
  /-- DECEL_END (R168). -/
  | decelEnd (s : SpinId)
  /-- STANDSTILL (R168). -/
  | standstill (s : SpinId)
  /-- CHOPPER_FAULT (R169). -/
  | chopperFault (s : SpinId)
  /-- KE_WINDOW_END (R172): the measured constant (R172). -/
  | keWindowEnd (s : SpinId) (ke : Nat)
  /-- ABNORMAL_CLEAR (R172). -/
  | abnormalClear (s : SpinId)
  /-- BUS_RECOVERY (R173). -/
  | busRecovery (s : SpinId)
  /-- EJECT (R175). -/
  | eject (s : SpinId)
  /-- LOAD (R175). -/
  | load (s : SpinId)
  /-- TRAY_TIMEOUT (R175). -/
  | trayTimeout (s : SpinId)
  /-- CODEWORD_READY (R196): the sector read and its codeword, 0 the header. -/
  | codewordReady (job : Nat) (word : Fin 17)
  /-- CODEWORD_DECODED (R195). -/
  | codewordDecoded (job : Nat) (word : Fin 17)
  /-- SOFT_HOLD_DISPATCH (R196). -/
  | softHoldDispatch
  /-- LADDER_STEP (R199). -/
  | ladderStep (job : Nat)
  /-- WRITE_ARM (R211): the spots and the sectors to arm on them. -/
  | writeArm (h : HeadId) (jobs : List (SpotId × Nat))
  /-- WRITE_SECTOR_END (R221). -/
  | writeSectorEnd (h : HeadId) (spot : SpotId)
  /-- LASER_WRITE_HANDOVER (R217). -/
  | laserWriteHandover (h : HeadId)
  /-- WS_ENTRY_WRITE (R213): the 64-bit entry as written. -/
  | wsEntryWrite (h : HeadId) (layer : Fin 16) (cls : Fin 8) (value : Nat)
  /-- VERIFY_READ (R227): the sector verified. -/
  | verifyRead (write : Nat)
  /-- WTEMP_WAIT_EXPIRY (R218): the sector waiting. -/
  | wtempWaitExpiry (write : Nat)
  /-- REALLOCATION_WRITE (R226): the recovered sector read. -/
  | reallocationWrite (job : Nat)
  /-- WRITE_STUCK_RETRY (R226). -/
  | writeStuckRetry (write : Nat)
  /-- REMAP_SECTOR_WRITE (R225). -/
  | remapSectorWrite (surf : SurfId)
  /-- CHAIN_ROW_WRITE (R237): the row by its home PSA. -/
  | chainRowWrite (chain : Fin 16) (row : Nat)
  /-- PAD_AFTER_EXPIRY (R237): the row by its home PSA. -/
  | padAfterExpiry (chain : Fin 16) (row : Nat)
  /-- CHAIN_ENGINE_DONE (R236): the row by its home PSA. -/
  | chainEngineDone (chain : Fin 16) (row : Nat)
  /-- REBUILD_REWRITE (R245): the row by its home PSA. -/
  | rebuildRewrite (chain : Fin 16) (row : Nat)
  /-- MEMBER_RESYNC (R249). -/
  | memberResync (chain : Fin 16) (member : Fin 16)
  /-- REBUILD_DONE (R249). -/
  | rebuildDone (chain : Fin 16)
  /-- PEER_WRITE (R254): a posted write to BAR2: its source node as its header names it, its offset, its bytes. -/
  | peerWrite (source addr : Nat) (data : List Byte)
  /-- PEER_READ_DONE (R255): the COPY and how its zero-length read ended (R255). -/
  | peerReadDone (qid tag : Nat) (ok : Bool)
  /-- CL_ENABLE (R259). -/
  | clEnable
  /-- CL_DISABLE (R268). -/
  | clDisable
  /-- DOORBELL (R260): the pair, 4 or 8 bytes, which half a 4-byte write names, the value. -/
  | doorbell (qid : Nat) (size : Nat) (upper : Bool) (value : Nat)
  /-- SQ_FETCH (R261): the pair and the 64 bytes of the entry. -/
  | sqFetch (qid : Nat) (entry : List Byte)
  /-- LOCK_GRANT (R278). -/
  | lockGrant (qid tag : Nat)
  /-- CREATE_QUEUE (R267): the admitted command of the admin pair. -/
  | createQueue (tag : Nat)
  /-- DELETE_QUEUE (R268): the admitted command of the admin pair. -/
  | deleteQueue (tag : Nat)
  /-- QUEUE_RESTART (R289): the admitted command of the admin pair. -/
  | queueRestart (tag : Nat)
  /-- ABORT (R286): the admitted command of the admin pair. -/
  | abort (tag : Nat)
  /-- GET_LOG (R290): the admitted command of the admin pair. -/
  | getLog (tag : Nat)
  /-- IDENTIFY (R298): the admitted command of the admin pair. -/
  | identify (tag : Nat)
  /-- VOLUME_CREATE (R269): the admitted command of the admin pair, and the bytes read at DPTR. -/
  | volumeCreate (tag : Nat) (host : List Byte)
  /-- VOLUME_DELETE (R301): the admitted command of the admin pair. -/
  | volumeDelete (tag : Nat)
  /-- FORMAT_SURFACE (R55): the admitted command of the admin pair. -/
  | formatSurface (tag : Nat)
  /-- CHAIN_CREATE (R231): the admitted command of the admin pair, and the bytes read at DPTR. -/
  | chainCreate (tag : Nat) (host : List Byte)
  /-- CHAIN_DELETE (R301): the admitted command of the admin pair. -/
  | chainDelete (tag : Nat)
  /-- CHAIN_REPLACE (R249): the admitted command of the admin pair. -/
  | chainReplace (tag : Nat)
  /-- CAL_SAVE (R356): the admitted command of the admin pair. -/
  | calSave (tag : Nat)
  /-- CAL_LOAD (R358): the admitted command of the admin pair, and the bytes read at DPTR. -/
  | calLoad (tag : Nat) (host : List Byte)
  /-- ATTEST (R418): the admitted command of the admin pair, and the bytes read at DPTR. -/
  | attest (tag : Nat) (host : List Byte)
  /-- EVENT_READ (R445): the admitted command of the admin pair. -/
  | eventRead (tag : Nat)
  /-- SOFT_RESET (R426): the admitted command of the admin pair. -/
  | softReset (tag : Nat)
  /-- READ (R246): the admitted command. -/
  | read (qid tag : Nat)
  /-- WRITE (R272): the admitted command. -/
  | write (qid tag : Nat)
  /-- FLUSH (R284): the admitted command. -/
  | flush (qid tag : Nat)
  /-- VERIFY (R311): the admitted command. -/
  | verify (qid tag : Nat)
  /-- APPEND (R273): the admitted command. -/
  | append (qid tag : Nat)
  /-- READ_EXTENT (R312): the admitted command. -/
  | readExtent (qid tag : Nat)
  /-- STREAM_FLUSH (R273): the admitted command. -/
  | streamFlush (qid tag : Nat)
  /-- COPY (R292): the admitted command. -/
  | copy (qid tag : Nat)
  /-- RECEIVE (R291): the admitted command. -/
  | receive (qid tag : Nat)
  /-- QFENCE_WRITE (R288). -/
  | qfenceWrite (qid value : Nat)
  /-- HOST_DMA_ERROR (R299). -/
  | hostDmaError (qid tag : Nat)
  /-- OPEN_MAX_EXPIRY (R274). -/
  | openMaxExpiry (volume : Nat)
  /-- RECV_TIMEOUT (R291). -/
  | recvTimeout (slot : Fin 64)
  /-- COALESCE_TIMEOUT (R267). -/
  | coalesceTimeout (qid : Nat)
  /-- ENGINE_DISPATCH (R305). -/
  | engineDispatch (engine : Fin 16)
  /-- COMPRESSION_DONE (R309). -/
  | compressionDone (engine : Fin 16)
  /-- DECODE_ERROR (R313). -/
  | decodeError (engine : Fin 16)
  /-- CASKET_READ (R318): the line index, the class of its data, and how DRAM or the array gave it. -/
  | casketRead (line : Nat) (region : Region) (ecc : LineCheck)
  /-- CASKET_WRITE (R319). -/
  | casketWrite (line : Nat) (mask : List Bool) (data : List Byte)
  /-- MB_DRAIN (R320, R329): the line index, the class of its data, and how DRAM gave the fill if one is read. -/
  | mbDrain (line : Nat) (region : Region) (ecc : LineCheck)
  /-- EVICTION_WRITE_DONE (R321). -/
  | evictionWriteDone (line : Nat)
  /-- ZLINE (R323). -/
  | zline (line : Nat)
  /-- CASKET_DISABLE (R324). -/
  | casketDisable
  /-- CASKET_ENABLE (R324). -/
  | casketEnable
  /-- INVALIDATE_DONE (R324). -/
  | invalidateDone
  /-- SCRUB_PASS (R334): 0 array, 1 other SRAM, 2 DRAM; the bad lines of the pass. -/
  | scrubPass (memory : Fin 3) (bad : List BadLine)
  /-- JOURNAL_UPDATE (R337): the logical unit, and whether its stored CRC-32C held when it was read for the update. -/
  | journalUpdate (unit : Nat) (good : Bool)
  /-- REFERENCE_CHECK_DONE (R347): the ten sub-ADCs. -/
  | referenceCheckDone (h : HeadId) (adc : List AdcResult)
  /-- INHIBIT_TEST_LASER_HALF (R399): LASER_ON seen within 4 Ticks; LASER_ON gone under LASER_INHIBIT. -/
  | inhibitTestLaserHalf (h : HeadId) (onSeen offSeen : Bool)
  /-- INHIBIT_TEST_WRITE_HALF (R399): the gate opened under WRITE_INHIBIT. -/
  | inhibitTestWriteHalf (h : HeadId) (opened : Bool)
  /-- INHIBIT_TEST_DAILY (R399): both halves. -/
  | inhibitTestDaily (h : HeadId) (onSeen offSeen opened : Bool)
  /-- CAL_PERIOD_EXPIRY (R343). -/
  | calPeriodExpiry (h : HeadId)
  /-- HM_CTL_RUN (R343). -/
  | hmCtlRun (h : HeadId)
  /-- CONVERTER_RUN_DONE (R348): the ten sub-ADCs. -/
  | converterRunDone (h : HeadId) (adc : List AdcResult)
  /-- LASER_POINTS_DONE (R350): I_B in 10 µA and the monitor powers at 0.6, 0.8 and 1.0 of it, in µW. -/
  | laserPointsDone (h : HeadId) (ib p1 p2 p3 : Nat)
  /-- WRITE_POWER_TRIAL_DONE (R351): per spot the mean of (y − t)² of the eight parts. -/
  | writePowerTrialDone (h : HeadId) (layer : Fin 16) (err : List (List Nat))
  /-- SERVO_SCALE_UPDATE (R353): the measured amplitudes, 0 for one not measured. -/
  | servoScaleUpdate (h : HeadId) (te fe tilt : Nat)
  /-- FOCUS_MARGIN_SCAN_DONE (R354): the mean of (y − t)² at the five offsets. -/
  | focusMarginScanDone (h : HeadId) (layer : Fin 16) (tilt : Bool) (err : List Nat)
  /-- AGEING_SAMPLE (R361): the metric of R359 by its limit code, its sample. -/
  | ageingSample (unit : LifeUnit) (code : Nat) (value : Int)
  /-- SENSOR_BROKEN_CLEAR (R366). -/
  | sensorBrokenClear (word : Fin 6) (mask : Nat)
  /-- TH_AMBIENT (R367). -/
  | thAmbient (temp : Nat)
  /-- AMBIENT_TIMEOUT (R367). -/
  | ambientTimeout
  /-- THROTTLE_DWELL_EXPIRY (R372). -/
  | throttleDwellExpiry
  /-- P1_IDLE_EXPIRY (R379). -/
  | p1IdleExpiry
  /-- P2_IDLE_EXPIRY (R379). -/
  | p2IdleExpiry
  /-- SPINDOWN_EXPIRY (R379). -/
  | spindownExpiry
  /-- D3HOT_ENTRY (R384). -/
  | d3hotEntry
  /-- PME_TURN_OFF (R379). -/
  | pmeTurnOff
  /-- PM_CTL_WAKE (R380). -/
  | pmCtlWake
  /-- POWER_EXIT_DONE (R376). -/
  | powerExitDone
  /-- D0_RETURN (R384). -/
  | d0Return
  /-- SURFACE_MOUNT (R54, R59): the written sectors of the format record area, spot by spot, and of the remap area, as they were
  read. -/
  | surfaceMount (surf : SurfId) (spot0 spot1 spot2 spot3 : List FormatRead) (sectors : List RemapSector)
  /-- REMAP_SCAN_DONE (R60): the sectors that the header scan found. -/
  | remapScanDone (surf : SurfId) (found : List RemapRead)
  /-- SPEED_WINDOW (R392). -/
  | speedWindow (s : SpinId)
  /-- DIE_SENSOR_SAMPLE (R395): the four sensors, raw codes in 1/128 °C. -/
  | dieSensorSample (temps : List Nat)
  /-- SHUTDOWN_PLL_STOP (R390). -/
  | shutdownPllStop
  /-- CORE_DIP (R397). -/
  | coreDip
  /-- DIP_SETTLE_END (R397): the core dip, or the bus dip of a spindle. -/
  | dipSettleEnd (bus : Option SpinId)
  /-- RELEASE_HOLD_EXPIRY (R393). -/
  | releaseHoldExpiry (s : SpinId)
  /-- CORE_HEARTBEAT_LOSS (R400). -/
  | coreHeartbeatLoss (core : MgmtCore)
  /-- KEEPER_FAILURE (R403). -/
  | keeperFailure
  /-- COLD_POWER_ON (R455): the strap pins. -/
  | coldPowerOn (straps : Straps)
  /-- RESET_N (R424). -/
  | resetN
  /-- HOST_RESET (R425). -/
  | hostReset
  /-- FUNCTION_LEVEL_RESET (R425). -/
  | functionLevelReset
  /-- BOOT_IMAGE_VERIFIED (R410). -/
  | bootImageVerified
  /-- DRAM_TRAINING_DONE (R421). -/
  | dramTrainingDone
  /-- CORE_SELF_TEST_DONE (R421): the Bezels that failed. -/
  | coreSelfTestDone (failed : List BezelId)
  /-- CONFIG_REQUEST (R422): the dword register read. -/
  | configRequest (reg : Nat)
  /-- LOCK (R406). -/
  | lock
  /-- DEBUG_TOKEN (R420). -/
  | debugToken (token : List Byte)
  /-- SUPPRESSED_TIMEOUT (R441). -/
  | suppressedTimeout (code : Nat)
  /-- STAGE_DRAIN (R443): records that the journal accepted. -/
  | stageDrain (n : Nat)
  /-- IDENT (R448). -/
  | ident
  /-- STATUS (R448). -/
  | status
  /-- HEALTH (R448). -/
  | health (kind index : Nat)
  /-- EVENTS (R448). -/
  | events (first : Nat)
  /-- MG_WAKE (R448). -/
  | mgWake
  /-- AMBIENT (R448). -/
  | ambient (temp : Nat)
  /-- IMG_BEGIN (R448). -/
  | imgBegin (slot : Nat)
  /-- IMG_DATA (R449). -/
  | imgData (offset : Nat) (data : List Byte)
  /-- IMG_END (R449). -/
  | imgEnd
  /-- RESPONSE_READ (R447). -/
  | responseRead
  /-- SWEEP_RETURN_END (R128). -/
  | sweepReturnEnd (h : HeadId)
  /-- HOST_READ_COMPLETION (R279): the command and the bytes of its next data. -/
  | hostReadCompletion (qid tag : Nat) (data : List Byte)
  /-- PCIE_LINK_UP (R422). -/
  | pcieLinkUp
  /-- PERST_DEASSERT (R380). -/
  | perstDeassert
  /-- DECOMPRESSION_DONE (R312). -/
  | decompressionDone (engine : Fin 16)
  /-- IDLE_REVOLUTION (R345). -/
  | idleRevolution (h : HeadId)
  /-- REF25_FAILURE (R458). -/
  | ref25Failure
  /-- SUPERVISOR_RELEASE (R397). -/
  | supervisorRelease
  /-- STARTUP_COMPLETE (R422). -/
  | startupComplete
  /-- MANAGEMENT_REQUEST_BAD (R447). -/
  | managementRequestBad (kind : BadRequest)
deriving DecidableEq, Repr

end Sys2Proof
end

