-- ==== Sys2Proof/Decode.lean ====
section
/-! DEFINITION. The decoder of the block. No row of the table of operations and events gives bits: a command comes from
outside whole, so no word spells one. -/

namespace Sys2Proof

/-- The command that a word spells by the table's bits: none, since no row gives bits. -/
def decodeTableWord (_nbits _w : Nat) : Option Instr := none

end Sys2Proof
end

