-- ==== Sys2Proof/Config.lean ====
section
/-! DEFINITION. What the manual leaves open and the model therefore leaves free: constants without a body, so that nothing
can be proved of their values (log entry 3). Those that take a counter draw a fresh value each time; those that take
operands are functions of them. -/

namespace Sys2Proof.Config

/-- A free natural number, by the counter of free values. -/
opaque freeNat : Nat → Nat

/-- A free integer, by the counter of free values. -/
opaque freeInt : Nat → Int

/-- The tentative decision of the detector for a channel bit, which the manual does not define: from the equalized outputs up
to 24 bits past it, newest first (R181; log entry 14). -/
opaque tentative : List Int → Bool

/-- Where DC (0), ASYM (1) and GAIN (2) of a lane are driven, from the present value in 1/4,096 of its unit and the two quantities that
it follows: the manual names these and gives no scale (R179; log entry 14). -/
opaque laneTarget : Nat → Int → Int → Int → Int

/-- The phase of the K spot within a band in 1/2^24 band, from TE and from CA about its mid value: the manual does not give the
function (R141; log entry 26). -/
opaque bandPhase : Int → Int → Int

/-- The pendant and bail register addresses, and the words written to them, which are those of the companions' datasheets (R75; log
entry 60): by the purpose of a request and its place among those of that purpose, and by the values it carries. -/
opaque mailAddr : Nat → Nat → Nat
/-- See `mailAddr`. -/
opaque mailWord : Nat → List Nat → Nat

/-- The d-q components, at an electrical angle of 65,536 per turn, of three phase currents, and the three phase voltages of a d-q
vector: the manual does not give the scale of the frame (R151, R153; log entry 34). -/
opaque toDq : Nat → Int → Int → Int → Int × Int
/-- See `toDq`. -/
opaque toPhases : Nat → Int → Int → Int × Int × Int

/-- The current and the speed controllers, whose gains the manual derives without saying how (R153; log entry 34): from R_PH, L_PH and
CUR_BW, or from SPD_BW, the error and the integrator to the output and the next integrator. -/
opaque currentPi : Nat → Nat → Nat → Int → Int → Int × Int
/-- See `currentPi`. -/
opaque speedPi : Nat → Int → Int → Int × Int

/-- The full q-axis current limit in mA, which the manual does not give (R168, R373; log entry 34). -/
opaque iqFull : Nat

/-- TP_WIDTH in ns from I_ALIGN, R_PH, L_PH and VBUS: the manual gives what it must achieve and not the circuit (R165; log entry 34). -/
opaque tpWidth : Nat → Nat → Nat → Nat → Nat

/-- The code lengths that a full engine computes in mode 2 from the counts of a block's symbols: literals and lengths, and
distances. The manual does not give the rule (R302; log entry 20). -/
opaque litLengths : List Nat → List Nat
/-- See `litLengths`. -/
opaque distLengths : List Nat → List Nat

/-- The bits that send code lengths in a dynamic block header, after BTYPE: RFC 1951 leaves a writer several forms, and the
manual names none (R302; log entry 20). -/
opaque dynHeader : List Nat → List Nat → List Bool

/-- The stepping in byte 3 of IDENTIFY page 0, whose coding the manual does not give (R298; log entry 21). -/
opaque steppingByte : Byte

/-- Where pages 1 and 2 of IDENTIFY hold their values: the manual names the values in order and gives no places (R298; log
entry 21). From the page and the values to the 4,096 bytes. -/
opaque identifyLayout : Nat → List Nat → List Byte

/-- The doubleword of configuration space at which capability k begins: 0 power management, 1 MSI-X, 2 PCI Express, 3 advanced error
reporting, 4 precision time measurement, 5 L1 PM substates. R257 places none of them. -/
opaque capPlace : Nat → Nat

/-- SHA3-256 of FIPS 202, which the manual names and does not give (R408, R417 to R420; log entry 8). -/
opaque sha3 : List Byte → List Byte

/-- FE_PP_TGT and TILT_PP_TGT, image values that the manual does not give (R353; log entry 47). -/
opaque fePpTgt : Nat
/-- See `fePpTgt`. -/
opaque tiltPpTgt : Nat

/-- The image's thermal record (R364; log entry 48): the heat capacity of a zone in mJ/K and the conductance between two zones
in mW/K. -/
opaque heatCap : Nat → Nat
/-- See `heatCap`. -/
opaque conductance : Nat → Nat → Nat

/-- The SRAM group, modulo 64, that holds a way of a set of the Casket array: the manual names the 64 groups and not which holds
what (R326; log entry 49). -/
opaque arrayGroup : Nat → Nat → Nat

/-- Verification of an ML-DSA-44 signature of FIPS 204: public key, message, signature (R408; log entry 8). -/
opaque mldsaVerify : List Byte → List Byte → List Byte → Bool

/-- Key derivation and signing of the identity key: the seed or key, the message (R417, R418; log entry 8). -/
opaque mldsaPublic : List Byte → List Byte
/-- See `mldsaPublic`. -/
opaque mldsaSign : List Byte → List Byte → List Byte

end Sys2Proof.Config
end

