-- ==== Sys2Proof/Machine/PartsDrive.lean ====
section
/-! DEFINITION. The state of Torc, one record per spindle, and of the door, tray and eject sequences of a bay (R150 to
R177). Defaults are the values after a cold power-on (log entry 4). -/

namespace Sys2Proof.Machine

/-- The eject and load sequences of R175, step by step. -/
inductive DoorSeq where
  | idle
  /-- PARK is issued to the four heads. -/
  | parking
  /-- The spindle stops. -/
  | stopping
  /-- UNLOCK_REQ is sent until LOCK_ENGAGED falls. -/
  | unlocking
  /-- TRAY_CMD = 2 until TRAY_OUT rises. -/
  | trayOut
  /-- TRAY_CMD = 1 until TRAY_IN rises. -/
  | trayIn
  /-- Waiting for DOOR_CLOSED and LOCK_ENGAGED. -/
  | locking
deriving DecidableEq, Repr

/-- Torc's record of a spindle beyond its registers. -/
structure Torc where
  /-- Ticks in the state of R160. -/
  age : Nat := 0
  /-- The speed reference of the ramp in 1/2,000,000 rpm, and the target in rpm. -/
  ref : Nat := 0
  target : Nat := 0
  /-- Observer speed in rpm (R157). -/
  speed : Nat := 0
  /-- ANGLE_NEXT of this Tick and of the previous one (R101). -/
  angle : Nat := 0
  anglePrev : Nat := 0
  /-- A new angle epoch begins in the next Tick (R158). -/
  newEpoch : Bool := false
  /-- Ticks within SPEED_TOL, and consecutive bad speed-loop updates (R159). -/
  inTol : Nat := 0
  badUpd : Nat := 0
  /-- Consecutive predicted periods (R153). -/
  predRun : Nat := 0
  /-- Ticks in which the four sensors of R164 have all been 1. -/
  fourOk : Nat := 0
  /-- A start waits for the 200 ms of R164. -/
  doorWait : Bool := false
  /-- CLEAR has been written in FAULT, and the next RUN request leaves it (R163). -/
  cleared : Bool := false
  /-- The rotor estimate in electrical degrees (R166); TP_WIDTH in ns and the duty of the test pulses (R165). -/
  estimate : Nat := 0
  tpWidth : Nat := 0
  tpDuty : Nat := 0
  /-- The observer's electrical angle, 65,536 per turn, and the Ticks since it was given (R157). -/
  elec : Nat := 0
  obsAge : Nat := 0
  /-- The mechanical angle accumulated, in 1/65,536 of a turn over POLE_PAIRS (R157). -/
  mech : Nat := 0
  /-- The open-loop field of RAMP, in 1/48,000,000,000,000 of an electrical turn, and the Ticks for which the current of ALIGN has been
  ramped up or held (R166). -/
  field : Nat := 0
  alignAge : Nat := 0
  /-- The d-q currents in mA, sampled or predicted, the voltages of the period and the observed back-EMF in mV (R153). -/
  iD : Int := 0
  iQ : Int := 0
  vD : Int := 0
  vQ : Int := 0
  eD : Int := 0
  eQ : Int := 0
  /-- The integrators of the two current controllers and of the speed loop, and the q-axis current target. -/
  gD : Int := 0
  gQ : Int := 0
  gS : Int := 0
  iqTgt : Int := 0
  /-- The spindle is in FAULT behind a COAST or a self-test: FAULT is left only by CLEAR and a RUN request (R163). -/
  inFault : Bool := false
  /-- The door fell while the spindle turned: only a RUN request made with the Keeper latch clear starts it (R176). -/
  barred : Bool := false
  /-- Ticks for which RAMP has held OBS_HAND (R166). -/
  handAge : Nat := 0
  /-- The results of the present Tick missed the deadline (R156). -/
  late : Bool := false
  /-- A start is pending behind a chopper self-test or a stop. -/
  startPend : Bool := false
  /-- DIR was changed while the spindle turned: a stop, then a start (R163). -/
  redir : Bool := false
  /-- The spindle came to rest in BRAKE, so a start does not listen (R164). -/
  rested : Bool := false
  /-- The six pulses are being repeated at twice TP_WIDTH; the start is the retry of R166. -/
  testTwice : Bool := false
  retry : Bool := false
  /-- The spindle has been in COAST, and no period has been tracked since (R158). -/
  coasted : Bool := false
  /-- Consecutive Ticks with the current amplitude below STILL_I (R168). -/
  still : Nat := 0
  /-- Counters of R169: VBUS above 29.0 V, ICHOP low. -/
  chopHigh : Nat := 0
  chopLow : Nat := 0
  /-- Ticks of the self-test whose ICHOP lay in the band of R171, among the last four. -/
  chopGood : Nat := 0
  /-- Speed-loop updates of the KE window (R172), and whether ABNORMAL has been raised since it was cleared. -/
  keUpd : Nat := 0
  /-- The bus is below warning (R173), and M-ticks at or above it. -/
  busWarn : Bool := false
  busOk : Nat := 0
  doorSeq : DoorSeq := .idle
  /-- Ticks of a tray move (R175). -/
  trayAge : Nat := 0
  /-- The running sequence is a forced eject. -/
  forced : Bool := false
  /-- The last tray move was an eject; a retry repeats it. -/
  lastEject : Bool := false
  /-- Ticks for which the shock condition of R145 has been clear; it holds in the present Tick. -/
  shockClear : Nat := 0
  shockNow : Bool := false
  /-- EJECT_NOW and EJECT_MS of the previous IO block, and whether the press has been acted on (R174). -/
  pressed : Bool := false
  pressMs : Nat := 0
  pressDone : Bool := false
deriving DecidableEq, Repr

/-- A Torc core beyond TQ_CORE: the Tick of its last overrun (R156). -/
structure TorcCore where
  lastOvr : Option Nat := none
deriving DecidableEq, Repr

end Sys2Proof.Machine
end

