-- ==== Sys2Proof/Machine/PartsHost.lean ====
section
/-! DEFINITION. The state of Clasp, the host queue engine (R257 to R301): queue pairs, outstanding commands, range locks,
volumes, the error log, receive slots, and what the device has sent over PCI Express. -/

namespace Sys2Proof.Machine

/-- A submission entry, its fields read out (R263). -/
structure Entry where
  opc : Nat
  flags : Nat
  tag : Nat
  volume : Nat
  /-- Byte 5, reserved. -/
  rsvd : Nat
  budget : Nat
  addr : Nat
  addr2 : Nat
  len : Nat
  dptr : Nat
  rptr : Nat
  xptr : Nat
  arg : Nat
deriving DecidableEq, Repr

/-- The outcome of one sector of a command: its position, its status and the last ladder step run (R290, R294). -/
structure SectorRec where
  lsn : Nat
  status : Nat
  step : Nat
deriving DecidableEq, Repr

/-- A scatter list as read so far (R264): its data descriptors, address and length, in order; the next segment to read; whether
the list has ended, and whether it ended in a fault. -/
structure SgList where
  desc : List (Nat × Nat) := []
  next : Option (Nat × Nat) := none
  asked : Bool := false
  ended : Bool := false
  bad : Bool := false
deriving DecidableEq, Repr

/-- An outstanding command: admitted and not yet completed (R277). -/
structure Cmd where
  qid : Nat
  e : Entry
  /-- Its place in the admission order (R277). -/
  order : Nat
  /-- The pair's fence value at admission (R288). -/
  fence : Nat := 0
  /-- The SQ head after its fetch (R281). -/
  sqHead : Nat := 0
  /-- Library time at its admission (R47). -/
  time : Nat := 0
  /-- It holds its range lock, or needs none (R278). -/
  granted : Bool := false
  /-- Its work has been started. -/
  started : Bool := false
  /-- Sectors the command covers, or bytes for a stream command. -/
  total : Nat := 0
  /-- The scatter lists at DPTR and XPTR (R264, R265). -/
  list : SgList := {}
  xlist : SgList := {}
  /-- Bytes received from the host, in order, and not yet staged; how many have come in all. -/
  buf : List Byte := []
  got : Nat := 0
  /-- Sectors delivered or checked with a status of class 0, and sectors staged (R282). -/
  done : Nat := 0
  staged : Nat := 0
  /-- Sectors committed to the medium (R282), beyond those that its write jobs show. -/
  committed : Nat := 0
  /-- Bytes of output produced, and of those placed through XPTR (R265, R276). -/
  produced : Nat := 0
  /-- Output that waits for room in a list, and the status and event that end the command once all of it is placed (R265). -/
  out : List Byte := []
  outEnd : Option (Nat × Nat) := none
  viaXptr : Nat := 0
  /-- The stored bytes of an extent read so far, by position in the extent (R312). -/
  parts : List (Nat × List Byte) := []
  /-- The outcomes of sectors that have ended. -/
  recs : List SectorRec := []
  /-- The descriptor epoch of its buffer (R243). -/
  desc : Nat := 0
  /-- The result slot that it will write: token, bytes supplied, STORED_LEN (R276). -/
  result : Option (Nat × Nat × Nat) := none
  /-- The write jobs a FUA or FLUSH waits for (R228). -/
  waits : List Nat := []
  /-- It waits for its staged sectors to be complete and durable. -/
  waiting : Bool := false
  /-- The format generation in hand and the attempts made (R55). -/
  gen : Nat := 0
  tries : Nat := 0
deriving DecidableEq, Repr

/-- The command's host tag. -/
def Cmd.tag (c : Cmd) : Nat := c.e.tag

/-- An entry of the range-lock table (R278). A lock on a volume's tail has `tail` set; its range is not used. -/
structure Lock where
  qid : Nat
  tag : Nat
  order : Nat
  volume : Nat
  first : Nat := 0
  count : Nat := 0
  tail : Bool
  /-- It is an APPEND's (R273). -/
  append : Bool := false
  shared : Bool
  held : Bool
deriving DecidableEq, Repr

/-- A queue pair (R259, R267). -/
structure QueuePair where
  qid : Nat
  sqBase : Nat
  cqBase : Nat
  depth : Nat
  vector : Nat
  priv : Bool
  coalCnt : Nat
  coalTime : Nat
  sqHead : Nat
  sqTail : Nat
  /-- The host's CQ head. -/
  cqHead : Nat
  /-- The index of the next completion entry. -/
  cqTail : Nat
  phase : Bool
  frozen : Bool
  /-- Every tag that has completed on the pair since its creation (R286). -/
  used : List Nat
  /-- Completion entries posted and not yet signalled (R267). -/
  unsignalled : Nat
  /-- DTIME of the first of them. -/
  since : Nat
deriving DecidableEq, Repr

/-- A range of a volume as written at creation (R269). -/
structure VRange where
  place : Nat
  layer : Nat
  first : Nat
  stripes : Nat
deriving DecidableEq, Repr

/-- An open stream object (R273). -/
structure StreamObj where
  owner : Nat
  /-- The sector of the home sequence and the byte in it where the object begins. -/
  sector : Nat
  offset : Nat
  supplied : Nat
  stored : Nat
  compressed : Bool
  zlib : Bool := false
  /-- The table mode of R302, and the static table of mode 1 (R304). -/
  mode : Nat := 0
  table : List Byte := []
  /-- The last 32,768 input bytes, oldest first; the Adler-32 of the input; the bits of the last partial byte (R309). -/
  hist : List Byte := []
  adler : Nat := 1
  bits : List Bool := []
  /-- DTIME of its first APPEND's admission (R274). -/
  opened : Nat := 0
deriving DecidableEq, Repr

/-- A volume (R269 to R275, R300). The append position is a sector of the home sequence and a byte in it. -/
structure Volume where
  id : Nat
  stream : Bool
  ranges : List VRange
  appSector : Nat
  appByte : Nat
  obj : Option StreamObj
  /-- Pairs whose object here was closed without a token and that have not been told (R274). -/
  voided : List Nat := []
  /-- The stored bytes of the tail sector, as far as they have come (R310), and whether a compressed object has any. -/
  tail : List Byte := []
  tailComp : Bool := false
  /-- M-ticks for which the tail sector has been partial (R310). -/
  tailAge : Nat := 0
deriving DecidableEq, Repr

/-- An entry of the error log (R290). -/
structure LogEntry where
  seq : Nat
  qid : Nat
  tag : Nat
  status : Nat
  opc : Nat
  volume : Nat
  count : Nat
  dtime : Nat
  event : Nat
  recs : List SectorRec
  /-- FLAGS[0]: continued in the next entry. -/
  more : Bool
deriving DecidableEq, Repr

/-- An open receive slot (R291): its copy tag, the RECEIVE that opened it, the header and data accepted so far. -/
structure RecvSlot where
  slot : Nat
  qid : Nat
  tag : Nat
  header : List Byte
  data : List Byte
  /-- DTIME of its opening or of the last peer write accepted (R291). -/
  since : Nat
deriving DecidableEq, Repr

/-- What the device sends over PCI Express, in the order sent. -/
inductive HostMsg where
  /-- A memory write: data, a result slot or a completion entry. -/
  | write (addr : Nat) (bytes : List Byte)
  /-- An MSI-X message of a vector. -/
  | msix (vector : Nat)
  /-- A posted write to a peer's receive window (R292), and the zero-length read that follows the data (R255). -/
  | peerWrite (addr : Nat) (bytes : List Byte)
  | peerRead (addr : Nat)
  /-- A DMA read request of host memory: address and length. -/
  | readReq (addr len : Nat)
  /-- A PTM request (R25). -/
  | ptmRequest
  /-- A PME message (R380, R384). -/
  | pme
  /-- The WAKE# ball is driven (R380). -/
  | wakePin
  /-- A completion of a configuration request: `none` is Configuration Request Retry Status (R422). -/
  | config (answer : Option Nat)
  /-- An AER error message (R299). -/
  | aer
deriving DecidableEq, Repr

/-- The state of Clasp. -/
structure Clasp where
  queues : List QueuePair
  cmds : List Cmd
  nextOrder : Nat
  locks : List Lock
  volumes : List Volume
  log : List LogEntry
  /-- The LOG_SEQ of the next entry. -/
  logNext : Nat
  slots : List RecvSlot
  /-- The last turn of the arbiter went to the admin SQ; the last I/O pair that had a turn (R262). -/
  adminTurn : Bool
  lastIo : Nat
  /-- EN was written 0 and the pairs are being deleted (R268). -/
  disabling : Bool
deriving DecidableEq, Repr

/-- Clasp with no queue pair and nothing outstanding. -/
def Clasp.empty : Clasp :=
  ⟨[], [], 0, [], [], [], 1, [], false, 0, false⟩

end Sys2Proof.Machine
end

