-- ==== Sys2Proof/Machine/PartsMem.lean ====
section
/-! DEFINITION. The state of Casket and the memory integrity block (R316 to R338), of Filigree (R302 to R314), of Hallmark
(R340 to R361), of the thermal model and the power ladder (R363 to R385), and of Locket (R405 to R427). Defaults are the
values after a cold power-on (log entry 4). -/

namespace Sys2Proof.Machine

/-- A line held in the merging or eviction buffer, or in the array: its line address A[37:7], its bytes and the mask of
valid bytes; DTIME at which it was made (R320). -/
structure BufLine where
  line : Nat
  bytes : List Byte
  mask : List Bool
  since : Nat
deriving DecidableEq, Repr

/-- An entry of the eviction buffer (R321). -/
structure EvictLine where
  line : Nat
  bytes : List Byte
  issued : Bool
deriving DecidableEq, Repr

/-- A line of the array: set, way, line address and bytes (R316). -/
structure ArrLine where
  set : Nat
  way : Nat
  line : Nat
  bytes : List Byte
deriving DecidableEq, Repr

/-- A write that found the merging buffer full and waits (R319); a ZLINE's zeros when `zero` is set (R323). -/
structure WaitWrite where
  line : Nat
  mask : List Bool
  bytes : List Byte
  zero : Bool
deriving DecidableEq, Repr

/-- A past error of a memory location: the memory as in MI_LAST_ERR, the location, and the DTIME of its last error
(R335). -/
structure PastErr where
  memory : Nat
  loc : Nat
  dtime : Nat
deriving DecidableEq, Repr

/-- Ageing accounts of a unit (R359 to R361), held in the journal. -/
structure Accounts where
  /-- Per metric, by its limit code: one sample for each 30 days with the M-tick of the accounts at which it was taken, newest
  first. -/
  samples : List (Nat × List (Nat × Int)) := []
  lifeLow : Bool := false
  /-- Friction samples of the first 30 days: their sum, their number, and the M-tick of the first. -/
  frictionSum : Nat := 0
  frictionCount : Nat := 0
  frictionFrom : Option Nat := none
deriving DecidableEq, Repr

/-- The accounts as the journal holds them (R338, R361), in the order of the units' numbers: those of heads and spindles, the
power calibration stripes used on every surface (R351), those of the device. -/
structure AgeingArea where
  /-- The M-ticks of the accounts (`Dev.lifeClock`) at the write. -/
  clock : Nat := 0
  heads : List Accounts := []
  spindles : List Accounts := []
  pca : List (List Nat) := []
  device : Accounts := {}
deriving DecidableEq, Repr

/-- Casket, DRAM and the remap tables. -/
structure Mem where
  /-- DRAM bytes by address, in canonical form (log entry 5). -/
  dram : List Host.Cell := []
  array : List ArrLine := []
  /-- Tree pseudo-LRU bits of the sets that have been used: set and 15 bits (R316). -/
  plru : List (Nat × Nat) := []
  /-- Ways disabled under R336: set and way. -/
  deadWays : List (Nat × Nat) := []
  /-- Merging buffer, oldest first, and eviction buffer in issue order. -/
  merge : List BufLine := []
  evict : List EvictLine := []
  /-- Writes that wait for an entry of the merging buffer, oldest first (R319). -/
  waiting : List WaitWrite := []
  /-- Lines whose drain waits for an issued write of the line or for room in the eviction buffer (R321). -/
  drainWait : List Nat := []
  /-- Lines of the merging buffer present at the DISABLE write and still to drain (R324). -/
  drainSet : List Nat := []
  /-- A disable is draining, invalidating, or done; a P3 drain runs with it. -/
  disabling : Bool := false
  invalidating : Bool := false
  p3Drain : Bool := false
  /-- The array accepts no allocation (R324). -/
  noAlloc : Bool := false
  past : List PastErr := []
  /-- Spare lines in use, by SRAM group and location; spare pages in use, by page (R336). -/
  spareLines : List (Nat × Nat) := []
  sparePages : List Nat := []
  /-- Pages withdrawn from the staging pool with the DRAM table full (R336). -/
  withdrawn : List Nat := []
  /-- The lost-sector list: volume and position (R333); volumes whose loss found no room. -/
  lost : List (Nat × Nat) := []
  lostOver : List Nat := []
  /-- The journal (R337): write counts of physical units, 0 when unlisted; the unit that holds a logical unit, its own number
  when unlisted; free units that have been written; the next spare unit never used. -/
  wear : List (Nat × Nat) := []
  jmap : List (Nat × Nat) := []
  jfree : List Nat := []
  jnext : Nat := 245760
  ageArea : AgeingArea := {}
deriving DecidableEq, Repr

/-- Work waiting for a Filigree engine (R305): the pair and tag it serves, full class needed, and whether it decodes. -/
structure FgWork where
  qid : Nat
  tag : Nat
  full : Bool
  decode : Bool
deriving DecidableEq, Repr

/-- Filigree (R302 to R314): engines 0 to 15 and what each works on; waiting work in admission order. -/
structure Filigree where
  engines : Vector (Option FgWork) 16 := Vector.replicate 16 none
  waiting : List FgWork := []
deriving DecidableEq, Repr

/-- The run kinds of R342. -/
inductive CalKind where
  | converter | laser | trial | scale | focus | link
deriving DecidableEq, Repr

/-- Hallmark's record of a head beyond its registers (R340 to R361). -/
structure Hallmark where
  /-- Kinds of the running calibration still to do, first the running one; the queued calibration (R343, R344); whether each is
  a full one. -/
  kinds : List CalKind := []
  queued : List CalKind := []
  isFull : Bool := false
  queuedFull : Bool := false
  /-- Layers still to try in the running calibration, and scans still to make: layer, and whether of TILT. -/
  trialTodo : List Nat := []
  focusTodo : List (Nat × Bool) := []
  /-- An idle revolution is open (R345). -/
  idleRev : Bool := false
  /-- Zone temperature and DTIME at the end of the last converter run (R343, R356), and whether there has been one. -/
  baseTemp : Int := 0
  baseTime : Nat := 0
  hasBase : Bool := false
  /-- M-ticks since the last full calibration ended, since the last link run, since the last converter run. -/
  sinceCal : Nat := 0
  sinceLink : Nat := 0
  sinceRun : Option Nat := none
  /-- Serial number of the record of the head's RV values (R340). -/
  recSerial : Option Nat := none
  /-- Release steps done, 0 to 5 (R340). -/
  relStep : Nat := 0
  /-- Mailbox answers still awaited in step 2. -/
  relMail : Nat := 0
  /-- M-ticks with no medium work queued while in FOLLOW (R345). -/
  idle : Nat := 0
  /-- The skew residual last measured of each sub-ADC (R347). -/
  skews : List Int := List.replicate 10 0
  /-- Trims that a sub-ADC has yet to reach, in steps (R349): its number, offset, gain, skew. -/
  goals : List (Nat × Int × Int × Int) := []
  /-- A role that a spare is to take once it is trimmed (R349): the role and the spare. -/
  swap : Option (Nat × Nat) := none
  /-- The best trims of that spare, to which it goes in steps once it has the role: offset, gain, skew. -/
  swapGoal : Int × Int × Int := (0, 0, 0)
  /-- Iterations and number of the codewords that converged at E0 since the last sample of their mean (R359). -/
  e0Sum : Nat := 0
  e0Count : Nat := 0
  /-- The calibration of a surface with one head in service has begun before its mount (R346). -/
  soleCal : Bool := false
  /-- Settings sent to the pendant's shadow bank wait for its report (R355). -/
  corrPend : Bool := false
  /-- The last accepted laser points: the power at I_B in µW and P_B of the plan at the time (R350). -/
  fit : Option (Nat × Nat) := none
  /-- The largest write current of each layer, in 10 µA (R352). -/
  iw : List Nat := List.replicate 16 0
  /-- An HM_HEADROOM_LOW episode. -/
  lowEpisode : Bool := false
  /-- Layers written since the previous trial. -/
  wroteLayers : List Nat := []
  accounts : Accounts := {}
deriving DecidableEq, Repr

/-- The thermal model (R363 to R372). Zone temperatures are in TH_ZONE. -/
structure Thermal where
  /-- Temperatures of the last 400 M-ticks, newest first, one list of 177 each (R369). -/
  history : List (List Int) := []
  /-- Consecutive M-ticks with a sensor more than 8 °C from the model (R366), by zone. -/
  mismatch : List (Nat × Nat) := []
  /-- TH_SENSOR_BROKEN has been raised since the bit was last cleared. -/
  brokenRaised : List Nat := []
  /-- M-ticks since the last write of TH_AMBIENT (R367). -/
  ambAge : Nat := 0
  /-- M-ticks at the present throttle step (R372). -/
  dwell : Nat := 0
  /-- The power demand (R370), M-ticks in a row above the budget of the step and below 90 % of it. -/
  powerDemand : Nat := 0
  ovr : Nat := 0
  under : Nat := 0
  /-- Zones that take their first reading whole (R385). -/
  await : List Nat := List.range 176
  /-- The temperature demand of every zone (R368), 0 when unlisted, and the part of the rate's (R369). -/
  demand : List Nat := []
deriving DecidableEq, Repr

/-- The power ladder (R376 to R385). -/
structure Power where
  /-- M-ticks for which the conditions of P0 to P1 have held, in P1, in P2. -/
  idle : Nat := 0
  inP1 : Nat := 0
  inP2 : Nat := 0
  /-- The present Tick began in P3 or P4 and carries no servo work (R22). -/
  rested : Bool := false
  /-- A wake is being carried out: the exit runs (R381). -/
  exiting : Bool := false
  /-- The deepest state of the exit or step down. -/
  deepest : Nat := 0
  /-- A step down to P3 drains Casket. -/
  downTo : Option Nat := none
  /-- The spindle stop of P2 has been made. -/
  spunDown : Bool := false
  /-- The exit is only to P2, for a bay event (R380). -/
  onlyP2 : Bool := false
deriving DecidableEq, Repr

/-- What the configuration space and the link of the PCI Express function show (R257, R383, R422, R424). -/
structure Pcie where
  linkUp : Bool := false
  /-- DTIME at which the link first reached L0; a reset of kind H came before it (R425). -/
  l0 : Option Nat := none
  afterH : Bool := false
  /-- The function is in D3hot; the PME_Turn_Off handshake has completed; the function is in D3cold. -/
  d3 : Bool := false
  turnedOff : Bool := false
  d3cold : Bool := false
  /-- MSI-X enabled and the function mask, as the configuration space holds them. -/
  msixOn : Bool := true
  msixMask : Bool := false
  aerErrors : Nat := 0
  /-- Subsystem Vendor ID and Subsystem ID of the image (R257). -/
  subVendor : Nat := 0
  subsystem : Nat := 0
deriving DecidableEq, Repr

/-- How far start-up has come (R421). -/
inductive Boot where
  /-- No supply, or held in reset: nothing runs. -/
  | off
  /-- Steps 1 to 6: the boot ROM reads and verifies the image. -/
  | rom
  /-- Both slots failed, or STRAP_BOOT is 0b10 (R411). -/
  | recovery
  /-- Records applied; DRAM trains. -/
  | dram
  /-- Cores released; self-tests run. -/
  | cores
  /-- Links come up; Clasp is made ready. -/
  | links
  /-- Start-up is complete. -/
  | done
deriving DecidableEq, Repr

/-- A module of the booted image: TYPE and HASH (R409, R419). -/
structure Module where
  type : Nat
  hash : List Byte
deriving DecidableEq, Repr

/-- Locket: straps, fuses, the booted image and the retained copy of the applied records (R405 to R420). -/
structure Locket where
  stage : Boot := .off
  strapBoot : Nat := 0
  strapWidth : Nat := 0
  strapNode : Nat := 0
  strapSafe : Bool := false
  rootHash : List Byte := []
  /-- OWNER_HASH[1] to [4], empty when no bit is blown. -/
  ownerHash : List (List Byte) := [[], [], [], []]
  ownerValid : Nat := 0
  ownerRevoked : Nat := 0
  /-- Blown bits of ROLLBACK. -/
  rollback : Nat := 0
  lifecycle : Nat := 0
  debugDisable : Bool := false
  idSeed : List Byte := []
  fuseRows : Nat := 0
  /-- NOR bytes by offset, in canonical form: an erased byte reads 0xFF (log entry 5). -/
  nor : List Host.Cell := []
  /-- Values of image fields that the records set: register key and value (R412). -/
  image : List (Nat × Nat) := []
  /-- Header bytes 0 to 4,563 and modules of the booted image (R419). -/
  header : List Byte := []
  modules : List Module := []
  challenge : List Byte := []
  perms : Nat := 0
  /-- Factory mode: the lock waits for LK_CTL.LOCK (R406). -/
  factory : Bool := false
  /-- NV_RESET_N is low since the cold power-on or RESET_N; DTIME until which it is low before a recovery write (R462). -/
  nvLow : Bool := false
  nvPulse : Nat := 0
deriving DecidableEq, Repr

end Sys2Proof.Machine
end

