-- ==== Sys2Proof/Machine/Events.lean ====
section
/-! DEFINITION. The events of R439: every code with its severity and the block index of its SOURCE (R16, R438). -/

namespace Sys2Proof.Machine

/-- The events, by the manual's names. -/
inductive Event where
  | SY_FIFO_OVERFLOW | SY_REMAP_GAP | SY_REMAP_SCAN_DONE | SY_REMAP_FULL | SY_HOST_RESET | HL_SAMPLE_OVERFLOW
  | HL_LATENCY | HL_LINK_FAULT | HL_MAILBOX_FAIL | HL_LINK_LOCKOUT | HL_PENDANT_LOST | HL_PENDANT_FOUND | SL_LATENCY
  | SL_LINK_FAULT | SL_LINK_LOCKOUT | SL_BAIL_LOST | SL_BAIL_FOUND | BZ_FOLLOW_FAULT | BZ_LAW_REJECT | BZ_OVERRUN
  | BZ_CORE_FAIL | BZ_ADOPT_OVER | BZ_ADOPT_NONE | MO_HANDOVER_REFUSED | MO_FOCUS_FAIL | MO_FOCUS_LOST | MO_JUMP_FAIL
  | MO_POS_SLIP | MO_RELOCATED | MO_HOME_FAIL | MO_SEEK_FAIL | MO_GUARD_TRIP | TQ_START_REFUSED | TQ_START_FAIL
  | TQ_CATCH | TQ_SAMPLE_FAULT | TQ_OVERRUN | TQ_CORE_FAIL | TQ_CHOP_FAULT | TQ_MOTOR_ABNORMAL | TQ_BUS_WARN
  | TQ_EJECT_REQ | TQ_FORCED_EJECT | TQ_TRAY_FAIL | FC_PSA_MISMATCH | FC_HDR_MISMATCH | FC_UNREADABLE
  | FC_REALLOC_FAIL | FC_WS_REJECT | FC_WS_CHECK | FC_RELOC_FULL | FC_WRITE_STUCK | FC_VERIFY_FAIL | LD_HOLD_FULL
  | CH_MEMBER_MISSING | CH_REBUILD_DONE | CL_DOORBELL_BAD | FG_BAD_STREAM | MI_UNCORRECTABLE | MI_STAGED_LOST
  | MI_LOST_FULL | MI_HARD_FAULT | MI_REMAP_FULL | MI_JOURNAL_ERR | HM_ADC_SHORT | HM_LASER_FIT | HM_HEADROOM_LOW
  | HM_PCA_FULL | HM_CAL_SKIP | HM_LIFE_LOW | TH_SENSOR_BROKEN | TH_AMBIENT_STALE | TH_STEP | KP_SF_TRIP
  | KP_DIAG_FAULT | KP_CORE_FAIL | KP_DIP | KP_BUS_DIP | KP_KEEPER_FAIL | CM_SUPPRESSED | CM_STAGE_LOST | CM_LOG_FULL
  | CM_LOG_RESUMED | MG_RECOVERY_WRITE | MG_BAD_MESSAGE
deriving DecidableEq, Repr

/-- The code, the severity and the block index of an event (R438, R439). -/
def Event.row : Event → Nat × Nat × Nat
  | .SY_FIFO_OVERFLOW => (0x0001, 3, 0)
  | .SY_REMAP_GAP => (0x0002, 3, 0)
  | .SY_REMAP_SCAN_DONE => (0x0003, 1, 0)
  | .SY_REMAP_FULL => (0x0004, 3, 0)
  | .SY_HOST_RESET => (0x0005, 2, 0)
  | .HL_SAMPLE_OVERFLOW => (0x1001, 2, 1)
  | .HL_LATENCY => (0x1002, 3, 1)
  | .HL_LINK_FAULT => (0x1003, 3, 1)
  | .HL_MAILBOX_FAIL => (0x1004, 2, 1)
  | .HL_LINK_LOCKOUT => (0x1005, 3, 1)
  | .HL_PENDANT_LOST => (0x1006, 3, 1)
  | .HL_PENDANT_FOUND => (0x1007, 1, 1)
  | .SL_LATENCY => (0x1801, 3, 2)
  | .SL_LINK_FAULT => (0x1802, 3, 2)
  | .SL_LINK_LOCKOUT => (0x1803, 3, 2)
  | .SL_BAIL_LOST => (0x1804, 3, 2)
  | .SL_BAIL_FOUND => (0x1805, 1, 2)
  | .BZ_FOLLOW_FAULT => (0x2001, 2, 3)
  | .BZ_LAW_REJECT => (0x2002, 2, 3)
  | .BZ_OVERRUN => (0x2003, 3, 3)
  | .BZ_CORE_FAIL => (0x2004, 4, 3)
  | .BZ_ADOPT_OVER => (0x2005, 3, 3)
  | .BZ_ADOPT_NONE => (0x2006, 4, 3)
  | .MO_HANDOVER_REFUSED => (0x2801, 2, 4)
  | .MO_FOCUS_FAIL => (0x2802, 3, 4)
  | .MO_FOCUS_LOST => (0x2803, 2, 4)
  | .MO_JUMP_FAIL => (0x2804, 2, 4)
  | .MO_POS_SLIP => (0x2805, 2, 4)
  | .MO_RELOCATED => (0x2806, 0, 4)
  | .MO_HOME_FAIL => (0x2807, 3, 4)
  | .MO_SEEK_FAIL => (0x2808, 2, 4)
  | .MO_GUARD_TRIP => (0x2809, 1, 4)
  | .TQ_START_REFUSED => (0x3001, 2, 5)
  | .TQ_START_FAIL => (0x3002, 3, 5)
  | .TQ_CATCH => (0x3003, 1, 5)
  | .TQ_SAMPLE_FAULT => (0x3004, 3, 5)
  | .TQ_OVERRUN => (0x3005, 3, 5)
  | .TQ_CORE_FAIL => (0x3006, 4, 5)
  | .TQ_CHOP_FAULT => (0x3007, 4, 5)
  | .TQ_MOTOR_ABNORMAL => (0x3008, 3, 5)
  | .TQ_BUS_WARN => (0x3009, 2, 5)
  | .TQ_EJECT_REQ => (0x300A, 1, 5)
  | .TQ_FORCED_EJECT => (0x300B, 2, 5)
  | .TQ_TRAY_FAIL => (0x300C, 3, 5)
  | .FC_PSA_MISMATCH => (0x4001, 2, 6)
  | .FC_HDR_MISMATCH => (0x4002, 3, 6)
  | .FC_UNREADABLE => (0x4003, 3, 6)
  | .FC_REALLOC_FAIL => (0x4004, 3, 6)
  | .FC_WS_REJECT => (0x4005, 2, 6)
  | .FC_WS_CHECK => (0x4006, 3, 6)
  | .FC_RELOC_FULL => (0x4007, 3, 6)
  | .FC_WRITE_STUCK => (0x4008, 3, 6)
  | .FC_VERIFY_FAIL => (0x4009, 2, 6)
  | .LD_HOLD_FULL => (0x5001, 2, 7)
  | .CH_MEMBER_MISSING => (0x6001, 3, 8)
  | .CH_REBUILD_DONE => (0x6002, 1, 8)
  | .CL_DOORBELL_BAD => (0x7001, 2, 9)
  | .FG_BAD_STREAM => (0x8001, 2, 10)
  | .MI_UNCORRECTABLE => (0x9801, 3, 12)
  | .MI_STAGED_LOST => (0x9802, 4, 12)
  | .MI_LOST_FULL => (0x9803, 4, 12)
  | .MI_HARD_FAULT => (0x9804, 2, 12)
  | .MI_REMAP_FULL => (0x9805, 3, 12)
  | .MI_JOURNAL_ERR => (0x9806, 3, 12)
  | .HM_ADC_SHORT => (0xA001, 3, 13)
  | .HM_LASER_FIT => (0xA002, 2, 13)
  | .HM_HEADROOM_LOW => (0xA003, 2, 13)
  | .HM_PCA_FULL => (0xA004, 2, 13)
  | .HM_CAL_SKIP => (0xA005, 2, 13)
  | .HM_LIFE_LOW => (0xA006, 2, 13)
  | .TH_SENSOR_BROKEN => (0xB001, 3, 14)
  | .TH_AMBIENT_STALE => (0xB002, 2, 14)
  | .TH_STEP => (0xB003, 1, 14)
  | .KP_SF_TRIP => (0xC001, 5, 16)
  | .KP_DIAG_FAULT => (0xC002, 5, 16)
  | .KP_CORE_FAIL => (0xC003, 4, 16)
  | .KP_DIP => (0xC004, 2, 16)
  | .KP_BUS_DIP => (0xC005, 2, 16)
  | .KP_KEEPER_FAIL => (0xC006, 5, 16)
  | .CM_SUPPRESSED => (0xE001, 0, 18)
  | .CM_STAGE_LOST => (0xE002, 2, 18)
  | .CM_LOG_FULL => (0xE003, 4, 18)
  | .CM_LOG_RESUMED => (0xE004, 1, 18)
  | .MG_RECOVERY_WRITE => (0xF001, 1, 19)
  | .MG_BAD_MESSAGE => (0xF002, 2, 19)

/-- The event's code (R439). -/
def Event.code (e : Event) : Nat := e.row.1
/-- Its severity (R439). -/
def Event.severity (e : Event) : Nat := e.row.2.1
/-- The block index of its SOURCE (R438). -/
def Event.block (e : Event) : Nat := e.row.2.2

/-- Every code that has a token bucket: every event but the CM_ records, which are not rate-limited (R440, R441). -/
def Event.limited : List Nat :=
    [Event.SY_FIFO_OVERFLOW.code, Event.SY_REMAP_GAP.code, Event.SY_REMAP_SCAN_DONE.code, Event.SY_REMAP_FULL.code,
   Event.SY_HOST_RESET.code, Event.HL_SAMPLE_OVERFLOW.code, Event.HL_LATENCY.code, Event.HL_LINK_FAULT.code,
   Event.HL_MAILBOX_FAIL.code, Event.HL_LINK_LOCKOUT.code, Event.HL_PENDANT_LOST.code, Event.HL_PENDANT_FOUND.code,
   Event.SL_LATENCY.code, Event.SL_LINK_FAULT.code, Event.SL_LINK_LOCKOUT.code, Event.SL_BAIL_LOST.code,
   Event.SL_BAIL_FOUND.code, Event.BZ_FOLLOW_FAULT.code, Event.BZ_LAW_REJECT.code, Event.BZ_OVERRUN.code,
   Event.BZ_CORE_FAIL.code, Event.BZ_ADOPT_OVER.code, Event.BZ_ADOPT_NONE.code, Event.MO_HANDOVER_REFUSED.code,
   Event.MO_FOCUS_FAIL.code, Event.MO_FOCUS_LOST.code, Event.MO_JUMP_FAIL.code, Event.MO_POS_SLIP.code,
   Event.MO_RELOCATED.code, Event.MO_HOME_FAIL.code, Event.MO_SEEK_FAIL.code, Event.MO_GUARD_TRIP.code,
   Event.TQ_START_REFUSED.code, Event.TQ_START_FAIL.code, Event.TQ_CATCH.code, Event.TQ_SAMPLE_FAULT.code,
   Event.TQ_OVERRUN.code, Event.TQ_CORE_FAIL.code, Event.TQ_CHOP_FAULT.code, Event.TQ_MOTOR_ABNORMAL.code,
   Event.TQ_BUS_WARN.code, Event.TQ_EJECT_REQ.code, Event.TQ_FORCED_EJECT.code, Event.TQ_TRAY_FAIL.code,
   Event.FC_PSA_MISMATCH.code, Event.FC_HDR_MISMATCH.code, Event.FC_UNREADABLE.code, Event.FC_REALLOC_FAIL.code,
   Event.FC_WS_REJECT.code, Event.FC_WS_CHECK.code, Event.FC_RELOC_FULL.code, Event.FC_WRITE_STUCK.code,
   Event.FC_VERIFY_FAIL.code, Event.LD_HOLD_FULL.code, Event.CH_MEMBER_MISSING.code, Event.CH_REBUILD_DONE.code,
   Event.CL_DOORBELL_BAD.code, Event.FG_BAD_STREAM.code, Event.MI_UNCORRECTABLE.code, Event.MI_STAGED_LOST.code,
   Event.MI_LOST_FULL.code, Event.MI_HARD_FAULT.code, Event.MI_REMAP_FULL.code, Event.MI_JOURNAL_ERR.code,
   Event.HM_ADC_SHORT.code, Event.HM_LASER_FIT.code, Event.HM_HEADROOM_LOW.code, Event.HM_PCA_FULL.code,
   Event.HM_CAL_SKIP.code, Event.HM_LIFE_LOW.code, Event.TH_SENSOR_BROKEN.code, Event.TH_AMBIENT_STALE.code,
   Event.TH_STEP.code, Event.KP_SF_TRIP.code, Event.KP_DIAG_FAULT.code, Event.KP_CORE_FAIL.code, Event.KP_DIP.code,
   Event.KP_BUS_DIP.code, Event.KP_KEEPER_FAIL.code, Event.MG_RECOVERY_WRITE.code, Event.MG_BAD_MESSAGE.code]

end Sys2Proof.Machine
end

