-- ==== Sys2Proof/Machine/PartsSys.lean ====
section
/-! DEFINITION. The state of the system block, Keeper, Cameo and the management port (R19 to R28, R387 to R403, R438 to
R451). Defaults are the values after a cold power-on (log entry 4). -/

namespace Sys2Proof.Machine

/-- An event as raised and not yet judged (R440): what its record will hold. -/
structure Raised where
  code : Nat
  severity : Nat
  source : Nat
  dtime : Nat
  params : List Nat
deriving DecidableEq, Repr

/-- An event record (R438). -/
structure EventRec where
  seq : Nat
  code : Nat
  severity : Nat
  source : Nat
  dtime : Nat
  params : List Nat
deriving DecidableEq, Repr

/-- Suppressed events of a code (R441): the count, DTIME of the first and of the last, M-ticks since the first. -/
structure Suppressed where
  code : Nat
  count : Nat
  first : Nat
  last : Nat
  age : Nat
deriving DecidableEq, Repr

/-- Cameo (R438 to R446). CM_STAT and CM_SEQ are kept here and shown through the register map. -/
structure Cameo where
  /-- Events raised within the running command, judged at its end in the order of R442. -/
  raised : List Raised := []
  /-- The RAM stage, oldest first. -/
  stage : List EventRec := []
  /-- Records held in the journal area, oldest first (R338, R443). -/
  journal : List EventRec := []
  /-- The SEQ of the next record; the highest SEQ the journal has ever recorded. -/
  seqNext : Nat := 1
  seqJournal : Nat := 0
  /-- CM_SEQ.OLDEST (R444). -/
  oldest : Nat := 0
  /-- Tokens of every rate-limited code (R440). -/
  buckets : List (Nat × Nat) := Event.limited.map fun c => (c, 16)
  suppressed : List Suppressed := []
  /-- Dropped for want of room in the stage and not yet reported by CM_STAGE_LOST (R443). -/
  lost : Nat := 0
  /-- The stop of R444, and the events dropped since. -/
  stopped : Bool := false
  stopDrops : Nat := 0
  /-- CM_STAT.DROPPED and NOTIFY. -/
  dropped : Nat := 0
  notify : Bool := false
  /-- MSI-X 1,024 has been sent in this M-tick; another is owed at its end (R446). -/
  sent : Bool := false
  owed : Bool := false
deriving DecidableEq, Repr

/-- Keeper's record of a head (R392, R394, R396). -/
structure KeepHead where
  /-- LASER_SET applied in the previous Tick. -/
  prevSet : Nat := 0
  /-- The conditions of SF-E and SF-F in the last frame: MON, OVERPOWER, a current, OVERCURRENT. -/
  monOver : Bool := false
  powOver : Bool := false
  curOver : Bool := false
  ocOver : Bool := false
  /-- SAMPLE_TOTAL at the start of the speed window. -/
  winTotal : Nat := 0
  /-- Ticks for which the head's link has not been UP, to 8 (R393). -/
  downAge : Nat := 0
  /-- The inhibit path test: laser half and write half passed since the last release (R399). -/
  laserHalf : Bool := false
  writeHalf : Bool := false
  /-- M-ticks since the last daily test (R399). -/
  day : Nat := 0
deriving DecidableEq, Repr

/-- Keeper's record of a spindle (R391 to R393, R398). -/
structure KeepSpin where
  /-- Consecutive windows above 3,300 rpm; with both sources failed; with the sources apart (R392, R399 row 4). -/
  ovr : Nat := 0
  failBoth : Nat := 0
  apart : Nat := 0
  /-- The Tick in which the running speed window began. -/
  winAt : Option Nat := none
  /-- Consecutive Ticks of SF-D. -/
  overVolt : Nat := 0
  /-- BRIDGE_INHIBIT is held under level S. -/
  bridge : Bool := false
  /-- Ticks of RELEASE_HOLD for the bridge and for the door (R392, R393). -/
  slow : Nat := 0
  doorHold : Nat := 0
  /-- A bus dip is running, and M-ticks of its settle time (R398). -/
  dip : Bool := false
  settle : Nat := 0
  /-- Conditions of the strict profile still owed for clearing: the chopper self-test and the four inhibit tests. -/
  needChop : Bool := false
  needTests : Nat := 0
  /-- The clearing conditions are being worked off (R402). -/
  clearing : Bool := false
  /-- The cause of the latch, coded as LAST_SF. -/
  cause : Nat := 0
deriving DecidableEq, Repr

/-- Keeper (R387 to R403) beyond its registers. -/
structure Keeper where
  beat : Nat := 0
  /-- A core dip is in its fall or its settle time, and M-ticks of the settle time (R397). -/
  dip : Bool := false
  settle : Nat := 0
  /-- Keeper has failed (R403). -/
  failed : Bool := false
  /-- Ticks of level X before the PLL stops (R390); the PLL has stopped. -/
  xAge : Option Nat := none
  pllStopped : Bool := false
  /-- The Tick of the last sample of the four die sensors (R395); for each the samples apart and whether it is broken. -/
  dieAt : Option Nat := none
  apart : List Nat := [0, 0, 0, 0]
  broken : List Bool := [false, false, false, false]
  /-- Consecutive trips of SF-H. -/
  hotRun : Nat := 0
deriving DecidableEq, Repr

/-- The management port (R447 to R449). -/
structure Mgmt where
  /-- The pending response: opcode, STATUS and data (R447). -/
  resp : List Byte := []
  pending : Bool := false
  /-- The bytes of the last Block Read that collected a response. -/
  out : List Byte := []
  /-- The slot being written in recovery and the end of the last write (R449). -/
  slot : Option Nat := none
  next : Nat := 0
deriving DecidableEq, Repr

/-- A half of SY_LIBTIME_OFS written and waiting (R27), and what is due at the next M-tick boundary. -/
structure LibTime where
  lower : Option Nat := none
  host : Option Nat := none
  ptm : Option Nat := none
  /-- A dialogue is running; one is due when the device leaves P3; consecutive failures (R25, R26, R28). -/
  run : Bool := false
  due : Bool := false
  fails : Nat := 0
deriving DecidableEq, Repr

end Sys2Proof.Machine
end

