-- ==== Sys2Proof/Machine/RegNames.lean ====
section
/-! DEFINITION. The names of the registers (R3, R11 and the register maps of every chapter) and of their fields, as the
manual spells them: `Reg` one constructor per register or register array, `Fld` one per field, REGISTER_FIELD. -/

namespace Sys2Proof.Machine

/-- The registers and register arrays of BAR0. The law slots, the header words of a chain and the like, which the manual
gives as unnamed words, carry a name of the model's (H0, H1, STRUCT, COEF, W0, W5, MEM; HRES and SRES for reserved words). -/
inductive Reg where
  | SY_DTIME | SY_LIBTIME_OFS | SY_TIME_CTL | SY_NODE | SY_RESET | SY_POP_HEAD | SY_POP_SPIN | HL_CTL | SL_CTL
  | HL_STATUS | SL_STATUS | HL_ERR | SL_ERR | HL_MARGIN | SL_MARGIN | BZ_HEAD_STAT | BZ_LEARN | BZ_LOOP_CFG
  | BZ_LOOP_REF | BZ_LOOP_FEL | BZ_LOOP_STAT | BZ_LOOP_SAT | BZ_LAW_H0 | BZ_LAW_H1 | BZ_LAW_STRUCT | BZ_LAW_COEF
  | BZ_LAW_HRES | BZ_LAW_SRES
  | BZ_RUN_FOC | BZ_RUN_TRK | BZ_CTL | BZ_BUDGET | BZ_FAULT | BZ_TRACE_CTL | BZ_TRACE_LEVEL | BZ_TRACE_STAT
  | BZ_TRACE_NODE | BZ_TRACE_TIME | BZ_TRACE_RAM | MO_MODE | MO_CTL | MO_POS | MO_BAND_AT_0 | MO_ADDR | MO_SLED_CFG
  | MO_COIL_CFG | MO_SEEK_CFG | MO_FOCUS_CFG | MO_JUMP_CFG | MO_SETTLE_CFG | MO_GUARD | MO_GUARD2 | MO_STAT
  | MO_LAWSEL0 | MO_LAWSEL1 | MO_HOME | MO_HANDOVER | MO_SHOCK | TQ_CTL | TQ_STAT | TQ_MOTOR | TQ_MOTOR2
  | TQ_START_CFG | TQ_RUN_CFG | TQ_BRAKE_CFG | TQ_LOOP_CFG | TQ_ERR | TQ_DOOR | TQ_DOOR_CTL | TQ_CORE | FC_SYNC_CFG
  | FC_EQ_CFG | FC_TARGET | FC_DEFECT_CFG | FC_E2_CFG | FC_RECOV | FC_E4_PT | FC_STAT | FC_LANE | FC_TAPS | FC_WR_CFG
  | FC_WR_STAT | FC_RELOC_NEXT | FC_WS_LAYER | FC_WS_ENTRY | FC_WR_TEMP | LD_POOL | LD_STAT | LD_CW_FAIL
  | LD_STEP_CNT | CH_CHAIN_W0 | CH_CHAIN_MEM | CH_CHAIN_W5 | CH_CFG | CH_STAT | CL_CAP | CL_CTL | CL_STAT
  | CL_AQ_SQ_BASE | CL_AQ_CQ_BASE | CL_AQ_SIZE | CL_LOG_STAT | CL_LOCK_STAT | CL_QFENCE | CL_QSTAT | CL_DOORBELL
  | MSIX_TABLE | MSIX_PBA | FG_CFG | FG_STAT | FG_IN_BYTES | FG_OUT_BYTES | FG_ERR | CK_CTL | CK_STAT | MI_DRAM_CFG
  | MI_SCRUB_CFG | MI_ERR | MI_REMAP_STAT | MI_LAST_ERR | MI_LOST_STAT | MI_SCRUB_STAT | HM_CTL | HM_STAT
  | HM_ADC_SEL | HM_SCALE | HM_LASER | HM_LIFE | HM_ADC_TRIM | HM_PLAN | HM_LANE_INIT | HM_TAPS | HM_CFG
  | HM_DEV_LIFE | HM_SPIN_LIFE | TH_CTL | TH_STAT | TH_AMBIENT | TH_LIMIT | TH_BROKEN | TH_ZONE | PM_CTL | PM_STAT
  | PM_CFG | PM_POWER | KP_STAT | KP_SPIN_L | KP_SPIN_S | KP_LOCK_HOLD | KP_PERMIT | KP_CORES | KP_CAUSE | KP_DIAG
  | KP_CFG | KP_ILIM | KP_HEAD_LATCH | LK_BOOT_STAT | LK_FUSE_STAT | LK_CTL | CM_CFG | CM_STAT | CM_SEQ | CM_RATE_OVR
  | MG_CFG | MG_GPIO | MG_STAT
deriving DecidableEq, Repr

/-- The fields of the registers, reserved bits apart. -/
inductive Fld where
  | SY_DTIME_DTIME | SY_LIBTIME_OFS_OFFSET | SY_TIME_CTL_LT_VALID | SY_TIME_CTL_PTM_FAILS | SY_TIME_CTL_PTM_PERIOD
  | SY_TIME_CTL_PTM_EN | SY_TIME_CTL_PTM_NOW | SY_NODE_NODE_HI | SY_NODE_NODE_LO | HL_CTL_LINK_EN | HL_CTL_RETRY_MAX
  | HL_CTL_MARGIN_START | HL_CTL_FULL_TRAIN | HL_CTL_RETRAIN | HL_STATUS_STATE | HL_STATUS_EPOCH | HL_STATUS_RATE
  | HL_STATUS_PRESENT | HL_STATUS_PEND_SAFE | HL_STATUS_MARGIN_DONE | HL_STATUS_LATENCY | HL_STATUS_PEND_REV
  | HL_ERR_SERVO_BAD | HL_ERR_TIMING_BAD | HL_ERR_SAMPLE_BAD | HL_ERR_STALE | HL_MARGIN_EYE_W | HL_MARGIN_EYE_H
  | HL_MARGIN_PEND_EYE_W | HL_MARGIN_PEND_EYE_H | BZ_LAW_H0_VALID | BZ_LAW_H0_COST | BZ_LAW_H0_NSTAGES
  | BZ_LAW_H0_LOOP_KIND | BZ_LAW_H0_COMMIT | BZ_LAW_H1_COEF_HOLD | BZ_LAW_H1_LAW_ID | BZ_HEAD_STAT_OWNER
  | BZ_HEAD_STAT_SLOT | BZ_HEAD_STAT_ADOPT_PARK | BZ_HEAD_STAT_LAW_WR_REJ | BZ_HEAD_STAT_COST | BZ_LEARN_FOC_MODE
  | BZ_LEARN_TRK_MODE | BZ_LEARN_FOC_BUSY | BZ_LEARN_TRK_BUSY | BZ_LEARN_FOC_FAIL | BZ_LEARN_TRK_FAIL
  | BZ_LEARN_LEARN_REVS | BZ_LEARN_PASSES | BZ_LOOP_CFG_LAW | BZ_LOOP_CFG_NEXT | BZ_LOOP_CFG_INV
  | BZ_LOOP_CFG_FE_TICKS | BZ_LOOP_STAT_FE_COUNT | BZ_LOOP_STAT_FE_FAULT | BZ_LOOP_STAT_OUT_SAT
  | BZ_LOOP_STAT_INT_HOLD | BZ_LOOP_SAT_STAGE_SAT | BZ_CTL_OVR_WINDOW | BZ_BUDGET_LOAD | BZ_BUDGET_PEAK
  | BZ_BUDGET_DEFERS | BZ_FAULT_FAILED | BZ_FAULT_OVERRUNS | BZ_FAULT_FOLLOW_FAULTS | BZ_FAULT_LAST_SLOT
  | BZ_FAULT_LAST_LOOP | BZ_TRACE_CTL_ARM | BZ_TRACE_CTL_FORCE | BZ_TRACE_CTL_KIND | BZ_TRACE_CTL_DIR
  | BZ_TRACE_CTL_PRE | BZ_TRACE_STAT_DONE | BZ_TRACE_STAT_TRIGGERED | BZ_TRACE_STAT_TRIG_IDX
  | BZ_TRACE_STAT_PRE_VALID | MO_MODE_MODE | MO_MODE_TARGET_LAYER | MO_MODE_SEEK_PEND | MO_MODE_POS_VALID
  | MO_MODE_HOMED | MO_MODE_GUARD_OK | MO_MODE_HANDOVER | MO_MODE_HEAD_BUSY | MO_CTL_RELOCATE | MO_CTL_HOME
  | MO_CTL_PARK | MO_CTL_STOP | MO_ADDR_LAYER | MO_ADDR_BAND | MO_ADDR_STRIPE | MO_ADDR_AGE | MO_SLED_CFG_PROFILE
  | MO_SLED_CFG_VMAX | MO_SLED_CFG_ACCEL | MO_SLED_CFG_JERK | MO_COIL_CFG_STRONG_ON | MO_COIL_CFG_HYST
  | MO_SEEK_CFG_SHORT_MAX | MO_SEEK_CFG_FINE_VMAX | MO_SEEK_CFG_CENTRE_TICKS | MO_SEEK_CFG_SLED_SETTLE
  | MO_FOCUS_CFG_SWEEP_RATE | MO_FOCUS_CFG_SUM_QUAL | MO_FOCUS_CFG_FE_QUAL | MO_FOCUS_CFG_FOCUS_TRIES
  | MO_FOCUS_CFG_LOSS_TICKS | MO_JUMP_CFG_KICK_AMP | MO_JUMP_CFG_KICK_TICKS | MO_JUMP_CFG_BRAKE_TICKS
  | MO_JUMP_CFG_COAST_MAX | MO_SETTLE_CFG_BRAKE_LEVEL | MO_SETTLE_CFG_SETTLE_FE | MO_SETTLE_CFG_SETTLE_TICKS
  | MO_HANDOVER_BLEND_TICKS | MO_HANDOVER_BLEND_SLEW | MO_HANDOVER_HOLDOFF | MO_STAT_REFUSALS | MO_STAT_GUARD_TRIPS
  | MO_STAT_SLIPS | MO_STAT_CTL_REJ | TQ_CTL_RUN | TQ_CTL_DIR | TQ_CTL_SPEED_CMD | TQ_CTL_CHOP_TEST | TQ_CTL_CLEAR
  | TQ_STAT_STATE | TQ_STAT_AT_SPEED | TQ_STAT_ABNORMAL | TQ_STAT_CHOP_FAULT | TQ_STAT_DEPTH_LIM | TQ_STAT_BUS_WARN
  | TQ_STAT_ANGLE_NEW | TQ_STAT_LOW30 | TQ_STAT_REVERSE | TQ_STAT_SPEED | TQ_MOTOR_POLE_PAIRS | TQ_MOTOR_KE_NOM
  | TQ_MOTOR_KE_MEAS | TQ_START_CFG_I_ALIGN | TQ_START_CFG_ALIGN_MS | TQ_START_CFG_OBS_MIN | TQ_START_CFG_CATCH_MIN
  | TQ_RUN_CFG_ACCEL | TQ_RUN_CFG_DECEL | TQ_RUN_CFG_SPEED_TOL | TQ_RUN_CFG_T_DEAD | TQ_BRAKE_CFG_BRAKE_ILIM
  | TQ_BRAKE_CFG_STILL_I | TQ_BRAKE_CFG_R_CHOP | TQ_ERR_PRED | TQ_ERR_START_FAILS | TQ_ERR_CATCHES | TQ_ERR_CTL_REJ
  | TQ_DOOR_DOOR_CLOSED | TQ_DOOR_LOCK_ENGAGED | TQ_DOOR_TRAY_IN | TQ_DOOR_TRAY_OUT | TQ_DOOR_CART_PRESENT
  | TQ_DOOR_EJ_REQ | TQ_DOOR_FORCED | TQ_DOOR_TRAY_FAIL | TQ_DOOR_LED | FC_SYNC_CFG_SYNC_WIN | FC_SYNC_CFG_SYNC_ERR
  | FC_EQ_CFG_MU_SHIFT | FC_EQ_CFG_ADAPT_EN | FC_EQ_CFG_XT_EN | FC_EQ_CFG_MU_E3 | FC_TARGET_TLEN | FC_TARGET_G0
  | FC_TARGET_G1 | FC_TARGET_G2 | FC_TARGET_G3 | FC_TARGET_G4 | FC_DEFECT_CFG_DROP_TH | FC_DEFECT_CFG_REC_TH
  | FC_DEFECT_CFG_GUARD | FC_DEFECT_CFG_SHADOW | FC_DEFECT_CFG_ENTER_N | FC_DEFECT_CFG_EXIT_N | FC_E2_CFG_E2_DROP_TH
  | FC_E2_CFG_E2_GUARD | FC_E2_CFG_E2_SHADOW | FC_RECOV_DEF_LAST_STEP | FC_RECOV_DEF_TIME | FC_RECOV_E4_POINTS
  | FC_STAT_SYNC_DISPLACED | FC_STAT_SYNC_MISS | FC_STAT_OWN_SPANS | FC_STAT_SHADOW_SPANS | FC_LANE_GAIN | FC_LANE_DC
  | FC_LANE_ASYM | LD_POOL_E0_ITER | LD_POOL_E1_ITER | LD_POOL_ACTIVE | LD_POOL_HOLD_USED | LD_STAT_MISCORRECT
  | LD_STAT_HOLD_FULL | FC_WR_CFG_VERIFY | FC_WR_CFG_FUA_TRIES | FC_WR_CFG_VFY_ITER | FC_WR_CFG_VFY_SPAN
  | FC_WR_CFG_WRITE_LEAD | FC_WR_CFG_ABANDON_MAX | FC_WR_STAT_ABANDONED | FC_WR_STAT_VFY_FAIL | FC_WR_STAT_SKIPPED
  | FC_WR_STAT_UNDERRUN | FC_RELOC_NEXT_FRONTIER | FC_WS_LAYER_PW_RATIO | FC_WS_LAYER_PM_RATIO | FC_WS_LAYER_PC_RATIO
  | FC_WS_ENTRY_T_START | FC_WS_ENTRY_T_TOP | FC_WS_ENTRY_T_LAST | FC_WS_ENTRY_T_END | FC_WS_ENTRY_T_COOL
  | FC_WR_TEMP_WT_LO | FC_WR_TEMP_WT_HI | FC_WR_TEMP_DIE_WMAX | FC_WR_TEMP_WTEMP_WAIT | CH_CHAIN_W0_VALID
  | CH_CHAIN_W0_K | CH_CHAIN_W0_M | CH_CHAIN_W0_DEGRADED | CH_CHAIN_W5_REB_MEMBER | CH_CHAIN_W5_REB_NEXT
  | CH_CFG_PAD_AFTER | CH_CFG_STAGE_ROWS | CH_CFG_REBUILD_SHARE | CH_CFG_DEGRADED_WR | CH_STAT_LATE_DROPS
  | CH_STAT_PADDED | CH_STAT_PEER_DROPS | CL_CAP_VECTORS | CL_CAP_MAX_IOQ | CL_CAP_MQES | CL_CTL_EN
  | CL_CTL_RECV_TIMEOUT | CL_CTL_OPEN_MAX | CL_STAT_RDY | CL_STAT_STALL_TAGS | CL_STAT_STALL_LOCKS
  | CL_STAT_OUTSTANDING | CL_LOG_STAT_NEWEST | CL_LOG_STAT_LOST | CL_LOG_STAT_HELD | CL_LOCK_STAT_IN_USE
  | CL_LOCK_STAT_STALLS | CL_QFENCE_FENCE_BUSY | CL_QFENCE_FENCE | CL_QSTAT_EXISTS | CL_QSTAT_FROZEN | CL_QSTAT_PRIV
  | CL_QSTAT_OBJ_OPEN | CL_QSTAT_OUTSTANDING | FG_CFG_FULL_FOR_STD | FG_STAT_STD_BUSY | FG_STAT_FULL_BUSY
  | FG_STAT_WAITING | FG_ERR_DECODE_ERRORS | FG_ERR_STORED_BLOCKS | CK_CTL_DISABLE | CK_CTL_MB_HIGH | CK_CTL_MB_AGE
  | CK_STAT_DISABLED | CK_STAT_DRAINING | CK_STAT_MB_USED | CK_STAT_EB_USED | MI_DRAM_CFG_CAP | MI_DRAM_CFG_RATE
  | MI_DRAM_CFG_X8 | MI_DRAM_CFG_RANK2 | MI_SCRUB_CFG_CK_PERIOD | MI_SCRUB_CFG_SRAM_PERIOD | MI_SCRUB_CFG_DRAM_PERIOD
  | MI_SCRUB_CFG_HARD_WINDOW | MI_ERR_ARRAY_FIX | MI_ERR_SRAM_FIX | MI_ERR_DRAM_FIX | MI_ERR_UNCORR
  | MI_REMAP_STAT_DRAM_USED | MI_REMAP_STAT_SRAM_MAX | MI_REMAP_STAT_DRAM_FULL | MI_REMAP_STAT_SRAM_FULL
  | MI_REMAP_STAT_FUSE_ROWS | MI_LAST_ERR_MEMORY | MI_LAST_ERR_CHECK | MI_LAST_ERR_GROUP | MI_LAST_ERR_OUTCOME
  | MI_LAST_ERR_ADDR | MI_LOST_STAT_FULL | MI_LOST_STAT_USED | MI_SCRUB_STAT_CK_PASSES | MI_SCRUB_STAT_SRAM_PASSES
  | MI_SCRUB_STAT_DRAM_PASSES | HM_CTL_RUN | HM_CTL_HOLD | HM_STAT_ADC_GOOD | HM_STAT_RELEASED | HM_STAT_RUNNING
  | HM_STAT_WRITE_LIMITED | HM_STAT_LOAD_SKIP | HM_STAT_HEADROOM | HM_STAT_RUN_AGE | HM_ADC_TRIM_OFFSET
  | HM_ADC_TRIM_GAIN | HM_ADC_TRIM_SKEW | HM_ADC_TRIM_BAD | HM_ADC_TRIM_NOISE | HM_SCALE_TE_GAIN | HM_SCALE_FE_GAIN
  | HM_SCALE_TILT_GAIN | HM_LASER_I_TH | HM_LASER_ETA | HM_LASER_I_MAX | HM_LASER_I_W | HM_PLAN_P_B | HM_PLAN_FOC_OFS
  | HM_PLAN_TILT_OFS | HM_PLAN_S0 | HM_PLAN_S1 | HM_PLAN_S2 | HM_PLAN_S3 | HM_CFG_DELTA_T | HM_CFG_CAL_PERIOD
  | HM_CFG_HR_WARN | HM_CFG_HR_MIN | HM_CFG_IDLE_MIN | HM_CFG_FRICTION_MAX | TH_CTL_DWELL | TH_CTL_SENSOR_K
  | TH_CTL_AMB_TIMEOUT | TH_CTL_AMB_DEFAULT | TH_STAT_STEP | TH_STAT_SRC | TH_STAT_REASON | TH_STAT_AMB_STALE
  | TH_STAT_STEP_UPS | TH_AMBIENT_TEMP | TH_LIMIT_BASE | TH_LIMIT_STEP_W | TH_LIMIT_HYST | TH_LIMIT_RATE_LIM
  | TH_ZONE_TEMP | TH_ZONE_DEMAND | TH_ZONE_HAS_SENSOR | TH_ZONE_BROKEN | TH_ZONE_RATE | PM_STAT_STATE | PM_STAT_D3
  | PM_STAT_LAST_WAKE | PM_STAT_TRANSITIONS | PM_CFG_MAX_STATE | PM_CFG_P1_IDLE | PM_CFG_P2_IDLE | PM_CFG_SPINDOWN
  | PM_CFG_SPINDOWN_D3 | PM_POWER_POWER | PM_POWER_PEAK | KP_STAT_DEV | KP_STAT_PROFILE | KP_STAT_ALARM
  | KP_STAT_CORE_DIP | KP_STAT_LAST_SF | KP_CORES_CROWN | KP_CORES_HALLMARK | KP_CORES_CLASP | KP_CORES_TORC
  | KP_CORES_BEZEL | KP_CAUSE_CODE | KP_CAUSE_UNIT | KP_CAUSE_TIME | KP_DIAG_DISAGREE | KP_DIAG_INHIBIT_FAIL
  | KP_DIAG_CORE_DIPS | KP_DIAG_BUS_DIPS | KP_CFG_DIP_SETTLE | KP_CFG_RELEASE_HOLD | KP_ILIM_I_FT_MAX
  | KP_ILIM_I_TILT_MAX | LK_BOOT_STAT_FAIL0 | LK_BOOT_STAT_FAIL1 | LK_BOOT_STAT_SLOT | LK_BOOT_STAT_KEY_SLOT
  | LK_BOOT_STAT_RECOVERY | LK_BOOT_STAT_LOCKED | LK_BOOT_STAT_DEBUG | LK_BOOT_STAT_SVN | LK_BOOT_STAT_ROLLBACK
  | LK_FUSE_STAT_LIFECYCLE | LK_FUSE_STAT_DEBUG_DISABLE | LK_FUSE_STAT_OWNER_VALID | LK_FUSE_STAT_OWNER_REVOKED
  | LK_FUSE_STAT_OWNER_SPOILED | LK_FUSE_STAT_SKIPPED | LK_CTL_LOCK | SY_RESET_LAST | SY_RESET_SUPPLY
  | SY_RESET_HOST_RESETS | CM_CFG_NOTIFY_SEV | CM_CFG_DEPTH | CM_CFG_REFILL | CM_STAT_STOPPED | CM_STAT_NOTIFY
  | CM_STAT_STAGE_USED | CM_STAT_DROPPED | CM_SEQ_NEWEST | CM_SEQ_OLDEST | CM_RATE_OVR_CODE | CM_RATE_OVR_DEPTH
  | CM_RATE_OVR_REFILL | MG_CFG_ADDR | MG_CFG_SPEED | MG_CFG_GPIO_FN | MG_GPIO_OUT | MG_GPIO_IN | MG_STAT_MSGS
  | MG_STAT_PEC_ERR | MG_STAT_LAST_OP | SL_CTL_LINK_EN | SL_CTL_RETRY_MAX | SL_CTL_MARGIN_START | SL_CTL_FULL_TRAIN
  | SL_CTL_RETRAIN | SL_MARGIN_EYE_W | SL_MARGIN_EYE_H | SL_MARGIN_PEND_EYE_W | SL_MARGIN_PEND_EYE_H
  | SL_STATUS_STATE | SL_STATUS_PRESENT | SL_STATUS_BAIL_SAFE | SL_STATUS_MARGIN_DONE | SL_STATUS_LATENCY
  | SL_STATUS_BAIL_REV | SL_ERR_CURR_BAD | SL_ERR_FRAME_BAD | SY_POP_HEAD | SY_POP_SPIN | BZ_LOOP_REF_REF
  | BZ_LOOP_FEL_FE_LIMIT | BZ_LAW_STRUCT_WORD | BZ_LAW_COEF_C | BZ_RUN_FOC_T | BZ_RUN_TRK_T | BZ_TRACE_LEVEL_LEVEL
  | BZ_TRACE_NODE_HI | BZ_TRACE_NODE_LO | BZ_TRACE_TIME_TIME | BZ_TRACE_RAM_W | MO_POS_POS | MO_BAND_AT_0_BAND_AT_0
  | MO_GUARD_WG_TE | MO_GUARD_WG_FE | MO_GUARD2_WG_SETTLE | MO_SHOCK_SHOCK_LIM | MO_SHOCK_SHOCK_SETTLE
  | MO_LAWSEL0_FOC_FOLLOW | MO_LAWSEL0_FOC_CAPTURE | MO_LAWSEL0_FOC_SETTLE | MO_LAWSEL0_TRK_FOLLOW
  | MO_LAWSEL0_TRK_SEEK | MO_LAWSEL0_TILT | MO_LAWSEL0_SLED | MO_LAWSEL1_LPWR_READ | MO_LAWSEL1_LPWR_WRITE
  | MO_HOME_LATCH | TQ_MOTOR2_R_PH | TQ_MOTOR2_L_PH | TQ_LOOP_CFG_CUR_BW | TQ_LOOP_CFG_SPD_BW | TQ_DOOR_CTL_EJECT
  | TQ_DOOR_CTL_LOAD | TQ_CORE_FAILED | TQ_CORE_OVERRUNS | FC_E4_PT_FOC_OFS | FC_E4_PT_TILT_OFS | FC_TAPS_HI
  | FC_TAPS_LO | LD_CW_FAIL_COUNT | LD_STEP_CNT_COUNT | CH_CHAIN_MEM_STATE0 | CH_CHAIN_MEM_SPINDLE0
  | CH_CHAIN_MEM_SURFACE0 | CH_CHAIN_MEM_STATE1 | CH_CHAIN_MEM_SPINDLE1 | CH_CHAIN_MEM_SURFACE1 | CH_CHAIN_MEM_STATE2
  | CH_CHAIN_MEM_SPINDLE2 | CH_CHAIN_MEM_SURFACE2 | CH_CHAIN_MEM_STATE3 | CH_CHAIN_MEM_SPINDLE3
  | CH_CHAIN_MEM_SURFACE3 | CL_AQ_SQ_BASE_BASE | CL_AQ_CQ_BASE_BASE | CL_AQ_SIZE_SIZE | CL_DOORBELL_CQ_HEAD
  | CL_DOORBELL_SQ_TAIL | MSIX_TABLE_DATA | MSIX_TABLE_ADDR | MSIX_TABLE_CTRL | MSIX_PBA_BITS | FG_IN_BYTES_COUNT
  | FG_OUT_BYTES_COUNT | HM_ADC_SEL_D3O | HM_ADC_SEL_D3E | HM_ADC_SEL_D2O | HM_ADC_SEL_D2E | HM_ADC_SEL_D1O
  | HM_ADC_SEL_D1E | HM_ADC_SEL_D0O | HM_ADC_SEL_D0E | HM_LIFE_DAYS | HM_LIFE_LIMIT | HM_SPIN_LIFE_DAYS
  | HM_SPIN_LIFE_LIMIT | HM_SPIN_LIFE_FRICTION | HM_DEV_LIFE_DAYS | HM_DEV_LIFE_LIMIT | HM_DEV_LIFE_JRN_WEAR
  | HM_LANE_INIT_GAIN | HM_LANE_INIT_DC | HM_LANE_INIT_ASYM | HM_TAPS_HI | HM_TAPS_LO | TH_BROKEN_BITS | PM_CTL_WAKE
  | KP_SPIN_L_BITS | KP_SPIN_S_BITS | KP_LOCK_HOLD_BITS | KP_PERMIT_BITS | KP_HEAD_LATCH_BITS
deriving DecidableEq, Repr

end Sys2Proof.Machine
end

