-- ==== Sys2Proof/Machine/RegMap.lean ====
section
/-! DEFINITION. The register maps of the chapters as tables: for every register its BAR0 offset, its array dimensions and
its width; for every field its register, its lowest bit, its width, its Access, Survives and Retention columns, its reset
value and the range that R466 checks. The rows follow the register maps R28, R86, R117, R149, R177, R208, R230, R256,
R296, R315, R339, R362, R386, R401, R429 and R451. -/

namespace Sys2Proof.Machine

/-- The Access column (R7). -/
inductive Access where
 | RO | RW | RWL | RV | W1C | WO | RC
deriving DecidableEq, Repr

/-- The Survives column (R14): the letters it shows. R258 gives the MSI-X table and its pending bits no column: `sk` is theirs, after
R424, by which S and K leave the PCI Express function unchanged (DESIGN CHOICE, log entry 6). -/
inductive Survives where
 | none | k | sk | hfs | hfsk | bhfsk | cbhfsk
deriving DecidableEq, Repr

/-- The Retention column (R15): the power states it lists. The MSI-X table and its pending bits, which have none, are given P1 to P3,
where the function keeps its state (DESIGN CHOICE, log entry 6). -/
inductive Retention where
 | none | p12 | p123 | p1234
deriving DecidableEq, Repr

/-- The values a host write may carry (R466): every value, a range, or a range of the two's-complement reading. -/
inductive Range where
 | all
 | within (lo hi : Nat)
 | signed (lo hi : Int)
deriving DecidableEq, Repr

/-- One row of a register map. -/
structure FieldInfo where
  /-- The register that holds the field. -/
  reg : Reg
  /-- Its lowest bit in the register. -/
  lo : Nat
  width : Nat
  access : Access
  survives : Survives
  retention : Retention
  /-- The reset value, or the image default (R13, R412); where it depends on the instance, see `Fld.resetVal`. -/
  dflt : Nat
  /-- Whether the Reset column reads `image`: a configuration record may replace the default. -/
  image : Bool
  range : Range
deriving DecidableEq, Repr

/-- The row of every field. -/
def Fld.info : Fld → FieldInfo
  | .SY_DTIME_DTIME => ⟨.SY_DTIME, 0, 64, .RO, .bhfsk, .p1234, 0, false, .all⟩
  | .SY_LIBTIME_OFS_OFFSET => ⟨.SY_LIBTIME_OFS, 0, 64, .RW, .bhfsk, .p1234, 0, false, .all⟩
  | .SY_TIME_CTL_LT_VALID => ⟨.SY_TIME_CTL, 31, 1, .RO, .bhfsk, .p1234, 0, false, .all⟩
  | .SY_TIME_CTL_PTM_FAILS => ⟨.SY_TIME_CTL, 16, 8, .RC, .bhfsk, .p1234, 0, false, .all⟩
  | .SY_TIME_CTL_PTM_PERIOD => ⟨.SY_TIME_CTL, 8, 8, .RW, .bhfsk, .p1234, 1, true, .all⟩
  | .SY_TIME_CTL_PTM_EN => ⟨.SY_TIME_CTL, 1, 1, .RW, .bhfsk, .p1234, 1, true, .all⟩
  | .SY_TIME_CTL_PTM_NOW => ⟨.SY_TIME_CTL, 0, 1, .WO, .none, .none, 0, false, .all⟩
  | .SY_NODE_NODE_HI => ⟨.SY_NODE, 4, 6, .RO, .bhfsk, .p1234, 0, true, .all⟩
  | .SY_NODE_NODE_LO => ⟨.SY_NODE, 0, 4, .RO, .bhfsk, .p1234, 0, false, .all⟩
  | .HL_CTL_LINK_EN => ⟨.HL_CTL, 31, 1, .RW, .hfsk, .p1234, 1, true, .all⟩
  | .HL_CTL_RETRY_MAX => ⟨.HL_CTL, 16, 4, .RW, .hfsk, .p1234, 3, true, .within 1 15⟩
  | .HL_CTL_MARGIN_START => ⟨.HL_CTL, 2, 1, .WO, .none, .none, 0, false, .all⟩
  | .HL_CTL_FULL_TRAIN => ⟨.HL_CTL, 1, 1, .WO, .none, .none, 0, false, .all⟩
  | .HL_CTL_RETRAIN => ⟨.HL_CTL, 0, 1, .WO, .none, .none, 0, false, .all⟩
  | .HL_STATUS_STATE => ⟨.HL_STATUS, 28, 4, .RO, .hfsk, .p12, 0, false, .all⟩
  | .HL_STATUS_EPOCH => ⟨.HL_STATUS, 24, 4, .RO, .hfsk, .p12, 0, false, .all⟩
  | .HL_STATUS_RATE => ⟨.HL_STATUS, 22, 2, .RO, .hfsk, .p12, 0, false, .all⟩
  | .HL_STATUS_PRESENT => ⟨.HL_STATUS, 21, 1, .RO, .hfsk, .p12, 0, false, .all⟩
  | .HL_STATUS_PEND_SAFE => ⟨.HL_STATUS, 20, 1, .RO, .hfsk, .p12, 0, false, .all⟩
  | .HL_STATUS_MARGIN_DONE => ⟨.HL_STATUS, 19, 1, .RO, .hfsk, .p12, 0, false, .all⟩
  | .HL_STATUS_LATENCY => ⟨.HL_STATUS, 8, 8, .RO, .hfsk, .p12, 0, false, .all⟩
  | .HL_STATUS_PEND_REV => ⟨.HL_STATUS, 0, 8, .RO, .hfsk, .p12, 0, false, .all⟩
  | .HL_ERR_SERVO_BAD => ⟨.HL_ERR, 24, 8, .RC, .hfsk, .p1234, 0, false, .all⟩
  | .HL_ERR_TIMING_BAD => ⟨.HL_ERR, 16, 8, .RC, .hfsk, .p1234, 0, false, .all⟩
  | .HL_ERR_SAMPLE_BAD => ⟨.HL_ERR, 8, 8, .RC, .hfsk, .p1234, 0, false, .all⟩
  | .HL_ERR_STALE => ⟨.HL_ERR, 0, 8, .RC, .hfsk, .p1234, 0, false, .all⟩
  | .HL_MARGIN_EYE_W => ⟨.HL_MARGIN, 24, 8, .RO, .hfsk, .p12, 0, false, .all⟩
  | .HL_MARGIN_EYE_H => ⟨.HL_MARGIN, 16, 8, .RO, .hfsk, .p12, 0, false, .all⟩
  | .HL_MARGIN_PEND_EYE_W => ⟨.HL_MARGIN, 8, 8, .RO, .hfsk, .p12, 0, false, .all⟩
  | .HL_MARGIN_PEND_EYE_H => ⟨.HL_MARGIN, 0, 8, .RO, .hfsk, .p12, 0, false, .all⟩
  | .BZ_LAW_H0_VALID => ⟨.BZ_LAW_H0, 31, 1, .RO, .hfsk, .p12, 0, true, .all⟩
  | .BZ_LAW_H0_COST => ⟨.BZ_LAW_H0, 16, 8, .RO, .hfsk, .p12, 0, true, .all⟩
  | .BZ_LAW_H0_NSTAGES => ⟨.BZ_LAW_H0, 8, 8, .RO, .hfsk, .p12, 0, true, .all⟩
  | .BZ_LAW_H0_LOOP_KIND => ⟨.BZ_LAW_H0, 4, 4, .RW, .hfsk, .p12, 0, true, .within 0 4⟩
  | .BZ_LAW_H0_COMMIT => ⟨.BZ_LAW_H0, 0, 1, .WO, .none, .none, 0, false, .all⟩
  | .BZ_LAW_H1_COEF_HOLD => ⟨.BZ_LAW_H1, 31, 1, .RW, .hfsk, .p12, 0, false, .all⟩
  | .BZ_LAW_H1_LAW_ID => ⟨.BZ_LAW_H1, 0, 16, .RW, .hfsk, .p12, 0, true, .all⟩
  | .BZ_HEAD_STAT_OWNER => ⟨.BZ_HEAD_STAT, 27, 5, .RO, .hfsk, .p12, 0, true, .all⟩
  | .BZ_HEAD_STAT_SLOT => ⟨.BZ_HEAD_STAT, 24, 3, .RO, .hfsk, .p12, 0, true, .all⟩
  | .BZ_HEAD_STAT_ADOPT_PARK => ⟨.BZ_HEAD_STAT, 23, 1, .RO, .hfsk, .p12, 0, false, .all⟩
  | .BZ_HEAD_STAT_LAW_WR_REJ => ⟨.BZ_HEAD_STAT, 12, 8, .RC, .hfsk, .p12, 0, false, .all⟩
  | .BZ_HEAD_STAT_COST => ⟨.BZ_HEAD_STAT, 0, 12, .RO, .hfsk, .p12, 0, false, .all⟩
  | .BZ_LEARN_FOC_MODE => ⟨.BZ_LEARN, 30, 2, .RW, .hfsk, .p12, 0, false, .within 0 2⟩
  | .BZ_LEARN_TRK_MODE => ⟨.BZ_LEARN, 28, 2, .RW, .hfsk, .p12, 0, false, .within 0 2⟩
  | .BZ_LEARN_FOC_BUSY => ⟨.BZ_LEARN, 27, 1, .RO, .hfsk, .p12, 0, false, .all⟩
  | .BZ_LEARN_TRK_BUSY => ⟨.BZ_LEARN, 26, 1, .RO, .hfsk, .p12, 0, false, .all⟩
  | .BZ_LEARN_FOC_FAIL => ⟨.BZ_LEARN, 25, 1, .W1C, .hfsk, .p12, 0, false, .all⟩
  | .BZ_LEARN_TRK_FAIL => ⟨.BZ_LEARN, 24, 1, .W1C, .hfsk, .p12, 0, false, .all⟩
  | .BZ_LEARN_LEARN_REVS => ⟨.BZ_LEARN, 8, 8, .RW, .hfsk, .p12, 16, true, .within 1 64⟩
  | .BZ_LEARN_PASSES => ⟨.BZ_LEARN, 0, 8, .RO, .hfsk, .p12, 0, false, .all⟩
  | .BZ_LOOP_CFG_LAW => ⟨.BZ_LOOP_CFG, 28, 4, .RO, .hfsk, .p12, 15, false, .all⟩
  | .BZ_LOOP_CFG_NEXT => ⟨.BZ_LOOP_CFG, 24, 4, .RO, .hfsk, .p12, 15, false, .all⟩
  | .BZ_LOOP_CFG_INV => ⟨.BZ_LOOP_CFG, 23, 1, .RW, .hfsk, .p12, 0, true, .all⟩
  | .BZ_LOOP_CFG_FE_TICKS => ⟨.BZ_LOOP_CFG, 0, 16, .RW, .hfsk, .p12, 0, true, .within 1 65535⟩
  | .BZ_LOOP_STAT_FE_COUNT => ⟨.BZ_LOOP_STAT, 16, 16, .RO, .hfsk, .p12, 0, false, .all⟩
  | .BZ_LOOP_STAT_FE_FAULT => ⟨.BZ_LOOP_STAT, 15, 1, .W1C, .hfsk, .p12, 0, false, .all⟩
  | .BZ_LOOP_STAT_OUT_SAT => ⟨.BZ_LOOP_STAT, 14, 1, .RO, .hfsk, .p12, 0, false, .all⟩
  | .BZ_LOOP_STAT_INT_HOLD => ⟨.BZ_LOOP_STAT, 13, 1, .RO, .hfsk, .p12, 0, false, .all⟩
  | .BZ_LOOP_SAT_STAGE_SAT => ⟨.BZ_LOOP_SAT, 0, 16, .W1C, .hfsk, .p12, 0, false, .all⟩
  | .BZ_CTL_OVR_WINDOW => ⟨.BZ_CTL, 16, 16, .RW, .hfsk, .p12, 400, true, .within 1 65535⟩
  | .BZ_BUDGET_LOAD => ⟨.BZ_BUDGET, 20, 12, .RO, .hfsk, .p12, 0, false, .all⟩
  | .BZ_BUDGET_PEAK => ⟨.BZ_BUDGET, 8, 12, .RC, .hfsk, .p12, 0, false, .all⟩
  | .BZ_BUDGET_DEFERS => ⟨.BZ_BUDGET, 0, 8, .RC, .hfsk, .p12, 0, false, .all⟩
  | .BZ_FAULT_FAILED => ⟨.BZ_FAULT, 31, 1, .RO, .hfsk, .p12, 0, false, .all⟩
  | .BZ_FAULT_OVERRUNS => ⟨.BZ_FAULT, 16, 8, .RC, .hfsk, .p12, 0, false, .all⟩
  | .BZ_FAULT_FOLLOW_FAULTS => ⟨.BZ_FAULT, 8, 8, .RC, .hfsk, .p12, 0, false, .all⟩
  | .BZ_FAULT_LAST_SLOT => ⟨.BZ_FAULT, 5, 3, .RO, .hfsk, .p12, 0, false, .all⟩
  | .BZ_FAULT_LAST_LOOP => ⟨.BZ_FAULT, 2, 3, .RO, .hfsk, .p12, 0, false, .all⟩
  | .BZ_TRACE_CTL_ARM => ⟨.BZ_TRACE_CTL, 31, 1, .RW, .hfsk, .p12, 0, false, .all⟩
  | .BZ_TRACE_CTL_FORCE => ⟨.BZ_TRACE_CTL, 30, 1, .WO, .none, .none, 0, false, .all⟩
  | .BZ_TRACE_CTL_KIND => ⟨.BZ_TRACE_CTL, 28, 2, .RW, .hfsk, .p12, 0, false, .all⟩
  | .BZ_TRACE_CTL_DIR => ⟨.BZ_TRACE_CTL, 27, 1, .RW, .hfsk, .p12, 0, false, .all⟩
  | .BZ_TRACE_CTL_PRE => ⟨.BZ_TRACE_CTL, 13, 14, .RW, .hfsk, .p12, 4096, false, .within 0 8191⟩
  | .BZ_TRACE_STAT_DONE => ⟨.BZ_TRACE_STAT, 31, 1, .RO, .hfsk, .p12, 0, false, .all⟩
  | .BZ_TRACE_STAT_TRIGGERED => ⟨.BZ_TRACE_STAT, 30, 1, .RO, .hfsk, .p12, 0, false, .all⟩
  | .BZ_TRACE_STAT_TRIG_IDX => ⟨.BZ_TRACE_STAT, 16, 13, .RO, .hfsk, .p12, 0, false, .all⟩
  | .BZ_TRACE_STAT_PRE_VALID => ⟨.BZ_TRACE_STAT, 0, 13, .RO, .hfsk, .p12, 0, false, .all⟩
  | .MO_MODE_MODE => ⟨.MO_MODE, 28, 4, .RO, .hfsk, .p12, 0, false, .all⟩
  | .MO_MODE_TARGET_LAYER => ⟨.MO_MODE, 24, 4, .RO, .hfsk, .p12, 0, false, .all⟩
  | .MO_MODE_SEEK_PEND => ⟨.MO_MODE, 23, 1, .RO, .hfsk, .p12, 0, false, .all⟩
  | .MO_MODE_POS_VALID => ⟨.MO_MODE, 22, 1, .RO, .hfsk, .p12, 0, false, .all⟩
  | .MO_MODE_HOMED => ⟨.MO_MODE, 21, 1, .RO, .hfsk, .p12, 0, false, .all⟩
  | .MO_MODE_GUARD_OK => ⟨.MO_MODE, 20, 1, .RO, .hfsk, .p12, 0, false, .all⟩
  | .MO_MODE_HANDOVER => ⟨.MO_MODE, 19, 1, .RO, .hfsk, .p12, 0, false, .all⟩
  | .MO_MODE_HEAD_BUSY => ⟨.MO_MODE, 18, 1, .RO, .hfsk, .p12, 0, false, .all⟩
  | .MO_CTL_RELOCATE => ⟨.MO_CTL, 3, 1, .WO, .none, .none, 0, false, .all⟩
  | .MO_CTL_HOME => ⟨.MO_CTL, 2, 1, .WO, .none, .none, 0, false, .all⟩
  | .MO_CTL_PARK => ⟨.MO_CTL, 1, 1, .WO, .none, .none, 0, false, .all⟩
  | .MO_CTL_STOP => ⟨.MO_CTL, 0, 1, .WO, .none, .none, 0, false, .all⟩
  | .MO_ADDR_LAYER => ⟨.MO_ADDR, 60, 4, .RO, .hfsk, .p12, 0, false, .all⟩
  | .MO_ADDR_BAND => ⟨.MO_ADDR, 45, 15, .RO, .hfsk, .p12, 0, false, .all⟩
  | .MO_ADDR_STRIPE => ⟨.MO_ADDR, 25, 20, .RO, .hfsk, .p12, 0, false, .all⟩
  | .MO_ADDR_AGE => ⟨.MO_ADDR, 0, 25, .RO, .hfsk, .p12, 33554431, false, .all⟩
  | .MO_SLED_CFG_PROFILE => ⟨.MO_SLED_CFG, 31, 1, .RW, .hfsk, .p12, 0, true, .all⟩
  | .MO_SLED_CFG_VMAX => ⟨.MO_SLED_CFG, 19, 12, .RW, .hfsk, .p12, 2000, true, .within 100 4000⟩
  | .MO_SLED_CFG_ACCEL => ⟨.MO_SLED_CFG, 11, 8, .RW, .hfsk, .p12, 40, true, .within 1 255⟩
  | .MO_SLED_CFG_JERK => ⟨.MO_SLED_CFG, 3, 8, .RW, .hfsk, .p12, 20, true, .within 1 255⟩
  | .MO_COIL_CFG_STRONG_ON => ⟨.MO_COIL_CFG, 20, 12, .RW, .hfsk, .p12, 600, true, .within 100 4000⟩
  | .MO_COIL_CFG_HYST => ⟨.MO_COIL_CFG, 12, 8, .RW, .hfsk, .p12, 120, true, .all⟩
  | .MO_SEEK_CFG_SHORT_MAX => ⟨.MO_SEEK_CFG, 24, 8, .RW, .hfsk, .p12, 100, true, .within 1 150⟩
  | .MO_SEEK_CFG_FINE_VMAX => ⟨.MO_SEEK_CFG, 16, 8, .RW, .hfsk, .p12, 64, true, .within 8 102⟩
  | .MO_SEEK_CFG_CENTRE_TICKS => ⟨.MO_SEEK_CFG, 8, 8, .RW, .hfsk, .p12, 40, true, .within 1 255⟩
  | .MO_SEEK_CFG_SLED_SETTLE => ⟨.MO_SEEK_CFG, 0, 8, .RW, .hfsk, .p12, 20, true, .within 1 255⟩
  | .MO_FOCUS_CFG_SWEEP_RATE => ⟨.MO_FOCUS_CFG, 24, 8, .RW, .hfsk, .p12, 12, true, .within 1 255⟩
  | .MO_FOCUS_CFG_SUM_QUAL => ⟨.MO_FOCUS_CFG, 16, 8, .RW, .hfsk, .p12, 32, true, .within 1 255⟩
  | .MO_FOCUS_CFG_FE_QUAL => ⟨.MO_FOCUS_CFG, 8, 8, .RW, .hfsk, .p12, 16, true, .within 1 127⟩
  | .MO_FOCUS_CFG_FOCUS_TRIES => ⟨.MO_FOCUS_CFG, 4, 4, .RW, .hfsk, .p12, 3, true, .within 1 15⟩
  | .MO_FOCUS_CFG_LOSS_TICKS => ⟨.MO_FOCUS_CFG, 0, 4, .RW, .hfsk, .p12, 8, true, .within 1 15⟩
  | .MO_JUMP_CFG_KICK_AMP => ⟨.MO_JUMP_CFG, 24, 8, .RW, .hfsk, .p12, 24, true, .within 1 127⟩
  | .MO_JUMP_CFG_KICK_TICKS => ⟨.MO_JUMP_CFG, 16, 8, .RW, .hfsk, .p12, 32, true, .within 1 255⟩
  | .MO_JUMP_CFG_BRAKE_TICKS => ⟨.MO_JUMP_CFG, 8, 8, .RW, .hfsk, .p12, 32, true, .within 1 255⟩
  | .MO_JUMP_CFG_COAST_MAX => ⟨.MO_JUMP_CFG, 0, 8, .RW, .hfsk, .p12, 200, true, .within 1 255⟩
  | .MO_SETTLE_CFG_BRAKE_LEVEL => ⟨.MO_SETTLE_CFG, 24, 8, .RW, .hfsk, .p12, 8, true, .within 1 127⟩
  | .MO_SETTLE_CFG_SETTLE_FE => ⟨.MO_SETTLE_CFG, 16, 8, .RW, .hfsk, .p12, 16, true, .within 1 255⟩
  | .MO_SETTLE_CFG_SETTLE_TICKS => ⟨.MO_SETTLE_CFG, 0, 16, .RW, .hfsk, .p12, 160, true, .within 1 65535⟩
  | .MO_HANDOVER_BLEND_TICKS => ⟨.MO_HANDOVER, 24, 8, .RW, .hfsk, .p12, 0, true, .all⟩
  | .MO_HANDOVER_BLEND_SLEW => ⟨.MO_HANDOVER, 8, 16, .RW, .hfsk, .p12, 1024, true, .within 1 65535⟩
  | .MO_HANDOVER_HOLDOFF => ⟨.MO_HANDOVER, 0, 8, .RW, .hfsk, .p12, 40, true, .within 1 255⟩
  | .MO_STAT_REFUSALS => ⟨.MO_STAT, 24, 8, .RC, .hfsk, .p12, 0, false, .all⟩
  | .MO_STAT_GUARD_TRIPS => ⟨.MO_STAT, 16, 8, .RC, .hfsk, .p12, 0, false, .all⟩
  | .MO_STAT_SLIPS => ⟨.MO_STAT, 8, 8, .RC, .hfsk, .p12, 0, false, .all⟩
  | .MO_STAT_CTL_REJ => ⟨.MO_STAT, 0, 8, .RC, .hfsk, .p12, 0, false, .all⟩
  | .TQ_CTL_RUN => ⟨.TQ_CTL, 31, 1, .RW, .hfs, .p12, 0, false, .all⟩
  | .TQ_CTL_DIR => ⟨.TQ_CTL, 30, 1, .RW, .hfs, .p12, 0, false, .all⟩
  | .TQ_CTL_SPEED_CMD => ⟨.TQ_CTL, 16, 12, .RW, .hfsk, .p1234, 2640, true, .within 600 3000⟩
  | .TQ_CTL_CHOP_TEST => ⟨.TQ_CTL, 2, 1, .WO, .none, .none, 0, false, .all⟩
  | .TQ_CTL_CLEAR => ⟨.TQ_CTL, 1, 1, .WO, .none, .none, 0, false, .all⟩
  | .TQ_STAT_STATE => ⟨.TQ_STAT, 28, 4, .RO, .hfsk, .p12, 0, false, .all⟩
  | .TQ_STAT_AT_SPEED => ⟨.TQ_STAT, 27, 1, .RO, .hfsk, .p12, 0, false, .all⟩
  | .TQ_STAT_ABNORMAL => ⟨.TQ_STAT, 26, 1, .W1C, .hfsk, .p12, 0, false, .all⟩
  | .TQ_STAT_CHOP_FAULT => ⟨.TQ_STAT, 25, 1, .RO, .hfsk, .p12, 0, false, .all⟩
  | .TQ_STAT_DEPTH_LIM => ⟨.TQ_STAT, 24, 1, .RO, .hfsk, .p12, 0, false, .all⟩
  | .TQ_STAT_BUS_WARN => ⟨.TQ_STAT, 23, 1, .RO, .hfsk, .p12, 0, false, .all⟩
  | .TQ_STAT_ANGLE_NEW => ⟨.TQ_STAT, 22, 1, .W1C, .hfsk, .p12, 0, false, .all⟩
  | .TQ_STAT_LOW30 => ⟨.TQ_STAT, 21, 1, .RO, .hfsk, .p12, 1, false, .all⟩
  | .TQ_STAT_REVERSE => ⟨.TQ_STAT, 12, 1, .RO, .hfsk, .p12, 0, false, .all⟩
  | .TQ_STAT_SPEED => ⟨.TQ_STAT, 0, 12, .RO, .hfsk, .p12, 0, false, .all⟩
  | .TQ_MOTOR_POLE_PAIRS => ⟨.TQ_MOTOR, 28, 4, .RW, .hfsk, .p1234, 4, true, .within 1 12⟩
  | .TQ_MOTOR_KE_NOM => ⟨.TQ_MOTOR, 14, 14, .RW, .hfsk, .p1234, 5000, true, .within 1000 7999⟩
  | .TQ_MOTOR_KE_MEAS => ⟨.TQ_MOTOR, 0, 14, .RO, .hfsk, .p12, 0, false, .all⟩
  | .TQ_START_CFG_I_ALIGN => ⟨.TQ_START_CFG, 24, 8, .RW, .hfsk, .p1234, 80, true, .within 10 255⟩
  | .TQ_START_CFG_ALIGN_MS => ⟨.TQ_START_CFG, 16, 8, .RW, .hfsk, .p1234, 100, true, .within 10 255⟩
  | .TQ_START_CFG_OBS_MIN => ⟨.TQ_START_CFG, 8, 8, .RW, .hfsk, .p1234, 60, true, .within 25 150⟩
  | .TQ_START_CFG_CATCH_MIN => ⟨.TQ_START_CFG, 0, 8, .RW, .hfsk, .p1234, 60, true, .within 20 200⟩
  | .TQ_RUN_CFG_ACCEL => ⟨.TQ_RUN_CFG, 22, 10, .RW, .hfsk, .p1234, 300, true, .within 10 1000⟩
  | .TQ_RUN_CFG_DECEL => ⟨.TQ_RUN_CFG, 12, 10, .RW, .hfsk, .p1234, 300, true, .within 10 1000⟩
  | .TQ_RUN_CFG_SPEED_TOL => ⟨.TQ_RUN_CFG, 6, 6, .RW, .hfsk, .p1234, 2, true, .within 1 63⟩
  | .TQ_RUN_CFG_T_DEAD => ⟨.TQ_RUN_CFG, 0, 6, .RW, .hfsk, .p1234, 5, true, .within 1 25⟩
  | .TQ_BRAKE_CFG_BRAKE_ILIM => ⟨.TQ_BRAKE_CFG, 19, 13, .RW, .hfsk, .p1234, 750, true, .within 50 8191⟩
  | .TQ_BRAKE_CFG_STILL_I => ⟨.TQ_BRAKE_CFG, 11, 8, .RW, .hfsk, .p1234, 10, true, .within 1 255⟩
  | .TQ_BRAKE_CFG_R_CHOP => ⟨.TQ_BRAKE_CFG, 3, 8, .RW, .hfsk, .p1234, 100, true, .within 10 255⟩
  | .TQ_ERR_PRED => ⟨.TQ_ERR, 24, 8, .RC, .hfsk, .p12, 0, false, .all⟩
  | .TQ_ERR_START_FAILS => ⟨.TQ_ERR, 16, 8, .RC, .hfsk, .p12, 0, false, .all⟩
  | .TQ_ERR_CATCHES => ⟨.TQ_ERR, 8, 8, .RC, .hfsk, .p12, 0, false, .all⟩
  | .TQ_ERR_CTL_REJ => ⟨.TQ_ERR, 0, 8, .RC, .hfsk, .p12, 0, false, .all⟩
  | .TQ_DOOR_DOOR_CLOSED => ⟨.TQ_DOOR, 31, 1, .RO, .hfsk, .p12, 0, false, .all⟩
  | .TQ_DOOR_LOCK_ENGAGED => ⟨.TQ_DOOR, 30, 1, .RO, .hfsk, .p12, 0, false, .all⟩
  | .TQ_DOOR_TRAY_IN => ⟨.TQ_DOOR, 29, 1, .RO, .hfsk, .p12, 0, false, .all⟩
  | .TQ_DOOR_TRAY_OUT => ⟨.TQ_DOOR, 28, 1, .RO, .hfsk, .p12, 0, false, .all⟩
  | .TQ_DOOR_CART_PRESENT => ⟨.TQ_DOOR, 27, 1, .RO, .hfsk, .p12, 0, false, .all⟩
  | .TQ_DOOR_EJ_REQ => ⟨.TQ_DOOR, 26, 1, .W1C, .hfsk, .p12, 0, false, .all⟩
  | .TQ_DOOR_FORCED => ⟨.TQ_DOOR, 25, 1, .W1C, .hfsk, .p12, 0, false, .all⟩
  | .TQ_DOOR_TRAY_FAIL => ⟨.TQ_DOOR, 24, 1, .W1C, .hfsk, .p12, 0, false, .all⟩
  | .TQ_DOOR_LED => ⟨.TQ_DOOR, 20, 4, .RO, .hfsk, .p12, 0, false, .all⟩
  | .FC_SYNC_CFG_SYNC_WIN => ⟨.FC_SYNC_CFG, 24, 6, .RV, .hfsk, .p12, 8, true, .within 0 32⟩
  | .FC_SYNC_CFG_SYNC_ERR => ⟨.FC_SYNC_CFG, 20, 4, .RV, .hfsk, .p12, 6, true, .within 0 12⟩
  | .FC_EQ_CFG_MU_SHIFT => ⟨.FC_EQ_CFG, 27, 5, .RV, .hfsk, .p12, 12, true, .within 6 20⟩
  | .FC_EQ_CFG_ADAPT_EN => ⟨.FC_EQ_CFG, 26, 1, .RV, .hfsk, .p12, 1, true, .all⟩
  | .FC_EQ_CFG_XT_EN => ⟨.FC_EQ_CFG, 25, 1, .RV, .hfsk, .p12, 1, true, .all⟩
  | .FC_EQ_CFG_MU_E3 => ⟨.FC_EQ_CFG, 20, 5, .RV, .hfsk, .p12, 9, true, .within 6 20⟩
  | .FC_TARGET_TLEN => ⟨.FC_TARGET, 30, 2, .RV, .hfsk, .p12, 1, true, .within 0 2⟩
  | .FC_TARGET_G0 => ⟨.FC_TARGET, 24, 6, .RV, .hfsk, .p12, 4, true, .all⟩
  | .FC_TARGET_G1 => ⟨.FC_TARGET, 18, 6, .RV, .hfsk, .p12, 8, true, .all⟩
  | .FC_TARGET_G2 => ⟨.FC_TARGET, 12, 6, .RV, .hfsk, .p12, 8, true, .all⟩
  | .FC_TARGET_G3 => ⟨.FC_TARGET, 6, 6, .RV, .hfsk, .p12, 4, true, .all⟩
  | .FC_TARGET_G4 => ⟨.FC_TARGET, 0, 6, .RV, .hfsk, .p12, 0, true, .all⟩
  | .FC_DEFECT_CFG_DROP_TH => ⟨.FC_DEFECT_CFG, 28, 4, .RV, .hfsk, .p12, 8, true, .within 1 15⟩
  | .FC_DEFECT_CFG_REC_TH => ⟨.FC_DEFECT_CFG, 24, 4, .RV, .hfsk, .p12, 10, true, .within 1 15⟩
  | .FC_DEFECT_CFG_GUARD => ⟨.FC_DEFECT_CFG, 16, 8, .RV, .hfsk, .p12, 24, true, .all⟩
  | .FC_DEFECT_CFG_SHADOW => ⟨.FC_DEFECT_CFG, 8, 8, .RV, .hfsk, .p12, 16, true, .all⟩
  | .FC_DEFECT_CFG_ENTER_N => ⟨.FC_DEFECT_CFG, 4, 4, .RV, .hfsk, .p12, 4, true, .within 1 15⟩
  | .FC_DEFECT_CFG_EXIT_N => ⟨.FC_DEFECT_CFG, 0, 4, .RV, .hfsk, .p12, 4, true, .within 1 15⟩
  | .FC_E2_CFG_E2_DROP_TH => ⟨.FC_E2_CFG, 28, 4, .RV, .hfsk, .p12, 10, true, .within 1 15⟩
  | .FC_E2_CFG_E2_GUARD => ⟨.FC_E2_CFG, 20, 8, .RV, .hfsk, .p12, 64, true, .all⟩
  | .FC_E2_CFG_E2_SHADOW => ⟨.FC_E2_CFG, 12, 8, .RV, .hfsk, .p12, 32, true, .all⟩
  | .FC_RECOV_DEF_LAST_STEP => ⟨.FC_RECOV, 28, 4, .RW, .hfsk, .p12, 6, true, .within 0 6⟩
  | .FC_RECOV_DEF_TIME => ⟨.FC_RECOV, 16, 12, .RW, .hfsk, .p12, 500, true, .all⟩
  | .FC_RECOV_E4_POINTS => ⟨.FC_RECOV, 12, 4, .RW, .hfsk, .p12, 6, true, .within 0 8⟩
  | .FC_STAT_SYNC_DISPLACED => ⟨.FC_STAT, 24, 8, .RC, .hfsk, .p12, 0, false, .all⟩
  | .FC_STAT_SYNC_MISS => ⟨.FC_STAT, 16, 8, .RC, .hfsk, .p12, 0, false, .all⟩
  | .FC_STAT_OWN_SPANS => ⟨.FC_STAT, 8, 8, .RC, .hfsk, .p12, 0, false, .all⟩
  | .FC_STAT_SHADOW_SPANS => ⟨.FC_STAT, 0, 8, .RC, .hfsk, .p12, 0, false, .all⟩
  | .FC_LANE_GAIN => ⟨.FC_LANE, 20, 12, .RO, .hfsk, .none, 0, true, .all⟩
  | .FC_LANE_DC => ⟨.FC_LANE, 10, 10, .RO, .hfsk, .none, 0, true, .all⟩
  | .FC_LANE_ASYM => ⟨.FC_LANE, 0, 10, .RO, .hfsk, .none, 0, true, .all⟩
  | .LD_POOL_E0_ITER => ⟨.LD_POOL, 28, 4, .RW, .hfsk, .p12, 10, true, .within 1 15⟩
  | .LD_POOL_E1_ITER => ⟨.LD_POOL, 22, 6, .RW, .hfsk, .p12, 60, true, .within 16 60⟩
  | .LD_POOL_ACTIVE => ⟨.LD_POOL, 16, 6, .RO, .hfsk, .p12, 48, false, .all⟩
  | .LD_POOL_HOLD_USED => ⟨.LD_POOL, 8, 8, .RO, .hfsk, .p12, 0, false, .all⟩
  | .LD_STAT_MISCORRECT => ⟨.LD_STAT, 16, 16, .RC, .hfsk, .p12, 0, false, .all⟩
  | .LD_STAT_HOLD_FULL => ⟨.LD_STAT, 0, 16, .RC, .hfsk, .p12, 0, false, .all⟩
  | .FC_WR_CFG_VERIFY => ⟨.FC_WR_CFG, 30, 2, .RW, .hfsk, .p12, 1, true, .within 0 2⟩
  | .FC_WR_CFG_FUA_TRIES => ⟨.FC_WR_CFG, 27, 3, .RW, .hfsk, .p12, 3, true, .within 1 7⟩
  | .FC_WR_CFG_VFY_ITER => ⟨.FC_WR_CFG, 23, 4, .RW, .hfsk, .p12, 5, true, .within 1 10⟩
  | .FC_WR_CFG_VFY_SPAN => ⟨.FC_WR_CFG, 15, 8, .RW, .hfsk, .p12, 64, true, .within 1 255⟩
  | .FC_WR_CFG_WRITE_LEAD => ⟨.FC_WR_CFG, 8, 7, .RW, .hfsk, .p12, 40, true, .within 4 127⟩
  | .FC_WR_CFG_ABANDON_MAX => ⟨.FC_WR_CFG, 3, 5, .RW, .hfsk, .p12, 16, true, .within 1 31⟩
  | .FC_WR_STAT_ABANDONED => ⟨.FC_WR_STAT, 24, 8, .RC, .hfsk, .p12, 0, false, .all⟩
  | .FC_WR_STAT_VFY_FAIL => ⟨.FC_WR_STAT, 16, 8, .RC, .hfsk, .p12, 0, false, .all⟩
  | .FC_WR_STAT_SKIPPED => ⟨.FC_WR_STAT, 8, 8, .RC, .hfsk, .p12, 0, false, .all⟩
  | .FC_WR_STAT_UNDERRUN => ⟨.FC_WR_STAT, 0, 8, .RC, .hfsk, .p12, 0, false, .all⟩
  | .FC_RELOC_NEXT_FRONTIER => ⟨.FC_RELOC_NEXT, 0, 26, .RO, .hfsk, .p12, 0, false, .all⟩
  | .FC_WS_LAYER_PW_RATIO => ⟨.FC_WS_LAYER, 48, 16, .RV, .hfsk, .p12, 0, true, .within 4096 65495⟩
  | .FC_WS_LAYER_PM_RATIO => ⟨.FC_WS_LAYER, 32, 16, .RV, .hfsk, .p12, 14336, true, .within 0 65495⟩
  | .FC_WS_LAYER_PC_RATIO => ⟨.FC_WS_LAYER, 16, 16, .RV, .hfsk, .p12, 1024, true, .within 0 4096⟩
  | .FC_WS_ENTRY_T_START => ⟨.FC_WS_ENTRY, 56, 8, .RV, .hfsk, .p12, 0, true, .all⟩
  | .FC_WS_ENTRY_T_TOP => ⟨.FC_WS_ENTRY, 48, 8, .RV, .hfsk, .p12, 0, true, .all⟩
  | .FC_WS_ENTRY_T_LAST => ⟨.FC_WS_ENTRY, 40, 8, .RV, .hfsk, .p12, 0, true, .all⟩
  | .FC_WS_ENTRY_T_END => ⟨.FC_WS_ENTRY, 32, 8, .RV, .hfsk, .p12, 0, true, .all⟩
  | .FC_WS_ENTRY_T_COOL => ⟨.FC_WS_ENTRY, 24, 8, .RV, .hfsk, .p12, 0, true, .all⟩
  | .FC_WR_TEMP_WT_LO => ⟨.FC_WR_TEMP, 26, 6, .RW, .hfsk, .p1234, 10, true, .within 0 30⟩
  | .FC_WR_TEMP_WT_HI => ⟨.FC_WR_TEMP, 20, 6, .RW, .hfsk, .p1234, 55, true, .within 30 60⟩
  | .FC_WR_TEMP_DIE_WMAX => ⟨.FC_WR_TEMP, 13, 7, .RW, .hfsk, .p1234, 100, true, .within 70 105⟩
  | .FC_WR_TEMP_WTEMP_WAIT => ⟨.FC_WR_TEMP, 5, 8, .RW, .hfsk, .p1234, 30, true, .within 1 255⟩
  | .CH_CHAIN_W0_VALID => ⟨.CH_CHAIN_W0, 31, 1, .RO, .cbhfsk, .p1234, 0, false, .all⟩
  | .CH_CHAIN_W0_K => ⟨.CH_CHAIN_W0, 24, 4, .RO, .cbhfsk, .p1234, 0, false, .all⟩
  | .CH_CHAIN_W0_M => ⟨.CH_CHAIN_W0, 22, 2, .RO, .cbhfsk, .p1234, 0, false, .all⟩
  | .CH_CHAIN_W0_DEGRADED => ⟨.CH_CHAIN_W0, 0, 17, .RO, .cbhfsk, .p1234, 0, false, .all⟩
  | .CH_CHAIN_W5_REB_MEMBER => ⟨.CH_CHAIN_W5, 28, 4, .RO, .cbhfsk, .p1234, 0, false, .all⟩
  | .CH_CHAIN_W5_REB_NEXT => ⟨.CH_CHAIN_W5, 0, 26, .RO, .cbhfsk, .p1234, 0, false, .all⟩
  | .CH_CFG_PAD_AFTER => ⟨.CH_CFG, 24, 8, .RW, .hfsk, .p1234, 30, true, .within 1 255⟩
  | .CH_CFG_STAGE_ROWS => ⟨.CH_CFG, 12, 12, .RW, .hfsk, .p1234, 1024, true, .within 16 4095⟩
  | .CH_CFG_REBUILD_SHARE => ⟨.CH_CFG, 5, 7, .RW, .hfsk, .p1234, 25, true, .within 5 100⟩
  | .CH_CFG_DEGRADED_WR => ⟨.CH_CFG, 4, 1, .RW, .hfsk, .p1234, 1, true, .all⟩
  | .CH_STAT_LATE_DROPS => ⟨.CH_STAT, 16, 16, .RC, .hfsk, .p12, 0, false, .all⟩
  | .CH_STAT_PADDED => ⟨.CH_STAT, 8, 8, .RC, .hfsk, .p12, 0, false, .all⟩
  | .CH_STAT_PEER_DROPS => ⟨.CH_STAT, 0, 8, .RC, .hfsk, .p12, 0, false, .all⟩
  | .CL_CAP_VECTORS => ⟨.CL_CAP, 32, 11, .RO, .cbhfsk, .p1234, 1025, false, .all⟩
  | .CL_CAP_MAX_IOQ => ⟨.CL_CAP, 22, 10, .RO, .cbhfsk, .p1234, 1023, false, .all⟩
  | .CL_CAP_MQES => ⟨.CL_CAP, 10, 12, .RO, .cbhfsk, .p1234, 4095, false, .all⟩
  | .CL_CTL_EN => ⟨.CL_CTL, 31, 1, .RW, .k, .p123, 0, false, .all⟩
  | .CL_CTL_RECV_TIMEOUT => ⟨.CL_CTL, 16, 8, .RW, .k, .p123, 50, true, .within 1 255⟩
  | .CL_CTL_OPEN_MAX => ⟨.CL_CTL, 0, 16, .RW, .k, .p123, 30, true, .within 1 65535⟩
  | .CL_STAT_RDY => ⟨.CL_STAT, 31, 1, .RO, .k, .p123, 0, false, .all⟩
  | .CL_STAT_STALL_TAGS => ⟨.CL_STAT, 30, 1, .RO, .k, .p123, 0, false, .all⟩
  | .CL_STAT_STALL_LOCKS => ⟨.CL_STAT, 29, 1, .RO, .k, .p123, 0, false, .all⟩
  | .CL_STAT_OUTSTANDING => ⟨.CL_STAT, 0, 17, .RO, .k, .p123, 0, false, .all⟩
  | .CL_LOG_STAT_NEWEST => ⟨.CL_LOG_STAT, 32, 32, .RO, .hfsk, .p123, 0, false, .all⟩
  | .CL_LOG_STAT_LOST => ⟨.CL_LOG_STAT, 16, 16, .RC, .hfsk, .p123, 0, false, .all⟩
  | .CL_LOG_STAT_HELD => ⟨.CL_LOG_STAT, 0, 11, .RO, .hfsk, .p123, 0, false, .all⟩
  | .CL_LOCK_STAT_IN_USE => ⟨.CL_LOCK_STAT, 19, 13, .RO, .k, .p123, 0, false, .all⟩
  | .CL_LOCK_STAT_STALLS => ⟨.CL_LOCK_STAT, 0, 16, .RC, .k, .p123, 0, false, .all⟩
  | .CL_QFENCE_FENCE_BUSY => ⟨.CL_QFENCE, 31, 1, .RO, .k, .p123, 0, false, .all⟩
  | .CL_QFENCE_FENCE => ⟨.CL_QFENCE, 0, 16, .RW, .k, .p123, 0, false, .all⟩
  | .CL_QSTAT_EXISTS => ⟨.CL_QSTAT, 31, 1, .RO, .k, .p123, 0, false, .all⟩
  | .CL_QSTAT_FROZEN => ⟨.CL_QSTAT, 30, 1, .RO, .k, .p123, 0, false, .all⟩
  | .CL_QSTAT_PRIV => ⟨.CL_QSTAT, 29, 1, .RO, .k, .p123, 0, false, .all⟩
  | .CL_QSTAT_OBJ_OPEN => ⟨.CL_QSTAT, 28, 1, .RO, .k, .p123, 0, false, .all⟩
  | .CL_QSTAT_OUTSTANDING => ⟨.CL_QSTAT, 0, 12, .RO, .k, .p123, 0, false, .all⟩
  | .FG_CFG_FULL_FOR_STD => ⟨.FG_CFG, 31, 1, .RW, .hfsk, .p12, 1, true, .all⟩
  | .FG_STAT_STD_BUSY => ⟨.FG_STAT, 28, 4, .RO, .hfsk, .p12, 0, false, .all⟩
  | .FG_STAT_FULL_BUSY => ⟨.FG_STAT, 25, 3, .RO, .hfsk, .p12, 0, false, .all⟩
  | .FG_STAT_WAITING => ⟨.FG_STAT, 0, 16, .RO, .hfsk, .p12, 0, false, .all⟩
  | .FG_ERR_DECODE_ERRORS => ⟨.FG_ERR, 16, 16, .RC, .hfsk, .p12, 0, false, .all⟩
  | .FG_ERR_STORED_BLOCKS => ⟨.FG_ERR, 0, 16, .RC, .hfsk, .p12, 0, false, .all⟩
  | .CK_CTL_DISABLE => ⟨.CK_CTL, 31, 1, .RW, .hfsk, .p1234, 0, true, .all⟩
  | .CK_CTL_MB_HIGH => ⟨.CK_CTL, 16, 8, .RW, .hfsk, .p1234, 192, true, .within 32 255⟩
  | .CK_CTL_MB_AGE => ⟨.CK_CTL, 8, 8, .RW, .hfsk, .p1234, 20, true, .within 1 255⟩
  | .CK_STAT_DISABLED => ⟨.CK_STAT, 31, 1, .RO, .hfsk, .p12, 0, false, .all⟩
  | .CK_STAT_DRAINING => ⟨.CK_STAT, 30, 1, .RO, .hfsk, .p12, 0, false, .all⟩
  | .CK_STAT_MB_USED => ⟨.CK_STAT, 16, 9, .RO, .hfsk, .p12, 0, false, .all⟩
  | .CK_STAT_EB_USED => ⟨.CK_STAT, 10, 6, .RO, .hfsk, .p12, 0, false, .all⟩
  | .MI_DRAM_CFG_CAP => ⟨.MI_DRAM_CFG, 29, 3, .RO, .hfsk, .p1234, 0, true, .within 0 4⟩
  | .MI_DRAM_CFG_RATE => ⟨.MI_DRAM_CFG, 24, 5, .RO, .hfsk, .p1234, 0, true, .within 8 16⟩
  | .MI_DRAM_CFG_X8 => ⟨.MI_DRAM_CFG, 23, 1, .RO, .hfsk, .p1234, 0, true, .all⟩
  | .MI_DRAM_CFG_RANK2 => ⟨.MI_DRAM_CFG, 22, 1, .RO, .hfsk, .p1234, 0, true, .all⟩
  | .MI_SCRUB_CFG_CK_PERIOD => ⟨.MI_SCRUB_CFG, 24, 8, .RW, .hfsk, .p1234, 10, true, .within 1 255⟩
  | .MI_SCRUB_CFG_SRAM_PERIOD => ⟨.MI_SCRUB_CFG, 16, 8, .RW, .hfsk, .p1234, 60, true, .within 1 255⟩
  | .MI_SCRUB_CFG_DRAM_PERIOD => ⟨.MI_SCRUB_CFG, 8, 8, .RW, .hfsk, .p1234, 24, true, .within 1 255⟩
  | .MI_SCRUB_CFG_HARD_WINDOW => ⟨.MI_SCRUB_CFG, 0, 8, .RW, .hfsk, .p1234, 24, true, .within 1 255⟩
  | .MI_ERR_ARRAY_FIX => ⟨.MI_ERR, 24, 8, .RC, .hfsk, .p123, 0, false, .all⟩
  | .MI_ERR_SRAM_FIX => ⟨.MI_ERR, 16, 8, .RC, .hfsk, .p123, 0, false, .all⟩
  | .MI_ERR_DRAM_FIX => ⟨.MI_ERR, 8, 8, .RC, .hfsk, .p123, 0, false, .all⟩
  | .MI_ERR_UNCORR => ⟨.MI_ERR, 0, 8, .RC, .hfsk, .p123, 0, false, .all⟩
  | .MI_REMAP_STAT_DRAM_USED => ⟨.MI_REMAP_STAT, 25, 7, .RO, .cbhfsk, .p1234, 0, false, .all⟩
  | .MI_REMAP_STAT_SRAM_MAX => ⟨.MI_REMAP_STAT, 21, 4, .RO, .cbhfsk, .p1234, 0, false, .all⟩
  | .MI_REMAP_STAT_DRAM_FULL => ⟨.MI_REMAP_STAT, 20, 1, .RO, .cbhfsk, .p1234, 0, false, .all⟩
  | .MI_REMAP_STAT_SRAM_FULL => ⟨.MI_REMAP_STAT, 19, 1, .RO, .cbhfsk, .p1234, 0, false, .all⟩
  | .MI_REMAP_STAT_FUSE_ROWS => ⟨.MI_REMAP_STAT, 8, 11, .RO, .cbhfsk, .p1234, 0, false, .all⟩
  | .MI_LAST_ERR_MEMORY => ⟨.MI_LAST_ERR, 60, 4, .RO, .hfsk, .p123, 0, false, .all⟩
  | .MI_LAST_ERR_CHECK => ⟨.MI_LAST_ERR, 56, 4, .RO, .hfsk, .p123, 0, false, .all⟩
  | .MI_LAST_ERR_GROUP => ⟨.MI_LAST_ERR, 48, 8, .RO, .hfsk, .p123, 0, false, .all⟩
  | .MI_LAST_ERR_OUTCOME => ⟨.MI_LAST_ERR, 40, 8, .RO, .hfsk, .p123, 0, false, .all⟩
  | .MI_LAST_ERR_ADDR => ⟨.MI_LAST_ERR, 0, 38, .RO, .hfsk, .p123, 0, false, .all⟩
  | .MI_LOST_STAT_FULL => ⟨.MI_LOST_STAT, 31, 1, .RO, .cbhfsk, .p1234, 0, false, .all⟩
  | .MI_LOST_STAT_USED => ⟨.MI_LOST_STAT, 0, 15, .RO, .cbhfsk, .p1234, 0, false, .all⟩
  | .MI_SCRUB_STAT_CK_PASSES => ⟨.MI_SCRUB_STAT, 24, 8, .RC, .hfsk, .p123, 0, false, .all⟩
  | .MI_SCRUB_STAT_SRAM_PASSES => ⟨.MI_SCRUB_STAT, 16, 8, .RC, .hfsk, .p123, 0, false, .all⟩
  | .MI_SCRUB_STAT_DRAM_PASSES => ⟨.MI_SCRUB_STAT, 8, 8, .RC, .hfsk, .p123, 0, false, .all⟩
  | .HM_CTL_RUN => ⟨.HM_CTL, 31, 1, .WO, .none, .none, 0, false, .all⟩
  | .HM_CTL_HOLD => ⟨.HM_CTL, 30, 1, .RW, .hfsk, .p123, 0, false, .all⟩
  | .HM_STAT_ADC_GOOD => ⟨.HM_STAT, 28, 4, .RO, .hfsk, .p12, 0, false, .all⟩
  | .HM_STAT_RELEASED => ⟨.HM_STAT, 27, 1, .RO, .hfsk, .p12, 0, false, .all⟩
  | .HM_STAT_RUNNING => ⟨.HM_STAT, 26, 1, .RO, .hfsk, .p12, 0, false, .all⟩
  | .HM_STAT_WRITE_LIMITED => ⟨.HM_STAT, 25, 1, .RO, .hfsk, .p12, 0, false, .all⟩
  | .HM_STAT_LOAD_SKIP => ⟨.HM_STAT, 24, 1, .W1C, .hfsk, .p12, 0, false, .all⟩
  | .HM_STAT_HEADROOM => ⟨.HM_STAT, 16, 8, .RO, .hfsk, .p12, 0, false, .all⟩
  | .HM_STAT_RUN_AGE => ⟨.HM_STAT, 0, 16, .RO, .hfsk, .p12, 65535, false, .all⟩
  | .HM_ADC_TRIM_OFFSET => ⟨.HM_ADC_TRIM, 24, 8, .RV, .hfsk, .p123, 0, true, .all⟩
  | .HM_ADC_TRIM_GAIN => ⟨.HM_ADC_TRIM, 16, 8, .RV, .hfsk, .p123, 0, true, .signed (-125) 125⟩
  | .HM_ADC_TRIM_SKEW => ⟨.HM_ADC_TRIM, 8, 8, .RV, .hfsk, .p123, 0, true, .signed (-100) 100⟩
  | .HM_ADC_TRIM_BAD => ⟨.HM_ADC_TRIM, 7, 1, .RO, .hfsk, .p123, 0, false, .all⟩
  | .HM_ADC_TRIM_NOISE => ⟨.HM_ADC_TRIM, 0, 7, .RO, .hfsk, .p123, 0, false, .all⟩
  | .HM_SCALE_TE_GAIN => ⟨.HM_SCALE, 48, 16, .RV, .hfsk, .p123, 16384, true, .within 4096 65372⟩
  | .HM_SCALE_FE_GAIN => ⟨.HM_SCALE, 32, 16, .RV, .hfsk, .p123, 16384, true, .within 4096 65372⟩
  | .HM_SCALE_TILT_GAIN => ⟨.HM_SCALE, 16, 16, .RV, .hfsk, .p123, 16384, true, .within 4096 65372⟩
  | .HM_LASER_I_TH => ⟨.HM_LASER, 48, 16, .RO, .hfsk, .p123, 0, false, .all⟩
  | .HM_LASER_ETA => ⟨.HM_LASER, 32, 16, .RO, .hfsk, .p123, 0, false, .all⟩
  | .HM_LASER_I_MAX => ⟨.HM_LASER, 16, 16, .RO, .hfsk, .p123, 0, false, .all⟩
  | .HM_LASER_I_W => ⟨.HM_LASER, 0, 16, .RO, .hfsk, .p123, 0, false, .all⟩
  | .HM_PLAN_P_B => ⟨.HM_PLAN, 112, 16, .RV, .hfsk, .p123, 0, true, .all⟩
  | .HM_PLAN_FOC_OFS => ⟨.HM_PLAN, 96, 16, .RV, .hfsk, .p123, 0, true, .all⟩
  | .HM_PLAN_TILT_OFS => ⟨.HM_PLAN, 80, 16, .RV, .hfsk, .p123, 0, true, .all⟩
  | .HM_PLAN_S0 => ⟨.HM_PLAN, 48, 16, .RV, .hfsk, .p123, 16384, true, .within 8192 24576⟩
  | .HM_PLAN_S1 => ⟨.HM_PLAN, 32, 16, .RV, .hfsk, .p123, 16384, true, .within 8192 24576⟩
  | .HM_PLAN_S2 => ⟨.HM_PLAN, 16, 16, .RV, .hfsk, .p123, 16384, true, .within 8192 24576⟩
  | .HM_PLAN_S3 => ⟨.HM_PLAN, 0, 16, .RV, .hfsk, .p123, 16384, true, .within 8192 24576⟩
  | .HM_CFG_DELTA_T => ⟨.HM_CFG, 27, 5, .RW, .hfsk, .p1234, 4, true, .within 1 16⟩
  | .HM_CFG_CAL_PERIOD => ⟨.HM_CFG, 22, 5, .RW, .hfsk, .p1234, 8, true, .within 1 24⟩
  | .HM_CFG_HR_WARN => ⟨.HM_CFG, 16, 6, .RW, .hfsk, .p1234, 15, true, .within 0 50⟩
  | .HM_CFG_HR_MIN => ⟨.HM_CFG, 11, 5, .RW, .hfsk, .p1234, 5, true, .within 0 25⟩
  | .HM_CFG_IDLE_MIN => ⟨.HM_CFG, 3, 8, .RW, .hfsk, .p1234, 20, true, .within 1 255⟩
  | .HM_CFG_FRICTION_MAX => ⟨.HM_CFG, 0, 3, .RW, .hfsk, .p1234, 2, true, .all⟩
  | .TH_CTL_DWELL => ⟨.TH_CTL, 20, 12, .RW, .hfsk, .p1234, 400, true, .within 40 4095⟩
  | .TH_CTL_SENSOR_K => ⟨.TH_CTL, 16, 4, .RW, .hfsk, .p1234, 3, true, .within 1 8⟩
  | .TH_CTL_AMB_TIMEOUT => ⟨.TH_CTL, 8, 8, .RW, .hfsk, .p1234, 60, true, .within 1 255⟩
  | .TH_CTL_AMB_DEFAULT => ⟨.TH_CTL, 0, 8, .RW, .hfsk, .p1234, 45, true, .within 0 60⟩
  | .TH_STAT_STEP => ⟨.TH_STAT, 28, 4, .RO, .hfsk, .p123, 0, false, .all⟩
  | .TH_STAT_SRC => ⟨.TH_STAT, 20, 8, .RO, .hfsk, .p123, 0, false, .all⟩
  | .TH_STAT_REASON => ⟨.TH_STAT, 17, 3, .RO, .hfsk, .p123, 0, false, .all⟩
  | .TH_STAT_AMB_STALE => ⟨.TH_STAT, 16, 1, .RO, .hfsk, .p123, 0, false, .all⟩
  | .TH_STAT_STEP_UPS => ⟨.TH_STAT, 8, 8, .RC, .hfsk, .p123, 0, false, .all⟩
  | .TH_AMBIENT_TEMP => ⟨.TH_AMBIENT, 0, 16, .RW, .hfsk, .p123, 0, false, .all⟩
  | .TH_LIMIT_BASE => ⟨.TH_LIMIT, 24, 8, .RW, .hfsk, .p1234, 0, true, .within 20 120⟩
  | .TH_LIMIT_STEP_W => ⟨.TH_LIMIT, 20, 4, .RW, .hfsk, .p1234, 0, true, .within 1 15⟩
  | .TH_LIMIT_HYST => ⟨.TH_LIMIT, 16, 4, .RW, .hfsk, .p1234, 0, true, .all⟩
  | .TH_LIMIT_RATE_LIM => ⟨.TH_LIMIT, 8, 8, .RW, .hfsk, .p1234, 0, true, .all⟩
  | .TH_ZONE_TEMP => ⟨.TH_ZONE, 16, 16, .RO, .hfsk, .p123, 0, false, .all⟩
  | .TH_ZONE_DEMAND => ⟨.TH_ZONE, 12, 4, .RO, .hfsk, .p123, 0, false, .all⟩
  | .TH_ZONE_HAS_SENSOR => ⟨.TH_ZONE, 11, 1, .RO, .hfsk, .p123, 0, false, .all⟩
  | .TH_ZONE_BROKEN => ⟨.TH_ZONE, 10, 1, .RO, .hfsk, .p123, 0, false, .all⟩
  | .TH_ZONE_RATE => ⟨.TH_ZONE, 0, 10, .RO, .hfsk, .p123, 0, false, .all⟩
  | .PM_STAT_STATE => ⟨.PM_STAT, 29, 3, .RO, .hfsk, .p1234, 0, false, .all⟩
  | .PM_STAT_D3 => ⟨.PM_STAT, 28, 1, .RO, .hfsk, .p1234, 0, false, .all⟩
  | .PM_STAT_LAST_WAKE => ⟨.PM_STAT, 24, 4, .RO, .hfsk, .p1234, 0, false, .all⟩
  | .PM_STAT_TRANSITIONS => ⟨.PM_STAT, 0, 16, .RC, .hfsk, .p1234, 0, false, .all⟩
  | .PM_CFG_MAX_STATE => ⟨.PM_CFG, 29, 3, .RW, .hfsk, .p1234, 3, true, .within 0 4⟩
  | .PM_CFG_P1_IDLE => ⟨.PM_CFG, 21, 8, .RW, .hfsk, .p1234, 20, true, .within 1 255⟩
  | .PM_CFG_P2_IDLE => ⟨.PM_CFG, 13, 8, .RW, .hfsk, .p1234, 10, true, .within 1 255⟩
  | .PM_CFG_SPINDOWN => ⟨.PM_CFG, 5, 8, .RW, .hfsk, .p1234, 30, true, .all⟩
  | .PM_CFG_SPINDOWN_D3 => ⟨.PM_CFG, 0, 5, .RW, .hfsk, .p1234, 0, true, .all⟩
  | .PM_POWER_POWER => ⟨.PM_POWER, 16, 16, .RO, .hfsk, .p123, 0, false, .all⟩
  | .PM_POWER_PEAK => ⟨.PM_POWER, 0, 16, .RC, .hfsk, .p123, 0, false, .all⟩
  | .KP_STAT_DEV => ⟨.KP_STAT, 30, 2, .RO, .hfsk, .p1234, 0, false, .all⟩
  | .KP_STAT_PROFILE => ⟨.KP_STAT, 29, 1, .RO, .hfsk, .p1234, 0, false, .all⟩
  | .KP_STAT_ALARM => ⟨.KP_STAT, 28, 1, .RO, .hfsk, .p1234, 0, false, .all⟩
  | .KP_STAT_CORE_DIP => ⟨.KP_STAT, 27, 1, .RO, .hfsk, .p1234, 0, false, .all⟩
  | .KP_STAT_LAST_SF => ⟨.KP_STAT, 16, 4, .RO, .hfsk, .p1234, 0, false, .all⟩
  | .KP_CORES_CROWN => ⟨.KP_CORES, 44, 2, .RO, .hfsk, .p1234, 0, false, .all⟩
  | .KP_CORES_HALLMARK => ⟨.KP_CORES, 42, 2, .RO, .hfsk, .p1234, 0, false, .all⟩
  | .KP_CORES_CLASP => ⟨.KP_CORES, 36, 6, .RO, .hfsk, .p1234, 0, false, .all⟩
  | .KP_CORES_TORC => ⟨.KP_CORES, 32, 4, .RO, .hfsk, .p1234, 0, false, .all⟩
  | .KP_CORES_BEZEL => ⟨.KP_CORES, 0, 32, .RO, .hfsk, .p1234, 0, false, .all⟩
  | .KP_CAUSE_CODE => ⟨.KP_CAUSE, 56, 8, .RO, .hfsk, .p1234, 0, false, .all⟩
  | .KP_CAUSE_UNIT => ⟨.KP_CAUSE, 48, 8, .RO, .hfsk, .p1234, 0, false, .all⟩
  | .KP_CAUSE_TIME => ⟨.KP_CAUSE, 0, 48, .RO, .hfsk, .p1234, 0, false, .all⟩
  | .KP_DIAG_DISAGREE => ⟨.KP_DIAG, 24, 8, .RC, .hfsk, .p1234, 0, false, .all⟩
  | .KP_DIAG_INHIBIT_FAIL => ⟨.KP_DIAG, 16, 8, .RC, .hfsk, .p1234, 0, false, .all⟩
  | .KP_DIAG_CORE_DIPS => ⟨.KP_DIAG, 8, 8, .RC, .hfsk, .p1234, 0, false, .all⟩
  | .KP_DIAG_BUS_DIPS => ⟨.KP_DIAG, 0, 8, .RC, .hfsk, .p1234, 0, false, .all⟩
  | .KP_CFG_DIP_SETTLE => ⟨.KP_CFG, 24, 8, .RO, .hfsk, .p1234, 8, true, .within 1 255⟩
  | .KP_CFG_RELEASE_HOLD => ⟨.KP_CFG, 16, 8, .RO, .hfsk, .p1234, 20, true, .within 1 255⟩
  | .KP_ILIM_I_FT_MAX => ⟨.KP_ILIM, 16, 16, .RO, .hfsk, .p1234, 29491, true, .within 1 32767⟩
  | .KP_ILIM_I_TILT_MAX => ⟨.KP_ILIM, 0, 16, .RO, .hfsk, .p1234, 29491, true, .within 1 32767⟩
  | .LK_BOOT_STAT_FAIL0 => ⟨.LK_BOOT_STAT, 28, 4, .RO, .hfsk, .p1234, 0, false, .all⟩
  | .LK_BOOT_STAT_FAIL1 => ⟨.LK_BOOT_STAT, 24, 4, .RO, .hfsk, .p1234, 0, false, .all⟩
  | .LK_BOOT_STAT_SLOT => ⟨.LK_BOOT_STAT, 23, 1, .RO, .hfsk, .p1234, 0, false, .all⟩
  | .LK_BOOT_STAT_KEY_SLOT => ⟨.LK_BOOT_STAT, 20, 3, .RO, .hfsk, .p1234, 0, false, .all⟩
  | .LK_BOOT_STAT_RECOVERY => ⟨.LK_BOOT_STAT, 19, 1, .RO, .hfsk, .p1234, 0, false, .all⟩
  | .LK_BOOT_STAT_LOCKED => ⟨.LK_BOOT_STAT, 18, 1, .RO, .hfsk, .p1234, 0, false, .all⟩
  | .LK_BOOT_STAT_DEBUG => ⟨.LK_BOOT_STAT, 17, 1, .RO, .hfsk, .p1234, 0, false, .all⟩
  | .LK_BOOT_STAT_SVN => ⟨.LK_BOOT_STAT, 8, 7, .RO, .hfsk, .p1234, 0, false, .all⟩
  | .LK_BOOT_STAT_ROLLBACK => ⟨.LK_BOOT_STAT, 0, 8, .RO, .hfsk, .p1234, 0, false, .all⟩
  | .LK_FUSE_STAT_LIFECYCLE => ⟨.LK_FUSE_STAT, 62, 2, .RO, .cbhfsk, .p1234, 0, false, .all⟩
  | .LK_FUSE_STAT_DEBUG_DISABLE => ⟨.LK_FUSE_STAT, 61, 1, .RO, .cbhfsk, .p1234, 0, false, .all⟩
  | .LK_FUSE_STAT_OWNER_VALID => ⟨.LK_FUSE_STAT, 57, 4, .RO, .cbhfsk, .p1234, 0, false, .all⟩
  | .LK_FUSE_STAT_OWNER_REVOKED => ⟨.LK_FUSE_STAT, 53, 4, .RO, .cbhfsk, .p1234, 0, false, .all⟩
  | .LK_FUSE_STAT_OWNER_SPOILED => ⟨.LK_FUSE_STAT, 49, 4, .RO, .cbhfsk, .p1234, 0, false, .all⟩
  | .LK_FUSE_STAT_SKIPPED => ⟨.LK_FUSE_STAT, 45, 4, .RO, .hfsk, .p1234, 0, false, .all⟩
  | .LK_CTL_LOCK => ⟨.LK_CTL, 31, 1, .WO, .none, .none, 0, false, .all⟩
  | .SY_RESET_LAST => ⟨.SY_RESET, 28, 4, .RO, .bhfsk, .p1234, 1, false, .all⟩
  | .SY_RESET_SUPPLY => ⟨.SY_RESET, 27, 1, .RO, .bhfsk, .p1234, 0, false, .all⟩
  | .SY_RESET_HOST_RESETS => ⟨.SY_RESET, 0, 16, .RC, .bhfsk, .p1234, 0, false, .all⟩
  | .CM_CFG_NOTIFY_SEV => ⟨.CM_CFG, 28, 4, .RW, .hfsk, .p1234, 3, true, .within 0 5⟩
  | .CM_CFG_DEPTH => ⟨.CM_CFG, 20, 8, .RW, .hfsk, .p1234, 16, true, .within 1 255⟩
  | .CM_CFG_REFILL => ⟨.CM_CFG, 12, 8, .RW, .hfsk, .p1234, 1, true, .within 1 255⟩
  | .CM_STAT_STOPPED => ⟨.CM_STAT, 31, 1, .RO, .hfsk, .p1234, 0, false, .all⟩
  | .CM_STAT_NOTIFY => ⟨.CM_STAT, 30, 1, .W1C, .hfsk, .p1234, 0, false, .all⟩
  | .CM_STAT_STAGE_USED => ⟨.CM_STAT, 16, 13, .RO, .hfsk, .p1234, 0, false, .all⟩
  | .CM_STAT_DROPPED => ⟨.CM_STAT, 0, 16, .RC, .hfsk, .p1234, 0, false, .all⟩
  | .CM_SEQ_NEWEST => ⟨.CM_SEQ, 32, 32, .RO, .hfsk, .p1234, 0, false, .all⟩
  | .CM_SEQ_OLDEST => ⟨.CM_SEQ, 0, 32, .RO, .hfsk, .p1234, 0, false, .all⟩
  | .CM_RATE_OVR_CODE => ⟨.CM_RATE_OVR, 16, 16, .RW, .hfsk, .p1234, 0, true, .all⟩
  | .CM_RATE_OVR_DEPTH => ⟨.CM_RATE_OVR, 8, 8, .RW, .hfsk, .p1234, 0, true, .all⟩
  | .CM_RATE_OVR_REFILL => ⟨.CM_RATE_OVR, 0, 8, .RW, .hfsk, .p1234, 1, true, .within 1 255⟩
  | .MG_CFG_ADDR => ⟨.MG_CFG, 25, 7, .RWL, .hfsk, .p1234, 74, true, .all⟩
  | .MG_CFG_SPEED => ⟨.MG_CFG, 23, 2, .RWL, .hfsk, .p1234, 2, true, .within 0 2⟩
  | .MG_CFG_GPIO_FN => ⟨.MG_CFG, 0, 8, .RW, .hfsk, .p1234, 2, true, .all⟩
  | .MG_GPIO_OUT => ⟨.MG_GPIO, 4, 4, .RW, .hfsk, .p1234, 0, false, .all⟩
  | .MG_GPIO_IN => ⟨.MG_GPIO, 0, 4, .RO, .hfsk, .p1234, 0, false, .all⟩
  | .MG_STAT_MSGS => ⟨.MG_STAT, 24, 8, .RC, .hfsk, .p1234, 0, false, .all⟩
  | .MG_STAT_PEC_ERR => ⟨.MG_STAT, 16, 8, .RC, .hfsk, .p1234, 0, false, .all⟩
  | .MG_STAT_LAST_OP => ⟨.MG_STAT, 8, 8, .RO, .hfsk, .p1234, 0, false, .all⟩
  | .SL_CTL_LINK_EN => ⟨.SL_CTL, 31, 1, .RW, .hfsk, .p1234, 1, true, .all⟩
  | .SL_CTL_RETRY_MAX => ⟨.SL_CTL, 16, 4, .RW, .hfsk, .p1234, 3, true, .within 1 15⟩
  | .SL_CTL_MARGIN_START => ⟨.SL_CTL, 2, 1, .WO, .none, .none, 0, false, .all⟩
  | .SL_CTL_FULL_TRAIN => ⟨.SL_CTL, 1, 1, .WO, .none, .none, 0, false, .all⟩
  | .SL_CTL_RETRAIN => ⟨.SL_CTL, 0, 1, .WO, .none, .none, 0, false, .all⟩
  | .SL_MARGIN_EYE_W => ⟨.SL_MARGIN, 24, 8, .RO, .hfsk, .p12, 0, false, .all⟩
  | .SL_MARGIN_EYE_H => ⟨.SL_MARGIN, 16, 8, .RO, .hfsk, .p12, 0, false, .all⟩
  | .SL_MARGIN_PEND_EYE_W => ⟨.SL_MARGIN, 8, 8, .RO, .hfsk, .p12, 0, false, .all⟩
  | .SL_MARGIN_PEND_EYE_H => ⟨.SL_MARGIN, 0, 8, .RO, .hfsk, .p12, 0, false, .all⟩
  | .SL_STATUS_STATE => ⟨.SL_STATUS, 28, 4, .RO, .hfsk, .p12, 0, false, .all⟩
  | .SL_STATUS_PRESENT => ⟨.SL_STATUS, 21, 1, .RO, .hfsk, .p12, 0, false, .all⟩
  | .SL_STATUS_BAIL_SAFE => ⟨.SL_STATUS, 20, 1, .RO, .hfsk, .p12, 0, false, .all⟩
  | .SL_STATUS_MARGIN_DONE => ⟨.SL_STATUS, 19, 1, .RO, .hfsk, .p12, 0, false, .all⟩
  | .SL_STATUS_LATENCY => ⟨.SL_STATUS, 8, 8, .RO, .hfsk, .p12, 0, false, .all⟩
  | .SL_STATUS_BAIL_REV => ⟨.SL_STATUS, 0, 8, .RO, .hfsk, .p12, 0, false, .all⟩
  | .SL_ERR_CURR_BAD => ⟨.SL_ERR, 24, 8, .RC, .hfsk, .p1234, 0, false, .all⟩
  | .SL_ERR_FRAME_BAD => ⟨.SL_ERR, 16, 8, .RC, .hfsk, .p1234, 0, false, .all⟩
  | .SY_POP_HEAD => ⟨.SY_POP_HEAD, 0, 32, .RWL, .hfsk, .p1234, 4294967295, true, .all⟩
  | .SY_POP_SPIN => ⟨.SY_POP_SPIN, 0, 32, .RWL, .hfsk, .p1234, 4294967295, true, .all⟩
  | .BZ_LOOP_REF_REF => ⟨.BZ_LOOP_REF, 0, 32, .RV, .hfsk, .p12, 0, true, .all⟩
  | .BZ_LOOP_FEL_FE_LIMIT => ⟨.BZ_LOOP_FEL, 0, 31, .RW, .hfsk, .p12, 0, true, .within 1 2147483647⟩
  | .BZ_LAW_STRUCT_WORD => ⟨.BZ_LAW_STRUCT, 4, 28, .RW, .hfsk, .p12, 0, true, .all⟩
  | .BZ_LAW_COEF_C => ⟨.BZ_LAW_COEF, 0, 32, .RV, .hfsk, .p12, 0, true, .all⟩
  | .BZ_RUN_FOC_T => ⟨.BZ_RUN_FOC, 0, 32, .RV, .hfsk, .p12, 0, false, .all⟩
  | .BZ_RUN_TRK_T => ⟨.BZ_RUN_TRK, 0, 32, .RV, .hfsk, .p12, 0, false, .all⟩
  | .BZ_TRACE_LEVEL_LEVEL => ⟨.BZ_TRACE_LEVEL, 0, 32, .RW, .hfsk, .p12, 0, false, .all⟩
  | .BZ_TRACE_NODE_HI => ⟨.BZ_TRACE_NODE, 20, 12, .RW, .hfsk, .p12, 0, false, .all⟩
  | .BZ_TRACE_NODE_LO => ⟨.BZ_TRACE_NODE, 4, 12, .RW, .hfsk, .p12, 0, false, .all⟩
  | .BZ_TRACE_TIME_TIME => ⟨.BZ_TRACE_TIME, 0, 64, .RO, .hfsk, .p12, 0, false, .all⟩
  | .BZ_TRACE_RAM_W => ⟨.BZ_TRACE_RAM, 0, 32, .RO, .hfsk, .p12, 0, false, .all⟩
  | .MO_POS_POS => ⟨.MO_POS, 0, 24, .RO, .hfsk, .p12, 0, false, .all⟩
  | .MO_BAND_AT_0_BAND_AT_0 => ⟨.MO_BAND_AT_0, 0, 24, .RW, .hfsk, .p12, 16393216, true, .all⟩
  | .MO_GUARD_WG_TE => ⟨.MO_GUARD, 16, 16, .RW, .hfsk, .p12, 3146, true, .all⟩
  | .MO_GUARD_WG_FE => ⟨.MO_GUARD, 0, 16, .RW, .hfsk, .p12, 1966, true, .all⟩
  | .MO_GUARD2_WG_SETTLE => ⟨.MO_GUARD2, 0, 16, .RW, .hfsk, .p12, 400, true, .within 1 65535⟩
  | .MO_SHOCK_SHOCK_LIM => ⟨.MO_SHOCK, 16, 13, .RW, .hfsk, .p12, 2048, true, .within 256 8191⟩
  | .MO_SHOCK_SHOCK_SETTLE => ⟨.MO_SHOCK, 0, 16, .RW, .hfsk, .p12, 4000, true, .within 1 65535⟩
  | .MO_LAWSEL0_FOC_FOLLOW => ⟨.MO_LAWSEL0, 28, 4, .RW, .hfsk, .p12, 0, true, .within 0 11⟩
  | .MO_LAWSEL0_FOC_CAPTURE => ⟨.MO_LAWSEL0, 24, 4, .RW, .hfsk, .p12, 1, true, .within 0 11⟩
  | .MO_LAWSEL0_FOC_SETTLE => ⟨.MO_LAWSEL0, 20, 4, .RW, .hfsk, .p12, 2, true, .within 0 11⟩
  | .MO_LAWSEL0_TRK_FOLLOW => ⟨.MO_LAWSEL0, 16, 4, .RW, .hfsk, .p12, 3, true, .within 0 11⟩
  | .MO_LAWSEL0_TRK_SEEK => ⟨.MO_LAWSEL0, 12, 4, .RW, .hfsk, .p12, 4, true, .within 0 11⟩
  | .MO_LAWSEL0_TILT => ⟨.MO_LAWSEL0, 8, 4, .RW, .hfsk, .p12, 5, true, .within 0 11⟩
  | .MO_LAWSEL0_SLED => ⟨.MO_LAWSEL0, 4, 4, .RW, .hfsk, .p12, 6, true, .within 0 11⟩
  | .MO_LAWSEL1_LPWR_READ => ⟨.MO_LAWSEL1, 28, 4, .RW, .hfsk, .p12, 7, true, .within 0 11⟩
  | .MO_LAWSEL1_LPWR_WRITE => ⟨.MO_LAWSEL1, 24, 4, .RW, .hfsk, .p12, 8, true, .within 0 11⟩
  | .MO_HOME_LATCH => ⟨.MO_HOME, 0, 24, .RO, .hfsk, .p12, 0, false, .all⟩
  | .TQ_MOTOR2_R_PH => ⟨.TQ_MOTOR2, 16, 16, .RW, .hfsk, .p1234, 1800, true, .within 100 65535⟩
  | .TQ_MOTOR2_L_PH => ⟨.TQ_MOTOR2, 0, 16, .RW, .hfsk, .p1234, 900, true, .within 10 65535⟩
  | .TQ_LOOP_CFG_CUR_BW => ⟨.TQ_LOOP_CFG, 24, 8, .RW, .hfsk, .p1234, 100, true, .within 10 200⟩
  | .TQ_LOOP_CFG_SPD_BW => ⟨.TQ_LOOP_CFG, 16, 8, .RW, .hfsk, .p1234, 20, true, .within 1 100⟩
  | .TQ_DOOR_CTL_EJECT => ⟨.TQ_DOOR_CTL, 31, 1, .WO, .none, .none, 0, false, .all⟩
  | .TQ_DOOR_CTL_LOAD => ⟨.TQ_DOOR_CTL, 30, 1, .WO, .none, .none, 0, false, .all⟩
  | .TQ_CORE_FAILED => ⟨.TQ_CORE, 31, 1, .RO, .hfsk, .p12, 0, false, .all⟩
  | .TQ_CORE_OVERRUNS => ⟨.TQ_CORE, 16, 8, .RC, .hfsk, .p12, 0, false, .all⟩
  | .FC_E4_PT_FOC_OFS => ⟨.FC_E4_PT, 16, 16, .RW, .hfsk, .p12, 0, true, .all⟩
  | .FC_E4_PT_TILT_OFS => ⟨.FC_E4_PT, 0, 16, .RW, .hfsk, .p12, 0, true, .all⟩
  | .FC_TAPS_HI => ⟨.FC_TAPS, 16, 16, .RO, .hfsk, .none, 0, true, .all⟩
  | .FC_TAPS_LO => ⟨.FC_TAPS, 0, 16, .RO, .hfsk, .none, 0, true, .all⟩
  | .LD_CW_FAIL_COUNT => ⟨.LD_CW_FAIL, 0, 32, .RC, .hfsk, .p12, 0, false, .all⟩
  | .LD_STEP_CNT_COUNT => ⟨.LD_STEP_CNT, 0, 32, .RC, .hfsk, .p12, 0, false, .all⟩
  | .CH_CHAIN_MEM_STATE0 => ⟨.CH_CHAIN_MEM, 6, 2, .RO, .cbhfsk, .p1234, 0, false, .all⟩
  | .CH_CHAIN_MEM_SPINDLE0 => ⟨.CH_CHAIN_MEM, 1, 5, .RO, .cbhfsk, .p1234, 0, false, .all⟩
  | .CH_CHAIN_MEM_SURFACE0 => ⟨.CH_CHAIN_MEM, 0, 1, .RO, .cbhfsk, .p1234, 0, false, .all⟩
  | .CH_CHAIN_MEM_STATE1 => ⟨.CH_CHAIN_MEM, 14, 2, .RO, .cbhfsk, .p1234, 0, false, .all⟩
  | .CH_CHAIN_MEM_SPINDLE1 => ⟨.CH_CHAIN_MEM, 9, 5, .RO, .cbhfsk, .p1234, 0, false, .all⟩
  | .CH_CHAIN_MEM_SURFACE1 => ⟨.CH_CHAIN_MEM, 8, 1, .RO, .cbhfsk, .p1234, 0, false, .all⟩
  | .CH_CHAIN_MEM_STATE2 => ⟨.CH_CHAIN_MEM, 22, 2, .RO, .cbhfsk, .p1234, 0, false, .all⟩
  | .CH_CHAIN_MEM_SPINDLE2 => ⟨.CH_CHAIN_MEM, 17, 5, .RO, .cbhfsk, .p1234, 0, false, .all⟩
  | .CH_CHAIN_MEM_SURFACE2 => ⟨.CH_CHAIN_MEM, 16, 1, .RO, .cbhfsk, .p1234, 0, false, .all⟩
  | .CH_CHAIN_MEM_STATE3 => ⟨.CH_CHAIN_MEM, 30, 2, .RO, .cbhfsk, .p1234, 0, false, .all⟩
  | .CH_CHAIN_MEM_SPINDLE3 => ⟨.CH_CHAIN_MEM, 25, 5, .RO, .cbhfsk, .p1234, 0, false, .all⟩
  | .CH_CHAIN_MEM_SURFACE3 => ⟨.CH_CHAIN_MEM, 24, 1, .RO, .cbhfsk, .p1234, 0, false, .all⟩
  | .CL_AQ_SQ_BASE_BASE => ⟨.CL_AQ_SQ_BASE, 12, 52, .RW, .k, .p123, 0, false, .all⟩
  | .CL_AQ_CQ_BASE_BASE => ⟨.CL_AQ_CQ_BASE, 12, 52, .RW, .k, .p123, 0, false, .all⟩
  | .CL_AQ_SIZE_SIZE => ⟨.CL_AQ_SIZE, 0, 12, .RW, .k, .p123, 0, false, .within 1 4095⟩
  | .CL_DOORBELL_CQ_HEAD => ⟨.CL_DOORBELL, 32, 12, .WO, .none, .none, 0, false, .all⟩
  | .CL_DOORBELL_SQ_TAIL => ⟨.CL_DOORBELL, 0, 12, .WO, .none, .none, 0, false, .all⟩
  | .MSIX_TABLE_DATA => ⟨.MSIX_TABLE, 64, 32, .RW, .sk, .p123, 0, false, .all⟩
  | .MSIX_TABLE_ADDR => ⟨.MSIX_TABLE, 0, 64, .RW, .sk, .p123, 0, false, .all⟩
  | .MSIX_TABLE_CTRL => ⟨.MSIX_TABLE, 96, 32, .RW, .sk, .p123, 1, false, .all⟩
  | .MSIX_PBA_BITS => ⟨.MSIX_PBA, 0, 64, .RO, .sk, .p123, 0, false, .all⟩
  | .FG_IN_BYTES_COUNT => ⟨.FG_IN_BYTES, 0, 64, .RO, .hfsk, .p12, 0, false, .all⟩
  | .FG_OUT_BYTES_COUNT => ⟨.FG_OUT_BYTES, 0, 64, .RO, .hfsk, .p12, 0, false, .all⟩
  | .HM_ADC_SEL_D3O => ⟨.HM_ADC_SEL, 28, 4, .RV, .hfsk, .p123, 7, true, .within 0 9⟩
  | .HM_ADC_SEL_D3E => ⟨.HM_ADC_SEL, 24, 4, .RV, .hfsk, .p123, 6, true, .within 0 9⟩
  | .HM_ADC_SEL_D2O => ⟨.HM_ADC_SEL, 20, 4, .RV, .hfsk, .p123, 5, true, .within 0 9⟩
  | .HM_ADC_SEL_D2E => ⟨.HM_ADC_SEL, 16, 4, .RV, .hfsk, .p123, 4, true, .within 0 9⟩
  | .HM_ADC_SEL_D1O => ⟨.HM_ADC_SEL, 12, 4, .RV, .hfsk, .p123, 3, true, .within 0 9⟩
  | .HM_ADC_SEL_D1E => ⟨.HM_ADC_SEL, 8, 4, .RV, .hfsk, .p123, 2, true, .within 0 9⟩
  | .HM_ADC_SEL_D0O => ⟨.HM_ADC_SEL, 4, 4, .RV, .hfsk, .p123, 1, true, .within 0 9⟩
  | .HM_ADC_SEL_D0E => ⟨.HM_ADC_SEL, 0, 4, .RV, .hfsk, .p123, 0, true, .within 0 9⟩
  | .HM_LIFE_DAYS => ⟨.HM_LIFE, 16, 16, .RO, .hfsk, .p123, 65535, false, .all⟩
  | .HM_LIFE_LIMIT => ⟨.HM_LIFE, 12, 4, .RO, .hfsk, .p123, 0, false, .all⟩
  | .HM_SPIN_LIFE_DAYS => ⟨.HM_SPIN_LIFE, 16, 16, .RO, .hfsk, .p123, 65535, false, .all⟩
  | .HM_SPIN_LIFE_LIMIT => ⟨.HM_SPIN_LIFE, 12, 4, .RO, .hfsk, .p123, 0, false, .all⟩
  | .HM_SPIN_LIFE_FRICTION => ⟨.HM_SPIN_LIFE, 0, 12, .RO, .hfsk, .p123, 0, false, .all⟩
  | .HM_DEV_LIFE_DAYS => ⟨.HM_DEV_LIFE, 48, 16, .RO, .hfsk, .p123, 65535, false, .all⟩
  | .HM_DEV_LIFE_LIMIT => ⟨.HM_DEV_LIFE, 44, 4, .RO, .hfsk, .p123, 0, false, .all⟩
  | .HM_DEV_LIFE_JRN_WEAR => ⟨.HM_DEV_LIFE, 0, 32, .RO, .hfsk, .p123, 0, false, .all⟩
  | .HM_LANE_INIT_GAIN => ⟨.HM_LANE_INIT, 20, 12, .RV, .hfsk, .p123, 0, true, .all⟩
  | .HM_LANE_INIT_DC => ⟨.HM_LANE_INIT, 10, 10, .RV, .hfsk, .p123, 0, true, .all⟩
  | .HM_LANE_INIT_ASYM => ⟨.HM_LANE_INIT, 0, 10, .RV, .hfsk, .p123, 0, true, .all⟩
  | .HM_TAPS_HI => ⟨.HM_TAPS, 16, 16, .RV, .hfsk, .p123, 0, true, .all⟩
  | .HM_TAPS_LO => ⟨.HM_TAPS, 0, 16, .RV, .hfsk, .p123, 0, true, .all⟩
  | .TH_BROKEN_BITS => ⟨.TH_BROKEN, 0, 32, .W1C, .hfsk, .p123, 0, false, .all⟩
  | .PM_CTL_WAKE => ⟨.PM_CTL, 31, 1, .WO, .none, .none, 0, false, .all⟩
  | .KP_SPIN_L_BITS => ⟨.KP_SPIN_L, 0, 32, .RO, .hfsk, .p1234, 0, false, .all⟩
  | .KP_SPIN_S_BITS => ⟨.KP_SPIN_S, 0, 32, .RO, .hfsk, .p1234, 0, false, .all⟩
  | .KP_LOCK_HOLD_BITS => ⟨.KP_LOCK_HOLD, 0, 32, .RO, .hfsk, .p1234, 0, false, .all⟩
  | .KP_PERMIT_BITS => ⟨.KP_PERMIT, 0, 32, .RO, .hfsk, .p1234, 0, false, .all⟩
  | .KP_HEAD_LATCH_BITS => ⟨.KP_HEAD_LATCH, 0, 32, .RO, .hfsk, .p1234, 0, false, .all⟩

/-- The LOOP_KIND of the laws of the default image in slots 0 to 8 (R109). -/
def lawLoops : List Nat := [0, 0, 0, 1, 1, 2, 3, 4, 4]

/-- The laws of the default image in slots 0 to 8 (R109): each stage's KIND and its operands A and B. The kinds are the manual's; the
operands are the model's choice, with the integrators wired as R121 asks (log entry 74). -/
def lawStages : List (List (Nat × Nat × Nat)) :=
  [[(1, 16, 17), (2, 0, 17), (3, 0, 17), (5, 1, 2), (2, 3, 17), (6, 3, 17)],
   [(1, 16, 17), (2, 0, 17), (6, 1, 17), (7, 2, 17)],
   [(1, 16, 17), (2, 0, 17), (2, 1, 17), (3, 0, 17), (5, 2, 3), (6, 4, 17)],
   [(1, 16, 17), (2, 0, 17), (3, 0, 17), (5, 1, 2), (8, 17, 17), (9, 3, 4), (2, 5, 17), (6, 3, 17)],
   [(1, 16, 17), (4, 16, 17), (5, 0, 1), (9, 2, 17), (6, 3, 17), (7, 4, 17)],
   [(1, 16, 17), (2, 0, 17), (3, 0, 17), (5, 1, 2), (6, 3, 17)],
   [(1, 16, 17), (3, 0, 17), (7, 1, 17), (6, 1, 17)],
   [(1, 16, 17), (3, 0, 17), (9, 1, 0), (6, 1, 17)],
   [(1, 16, 17), (3, 0, 17), (9, 1, 0), (7, 2, 17), (6, 1, 17)]]

/-- Cycles of a stage of a kind (R94). -/
def kindCycles (kind : Nat) : Nat := [0, 3, 10, 5, 4, 3, 2, 4, 7, 3].getD kind 0

/-- Stage `k` of a slot of the default image. -/
def lawStage? (slot k : Nat) : Option (Nat × Nat × Nat) := (lawStages.getD slot [])[k]?

/-- The structure word of a stage of the default image, without its reserved bits; operands C and D name zero. -/
def lawWord (slot k : Nat) : Nat :=
  match lawStage? slot k with
  | some (kind, a, b) => kind * 2 ^ 24 + a * 2 ^ 19 + b * 2 ^ 14 + 17 * 2 ^ 9 + 17 * 2 ^ 4
  | none => 0

/-- Coefficient `j` of a stage of the default image (log entry 74): a factor of 1, limits at the ends of the range, the tracking
table. -/
def lawCoef (slot k j : Nat) : Nat :=
  match lawStage? slot k with
  | some (6, _) => [0x7FFFFFFF, 0x80000000].getD j 0
  | some (7, _) => if j = 0 then 0x7FFFFFFF else 0
  | some (8, _) => if j = 0 then 1 else 0
  | some (5, _) => 0
  | some _ => if j = 0 then 0x10000000 else 0
  | none => 0

/-- The reset value of instance `i` of a field (R13; log entry 4 where the manual gives none). -/
def Fld.resetVal (f : Fld) (i : Nat) : Nat :=
  match f with
  | .BZ_HEAD_STAT_OWNER => i / 4
  | .BZ_HEAD_STAT_SLOT => i % 4
  | .BZ_LAW_H0_VALID => b2n (decide (i % 12 < 9))
  | .BZ_LAW_H0_COST => if i % 12 < 9 then 16 + ((lawStages.getD (i % 12) []).map fun s => kindCycles s.1).sum else 0
  | .BZ_LAW_H0_NSTAGES => (lawStages.getD (i % 12) []).length
  | .BZ_LAW_H0_LOOP_KIND => lawLoops.getD (i % 12) 0
  | .BZ_LAW_STRUCT_WORD => lawWord (i / 16 % 12) (i % 16)
  | .BZ_LAW_COEF_C => lawCoef (i / 80 % 12) (i / 5 % 16) (i % 5)
  | .BZ_LOOP_CFG_INV => if i % 5 = 4 then 1 else 0
  | .BZ_LOOP_CFG_FE_TICKS => [40, 40, 400, 4000, 20].getD (i % 5) 0
  | .MO_HANDOVER_BLEND_TICKS => [8, 8, 16, 0, 0].getD (i % 5) 0
  | .FC_WS_LAYER_PW_RATIO => 0x6000 + 0x400 * (i % 16)
  | .FC_WS_ENTRY_T_START => if i % 8 = 0 then 2 else 0
  | .FC_WS_ENTRY_T_TOP => [12, 24, 16, 16, 16, 16, 16, 16].getD (i % 8) 0
  | .FC_WS_ENTRY_T_LAST => [0, 0, 12, 12, 14, 14, 16, 16].getD (i % 8) 0
  | .FC_WS_ENTRY_T_END => if i % 8 < 2 then 0 else 252
  | .FC_WS_ENTRY_T_COOL => [16, 16, 16, 16, 20, 20, 24, 24].getD (i % 8) 0
  | .TH_LIMIT_BASE => [95, 60, 75, 40].getD i 0
  | .TH_LIMIT_STEP_W => [2, 2, 3, 2].getD i 0
  | .TH_LIMIT_HYST => [3, 3, 3, 2].getD i 0
  | .TH_LIMIT_RATE_LIM => [20, 10, 0, 0].getD i 0
  | .BZ_LOOP_FEL_FE_LIMIT => [0x20000000, 0x20000000, 0x40000000, 0x60000000, 0x10000000].getD (i % 5) 0
  | .FC_E4_PT_FOC_OFS => [655, 64881, 1311, 64225, 0, 0, 0, 0].getD (i % 8) 0
  | .FC_E4_PT_TILT_OFS => [0, 0, 0, 0, 1024, 64512, 0, 0].getD (i % 8) 0
  | f => f.info.dflt

/-- Where a register lies: its first BAR0 offset, the (count, stride) of each dimension, its width in bits. -/
structure RegInfo where
  base : Nat
  dims : List (Nat × Nat)
  width : Nat
deriving DecidableEq, Repr

/-- The offset, dimensions and width of every register. -/
def Reg.info : Reg → RegInfo
  | .SY_DTIME => ⟨0x100, [], 64⟩
  | .SY_LIBTIME_OFS => ⟨0x108, [], 64⟩
  | .SY_TIME_CTL => ⟨0x110, [], 32⟩
  | .SY_NODE => ⟨0x118, [], 32⟩
  | .SY_RESET => ⟨0x120, [], 32⟩
  | .SY_POP_HEAD => ⟨0x140, [(4, 0x4)], 32⟩
  | .SY_POP_SPIN => ⟨0x150, [], 32⟩
  | .HL_CTL => ⟨0x400000, [(128, 0x4000)], 32⟩
  | .SL_CTL => ⟨0x600000, [(32, 0x4000)], 32⟩
  | .HL_STATUS => ⟨0x400004, [(128, 0x4000)], 32⟩
  | .SL_STATUS => ⟨0x600004, [(32, 0x4000)], 32⟩
  | .HL_ERR => ⟨0x400008, [(128, 0x4000)], 32⟩
  | .SL_ERR => ⟨0x600008, [(32, 0x4000)], 32⟩
  | .HL_MARGIN => ⟨0x40000c, [(128, 0x4000)], 32⟩
  | .SL_MARGIN => ⟨0x60000c, [(32, 0x4000)], 32⟩
  | .BZ_HEAD_STAT => ⟨0x400040, [(128, 0x4000)], 32⟩
  | .BZ_LEARN => ⟨0x400044, [(128, 0x4000)], 32⟩
  | .BZ_LOOP_CFG => ⟨0x400100, [(128, 0x4000), (5, 0x20)], 32⟩
  | .BZ_LOOP_REF => ⟨0x400104, [(128, 0x4000), (5, 0x20)], 32⟩
  | .BZ_LOOP_FEL => ⟨0x400108, [(128, 0x4000), (5, 0x20)], 32⟩
  | .BZ_LOOP_STAT => ⟨0x40010c, [(128, 0x4000), (5, 0x20)], 32⟩
  | .BZ_LOOP_SAT => ⟨0x400110, [(128, 0x4000), (5, 0x20)], 32⟩
  | .BZ_LAW_H0 => ⟨0x401000, [(128, 0x4000), (12, 0x240)], 32⟩
  | .BZ_LAW_H1 => ⟨0x401004, [(128, 0x4000), (12, 0x240)], 32⟩
  | .BZ_LAW_STRUCT => ⟨0x401020, [(128, 0x4000), (12, 0x240), (16, 0x20)], 32⟩
  | .BZ_LAW_COEF => ⟨0x401024, [(128, 0x4000), (12, 0x240), (16, 0x20), (5, 0x4)], 32⟩
  | .BZ_LAW_HRES => ⟨0x401008, [(128, 0x4000), (12, 0x240), (6, 0x4)], 32⟩
  | .BZ_LAW_SRES => ⟨0x401038, [(128, 0x4000), (12, 0x240), (16, 0x20), (2, 0x4)], 32⟩
  | .BZ_RUN_FOC => ⟨0x403000, [(128, 0x4000), (256, 0x4)], 32⟩
  | .BZ_RUN_TRK => ⟨0x403400, [(128, 0x4000), (256, 0x4)], 32⟩
  | .BZ_CTL => ⟨0x600100, [(32, 0x4000)], 32⟩
  | .BZ_BUDGET => ⟨0x600104, [(32, 0x4000)], 32⟩
  | .BZ_FAULT => ⟨0x600108, [(32, 0x4000)], 32⟩
  | .BZ_TRACE_CTL => ⟨0x600110, [(32, 0x4000)], 32⟩
  | .BZ_TRACE_LEVEL => ⟨0x600114, [(32, 0x4000)], 32⟩
  | .BZ_TRACE_STAT => ⟨0x600118, [(32, 0x4000)], 32⟩
  | .BZ_TRACE_NODE => ⟨0x600120, [(32, 0x4000), (4, 0x4)], 32⟩
  | .BZ_TRACE_TIME => ⟨0x600130, [(32, 0x4000)], 64⟩
  | .BZ_TRACE_RAM => ⟨0x2000000, [(32, 0x100000), (8192, 0x20), (8, 0x4)], 32⟩
  | .MO_MODE => ⟨0x400800, [(128, 0x4000)], 32⟩
  | .MO_CTL => ⟨0x400804, [(128, 0x4000)], 32⟩
  | .MO_POS => ⟨0x400808, [(128, 0x4000)], 32⟩
  | .MO_BAND_AT_0 => ⟨0x40080c, [(128, 0x4000)], 32⟩
  | .MO_ADDR => ⟨0x400810, [(128, 0x4000)], 64⟩
  | .MO_SLED_CFG => ⟨0x400818, [(128, 0x4000)], 32⟩
  | .MO_COIL_CFG => ⟨0x40081c, [(128, 0x4000)], 32⟩
  | .MO_SEEK_CFG => ⟨0x400820, [(128, 0x4000)], 32⟩
  | .MO_FOCUS_CFG => ⟨0x400824, [(128, 0x4000)], 32⟩
  | .MO_JUMP_CFG => ⟨0x400828, [(128, 0x4000)], 32⟩
  | .MO_SETTLE_CFG => ⟨0x40082c, [(128, 0x4000)], 32⟩
  | .MO_GUARD => ⟨0x400844, [(128, 0x4000)], 32⟩
  | .MO_GUARD2 => ⟨0x400848, [(128, 0x4000)], 32⟩
  | .MO_STAT => ⟨0x40084c, [(128, 0x4000)], 32⟩
  | .MO_LAWSEL0 => ⟨0x400850, [(128, 0x4000)], 32⟩
  | .MO_LAWSEL1 => ⟨0x400854, [(128, 0x4000)], 32⟩
  | .MO_HOME => ⟨0x400858, [(128, 0x4000)], 32⟩
  | .MO_HANDOVER => ⟨0x400830, [(128, 0x4000), (5, 0x4)], 32⟩
  | .MO_SHOCK => ⟨0x600800, [(32, 0x4000)], 32⟩
  | .TQ_CTL => ⟨0x600900, [(32, 0x4000)], 32⟩
  | .TQ_STAT => ⟨0x600904, [(32, 0x4000)], 32⟩
  | .TQ_MOTOR => ⟨0x600908, [(32, 0x4000)], 32⟩
  | .TQ_MOTOR2 => ⟨0x60090c, [(32, 0x4000)], 32⟩
  | .TQ_START_CFG => ⟨0x600910, [(32, 0x4000)], 32⟩
  | .TQ_RUN_CFG => ⟨0x600914, [(32, 0x4000)], 32⟩
  | .TQ_BRAKE_CFG => ⟨0x600918, [(32, 0x4000)], 32⟩
  | .TQ_LOOP_CFG => ⟨0x60091c, [(32, 0x4000)], 32⟩
  | .TQ_ERR => ⟨0x600920, [(32, 0x4000)], 32⟩
  | .TQ_DOOR => ⟨0x600924, [(32, 0x4000)], 32⟩
  | .TQ_DOOR_CTL => ⟨0x600928, [(32, 0x4000)], 32⟩
  | .TQ_CORE => ⟨0x600940, [(4, 0x20000)], 32⟩
  | .FC_SYNC_CFG => ⟨0x800000, [(128, 0x4000)], 32⟩
  | .FC_EQ_CFG => ⟨0x800004, [(128, 0x4000)], 32⟩
  | .FC_TARGET => ⟨0x800008, [(128, 0x4000)], 32⟩
  | .FC_DEFECT_CFG => ⟨0x80000c, [(128, 0x4000)], 32⟩
  | .FC_E2_CFG => ⟨0x800010, [(128, 0x4000)], 32⟩
  | .FC_RECOV => ⟨0x800014, [(128, 0x4000)], 32⟩
  | .FC_E4_PT => ⟨0x800020, [(128, 0x4000), (8, 0x4)], 32⟩
  | .FC_STAT => ⟨0x800040, [(128, 0x4000), (4, 0x4)], 32⟩
  | .FC_LANE => ⟨0x800050, [(128, 0x4000), (4, 0x4)], 32⟩
  | .FC_TAPS => ⟨0x800100, [(128, 0x4000), (4, 0x80), (18, 0x4)], 32⟩
  | .FC_WR_CFG => ⟨0x800400, [(128, 0x4000)], 32⟩
  | .FC_WR_STAT => ⟨0x800404, [(128, 0x4000)], 32⟩
  | .FC_RELOC_NEXT => ⟨0x800410, [(128, 0x4000), (4, 0x4)], 32⟩
  | .FC_WS_LAYER => ⟨0x800600, [(128, 0x4000), (16, 0x8)], 64⟩
  | .FC_WS_ENTRY => ⟨0x800800, [(128, 0x4000), (16, 0x40), (8, 0x8)], 64⟩
  | .FC_WR_TEMP => ⟨0x2100, [], 32⟩
  | .LD_POOL => ⟨0x2000, [], 32⟩
  | .LD_STAT => ⟨0x2004, [], 32⟩
  | .LD_CW_FAIL => ⟨0x2008, [], 32⟩
  | .LD_STEP_CNT => ⟨0x2010, [(8, 0x4)], 32⟩
  | .CH_CHAIN_W0 => ⟨0x3000, [(16, 0x20)], 32⟩
  | .CH_CHAIN_MEM => ⟨0x3004, [(16, 0x20), (4, 0x4)], 32⟩
  | .CH_CHAIN_W5 => ⟨0x3014, [(16, 0x20)], 32⟩
  | .CH_CFG => ⟨0x3200, [], 32⟩
  | .CH_STAT => ⟨0x3208, [], 32⟩
  | .CL_CAP => ⟨0x200000, [], 64⟩
  | .CL_CTL => ⟨0x200008, [], 32⟩
  | .CL_STAT => ⟨0x20000c, [], 32⟩
  | .CL_AQ_SQ_BASE => ⟨0x200010, [], 64⟩
  | .CL_AQ_CQ_BASE => ⟨0x200018, [], 64⟩
  | .CL_AQ_SIZE => ⟨0x200020, [], 32⟩
  | .CL_LOG_STAT => ⟨0x200028, [], 64⟩
  | .CL_LOCK_STAT => ⟨0x200030, [], 32⟩
  | .CL_QFENCE => ⟨0x201000, [(1024, 0x4)], 32⟩
  | .CL_QSTAT => ⟨0x202000, [(1024, 0x4)], 32⟩
  | .CL_DOORBELL => ⟨0x100000, [(1024, 0x8)], 64⟩
  | .MSIX_TABLE => ⟨0x300000, [(1025, 0x10)], 128⟩
  | .MSIX_PBA => ⟨0x310000, [(17, 0x8)], 64⟩
  | .FG_CFG => ⟨0xd00000, [], 32⟩
  | .FG_STAT => ⟨0xd00004, [], 32⟩
  | .FG_IN_BYTES => ⟨0xd00008, [], 64⟩
  | .FG_OUT_BYTES => ⟨0xd00010, [], 64⟩
  | .FG_ERR => ⟨0xd00018, [], 32⟩
  | .CK_CTL => ⟨0xc00000, [], 32⟩
  | .CK_STAT => ⟨0xc00004, [], 32⟩
  | .MI_DRAM_CFG => ⟨0xc00100, [], 32⟩
  | .MI_SCRUB_CFG => ⟨0xc00104, [], 32⟩
  | .MI_ERR => ⟨0xc00108, [], 32⟩
  | .MI_REMAP_STAT => ⟨0xc0010c, [], 32⟩
  | .MI_LAST_ERR => ⟨0xc00110, [], 64⟩
  | .MI_LOST_STAT => ⟨0xc00118, [], 32⟩
  | .MI_SCRUB_STAT => ⟨0xc0011c, [], 32⟩
  | .HM_CTL => ⟨0xe00000, [(128, 0x2000)], 32⟩
  | .HM_STAT => ⟨0xe00004, [(128, 0x2000)], 32⟩
  | .HM_ADC_SEL => ⟨0xe00008, [(128, 0x2000)], 32⟩
  | .HM_SCALE => ⟨0xe00040, [(128, 0x2000)], 64⟩
  | .HM_LASER => ⟨0xe00050, [(128, 0x2000)], 64⟩
  | .HM_LIFE => ⟨0xe00058, [(128, 0x2000)], 32⟩
  | .HM_ADC_TRIM => ⟨0xe00010, [(128, 0x2000), (10, 0x4)], 32⟩
  | .HM_PLAN => ⟨0xe00100, [(128, 0x2000), (16, 0x10)], 128⟩
  | .HM_LANE_INIT => ⟨0xe00200, [(128, 0x2000), (4, 0x4)], 32⟩
  | .HM_TAPS => ⟨0xe00400, [(128, 0x2000), (16, 0x120), (4, 0x48), (18, 0x4)], 32⟩
  | .HM_CFG => ⟨0x2200, [], 32⟩
  | .HM_DEV_LIFE => ⟨0x2208, [], 64⟩
  | .HM_SPIN_LIFE => ⟨0x600a00, [(32, 0x4000)], 32⟩
  | .TH_CTL => ⟨0xf00000, [], 32⟩
  | .TH_STAT => ⟨0xf00004, [], 32⟩
  | .TH_AMBIENT => ⟨0xf00008, [], 32⟩
  | .TH_LIMIT => ⟨0xf00010, [(4, 0x4)], 32⟩
  | .TH_BROKEN => ⟨0xf00020, [(6, 0x4)], 32⟩
  | .TH_ZONE => ⟨0xf00100, [(177, 0x4)], 32⟩
  | .PM_CTL => ⟨0xf01000, [], 32⟩
  | .PM_STAT => ⟨0xf01004, [], 32⟩
  | .PM_CFG => ⟨0xf01008, [], 32⟩
  | .PM_POWER => ⟨0xf0100c, [], 32⟩
  | .KP_STAT => ⟨0x1000000, [], 32⟩
  | .KP_SPIN_L => ⟨0x1000004, [], 32⟩
  | .KP_SPIN_S => ⟨0x1000008, [], 32⟩
  | .KP_LOCK_HOLD => ⟨0x100000c, [], 32⟩
  | .KP_PERMIT => ⟨0x1000010, [], 32⟩
  | .KP_CORES => ⟨0x1000030, [], 64⟩
  | .KP_CAUSE => ⟨0x1000040, [], 64⟩
  | .KP_DIAG => ⟨0x1000048, [], 32⟩
  | .KP_CFG => ⟨0x1000050, [], 32⟩
  | .KP_ILIM => ⟨0x1000054, [], 32⟩
  | .KP_HEAD_LATCH => ⟨0x1000020, [(4, 0x4)], 32⟩
  | .LK_BOOT_STAT => ⟨0x1100000, [], 32⟩
  | .LK_FUSE_STAT => ⟨0x1100008, [], 64⟩
  | .LK_CTL => ⟨0x1100010, [], 32⟩
  | .CM_CFG => ⟨0x1200000, [], 32⟩
  | .CM_STAT => ⟨0x1200004, [], 32⟩
  | .CM_SEQ => ⟨0x1200008, [], 64⟩
  | .CM_RATE_OVR => ⟨0x1200040, [(16, 0x4)], 32⟩
  | .MG_CFG => ⟨0x2300, [], 32⟩
  | .MG_GPIO => ⟨0x2304, [], 32⟩
  | .MG_STAT => ⟨0x2308, [], 32⟩

/-- The fields of every register, as its map lists them. -/
def Reg.fields : Reg → List Fld
  | .SY_DTIME => [.SY_DTIME_DTIME]
  | .SY_LIBTIME_OFS => [.SY_LIBTIME_OFS_OFFSET]
  | .SY_TIME_CTL => [.SY_TIME_CTL_LT_VALID, .SY_TIME_CTL_PTM_FAILS, .SY_TIME_CTL_PTM_PERIOD, .SY_TIME_CTL_PTM_EN, .SY_TIME_CTL_PTM_NOW]
  | .SY_NODE => [.SY_NODE_NODE_HI, .SY_NODE_NODE_LO]
  | .SY_RESET => [.SY_RESET_LAST, .SY_RESET_SUPPLY, .SY_RESET_HOST_RESETS]
  | .SY_POP_HEAD => [.SY_POP_HEAD]
  | .SY_POP_SPIN => [.SY_POP_SPIN]
  | .HL_CTL => [.HL_CTL_LINK_EN, .HL_CTL_RETRY_MAX, .HL_CTL_MARGIN_START, .HL_CTL_FULL_TRAIN, .HL_CTL_RETRAIN]
  | .SL_CTL => [.SL_CTL_LINK_EN, .SL_CTL_RETRY_MAX, .SL_CTL_MARGIN_START, .SL_CTL_FULL_TRAIN, .SL_CTL_RETRAIN]
  | .HL_STATUS => [.HL_STATUS_STATE, .HL_STATUS_EPOCH, .HL_STATUS_RATE, .HL_STATUS_PRESENT, .HL_STATUS_PEND_SAFE, .HL_STATUS_MARGIN_DONE, .HL_STATUS_LATENCY, .HL_STATUS_PEND_REV]
  | .SL_STATUS => [.SL_STATUS_STATE, .SL_STATUS_PRESENT, .SL_STATUS_BAIL_SAFE, .SL_STATUS_MARGIN_DONE, .SL_STATUS_LATENCY, .SL_STATUS_BAIL_REV]
  | .HL_ERR => [.HL_ERR_SERVO_BAD, .HL_ERR_TIMING_BAD, .HL_ERR_SAMPLE_BAD, .HL_ERR_STALE]
  | .SL_ERR => [.SL_ERR_CURR_BAD, .SL_ERR_FRAME_BAD]
  | .HL_MARGIN => [.HL_MARGIN_EYE_W, .HL_MARGIN_EYE_H, .HL_MARGIN_PEND_EYE_W, .HL_MARGIN_PEND_EYE_H]
  | .SL_MARGIN => [.SL_MARGIN_EYE_W, .SL_MARGIN_EYE_H, .SL_MARGIN_PEND_EYE_W, .SL_MARGIN_PEND_EYE_H]
  | .BZ_HEAD_STAT => [.BZ_HEAD_STAT_OWNER, .BZ_HEAD_STAT_SLOT, .BZ_HEAD_STAT_ADOPT_PARK, .BZ_HEAD_STAT_LAW_WR_REJ, .BZ_HEAD_STAT_COST]
  | .BZ_LEARN => [.BZ_LEARN_FOC_MODE, .BZ_LEARN_TRK_MODE, .BZ_LEARN_FOC_BUSY, .BZ_LEARN_TRK_BUSY, .BZ_LEARN_FOC_FAIL, .BZ_LEARN_TRK_FAIL, .BZ_LEARN_LEARN_REVS, .BZ_LEARN_PASSES]
  | .BZ_LOOP_CFG => [.BZ_LOOP_CFG_LAW, .BZ_LOOP_CFG_NEXT, .BZ_LOOP_CFG_INV, .BZ_LOOP_CFG_FE_TICKS]
  | .BZ_LOOP_REF => [.BZ_LOOP_REF_REF]
  | .BZ_LOOP_FEL => [.BZ_LOOP_FEL_FE_LIMIT]
  | .BZ_LOOP_STAT => [.BZ_LOOP_STAT_FE_COUNT, .BZ_LOOP_STAT_FE_FAULT, .BZ_LOOP_STAT_OUT_SAT, .BZ_LOOP_STAT_INT_HOLD]
  | .BZ_LOOP_SAT => [.BZ_LOOP_SAT_STAGE_SAT]
  | .BZ_LAW_H0 => [.BZ_LAW_H0_VALID, .BZ_LAW_H0_COST, .BZ_LAW_H0_NSTAGES, .BZ_LAW_H0_LOOP_KIND, .BZ_LAW_H0_COMMIT]
  | .BZ_LAW_H1 => [.BZ_LAW_H1_COEF_HOLD, .BZ_LAW_H1_LAW_ID]
  | .BZ_LAW_STRUCT => [.BZ_LAW_STRUCT_WORD]
  | .BZ_LAW_COEF => [.BZ_LAW_COEF_C]
  | .BZ_LAW_HRES => []
  | .BZ_LAW_SRES => []
  | .BZ_RUN_FOC => [.BZ_RUN_FOC_T]
  | .BZ_RUN_TRK => [.BZ_RUN_TRK_T]
  | .BZ_CTL => [.BZ_CTL_OVR_WINDOW]
  | .BZ_BUDGET => [.BZ_BUDGET_LOAD, .BZ_BUDGET_PEAK, .BZ_BUDGET_DEFERS]
  | .BZ_FAULT => [.BZ_FAULT_FAILED, .BZ_FAULT_OVERRUNS, .BZ_FAULT_FOLLOW_FAULTS, .BZ_FAULT_LAST_SLOT, .BZ_FAULT_LAST_LOOP]
  | .BZ_TRACE_CTL => [.BZ_TRACE_CTL_ARM, .BZ_TRACE_CTL_FORCE, .BZ_TRACE_CTL_KIND, .BZ_TRACE_CTL_DIR, .BZ_TRACE_CTL_PRE]
  | .BZ_TRACE_LEVEL => [.BZ_TRACE_LEVEL_LEVEL]
  | .BZ_TRACE_STAT => [.BZ_TRACE_STAT_DONE, .BZ_TRACE_STAT_TRIGGERED, .BZ_TRACE_STAT_TRIG_IDX, .BZ_TRACE_STAT_PRE_VALID]
  | .BZ_TRACE_NODE => [.BZ_TRACE_NODE_HI, .BZ_TRACE_NODE_LO]
  | .BZ_TRACE_TIME => [.BZ_TRACE_TIME_TIME]
  | .BZ_TRACE_RAM => [.BZ_TRACE_RAM_W]
  | .MO_MODE => [.MO_MODE_MODE, .MO_MODE_TARGET_LAYER, .MO_MODE_SEEK_PEND, .MO_MODE_POS_VALID, .MO_MODE_HOMED, .MO_MODE_GUARD_OK, .MO_MODE_HANDOVER, .MO_MODE_HEAD_BUSY]
  | .MO_CTL => [.MO_CTL_RELOCATE, .MO_CTL_HOME, .MO_CTL_PARK, .MO_CTL_STOP]
  | .MO_POS => [.MO_POS_POS]
  | .MO_BAND_AT_0 => [.MO_BAND_AT_0_BAND_AT_0]
  | .MO_ADDR => [.MO_ADDR_LAYER, .MO_ADDR_BAND, .MO_ADDR_STRIPE, .MO_ADDR_AGE]
  | .MO_SLED_CFG => [.MO_SLED_CFG_PROFILE, .MO_SLED_CFG_VMAX, .MO_SLED_CFG_ACCEL, .MO_SLED_CFG_JERK]
  | .MO_COIL_CFG => [.MO_COIL_CFG_STRONG_ON, .MO_COIL_CFG_HYST]
  | .MO_SEEK_CFG => [.MO_SEEK_CFG_SHORT_MAX, .MO_SEEK_CFG_FINE_VMAX, .MO_SEEK_CFG_CENTRE_TICKS, .MO_SEEK_CFG_SLED_SETTLE]
  | .MO_FOCUS_CFG => [.MO_FOCUS_CFG_SWEEP_RATE, .MO_FOCUS_CFG_SUM_QUAL, .MO_FOCUS_CFG_FE_QUAL, .MO_FOCUS_CFG_FOCUS_TRIES, .MO_FOCUS_CFG_LOSS_TICKS]
  | .MO_JUMP_CFG => [.MO_JUMP_CFG_KICK_AMP, .MO_JUMP_CFG_KICK_TICKS, .MO_JUMP_CFG_BRAKE_TICKS, .MO_JUMP_CFG_COAST_MAX]
  | .MO_SETTLE_CFG => [.MO_SETTLE_CFG_BRAKE_LEVEL, .MO_SETTLE_CFG_SETTLE_FE, .MO_SETTLE_CFG_SETTLE_TICKS]
  | .MO_GUARD => [.MO_GUARD_WG_TE, .MO_GUARD_WG_FE]
  | .MO_GUARD2 => [.MO_GUARD2_WG_SETTLE]
  | .MO_STAT => [.MO_STAT_REFUSALS, .MO_STAT_GUARD_TRIPS, .MO_STAT_SLIPS, .MO_STAT_CTL_REJ]
  | .MO_LAWSEL0 => [.MO_LAWSEL0_FOC_FOLLOW, .MO_LAWSEL0_FOC_CAPTURE, .MO_LAWSEL0_FOC_SETTLE, .MO_LAWSEL0_TRK_FOLLOW, .MO_LAWSEL0_TRK_SEEK, .MO_LAWSEL0_TILT, .MO_LAWSEL0_SLED]
  | .MO_LAWSEL1 => [.MO_LAWSEL1_LPWR_READ, .MO_LAWSEL1_LPWR_WRITE]
  | .MO_HOME => [.MO_HOME_LATCH]
  | .MO_HANDOVER => [.MO_HANDOVER_BLEND_TICKS, .MO_HANDOVER_BLEND_SLEW, .MO_HANDOVER_HOLDOFF]
  | .MO_SHOCK => [.MO_SHOCK_SHOCK_LIM, .MO_SHOCK_SHOCK_SETTLE]
  | .TQ_CTL => [.TQ_CTL_RUN, .TQ_CTL_DIR, .TQ_CTL_SPEED_CMD, .TQ_CTL_CHOP_TEST, .TQ_CTL_CLEAR]
  | .TQ_STAT => [.TQ_STAT_STATE, .TQ_STAT_AT_SPEED, .TQ_STAT_ABNORMAL, .TQ_STAT_CHOP_FAULT, .TQ_STAT_DEPTH_LIM, .TQ_STAT_BUS_WARN, .TQ_STAT_ANGLE_NEW, .TQ_STAT_LOW30, .TQ_STAT_REVERSE, .TQ_STAT_SPEED]
  | .TQ_MOTOR => [.TQ_MOTOR_POLE_PAIRS, .TQ_MOTOR_KE_NOM, .TQ_MOTOR_KE_MEAS]
  | .TQ_MOTOR2 => [.TQ_MOTOR2_R_PH, .TQ_MOTOR2_L_PH]
  | .TQ_START_CFG => [.TQ_START_CFG_I_ALIGN, .TQ_START_CFG_ALIGN_MS, .TQ_START_CFG_OBS_MIN, .TQ_START_CFG_CATCH_MIN]
  | .TQ_RUN_CFG => [.TQ_RUN_CFG_ACCEL, .TQ_RUN_CFG_DECEL, .TQ_RUN_CFG_SPEED_TOL, .TQ_RUN_CFG_T_DEAD]
  | .TQ_BRAKE_CFG => [.TQ_BRAKE_CFG_BRAKE_ILIM, .TQ_BRAKE_CFG_STILL_I, .TQ_BRAKE_CFG_R_CHOP]
  | .TQ_LOOP_CFG => [.TQ_LOOP_CFG_CUR_BW, .TQ_LOOP_CFG_SPD_BW]
  | .TQ_ERR => [.TQ_ERR_PRED, .TQ_ERR_START_FAILS, .TQ_ERR_CATCHES, .TQ_ERR_CTL_REJ]
  | .TQ_DOOR => [.TQ_DOOR_DOOR_CLOSED, .TQ_DOOR_LOCK_ENGAGED, .TQ_DOOR_TRAY_IN, .TQ_DOOR_TRAY_OUT, .TQ_DOOR_CART_PRESENT, .TQ_DOOR_EJ_REQ, .TQ_DOOR_FORCED, .TQ_DOOR_TRAY_FAIL, .TQ_DOOR_LED]
  | .TQ_DOOR_CTL => [.TQ_DOOR_CTL_EJECT, .TQ_DOOR_CTL_LOAD]
  | .TQ_CORE => [.TQ_CORE_FAILED, .TQ_CORE_OVERRUNS]
  | .FC_SYNC_CFG => [.FC_SYNC_CFG_SYNC_WIN, .FC_SYNC_CFG_SYNC_ERR]
  | .FC_EQ_CFG => [.FC_EQ_CFG_MU_SHIFT, .FC_EQ_CFG_ADAPT_EN, .FC_EQ_CFG_XT_EN, .FC_EQ_CFG_MU_E3]
  | .FC_TARGET => [.FC_TARGET_TLEN, .FC_TARGET_G0, .FC_TARGET_G1, .FC_TARGET_G2, .FC_TARGET_G3, .FC_TARGET_G4]
  | .FC_DEFECT_CFG => [.FC_DEFECT_CFG_DROP_TH, .FC_DEFECT_CFG_REC_TH, .FC_DEFECT_CFG_GUARD, .FC_DEFECT_CFG_SHADOW, .FC_DEFECT_CFG_ENTER_N, .FC_DEFECT_CFG_EXIT_N]
  | .FC_E2_CFG => [.FC_E2_CFG_E2_DROP_TH, .FC_E2_CFG_E2_GUARD, .FC_E2_CFG_E2_SHADOW]
  | .FC_RECOV => [.FC_RECOV_DEF_LAST_STEP, .FC_RECOV_DEF_TIME, .FC_RECOV_E4_POINTS]
  | .FC_E4_PT => [.FC_E4_PT_FOC_OFS, .FC_E4_PT_TILT_OFS]
  | .FC_STAT => [.FC_STAT_SYNC_DISPLACED, .FC_STAT_SYNC_MISS, .FC_STAT_OWN_SPANS, .FC_STAT_SHADOW_SPANS]
  | .FC_LANE => [.FC_LANE_GAIN, .FC_LANE_DC, .FC_LANE_ASYM]
  | .FC_TAPS => [.FC_TAPS_HI, .FC_TAPS_LO]
  | .FC_WR_CFG => [.FC_WR_CFG_VERIFY, .FC_WR_CFG_FUA_TRIES, .FC_WR_CFG_VFY_ITER, .FC_WR_CFG_VFY_SPAN, .FC_WR_CFG_WRITE_LEAD, .FC_WR_CFG_ABANDON_MAX]
  | .FC_WR_STAT => [.FC_WR_STAT_ABANDONED, .FC_WR_STAT_VFY_FAIL, .FC_WR_STAT_SKIPPED, .FC_WR_STAT_UNDERRUN]
  | .FC_RELOC_NEXT => [.FC_RELOC_NEXT_FRONTIER]
  | .FC_WS_LAYER => [.FC_WS_LAYER_PW_RATIO, .FC_WS_LAYER_PM_RATIO, .FC_WS_LAYER_PC_RATIO]
  | .FC_WS_ENTRY => [.FC_WS_ENTRY_T_START, .FC_WS_ENTRY_T_TOP, .FC_WS_ENTRY_T_LAST, .FC_WS_ENTRY_T_END, .FC_WS_ENTRY_T_COOL]
  | .FC_WR_TEMP => [.FC_WR_TEMP_WT_LO, .FC_WR_TEMP_WT_HI, .FC_WR_TEMP_DIE_WMAX, .FC_WR_TEMP_WTEMP_WAIT]
  | .LD_POOL => [.LD_POOL_E0_ITER, .LD_POOL_E1_ITER, .LD_POOL_ACTIVE, .LD_POOL_HOLD_USED]
  | .LD_STAT => [.LD_STAT_MISCORRECT, .LD_STAT_HOLD_FULL]
  | .LD_CW_FAIL => [.LD_CW_FAIL_COUNT]
  | .LD_STEP_CNT => [.LD_STEP_CNT_COUNT]
  | .CH_CHAIN_W0 => [.CH_CHAIN_W0_VALID, .CH_CHAIN_W0_K, .CH_CHAIN_W0_M, .CH_CHAIN_W0_DEGRADED]
  | .CH_CHAIN_MEM => [.CH_CHAIN_MEM_STATE0, .CH_CHAIN_MEM_SPINDLE0, .CH_CHAIN_MEM_SURFACE0, .CH_CHAIN_MEM_STATE1, .CH_CHAIN_MEM_SPINDLE1, .CH_CHAIN_MEM_SURFACE1, .CH_CHAIN_MEM_STATE2, .CH_CHAIN_MEM_SPINDLE2, .CH_CHAIN_MEM_SURFACE2, .CH_CHAIN_MEM_STATE3, .CH_CHAIN_MEM_SPINDLE3, .CH_CHAIN_MEM_SURFACE3]
  | .CH_CHAIN_W5 => [.CH_CHAIN_W5_REB_MEMBER, .CH_CHAIN_W5_REB_NEXT]
  | .CH_CFG => [.CH_CFG_PAD_AFTER, .CH_CFG_STAGE_ROWS, .CH_CFG_REBUILD_SHARE, .CH_CFG_DEGRADED_WR]
  | .CH_STAT => [.CH_STAT_LATE_DROPS, .CH_STAT_PADDED, .CH_STAT_PEER_DROPS]
  | .CL_CAP => [.CL_CAP_VECTORS, .CL_CAP_MAX_IOQ, .CL_CAP_MQES]
  | .CL_CTL => [.CL_CTL_EN, .CL_CTL_RECV_TIMEOUT, .CL_CTL_OPEN_MAX]
  | .CL_STAT => [.CL_STAT_RDY, .CL_STAT_STALL_TAGS, .CL_STAT_STALL_LOCKS, .CL_STAT_OUTSTANDING]
  | .CL_AQ_SQ_BASE => [.CL_AQ_SQ_BASE_BASE]
  | .CL_AQ_CQ_BASE => [.CL_AQ_CQ_BASE_BASE]
  | .CL_AQ_SIZE => [.CL_AQ_SIZE_SIZE]
  | .CL_LOG_STAT => [.CL_LOG_STAT_NEWEST, .CL_LOG_STAT_LOST, .CL_LOG_STAT_HELD]
  | .CL_LOCK_STAT => [.CL_LOCK_STAT_IN_USE, .CL_LOCK_STAT_STALLS]
  | .CL_QFENCE => [.CL_QFENCE_FENCE_BUSY, .CL_QFENCE_FENCE]
  | .CL_QSTAT => [.CL_QSTAT_EXISTS, .CL_QSTAT_FROZEN, .CL_QSTAT_PRIV, .CL_QSTAT_OBJ_OPEN, .CL_QSTAT_OUTSTANDING]
  | .CL_DOORBELL => [.CL_DOORBELL_CQ_HEAD, .CL_DOORBELL_SQ_TAIL]
  | .MSIX_TABLE => [.MSIX_TABLE_DATA, .MSIX_TABLE_ADDR, .MSIX_TABLE_CTRL]
  | .MSIX_PBA => [.MSIX_PBA_BITS]
  | .FG_CFG => [.FG_CFG_FULL_FOR_STD]
  | .FG_STAT => [.FG_STAT_STD_BUSY, .FG_STAT_FULL_BUSY, .FG_STAT_WAITING]
  | .FG_IN_BYTES => [.FG_IN_BYTES_COUNT]
  | .FG_OUT_BYTES => [.FG_OUT_BYTES_COUNT]
  | .FG_ERR => [.FG_ERR_DECODE_ERRORS, .FG_ERR_STORED_BLOCKS]
  | .CK_CTL => [.CK_CTL_DISABLE, .CK_CTL_MB_HIGH, .CK_CTL_MB_AGE]
  | .CK_STAT => [.CK_STAT_DISABLED, .CK_STAT_DRAINING, .CK_STAT_MB_USED, .CK_STAT_EB_USED]
  | .MI_DRAM_CFG => [.MI_DRAM_CFG_CAP, .MI_DRAM_CFG_RATE, .MI_DRAM_CFG_X8, .MI_DRAM_CFG_RANK2]
  | .MI_SCRUB_CFG => [.MI_SCRUB_CFG_CK_PERIOD, .MI_SCRUB_CFG_SRAM_PERIOD, .MI_SCRUB_CFG_DRAM_PERIOD, .MI_SCRUB_CFG_HARD_WINDOW]
  | .MI_ERR => [.MI_ERR_ARRAY_FIX, .MI_ERR_SRAM_FIX, .MI_ERR_DRAM_FIX, .MI_ERR_UNCORR]
  | .MI_REMAP_STAT => [.MI_REMAP_STAT_DRAM_USED, .MI_REMAP_STAT_SRAM_MAX, .MI_REMAP_STAT_DRAM_FULL, .MI_REMAP_STAT_SRAM_FULL, .MI_REMAP_STAT_FUSE_ROWS]
  | .MI_LAST_ERR => [.MI_LAST_ERR_MEMORY, .MI_LAST_ERR_CHECK, .MI_LAST_ERR_GROUP, .MI_LAST_ERR_OUTCOME, .MI_LAST_ERR_ADDR]
  | .MI_LOST_STAT => [.MI_LOST_STAT_FULL, .MI_LOST_STAT_USED]
  | .MI_SCRUB_STAT => [.MI_SCRUB_STAT_CK_PASSES, .MI_SCRUB_STAT_SRAM_PASSES, .MI_SCRUB_STAT_DRAM_PASSES]
  | .HM_CTL => [.HM_CTL_RUN, .HM_CTL_HOLD]
  | .HM_STAT => [.HM_STAT_ADC_GOOD, .HM_STAT_RELEASED, .HM_STAT_RUNNING, .HM_STAT_WRITE_LIMITED, .HM_STAT_LOAD_SKIP, .HM_STAT_HEADROOM, .HM_STAT_RUN_AGE]
  | .HM_ADC_SEL => [.HM_ADC_SEL_D3O, .HM_ADC_SEL_D3E, .HM_ADC_SEL_D2O, .HM_ADC_SEL_D2E, .HM_ADC_SEL_D1O, .HM_ADC_SEL_D1E, .HM_ADC_SEL_D0O, .HM_ADC_SEL_D0E]
  | .HM_SCALE => [.HM_SCALE_TE_GAIN, .HM_SCALE_FE_GAIN, .HM_SCALE_TILT_GAIN]
  | .HM_LASER => [.HM_LASER_I_TH, .HM_LASER_ETA, .HM_LASER_I_MAX, .HM_LASER_I_W]
  | .HM_LIFE => [.HM_LIFE_DAYS, .HM_LIFE_LIMIT]
  | .HM_ADC_TRIM => [.HM_ADC_TRIM_OFFSET, .HM_ADC_TRIM_GAIN, .HM_ADC_TRIM_SKEW, .HM_ADC_TRIM_BAD, .HM_ADC_TRIM_NOISE]
  | .HM_PLAN => [.HM_PLAN_P_B, .HM_PLAN_FOC_OFS, .HM_PLAN_TILT_OFS, .HM_PLAN_S0, .HM_PLAN_S1, .HM_PLAN_S2, .HM_PLAN_S3]
  | .HM_LANE_INIT => [.HM_LANE_INIT_GAIN, .HM_LANE_INIT_DC, .HM_LANE_INIT_ASYM]
  | .HM_TAPS => [.HM_TAPS_HI, .HM_TAPS_LO]
  | .HM_CFG => [.HM_CFG_DELTA_T, .HM_CFG_CAL_PERIOD, .HM_CFG_HR_WARN, .HM_CFG_HR_MIN, .HM_CFG_IDLE_MIN, .HM_CFG_FRICTION_MAX]
  | .HM_DEV_LIFE => [.HM_DEV_LIFE_DAYS, .HM_DEV_LIFE_LIMIT, .HM_DEV_LIFE_JRN_WEAR]
  | .HM_SPIN_LIFE => [.HM_SPIN_LIFE_DAYS, .HM_SPIN_LIFE_LIMIT, .HM_SPIN_LIFE_FRICTION]
  | .TH_CTL => [.TH_CTL_DWELL, .TH_CTL_SENSOR_K, .TH_CTL_AMB_TIMEOUT, .TH_CTL_AMB_DEFAULT]
  | .TH_STAT => [.TH_STAT_STEP, .TH_STAT_SRC, .TH_STAT_REASON, .TH_STAT_AMB_STALE, .TH_STAT_STEP_UPS]
  | .TH_AMBIENT => [.TH_AMBIENT_TEMP]
  | .TH_LIMIT => [.TH_LIMIT_BASE, .TH_LIMIT_STEP_W, .TH_LIMIT_HYST, .TH_LIMIT_RATE_LIM]
  | .TH_BROKEN => [.TH_BROKEN_BITS]
  | .TH_ZONE => [.TH_ZONE_TEMP, .TH_ZONE_DEMAND, .TH_ZONE_HAS_SENSOR, .TH_ZONE_BROKEN, .TH_ZONE_RATE]
  | .PM_CTL => [.PM_CTL_WAKE]
  | .PM_STAT => [.PM_STAT_STATE, .PM_STAT_D3, .PM_STAT_LAST_WAKE, .PM_STAT_TRANSITIONS]
  | .PM_CFG => [.PM_CFG_MAX_STATE, .PM_CFG_P1_IDLE, .PM_CFG_P2_IDLE, .PM_CFG_SPINDOWN, .PM_CFG_SPINDOWN_D3]
  | .PM_POWER => [.PM_POWER_POWER, .PM_POWER_PEAK]
  | .KP_STAT => [.KP_STAT_DEV, .KP_STAT_PROFILE, .KP_STAT_ALARM, .KP_STAT_CORE_DIP, .KP_STAT_LAST_SF]
  | .KP_SPIN_L => [.KP_SPIN_L_BITS]
  | .KP_SPIN_S => [.KP_SPIN_S_BITS]
  | .KP_LOCK_HOLD => [.KP_LOCK_HOLD_BITS]
  | .KP_PERMIT => [.KP_PERMIT_BITS]
  | .KP_CORES => [.KP_CORES_CROWN, .KP_CORES_HALLMARK, .KP_CORES_CLASP, .KP_CORES_TORC, .KP_CORES_BEZEL]
  | .KP_CAUSE => [.KP_CAUSE_CODE, .KP_CAUSE_UNIT, .KP_CAUSE_TIME]
  | .KP_DIAG => [.KP_DIAG_DISAGREE, .KP_DIAG_INHIBIT_FAIL, .KP_DIAG_CORE_DIPS, .KP_DIAG_BUS_DIPS]
  | .KP_CFG => [.KP_CFG_DIP_SETTLE, .KP_CFG_RELEASE_HOLD]
  | .KP_ILIM => [.KP_ILIM_I_FT_MAX, .KP_ILIM_I_TILT_MAX]
  | .KP_HEAD_LATCH => [.KP_HEAD_LATCH_BITS]
  | .LK_BOOT_STAT => [.LK_BOOT_STAT_FAIL0, .LK_BOOT_STAT_FAIL1, .LK_BOOT_STAT_SLOT, .LK_BOOT_STAT_KEY_SLOT, .LK_BOOT_STAT_RECOVERY, .LK_BOOT_STAT_LOCKED, .LK_BOOT_STAT_DEBUG, .LK_BOOT_STAT_SVN, .LK_BOOT_STAT_ROLLBACK]
  | .LK_FUSE_STAT => [.LK_FUSE_STAT_LIFECYCLE, .LK_FUSE_STAT_DEBUG_DISABLE, .LK_FUSE_STAT_OWNER_VALID, .LK_FUSE_STAT_OWNER_REVOKED, .LK_FUSE_STAT_OWNER_SPOILED, .LK_FUSE_STAT_SKIPPED]
  | .LK_CTL => [.LK_CTL_LOCK]
  | .CM_CFG => [.CM_CFG_NOTIFY_SEV, .CM_CFG_DEPTH, .CM_CFG_REFILL]
  | .CM_STAT => [.CM_STAT_STOPPED, .CM_STAT_NOTIFY, .CM_STAT_STAGE_USED, .CM_STAT_DROPPED]
  | .CM_SEQ => [.CM_SEQ_NEWEST, .CM_SEQ_OLDEST]
  | .CM_RATE_OVR => [.CM_RATE_OVR_CODE, .CM_RATE_OVR_DEPTH, .CM_RATE_OVR_REFILL]
  | .MG_CFG => [.MG_CFG_ADDR, .MG_CFG_SPEED, .MG_CFG_GPIO_FN]
  | .MG_GPIO => [.MG_GPIO_OUT, .MG_GPIO_IN]
  | .MG_STAT => [.MG_STAT_MSGS, .MG_STAT_PEC_ERR, .MG_STAT_LAST_OP]

/-- Every register, in parts. -/
def Reg.part0 : List Reg := [.SY_DTIME, .SY_LIBTIME_OFS, .SY_TIME_CTL, .SY_NODE, .SY_RESET, .SY_POP_HEAD, .SY_POP_SPIN, .HL_CTL, .SL_CTL, .HL_STATUS, .SL_STATUS, .HL_ERR, .SL_ERR, .HL_MARGIN, .SL_MARGIN, .BZ_HEAD_STAT, .BZ_LEARN, .BZ_LOOP_CFG, .BZ_LOOP_REF, .BZ_LOOP_FEL, .BZ_LOOP_STAT, .BZ_LOOP_SAT, .BZ_LAW_H0, .BZ_LAW_H1, .BZ_LAW_STRUCT, .BZ_LAW_COEF, .BZ_LAW_HRES, .BZ_LAW_SRES, .BZ_RUN_FOC, .BZ_RUN_TRK]
def Reg.part1 : List Reg := [.BZ_CTL, .BZ_BUDGET, .BZ_FAULT, .BZ_TRACE_CTL, .BZ_TRACE_LEVEL, .BZ_TRACE_STAT, .BZ_TRACE_NODE, .BZ_TRACE_TIME, .BZ_TRACE_RAM, .MO_MODE, .MO_CTL, .MO_POS, .MO_BAND_AT_0, .MO_ADDR, .MO_SLED_CFG, .MO_COIL_CFG, .MO_SEEK_CFG, .MO_FOCUS_CFG, .MO_JUMP_CFG, .MO_SETTLE_CFG, .MO_GUARD, .MO_GUARD2, .MO_STAT, .MO_LAWSEL0, .MO_LAWSEL1, .MO_HOME, .MO_HANDOVER, .MO_SHOCK]
def Reg.part2 : List Reg := [.TQ_CTL, .TQ_STAT, .TQ_MOTOR, .TQ_MOTOR2, .TQ_START_CFG, .TQ_RUN_CFG, .TQ_BRAKE_CFG, .TQ_LOOP_CFG, .TQ_ERR, .TQ_DOOR, .TQ_DOOR_CTL, .TQ_CORE, .FC_SYNC_CFG, .FC_EQ_CFG, .FC_TARGET, .FC_DEFECT_CFG, .FC_E2_CFG, .FC_RECOV, .FC_E4_PT, .FC_STAT, .FC_LANE, .FC_TAPS, .FC_WR_CFG, .FC_WR_STAT, .FC_RELOC_NEXT, .FC_WS_LAYER, .FC_WS_ENTRY, .FC_WR_TEMP]
def Reg.part3 : List Reg := [.LD_POOL, .LD_STAT, .LD_CW_FAIL, .LD_STEP_CNT, .CH_CHAIN_W0, .CH_CHAIN_MEM, .CH_CHAIN_W5, .CH_CFG, .CH_STAT, .CL_CAP, .CL_CTL, .CL_STAT, .CL_AQ_SQ_BASE, .CL_AQ_CQ_BASE, .CL_AQ_SIZE, .CL_LOG_STAT, .CL_LOCK_STAT, .CL_QFENCE, .CL_QSTAT, .CL_DOORBELL, .MSIX_TABLE, .MSIX_PBA, .FG_CFG, .FG_STAT, .FG_IN_BYTES, .FG_OUT_BYTES, .FG_ERR, .CK_CTL]
def Reg.part4 : List Reg := [.CK_STAT, .MI_DRAM_CFG, .MI_SCRUB_CFG, .MI_ERR, .MI_REMAP_STAT, .MI_LAST_ERR, .MI_LOST_STAT, .MI_SCRUB_STAT, .HM_CTL, .HM_STAT, .HM_ADC_SEL, .HM_SCALE, .HM_LASER, .HM_LIFE, .HM_ADC_TRIM, .HM_PLAN, .HM_LANE_INIT, .HM_TAPS, .HM_CFG, .HM_DEV_LIFE, .HM_SPIN_LIFE, .TH_CTL, .TH_STAT, .TH_AMBIENT, .TH_LIMIT, .TH_BROKEN, .TH_ZONE, .PM_CTL]
def Reg.part5 : List Reg := [.PM_STAT, .PM_CFG, .PM_POWER, .KP_STAT, .KP_SPIN_L, .KP_SPIN_S, .KP_LOCK_HOLD, .KP_PERMIT, .KP_CORES, .KP_CAUSE, .KP_DIAG, .KP_CFG, .KP_ILIM, .KP_HEAD_LATCH, .LK_BOOT_STAT, .LK_FUSE_STAT, .LK_CTL, .CM_CFG, .CM_STAT, .CM_SEQ, .CM_RATE_OVR, .MG_CFG, .MG_GPIO, .MG_STAT]

/-- Every register. -/
def Reg.all : List Reg := Reg.part0 ++ Reg.part1 ++ Reg.part2 ++ Reg.part3 ++ Reg.part4 ++ Reg.part5

/-- Every field. -/
def Fld.all : List Fld := Reg.all.flatMap Reg.fields

end Sys2Proof.Machine
end

