-- ==== Sys2Proof/Machine/Sparse.lean ====
section
/-! DEFINITION. Sparse maps from natural numbers in ONE canonical form: entries in strictly rising order of their keys,
none of them equal to what an unlisted key reads as. The register file, DRAM, NOR flash and the journal area are held so. -/

namespace Sys2Proof.Machine

variable {β : Type}

/-- The value at a key: the entry's, else what the unlisted key reads as. -/
def Sparse.get (dflt : Nat → β) : List (Nat × β) → Nat → β
  | [], k => dflt k
  | (j, w) :: l, k => if k = j then w else Sparse.get dflt l k

/-- The map without an entry for `k`. -/
def Sparse.erase : List (Nat × β) → Nat → List (Nat × β)
  | [], _ => []
  | (j, w) :: l, k => if k = j then Sparse.erase l k else (j, w) :: Sparse.erase l k

/-- The map with the entry (k, v), in its place. -/
def Sparse.insert : List (Nat × β) → Nat → β → List (Nat × β)
  | [], k, v => [(k, v)]
  | (j, w) :: l, k, v =>
    if k < j then (k, v) :: (j, w) :: l
    else if k = j then (k, v) :: l
    else (j, w) :: Sparse.insert l k v

/-- Setting the value at a key keeps the canonical form: what an unlisted key reads as anyway is not listed. -/
def Sparse.set [DecidableEq β] (dflt : Nat → β) (l : List (Nat × β)) (k : Nat) (v : β) : List (Nat × β) :=
  if v = dflt k then Sparse.erase l k else Sparse.insert l k v

/-- Every key of the list is above `b`, in strictly rising order, and no entry equals what its key reads as unlisted. -/
def Sparse.okFrom [DecidableEq β] (dflt : Nat → β) : Nat → List (Nat × β) → Bool
  | _, [] => true
  | b, (j, w) :: l => decide (b ≤ j) && decide (w ≠ dflt j) && Sparse.okFrom dflt (j + 1) l

/-- The canonical form. -/
def Sparse.ok [DecidableEq β] (dflt : Nat → β) (l : List (Nat × β)) : Bool := Sparse.okFrom dflt 0 l

end Sys2Proof.Machine
end

