-- ==== Sys2Proof/Machine/State.lean ====
section
/-! DEFINITION. The state of the block: every register, FIFO, buffer, counter, mode and pin that the manual gives the AX128,
and the queue of waiting commands. Plain data throughout. -/

namespace Sys2Proof.Machine

/-- A head: its link, its downstream frame, its five loops, mode control, its Facet lanes, its two learning passes (TRK and
FOC), and what Hallmark and Keeper hold of it. Its registers lie in the register file. -/
structure Head where
  link : HeadLink := {}
  down : HeadDown := {}
  /-- The blocks of the downstream frame of the present Tick, none while the link carries no frames (R65, R70). -/
  wire : List Block := []
  loops : Vector LoopSt 5 := Vector.replicate 5 {}
  /-- The loops as they were before this Tick's computation, for an overrun (R111). -/
  before : Vector LoopSt 5 := Vector.replicate 5 {}
  motion : Motion := {}
  facet : Facet := {}
  learnTrk : Learn := {}
  learnFoc : Learn := {}
  /-- The passes as they were before this Tick's samples (R111). -/
  learnTrk0 : Learn := {}
  learnFoc0 : Learn := {}
  hallmark : Hallmark := {}
  banks : Vector WsBank 2 := Vector.replicate 2 {}
  /-- FC_WS_CHECK has been raised: unable to write until the next link bring-up (R216). -/
  noWrite : Bool := false
  keep : KeepHead := {}
deriving DecidableEq, Repr

/-- A spindle: its link, its downstream frame, Torc's and Keeper's records of it, its ageing accounts. -/
structure Spindle where
  link : SpinLink := {}
  down : SpinDown := {}
  /-- The blocks of the downstream frame of the present Tick, none while the link carries no frames (R65, R83). -/
  wire : List Block := []
  torc : Torc := {}
  keep : KeepSpin := {}
  accounts : Accounts := {}
deriving DecidableEq, Repr

/-- The device but for DTIME and the queue. -/
structure Dev where
  /-- The MODEL'S own counter of free values drawn (log entry 3). -/
  freeIdx : Nat := 0
  /-- The register file, in canonical form: key of a field's instance and value; an unlisted key reads as its reset value. -/
  regs : List (Nat × Nat) := []
  /-- Pending values of RV fields (R7, R8), by the same keys. -/
  rvPend : List (Nat × Nat) := []
  /-- The keys of `rvPend` whose values are Hallmark's (R355). -/
  hmPend : List Nat := []
  /-- M-ticks of the ageing accounts, held in the journal (R361). -/
  lifeClock : Nat := 0
  /-- The M-tick whose boundary was worked last (R21). -/
  mLast : Option Nat := none
  /-- Unconsumed latches of upper halves (R12): offset of the upper half and the latched value. -/
  latches : List (Nat × Nat) := []
  /-- The last BAR0 read answered: offset, size in bytes, value. -/
  hostRead : Option (Nat × Nat × Nat) := none
  /-- Everything the device has sent over PCI Express, oldest first (log entry 7). -/
  hostOut : List HostMsg := []
  libTime : LibTime := {}
  pcie : Pcie := {}
  locket : Locket := {}
  cameo : Cameo := {}
  mgmt : Mgmt := {}
  keeper : Keeper := {}
  thermal : Thermal := {}
  power : Power := {}
  mem : Mem := {}
  filigree : Filigree := {}
  clasp : Clasp := Clasp.empty
  data : Data := {}
  accounts : Accounts := {}
  chains : Vector Chain 16 := Vector.replicate 16 {}
  surfaces : Vector Surface 64 := Vector.replicate 64 {}
  cores : Vector TorcCore 4 := Vector.replicate 4 {}
  bezels : Vector Bezel 32 := Vector.replicate 32 {}
  heads : Vector Head 128 := Vector.replicate 128 {}
  spindles : Vector Spindle 32 := Vector.replicate 32 {}
deriving DecidableEq, Repr

/-- The machine: the queue of waiting commands, first in, first out; DTIME in nanoseconds (R20); the device. -/
structure State where
  pending : List Instr := []
  dtime : Nat := 0
  dev : Dev := {}
deriving DecidableEq, Repr

/-- The machine right after a cold reset, before COLD_POWER_ON brings the strap pins: DTIME 0 (R20), every register at its
reset value (R13), the queue empty. Where the manual gives no value: log entry 4. -/
def State.reset : State := {}

/-- What stops the machine with a fault. -/
inductive Fault where
  /-- Raised by the commands of Casket on a line that the populated DRAM does not hold (R327, R339). The manual names no such
  address. Safe: the machine stops where the manual gives no memory. -/
  | noSuchLine (line : Nat)
deriving DecidableEq, Repr

/-- Why a command has no meaning. -/
inductive Refusal where
  /-- Raised by an arm of `exec` whose command the model does not give a meaning. Safe: the machine stops. -/
  | notModelled (mnemonic : String)
deriving DecidableEq, Repr

/-- An outcome of this machine. -/
abbrev Out := Host.Outcome State Fault Refusal

end Sys2Proof.Machine
end

