-- ==== Sys2Proof/Machine/Ops.lean ====
section
/-! DEFINITION. The named operations over the state: the register file, the arrays of heads, spindles, surfaces and chains,
what is sent to the host, and the check codes of R40 and their like. -/

namespace Sys2Proof.Machine

/-! ## Sorting -/

/-- Inserting before the first element that does not come before it. -/
def insertBy {α : Type} (le : α → α → Bool) (x : α) : List α → List α
  | [] => [x]
  | y :: l => if le x y then x :: y :: l else y :: insertBy le x l

/-- The list in order; elements that are equal in it keep theirs. -/
def sortBy {α : Type} (le : α → α → Bool) : List α → List α
  | [] => []
  | x :: l => insertBy le x (sortBy le l)

/-- Applying a function `n` times. -/
def iter {α : Type} (f : α → α) : Nat → α → α
  | 0, a => a
  | n + 1, a => iter f n (f a)

/-- The device after `f` has been done for every element of a list, in its order. -/
def Dev.forEach {α : Type} (d : Dev) (l : List α) (f : Dev → α → Dev) : Dev := l.foldl f d

/-- An interval of `ns` that began at DTIME `since` cannot have passed: DTIME stands at the last Tick boundary, so an instant lies up
to a Tick after what it shows (log entry 36). -/
def tooSoon (t since ns : Nat) : Bool := decide (t + 2500 ≤ since + ns)

/-! ## The register file -/

/-- The key of instance `i` of a field. -/
def regKey (f : Fld) (i : Nat) : Nat := i * 1024 + f.ctorIdx

/-- Reading backwards from a key: the default of the field that has it. -/
def keyDefault (k : Nat) : Nat := (Fld.ofNat (k % 1024)).resetVal (k / 1024)

/-- The stored value of instance `i` of a field. -/
def getF (d : Dev) (f : Fld) (i : Nat) : Nat := Sparse.get keyDefault d.regs (regKey f i)

/-- Storing a value, cut to the field's width. -/
def setF (d : Dev) (f : Fld) (i v : Nat) : Dev :=
  { d with regs := Sparse.set keyDefault d.regs (regKey f i) (v % 2 ^ f.info.width) }

/-- A one-bit field as a Boolean. -/
def getB (d : Dev) (f : Fld) (i : Nat) : Bool := getF d f i == 1

/-- Storing a one-bit field. -/
def setB (d : Dev) (f : Fld) (i : Nat) (b : Bool) : Dev := setF d f i (b2n b)

/-- A field read as a two's-complement number of its width. -/
def getI (d : Dev) (f : Fld) (i : Nat) : Int := toSigned f.info.width (getF d f i)

/-- Storing an integer as two's complement of the field's width. -/
def setI (d : Dev) (f : Fld) (i : Nat) (v : Int) : Dev := setF d f i (ofSigned f.info.width v)

/-- Returning a field to its reset value. -/
def resetF (d : Dev) (f : Fld) (i : Nat) : Dev :=
  { d with regs := Sparse.erase d.regs (regKey f i) }

/-- A counter that saturates at the largest value of its width, or at `top` where the manual gives a smaller one. -/
def incF (d : Dev) (f : Fld) (i : Nat) (n : Nat := 1) (top : Nat := 2 ^ f.info.width - 1) : Dev :=
  setF d f i (min top (getF d f i + n))

/-- The pending value of an RV field, if one waits (R7). -/
def pendF (d : Dev) (f : Fld) (i : Nat) : Option Nat :=
  Sparse.get (fun _ => none) (d.rvPend.map fun p => (p.1, some p.2)) (regKey f i)

/-- Setting a pending value; a second one replaces it (R8). -/
def setPend (d : Dev) (f : Fld) (i v : Nat) : Dev :=
  { d with
    rvPend := Sparse.insert d.rvPend (regKey f i) (v % 2 ^ f.info.width)
    hmPend := d.hmPend.filter (· != regKey f i) }

/-- Setting a pending value of Hallmark's: one of the host's, pending for the same field, stands (R355). -/
def setHm (d : Dev) (f : Fld) (i v : Nat) : Dev :=
  if (pendF d f i).isSome ∧ !d.hmPend.contains (regKey f i) then d
  else
    let d := setPend d f i v
    { d with hmPend := regKey f i :: d.hmPend }

/-- Applying the pending value of a field, if one waits. -/
def applyPend (d : Dev) (f : Fld) (i : Nat) : Dev :=
  match pendF d f i with
  | none => d
  | some v => setF { d with rvPend := Sparse.erase d.rvPend (regKey f i) } f i v

/-! ## The arrays -/

/-- The head. -/
def Dev.head (d : Dev) (h : HeadId) : Head := d.heads[h]
/-- The device with the head changed. -/
def Dev.modHead (d : Dev) (h : HeadId) (f : Head → Head) : Dev := { d with heads := d.heads.set h (f d.heads[h]) }
/-- The spindle. -/
def Dev.spin (d : Dev) (s : SpinId) : Spindle := d.spindles[s]
/-- The device with the spindle changed. -/
def Dev.modSpin (d : Dev) (s : SpinId) (f : Spindle → Spindle) : Dev :=
  { d with spindles := d.spindles.set s (f d.spindles[s]) }
/-- The surface. -/
def Dev.surf (d : Dev) (s : SurfId) : Surface := d.surfaces[s]
/-- The device with the surface changed. -/
def Dev.modSurf (d : Dev) (s : SurfId) (f : Surface → Surface) : Dev :=
  { d with surfaces := d.surfaces.set s (f d.surfaces[s]) }
/-- The chain. -/
def Dev.chain (d : Dev) (c : Fin 16) : Chain := d.chains[c]
/-- The device with the chain changed. -/
def Dev.modChain (d : Dev) (c : Fin 16) (f : Chain → Chain) : Dev :=
  { d with chains := d.chains.set c (f d.chains[c]) }
/-- The Bezel. -/
def Dev.bezel (d : Dev) (b : BezelId) : Bezel := d.bezels[b]
/-- The device with the Bezel changed. -/
def Dev.modBezel (d : Dev) (b : BezelId) (f : Bezel → Bezel) : Dev :=
  { d with bezels := d.bezels.set b (f d.bezels[b]) }

/-- The device with a head's link changed. -/
def Dev.modLink (d : Dev) (h : HeadId) (f : HeadLink → HeadLink) : Dev :=
  d.modHead h fun x => { x with link := f x.link }
/-- The device with a head's downstream frame changed. -/
def Dev.modDown (d : Dev) (h : HeadId) (f : HeadDown → HeadDown) : Dev :=
  d.modHead h fun x => { x with down := f x.down }
/-- The device with a head's mode control changed. -/
def Dev.modMotion (d : Dev) (h : HeadId) (f : Motion → Motion) : Dev :=
  d.modHead h fun x => { x with motion := f x.motion }
/-- The loop of a head. -/
def Dev.loop (d : Dev) (h : HeadId) (l : LoopId) : LoopSt := (d.head h).loops[l]
/-- The device with a loop changed. -/
def Dev.modLoop (d : Dev) (h : HeadId) (l : LoopId) (f : LoopSt → LoopSt) : Dev :=
  d.modHead h fun x => { x with loops := x.loops.set l (f x.loops[l]) }
/-- The device with a head's Facet lanes changed. -/
def Dev.modFacet (d : Dev) (h : HeadId) (f : Facet → Facet) : Dev :=
  d.modHead h fun x => { x with facet := f x.facet }
/-- The device with Hallmark's record of a head changed. -/
def Dev.modCal (d : Dev) (h : HeadId) (f : Hallmark → Hallmark) : Dev :=
  d.modHead h fun x => { x with hallmark := f x.hallmark }
/-- The device with Keeper's record of a head changed. -/
def Dev.modKeepHead (d : Dev) (h : HeadId) (f : KeepHead → KeepHead) : Dev :=
  d.modHead h fun x => { x with keep := f x.keep }
/-- The device with Torc's record of a spindle changed. -/
def Dev.modTorc (d : Dev) (s : SpinId) (f : Torc → Torc) : Dev := d.modSpin s fun x => { x with torc := f x.torc }
/-- The device with a spindle's link changed. -/
def Dev.modSpinLink (d : Dev) (s : SpinId) (f : SpinLink → SpinLink) : Dev :=
  d.modSpin s fun x => { x with link := f x.link }
/-- The device with a spindle's downstream frame changed. -/
def Dev.modSpinDown (d : Dev) (s : SpinId) (f : SpinDown → SpinDown) : Dev :=
  d.modSpin s fun x => { x with down := f x.down }
/-- The device with Keeper's record of a spindle changed. -/
def Dev.modKeepSpin (d : Dev) (s : SpinId) (f : KeepSpin → KeepSpin) : Dev :=
  d.modSpin s fun x => { x with keep := f x.keep }
/-- The device with Clasp changed. -/
def Dev.modClasp (d : Dev) (f : Clasp → Clasp) : Dev := { d with clasp := f d.clasp }
/-- The device with the sectors in flight changed. -/
def Dev.modData (d : Dev) (f : Data → Data) : Dev := { d with data := f d.data }
/-- The device with Keeper changed. -/
def Dev.modKeeper (d : Dev) (f : Keeper → Keeper) : Dev := { d with keeper := f d.keeper }
/-- The device with Casket changed. -/
def Dev.modMem (d : Dev) (f : Mem → Mem) : Dev := { d with mem := f d.mem }
/-- The device with Locket changed. -/
def Dev.modLocket (d : Dev) (f : Locket → Locket) : Dev := { d with locket := f d.locket }
/-- The device with the power ladder changed. -/
def Dev.modPower (d : Dev) (f : Power → Power) : Dev := { d with power := f d.power }

/-- No servo work is done: the device is in P3 or P4, or the present Tick began there (R22). -/
def Dev.atRest (d : Dev) : Bool := decide (3 ≤ getF d .PM_STAT_STATE 0) || d.power.rested

/-! ## Owning units (R18) -/

/-- The spindle of a head. -/
def spinOf (h : HeadId) : SpinId := ⟨h / 4, by omega⟩
/-- The surface of a head: side A for h mod 4 of 0 and 1 (R18, R35). -/
def surfOf (h : HeadId) : SurfId := ⟨2 * (h / 4) + h % 4 / 2, by omega⟩
/-- The Torc core of a spindle. -/
def torcOf (s : SpinId) : TorcId := ⟨s / 8, by omega⟩
/-- The spindle of a surface. -/
def surfSpin (s : SurfId) : SpinId := ⟨s / 2, by omega⟩
/-- The head of a spindle by its place 0 to 3. -/
def headOf (s : SpinId) (k : Fin 4) : HeadId := ⟨4 * s + k, by omega⟩
/-- The four heads of a spindle. -/
def headsOf (s : SpinId) : List HeadId := [headOf s 0, headOf s 1, headOf s 2, headOf s 3]
/-- The two heads that face a surface, the even one first. -/
def surfHeads (s : SurfId) : List HeadId :=
  [headOf (surfSpin s) ⟨s % 2 * 2, by omega⟩, headOf (surfSpin s) ⟨s % 2 * 2 + 1, by omega⟩]
/-- The Facet lane of a data spot (R18). -/
def laneOf (h : HeadId) (d : SpotId) : Nat := 4 * h + d
/-- Every head, every spindle and so on. -/
def allHeads : List HeadId := List.finRange 128
/-- See `allHeads`. -/
def allSpins : List SpinId := List.finRange 32
/-- See `allHeads`. -/
def allSurfs : List SurfId := List.finRange 64
/-- See `allHeads`. -/
def allSpots : List SpotId := List.finRange 4
/-- See `allHeads`. -/
def allLoops : List LoopId := List.finRange 5

/-! ## The host, and free values -/

/-- Sending a message over PCI Express. -/
def Dev.send (d : Dev) (m : HostMsg) : Dev := { d with hostOut := d.hostOut ++ [m] }

/-- The next free natural number and the counter advanced. -/
def Dev.drawNat (d : Dev) : Nat × Dev := (Config.freeNat d.freeIdx, { d with freeIdx := d.freeIdx + 1 })

/-- The next free integer and the counter advanced. -/
def Dev.drawInt (d : Dev) : Int × Dev := (Config.freeInt d.freeIdx, { d with freeIdx := d.freeIdx + 1 })

/-! ## Check codes -/

/-- One step of a CRC register of width `w`, most significant bit first. -/
def crcStep (w poly reg : Nat) (b : Bool) : Nat :=
  let x := (2 * reg) % 2 ^ w
  if bit reg (w - 1) != b then Nat.xor x poly else x

/-- A CRC over bits, most significant first, without final inversion. -/
def crcBits (w poly init : Nat) (bs : List Bool) : Nat := bs.foldl (crcStep w poly) init

/-- The bits of bytes, each most significant first. -/
def bitsOfBytes (bs : List Byte) : List Bool := bs.flatMap fun b => bitsBE 8 b.toNat

/-- CRC-8 of R40: x⁸ + x² + x + 1, initial value 0. -/
def crc8 (bs : List Bool) : Nat := crcBits 8 0x07 0 bs

/-- The bits of bytes, each least significant first. -/
def bitsOfBytesLE (bs : List Byte) : List Bool := bs.flatMap fun b => (bitsBE 8 b.toNat).reverse

/-- One step of a reflected CRC register. -/
def crcStepR (poly reg : Nat) (b : Bool) : Nat :=
  if bit reg 0 != b then Nat.xor (reg / 2) poly else reg / 2

/-- CRC-32C: Castagnoli polynomial, reflected, initial value and final inversion of all ones. -/
def crc32c (bs : List Byte) : Nat :=
  Nat.xor ((bitsOfBytesLE bs).foldl (crcStepR 0x82F63B78) 0xFFFFFFFF) 0xFFFFFFFF

/-- CRC-64 of R48: polynomial 0x42F0_E1EB_A9EA_3693, reflected, initial value and final inversion of all ones. -/
def crc64 (bs : List Byte) : Nat :=
  Nat.xor ((bitsOfBytesLE bs).foldl (crcStepR 0xC96C5795D7870F42) 0xFFFFFFFFFFFFFFFF) 0xFFFFFFFFFFFFFFFF

/-- The re-read of a head that goes first: of those that wait, the sector that entered E2 first (R205). -/
def Dev.firstReread (d : Dev) (h : HeadId) : Option ReadJob :=
  (d.data.reads.filter fun r => r.head == h && r.wantRead && !r.realloc && decide (2 ≤ r.step)).foldl
    (fun b r => match b with
      | none => some r
      | some x => if r.entered < x.entered then some r else b) none

end Sys2Proof.Machine
end

