-- ==== Sys2Proof/Machine/Operands.lean ====
section
/-! DEFINITION. The operands of commands as the manual lays them out: submission entries (R263), scatter list descriptors
(R264), extent tokens (R275), volume ranges (R269). -/

namespace Sys2Proof.Machine

/-- The fields of a 64-byte submission entry (R263). -/
def Entry.parse (bs : List Byte) : Entry :=
  ⟨leAt bs 0 1, leAt bs 1 1, leAt bs 2 2, leAt bs 4 1, leAt bs 5 1, leAt bs 6 2, leAt bs 8 8, leAt bs 16 8,
   leAt bs 24 8, leAt bs 32 8, leAt bs 40 8, leAt bs 48 8, leAt bs 56 8⟩

/-- FLAGS of an entry (R263). -/
def Entry.fua (e : Entry) : Bool := bit e.flags 0
/-- See `Entry.fua`. -/
def Entry.sgl (e : Entry) : Bool := bit e.flags 1
/-- See `Entry.fua`. -/
def Entry.comp (e : Entry) : Bool := bit e.flags 2
/-- See `Entry.fua`. -/
def Entry.zlib (e : Entry) : Bool := bit e.flags 3
/-- See `Entry.fua`. -/
def Entry.more (e : Entry) : Bool := bit e.flags 4
/-- See `Entry.fua`. -/
def Entry.raw (e : Entry) : Bool := bit e.flags 5
/-- See `Entry.fua`. -/
def Entry.all (e : Entry) : Bool := bit e.flags 6

/-- QID of an admin command's ARG[63:54] (R266, R267). -/
def Entry.argQid (e : Entry) : Nat := bits e.arg 63 54

/-- One 16-byte descriptor of a scatter list: address, length, TYPE; `none` when a Reserved byte is not 0 (R264). -/
def parseDesc (bs : List Byte) : Option (Nat × Nat × Nat) :=
  if leAt bs 12 3 = 0 then some (leAt bs 0 8, leAt bs 8 4, leAt bs 15 1) else none

/-- Reading one segment into a scatter list, with `fuel` descriptors at most (R264): a data descriptor is added; TYPE 0x02 ends
the list; a link names the next segment; an unknown TYPE, a zero length, a nonzero Reserved byte or a misaligned link ends
it in a fault, and so does a segment that runs out. -/
def SgList.readSeg : Nat → List Byte → SgList → SgList
  | 0, _, l => { l with ended := true, bad := true, next := none }
  | fuel + 1, bs, l =>
    if bs.length < 16 then { l with ended := true, bad := true, next := none }
    else
      match parseDesc bs with
      | none => { l with ended := true, bad := true, next := none }
      | some (a, n, ty) =>
        if n = 0 then { l with ended := true, bad := true, next := none }
        else if ty = 0 then SgList.readSeg fuel (bs.drop 16) { l with desc := l.desc ++ [(a, n)] }
        else if ty = 2 then { l with desc := l.desc ++ [(a, n)], ended := true, next := none }
        else if ty = 1 ∧ a % 16 = 0 ∧ n % 16 = 0 then { l with next := some (a, n) }
        else { l with ended := true, bad := true, next := none }

/-- Bytes that the data descriptors cover. -/
def SgList.size (l : SgList) : Nat := (l.desc.map (·.2)).sum

/-- A segment has come for a transfer of `need` bytes, when that is known (R264): what lies beyond the transfer is not read, nor a fault there. -/
def SgList.segment (l : SgList) (need : Option Nat) (bs : List Byte) : SgList :=
  let l := SgList.readSeg 4096 bs { l with next := none, asked := false }
  if need.any fun n => decide (n ≤ l.size) then { l with ended := true, bad := false, next := none } else l

/-- Asking for the next segment of a list that has not ended: its address and length. -/
def SgList.ask (l : SgList) : SgList × Option (Nat × Nat) :=
  if l.ended ∨ l.asked then (l, none) else ({ l with asked := l.next.isSome }, l.next)

/-- Where bytes from offset `off` of a list of descriptors go: the writes that place them, and those left over. -/
def placeIn : List (Nat × Nat) → Nat → List Byte → List HostMsg × List Byte
  | [], _, bs => ([], bs)
  | (a, n) :: l, off, bs =>
    if bs.isEmpty then ([], [])
    else if n ≤ off then placeIn l (off - n) bs
    else
      let k := n - off
      let r := placeIn l 0 (bs.drop k)
      (.write (a + off) (bs.take k) :: r.1, r.2)

/-- An extent token (R275), its fields read out. -/
structure Token where
  node : Nat
  volume : Nat
  loc : Nat
  psa : Nat
  offset : Nat
  compressed : Bool
  stored : Nat
deriving DecidableEq, Repr

/-- Bits [127:16] of a token. -/
def Token.upper (t : Token) : Nat :=
  t.node % 2 ^ 10 * 2 ^ 118 + t.volume % 2 ^ 8 * 2 ^ 110 + t.loc % 2 ^ 6 * 2 ^ 104 + t.psa % 2 ^ 26 * 2 ^ 78
    + t.offset % 2 ^ 16 * 2 ^ 62 + b2n t.compressed * 2 ^ 61 + t.stored % 2 ^ 37 * 2 ^ 24

/-- CHECK: bits [15:0] of the CRC-32C over token bytes 2 to 15 (R275). -/
def tokenCheck (v : Nat) : Nat := crc32c ((bytesLE 16 v).drop 2) % 2 ^ 16

/-- The 128 bits of a token. -/
def Token.value (t : Token) : Nat := t.upper + tokenCheck t.upper

/-- Reading a token: `none` when CHECK is wrong (R275). -/
def Token.parse (v : Nat) : Option Token :=
  if v % 2 ^ 16 = tokenCheck v then
    some ⟨bits v 127 118, bits v 117 110, bits v 109 104, bits v 103 78, bits v 77 62, bit v 61, bits v 60 24⟩
  else none

/-- The token of an entry's ADDR and ADDR2 (R263). -/
def Entry.token (e : Entry) : Option Token := Token.parse (e.addr % 2 ^ 64 + e.addr2 % 2 ^ 64 * 2 ^ 64)

/-- One 16-byte range of VOLUME_CREATE (R269); `none` when a Reserved byte or an unused bit of PLACE is not 0, or LAYER or STRIPES
lies out of its range. -/
def parseRange (bs : List Byte) : Option VRange :=
  if leAt bs 2 2 = 0 ∧ leAt bs 12 4 = 0 ∧ leAt bs 1 1 ≤ 15 ∧ leAt bs 8 4 ≠ 0
      ∧ (if bit (leAt bs 0 1) 7 then bits (leAt bs 0 1) 6 4 = 0 else bit (leAt bs 0 1) 6 = false) then
    some ⟨leAt bs 0 1, leAt bs 1 1, leAt bs 4 4, leAt bs 8 4⟩ else none

end Sys2Proof.Machine
end

