-- ==== Sys2Proof/Machine/Flags.lean ====
section
/-! DEFINITION. Events, notifications and interrupts: raising an event (R438, R439), its admission through the token buckets
and into the stage (R440 to R446), and MSI-X messages (R258). A command's events are judged at its end, in the order of
their SOURCE (R442). -/

namespace Sys2Proof.Machine

/-- Raising event `e` of instance `inst` at time `t`: the record waits for the end of the command (R442). -/
def Dev.event (d : Dev) (t : Nat) (e : Event) (inst : Nat) (params : List Nat := []) : Dev :=
  { d with cameo := { d.cameo with raised := d.cameo.raised ++
      [⟨e.code, e.severity, e.block * 128 + inst % 128, t, params.map (· % 2 ^ 32)⟩] } }

/-- Raising an event only when a condition holds. -/
def Dev.eventIf (d : Dev) (b : Bool) (t : Nat) (e : Event) (inst : Nat) (params : List Nat := []) : Dev :=
  if b then d.event t e inst params else d

/-! ## MSI-X -/

/-- The vector is masked: by its table entry, by the function mask, or with MSI-X off (log entry 6). -/
def Dev.masked (d : Dev) (v : Nat) : Bool :=
  !d.pcie.msixOn || d.pcie.msixMask || bit (getF d .MSIX_TABLE_CTRL v) 0

/-- Sending the message of a vector; a masked vector becomes pending (log entry 6). -/
def Dev.msix (d : Dev) (v : Nat) : Dev :=
  if d.masked v then
    setF d .MSIX_PBA_BITS (v / 64) (Nat.lor (getF d .MSIX_PBA_BITS (v / 64)) (2 ^ (v % 64)))
  else d.send (.msix v)

/-! ## Cameo -/

/-- Records held: the journal and the stage together (R444). -/
def Cameo.held (c : Cameo) : Nat := c.stage.length + c.journal.length

/-- Inserting into a list sorted by DTIME and then by SOURCE, after its equals. -/
def insRaised (r : Raised) : List Raised → List Raised
  | [] => [r]
  | x :: l => if x.dtime < r.dtime ∨ (x.dtime = r.dtime ∧ x.source ≤ r.source) then x :: insRaised r l else r :: x :: l

/-- Sorted by DTIME, with ties in the order of SOURCE (R442). -/
def sortRaised (l : List Raised) : List Raised := l.foldl (fun acc r => insRaised r acc) []

/-- One more event not recorded; the counter saturates at 65,535 (R451). -/
def Cameo.drop (c : Cameo) : Cameo := { c with dropped := min 65535 (c.dropped + 1) }

/-- Staging a record (R442, R443): it takes the next SEQ; with the stage full it is dropped. A record of severity `sev` or
above sets NOTIFY and owes a message (R446). -/
def Cameo.put (sev : Nat) (c : Cameo) (r : Raised) : Cameo :=
  if 4096 ≤ c.stage.length then { c.drop with lost := c.lost + 1 }
  else
    { c with
      stage := c.stage ++ [⟨c.seqNext, r.code, r.severity, r.source, r.dtime, r.params⟩]
      seqNext := c.seqNext + 1
      oldest := if c.held = 0 then c.seqNext else c.oldest
      notify := c.notify || decide (sev ≤ r.severity)
      owed := c.owed || decide (sev ≤ r.severity) }

/-- A record of Cameo's own, at the time and for the event given (R441, R443, R444). -/
def Cameo.own (e : Event) (t : Nat) (params : List Nat) : Raised := ⟨e.code, e.severity, e.block * 128, t, params⟩

/-- Staging a record under the stop of R444: while recording is stopped it is counted; with 262,142 records held CM_LOG_FULL takes
its place and recording stops. -/
def Cameo.putOne (sev : Nat) (c : Cameo) (r : Raised) : Cameo :=
  if c.stopped then { c.drop with stopDrops := c.stopDrops + 1 }
  else if 262142 ≤ c.held ∧ c.stage.length < 4096 then
    { c.put sev (Cameo.own .CM_LOG_FULL r.dtime [r.code]) with stopped := true, stopDrops := 0 }
  else c.put sev r

/-- Staging a record after the one that tells of those lost for want of room, when there is room again (R443). -/
def Cameo.stageOne (sev : Nat) (c : Cameo) (r : Raised) : Cameo :=
  if 0 < c.lost ∧ c.stage.length < 4096 ∧ !c.stopped then
    Cameo.putOne sev { c.putOne sev (Cameo.own .CM_STAGE_LOST r.dtime [c.lost]) with lost := 0 } r
  else c.putOne sev r

/-- The report of a code's suppressed events; the count returns to 0 (R441). -/
def Cameo.report (sev t code : Nat) (c : Cameo) : Cameo :=
  match c.suppressed.find? (·.code == code) with
  | none => c
  | some x =>
    { c.stageOne sev (Cameo.own .CM_SUPPRESSED t [code, x.count, x.first % 2 ^ 32, x.last % 2 ^ 32]) with
      suppressed := c.suppressed.filter (·.code != code) }

/-- Admitting an event: the suppressed count of its code is reported first (R441). -/
def Cameo.admitOne (sev : Nat) (c : Cameo) (r : Raised) : Cameo := (c.report sev r.dtime r.code).stageOne sev r

/-- An event that finds its bucket empty (R440). -/
def Cameo.suppress (c : Cameo) (r : Raised) : Cameo :=
  match c.suppressed.find? (·.code == r.code) with
  | none => { c with suppressed := c.suppressed ++ [⟨r.code, 1, r.dtime, r.dtime, 0⟩] }
  | some _ =>
    { c with suppressed := c.suppressed.map fun x =>
        if x.code = r.code then { x with count := min (2 ^ 32 - 1) (x.count + 1), last := r.dtime } else x }

/-- Tokens in the bucket of a code. -/
def Cameo.tokens (c : Cameo) (code : Nat) : Nat :=
  match c.buckets.find? (·.1 == code) with
  | none => 0
  | some b => b.2

/-- Judging a raised event (R440, R444): while recording is stopped it is counted and in no bucket; a record of Cameo's own
is not rate-limited; else it takes a token or is suppressed. -/
def Cameo.judge (sev : Nat) (c : Cameo) (r : Raised) : Cameo :=
  if c.stopped then { c.drop with stopDrops := c.stopDrops + 1 }
  else if !Event.limited.contains r.code then c.admitOne sev r
  else if c.tokens r.code = 0 then c.suppress r
  else
    Cameo.admitOne sev { c with buckets := c.buckets.map fun b : Nat × Nat => if b.1 = r.code then (b.1, b.2 - 1) else b } r

/-- Both Crown cores have failed: Cameo does not run (R400). -/
def Dev.crownDead (d : Dev) : Bool := getF d .KP_CORES_CROWN 0 == 3

/-- The notification's message: vector 1,024, at most once in an M-tick, while the function is in D0 (R446). -/
def Dev.notifyOwed (d : Dev) : Dev :=
  if d.cameo.owed && !d.cameo.sent && !d.pcie.d3 && d.pcie.linkUp then
    { d with cameo := { d.cameo with owed := false, sent := true } }.msix 1024
  else d

/-- The events raised are judged in the order of R442; those that arise in P4 wait for its exit (R446). -/
def Dev.judgeAll (d : Dev) : Dev :=
  if getF d .PM_STAT_STATE 0 = 4 then d
  else
    let e := { d with cameo := { d.cameo with raised := [] } }
    if d.crownDead then e
    else { e with cameo := (sortRaised d.cameo.raised).foldl (Cameo.judge (getF d .CM_CFG_NOTIFY_SEV 0)) e.cameo }

/-- The end of a command: the events it raised are judged, and the notification's message goes out. -/
def Dev.flush (d : Dev) : Dev := d.judgeAll.notifyOwed

/-- A command's effect on the device, its events judged at its end; DTIME and the queue stay. -/
def State.onDev (s : State) (f : Dev → Dev) : State := { s with dev := (f s.dev).flush }

/-- The outcome of a command that acts on the device alone. -/
def run (s : State) (f : Dev → Dev) : Out := .next (s.onDev f)

end Sys2Proof.Machine
end

