-- ==== Sys2Proof/Machine/Volumes.lean ====
section
/-! DEFINITION. Where sectors lie: physical sector addresses (R49, R50), the home sequence of a volume (R269 to R271), chain
members (R232, R233), remap lookup (R59, R61), and the nominal spiral (R36, R38, R43). -/

namespace Sys2Proof.Machine

/-- A PSA from layer, stripe and spot (R49). -/
def psaOf (layer stripe spot : Nat) : Nat := layer * 2 ^ 22 + stripe * 4 + spot
/-- The layer of a PSA. -/
def psaLayer (p : Nat) : Nat := p / 2 ^ 22 % 16
/-- The stripe index of a PSA. -/
def psaStripe (p : Nat) : Nat := p / 4 % 2 ^ 20
/-- The spot of a PSA. -/
def psaSpot (p : Nat) : SpotId := ⟨p % 4, by omega⟩

/-- Bytes of a sector (R5, R52). -/
def sectorBytes : Nat := 65536

/-! ## The nominal spiral -/

/-- Stripe index lies in the data zone (R50). -/
def inData (stripe : Nat) : Bool := decide (stripe ≤ 277759)

/-- Length along the track from the start of its zone to the start of a stripe, in µm: 26,720 µm a stripe (R43). -/
def stripeLen (stripe : Nat) : Nat := (if inData stripe then stripe else stripe - 0xF0000) * 26720

/-- The nominal radius of a stripe in nm, from r² = r0² ± L × p / π with pitch 1.2 µm (R36, R38, R50); π is taken as
355/113. Even layers run outward from 23.000 mm (21.800 mm in the system zone), odd layers inward from 58.000 mm (23.000 mm
in the system zone). -/
def stripeRadius (layer stripe : Nat) : Nat :=
  let a := stripeLen stripe * 1000 * 1200 * 113 / 355
  let lo := if inData stripe then 23000000 else 21800000
  let hi := if inData stripe then 58000000 else 23000000
  if layer % 2 = 0 then isqrtFuel (lo * lo + a) 64 0 100000000 else isqrtFuel (hi * hi - a) 64 0 100000000

/-- The nominal band of a stripe: whole turns of 1.2 µm from 21.800 mm (R38). -/
def stripeBand (layer stripe : Nat) : Nat := (stripeRadius layer stripe - 21800000) / 1200

/-- The nominal radius of a band's inner edge in nm (R38). -/
def bandRadius (band : Nat) : Nat := 21800000 + 1200 * band

/-- The channel bit rate in bit/s at a radius in nm and a speed in rpm: 2π r n / 60 over 40 nm (R35). -/
def channelRate (radius rpm : Nat) : Nat := 2 * 355 * radius * rpm / (113 * 60 * 40)

/-- A point is within the rate limit of R34: at most 401 Mbit/s. -/
def rateOk (radius rpm : Nat) : Bool := decide (channelRate radius rpm ≤ 401000000)

/-! ## Chains -/

/-- A chain is defined. -/
def Dev.chainValid (d : Dev) (c : Nat) : Bool := getB d .CH_CHAIN_W0_VALID c
/-- k of a chain. -/
def Dev.chainK (d : Dev) (c : Nat) : Nat := getF d .CH_CHAIN_W0_K c
/-- m of a chain. -/
def Dev.chainM (d : Dev) (c : Nat) : Nat := getF d .CH_CHAIN_W0_M c
/-- The STATE field of a member byte. -/
def memStateF (j : Nat) : Fld :=
  match j % 4 with
  | 0 => .CH_CHAIN_MEM_STATE0 | 1 => .CH_CHAIN_MEM_STATE1 | 2 => .CH_CHAIN_MEM_STATE2 | _ => .CH_CHAIN_MEM_STATE3
/-- The SPINDLE field of a member byte. -/
def memSpinF (j : Nat) : Fld :=
  match j % 4 with
  | 0 => .CH_CHAIN_MEM_SPINDLE0 | 1 => .CH_CHAIN_MEM_SPINDLE1 | 2 => .CH_CHAIN_MEM_SPINDLE2 | _ => .CH_CHAIN_MEM_SPINDLE3
/-- The SURFACE field of a member byte. -/
def memSideF (j : Nat) : Fld :=
  match j % 4 with
  | 0 => .CH_CHAIN_MEM_SURFACE0 | 1 => .CH_CHAIN_MEM_SURFACE1 | 2 => .CH_CHAIN_MEM_SURFACE2 | _ => .CH_CHAIN_MEM_SURFACE3
/-- The state of member j of a chain: 0 ONLINE, 1 MISSING, 2 REBUILDING, 3 unused (R256). -/
def Dev.memState (d : Dev) (c j : Nat) : Nat := getF d (memStateF j) (4 * c + j / 4)
/-- Setting it. -/
def Dev.setMemState (d : Dev) (c j v : Nat) : Dev := setF d (memStateF j) (4 * c + j / 4) v
/-- The surface of member j. -/
def Dev.memSurf (d : Dev) (c j : Nat) : SurfId :=
  ⟨(2 * getF d (memSpinF j) (4 * c + j / 4) + getF d (memSideF j) (4 * c + j / 4)) % 64, by omega⟩
/-- Setting the whole member byte. -/
def Dev.setMember (d : Dev) (c j state surf : Nat) : Dev :=
  setF (setF (setF d (memStateF j) (4 * c + j / 4) state) (memSpinF j) (4 * c + j / 4) (surf / 2))
    (memSideF j) (4 * c + j / 4) (surf % 2)
/-- The members of a chain. -/
def Dev.members (d : Dev) (c : Nat) : List Nat := List.range (d.chainK c + d.chainM c)
/-- The chain and member that a surface belongs to. -/
def Dev.memberOf (d : Dev) (s : SurfId) : Option (Nat × Nat) :=
  (List.range 16).findSome? fun c =>
    if d.chainValid c then ((d.members c).find? fun j => d.memSurf c j == s).map fun j => (c, j) else none

/-! ## Volumes -/

/-- The range lies on a chain. -/
def VRange.chained (r : VRange) : Bool := bit r.place 7
/-- The chain of a range. -/
def VRange.chain (r : VRange) : Nat := bits r.place 3 0
/-- The surface of a range. -/
def VRange.surf (r : VRange) : SurfId := ⟨bits r.place 5 0 % 64, by omega⟩
/-- Sectors of a range: four a stripe. -/
def VRange.sectors (r : VRange) : Nat := 4 * r.stripes

/-- The n-th element of the home sequence: its range and PSA (R271). -/
def homeIn : List VRange → Nat → Option (VRange × Nat)
  | [], _ => none
  | r :: l, n => if n < r.sectors then some (r, psaOf r.layer (r.first + n / 4) (n % 4)) else homeIn l (n - r.sectors)

/-- The length of the home sequence. -/
def Volume.seqLen (v : Volume) : Nat := (v.ranges.map VRange.sectors).sum

/-- The chain of a chained volume. -/
def Volume.chain? (v : Volume) : Option Nat :=
  match v.ranges with
  | r :: _ => if r.chained then some r.chain else none
  | [] => none

/-- Data members per row: 1 when unchained. -/
def Dev.volK (d : Dev) (v : Volume) : Nat :=
  match v.chain? with
  | some c => d.chainK c
  | none => 1

/-- The capacity of a volume in sectors (R271). -/
def Dev.volCap (d : Dev) (v : Volume) : Nat := v.seqLen * d.volK v

/-- The place of a sector: its surface and home PSA; chain and member, 0xFF when unchained; the row, or its own number. -/
structure Place where
  surf : SurfId
  psa : Nat
  chain : Nat
  member : Nat
  row : Nat
deriving DecidableEq, Repr

/-- The home of member `j` of row `r` of a chained volume (R233). -/
def Dev.rowPlace (d : Dev) (v : Volume) (c r j : Nat) : Option Place :=
  (homeIn v.ranges r).map fun x => ⟨d.memSurf c j, x.2, c, j, r⟩

/-- The home of logical sector n (R233, R271). -/
def Dev.locate (d : Dev) (v : Volume) (n : Nat) : Option Place :=
  match v.chain? with
  | some c => d.rowPlace v c (n / d.chainK c) (n % d.chainK c)
  | none => (homeIn v.ranges n).map fun x => ⟨x.1.surf, x.2, 0xFF, 0xFF, n⟩

/-- The volume of a number. -/
def Dev.volume? (d : Dev) (n : Nat) : Option Volume := d.clasp.volumes.find? (·.id == n)

/-- The device with a volume changed. -/
def Dev.modVolume (d : Dev) (n : Nat) (f : Volume → Volume) : Dev :=
  d.modClasp fun c => { c with volumes := c.volumes.map fun v => if v.id = n then f v else v }

/-- The PSA that holds a home's sector, its placement epoch and its SEQ: the mirror's record, else the home itself with
epoch 1 (R59, R61, R242). -/
def Surface.resolve (s : Surface) (home : Nat) : Nat × Nat × Nat :=
  match s.mirror.find? (·.home == home) with
  | some r => (r.target, r.epoch, r.seq)
  | none => (home, 1, 0)

/-- A record enters the mirror: for each home the record with the highest SEQ wins (R59). -/
def Surface.enter (s : Surface) (r : RemapRec) : Surface :=
  match s.mirror.find? (·.home == r.home) with
  | none => { s with mirror := s.mirror ++ [r] }
  | some x => if x.seq < r.seq then { s with mirror := s.mirror.map fun y => if y.home = r.home then r else y } else s

end Sys2Proof.Machine
end

