-- ==== Sys2Proof/Machine/Wake.lean ====
section
/-! DEFINITION. The power state and wake events (R376, R380, R381), which most blocks read or raise. -/

namespace Sys2Proof.Machine

/-- The power state P0 to P4. -/
def Dev.pState (d : Dev) : Nat := getF d .PM_STAT_STATE 0

/-- A wake event (R380, R381): below P0, or with a step down under way, the exit of the deepest state reached begins and
LAST_WAKE records the event; in P0 it has no effect. -/
def Dev.wake (d : Dev) (cause : Nat) : Dev :=
  if d.pState = 0 then (if d.power.downTo.isSome then d.modPower fun p => { p with downTo := none } else d)
  else
    setF (d.modPower fun p =>
      { p with exiting := true, onlyP2 := false, downTo := none, deepest := max p.deepest (getF d .PM_STAT_STATE 0) })
      .PM_STAT_LAST_WAKE 0 cause

/-- A bay event in P3 or P4 (R380): the exit goes to P2 only. -/
def Dev.wakeBay (d : Dev) : Dev :=
  if d.pState < 3 then d
  else
    setF (d.modPower fun p =>
      { p with onlyP2 := !p.exiting || p.onlyP2, exiting := true, downTo := none, deepest := max p.deepest (getF d .PM_STAT_STATE 0) })
      .PM_STAT_LAST_WAKE 0 3

/-- Restarting the waits of R379 when work arrives. -/
def Dev.notIdle (d : Dev) : Dev := d.modPower fun p => { p with idle := 0 }

end Sys2Proof.Machine
end

