-- ==== Sys2Proof/Machine/Queues.lean ====
section
/-! DEFINITION. Clasp's queue pairs: completions and the error log (R281, R282, R289, R290, R294), range locks (R278), and
what every command of a pair shares. -/

namespace Sys2Proof.Machine

/-! ## Finding -/

/-- The pair of a number. -/
def Dev.pair? (d : Dev) (q : Nat) : Option QueuePair := d.clasp.queues.find? (·.qid == q)

/-- The device with a pair changed. -/
def Dev.modPair (d : Dev) (q : Nat) (f : QueuePair → QueuePair) : Dev :=
  d.modClasp fun c => { c with queues := c.queues.map fun x => if x.qid = q then f x else x }

/-- The outstanding command of a pair and tag. -/
def Dev.cmd? (d : Dev) (q tag : Nat) : Option Cmd := d.clasp.cmds.find? fun c => c.qid == q && c.e.tag == tag

/-- The device with an outstanding command changed. -/
def Dev.modCmd (d : Dev) (q tag : Nat) (f : Cmd → Cmd) : Dev :=
  d.modClasp fun c => { c with cmds := c.cmds.map fun x => if x.qid = q ∧ x.e.tag = tag then f x else x }

/-- Commands outstanding on a pair. -/
def Dev.outstanding (d : Dev) (q : Nat) : Nat := (d.clasp.cmds.filter (·.qid == q)).length

/-! ## Status -/

/-- The rank of a status, the worst 0 (R294). -/
def statusRank (st : Nat) : Nat :=
  match st / 2 ^ 12 with
  | 7 => 0 | 1 => 1 | 3 => 2 | 6 => 3 | 5 => 4 | 2 => 5
  | _ => if st = 3 then 6 else if st = 2 then 7 else if st = 1 then 8 else 9

/-- The record that stands: the worse rank, within one rank the sector that comes first (R294). -/
def worseRec (a b : SectorRec) : SectorRec :=
  if statusRank b.status < statusRank a.status then b
  else if statusRank b.status = statusRank a.status ∧ b.lsn < a.lsn then b else a

/-- The status of a command from the outcomes of its sectors (R294). -/
def worstStatus : List SectorRec → Nat
  | [] => 0
  | r :: l => (l.foldl worseRec r).status

/-- The class of a status. -/
def statusClass (st : Nat) : Nat := st / 2 ^ 12

/-- A status freezes an I/O pair: classes 1, 2, 3, 5, 6 and 7 (R289). -/
def freezes (st : Nat) : Bool := statusClass st != 0 && statusClass st != 4

/-! ## The error log -/

/-- The entries of a command: twelve records each, all but the last continued (R290). -/
def logChunks (mk : List SectorRec → Bool → Nat → LogEntry) : List (List SectorRec) → Nat → List LogEntry
  | [], n => [mk [] false n]
  | [r], n => [mk r false n]
  | r :: l, n => mk r true n :: logChunks mk l (n + 1)

/-- Adding entries to the ring of 1,024: the oldest are overwritten and counted in LOST (R290). -/
def Dev.addLog (d : Dev) (es : List LogEntry) : Dev :=
  let all := d.clasp.log ++ es
  let ovr := all.length - 1024
  incF (d.modClasp fun c => { c with log := all.drop ovr, logNext := c.logNext + es.length }) .CL_LOG_STAT_LOST 0 ovr

/-- Writing a command's error-log entries; the slot of the first (R290). -/
def Dev.logCmd (d : Dev) (t : Nat) (c : Cmd) (status count ev : Nat) : Nat × Dev :=
  let n := d.clasp.logNext
  let bad := c.recs.filter (·.status != 0)
  ((n - 1) % 1024,
   d.addLog (logChunks (fun rs more k => ⟨k, c.qid, c.e.tag, status, c.e.opc, c.e.volume, count, t, ev, rs, more⟩)
     (chunks 12 bad) n))

/-- The 128 bytes of an error-log entry (R290). -/
def LogEntry.bytes (l : LogEntry) : List Byte :=
  bytesLE 4 l.seq ++ bytesLE 2 l.qid ++ bytesLE 2 l.tag ++ bytesLE 2 l.status ++ bytesLE 1 l.opc ++ bytesLE 1 l.volume
    ++ bytesLE 4 l.count ++ bytesLE 8 l.dtime ++ bytesLE 2 l.event ++ bytesLE 1 l.recs.length ++ bytesLE 1 (b2n l.more)
    ++ zeros 4 ++ (l.recs.flatMap fun r => bytesLE 8 (r.status * 2 ^ 48 + r.step * 2 ^ 44 + r.lsn % 2 ^ 40))
    ++ zeros (8 * (12 - l.recs.length))

/-! ## Completion -/

/-- The 16 bytes of a completion entry (R281). -/
def cqEntry (tag status count sqHead logIdx : Nat) (logged phase : Bool) : List Byte :=
  bytesLE 2 tag ++ bytesLE 2 status ++ bytesLE 4 count ++ bytesLE 2 sqHead ++ zeros 2 ++ bytesLE 2 logIdx ++ zeros 1
    ++ bytesLE 1 (b2n phase + 2 * b2n logged)

/-- Signalling a completion entry: every entry, or every COAL_CNT entries (R267). -/
def Dev.signal (d : Dev) (t : Nat) (p : QueuePair) : Dev :=
  if p.coalCnt ≤ p.unsignalled + 1 then (d.modPair p.qid fun x => { x with unsignalled := 0 }).msix p.vector
  else d.modPair p.qid fun x => { x with
    unsignalled := x.unsignalled + 1, since := if x.unsignalled = 0 then t else x.since }

/-- Posting a completion entry of a pair: the entry, its index and phase moved on, the tag remembered (R286), the pair frozen
when the status does (R289), the interrupt. -/
def Dev.post (d : Dev) (t q tag status count sqHead : Nat) (log : Option Nat) : Dev :=
  match d.pair? q with
  | none => d
  | some p =>
    let d := d.send (.write (p.cqBase + 16 * p.cqTail)
      (cqEntry tag status count sqHead (log.getD 0) log.isSome p.phase))
    let wrap := decide (p.depth ≤ p.cqTail + 1)
    let d := d.modPair q fun x => { x with
      cqTail := if wrap then 0 else x.cqTail + 1
      phase := if wrap then !x.phase else x.phase
      used := if x.used.contains tag then x.used else x.used ++ [tag]
      frozen := x.frozen || (freezes status && q != 0) }
    d.signal t p

/-- The owner of a read whose command has gone (R204). -/
def noCmd : ReadFor := .cmd (2 ^ 32) 0

/-- No command waits for the read any more: its ladder ends at the next step boundary (R204). -/
def ReadJob.orphan (r : ReadJob) : Bool := r.why == noCmd && r.joined.isEmpty

/-- Taking a command out of the outstanding ones, with its range lock (R279), its engine work, its reads and its hold on staged
sectors. A read not yet made is void; one in the ladder goes on to its next step boundary (R204, R287). Sectors it staged stay to be
written. -/
def Dev.dropCmd (d : Dev) (q tag : Nat) : Dev :=
  let alone (r : ReadJob) : Bool := r.why == .cmd q tag && r.joined.isEmpty && !r.realloc
  let unread (r : ReadJob) : Bool := r.step == 0 && r.cap.isEmpty
  { d with
    clasp := { d.clasp with
      cmds := d.clasp.cmds.filter fun c => !(c.qid == q && c.e.tag == tag)
      locks := d.clasp.locks.filter fun l => !(l.qid == q && l.tag == tag)
      slots := d.clasp.slots.filter fun x => !(x.qid == q && x.tag == tag) }
    filigree := { d.filigree with
      waiting := d.filigree.waiting.filter fun w => !(w.qid == q && w.tag == tag)
      engines := d.filigree.engines.map fun w =>
        match w with
        | none => none
        | some w => if w.qid = q ∧ w.tag = tag then none else some w }
    data := { d.data with
      reads := (d.data.reads.filter fun r => !(alone r && unread r)).map fun r =>
        if alone r then { r with why := noCmd }
        else if r.why = .cmd q tag then
          match r.joined with
          | [] => r
          | j :: js => { r with why := .cmd j.1 j.2.1, lsn := j.2.2, joined := js }
        else { r with joined := r.joined.filter fun j => !(j.1 == q && j.2.1 == tag) }
      writes := d.data.writes.map fun w => if w.owner = some (q, tag) then { w with owner := none } else w } }

/-- With EN written 0 and nothing outstanding any more, every pair is deleted, what stood of their objects with it, and RDY reads
0 (R268, R274). -/
def Dev.finishDisable (d : Dev) : Dev :=
  if d.clasp.disabling && d.clasp.cmds.isEmpty then
    let d := d.clasp.queues.foldl (fun d p => resetF d .CL_QFENCE_FENCE p.qid) d
    setF (d.modClasp fun k => { k with
      queues := [], disabling := false, volumes := k.volumes.map fun v => { v with obj := none, voided := [] } }) .CL_STAT_RDY 0 0
  else d

/-- Completing an outstanding command with a status and count (R281): its error-log entry when one is due, its one completion
entry, and everything it held given up. `ev` is the related event's code (R290). -/
def Dev.complete (d : Dev) (t : Nat) (c : Cmd) (status count : Nat) (ev : Nat := 0) : Dev :=
  let due := status != 0 || c.recs.any (·.status != 0)
  let r := if due then ((d.logCmd t c status count ev).1, (d.logCmd t c status count ev).2) else (0, d)
  ((r.2.dropCmd c.qid c.e.tag).post t c.qid c.e.tag status count c.sqHead (if due then some r.1 else none)).finishDisable

/-- Completing the command of a pair and tag, if it is outstanding. -/
def Dev.endCmd (d : Dev) (t q tag status count : Nat) (ev : Nat := 0) : Dev :=
  match d.cmd? q tag with
  | none => d
  | some c => d.complete t c status count ev

/-- A read-like command (R282). -/
def readOpc (o : Nat) : Bool := o == 0x20 || o == 0x23 || o == 0x25
/-- A write-like command (R282). -/
def writeOpc (o : Nat) : Bool := o == 0x21 || o == 0x24 || o == 0x29

/-- Sectors of a command that count as committed if it ends now (R282, R287): those complete, those whose gate is open, and
those of chain rows of which a member is armed or written. -/
def Dev.committedNow (d : Dev) (c : Cmd) : Nat :=
  c.committed + (d.data.writes.filter fun w =>
    w.owner == some (c.qid, c.e.tag) &&
      (w.state == .writing || (w.chain != 0xFF && w.state != .complete && w.state != .verified &&
        d.data.writes.any fun x => x.chain == w.chain && x.row == w.row && x.volume == w.volume && x.state != .staged))).length

/-- COUNT of a command that ends with a status (R282, R264). -/
def Dev.countOf (d : Dev) (c : Cmd) (status : Nat) : Nat :=
  if status = 0x4001 ∨ status = 0x4003 ∨ status = 0x5001 then d.committedNow c
  else if readOpc c.e.opc then c.done
  else if writeOpc c.e.opc then
    (if statusClass status = 2 ∨ statusClass status = 5 ∨ statusClass status = 6 then d.committedNow c
     else if statusClass status = 0 ∨ status = 0x1005 then c.staged else 0)
  else if c.e.opc = 0x28 then c.done
  else 0

/-- Completing a command with the COUNT that its status gives. -/
def Dev.finish (d : Dev) (t q tag status : Nat) (ev : Nat := 0) : Dev :=
  match d.cmd? q tag with
  | none => d
  | some c => d.complete t c status (d.countOf c status) ev

/-! ## Locks (R278) -/

/-- The tag under which an open object holds its volume's tail (R273), outside the tags of commands. -/
def objTag : Nat := 65536

/-- Two entries conflict: of the same volume, overlapping, not both shared. A lock of the tail conflicts with another of the
tail, but for an open object's with its own pair's APPENDs (R273; log entry 11). -/
def Lock.conflicts (a b : Lock) : Bool :=
  a.volume == b.volume && !(a.shared && b.shared) && !(a.qid == b.qid && (a.tag == objTag && b.append || b.tag == objTag && a.append)) &&
    (if a.tail || b.tail then a.tail && b.tail
     else decide (a.first < b.first + b.count) && decide (b.first < a.first + a.count))

/-- An APPEND of the pair that owns the volume's open object runs under the tail lock which the object holds: the entries of other pairs that
wait for that lock do not hold it up (R273). -/
def Dev.passes (d : Dev) (l x : Lock) : Bool :=
  l.append && x.tail && x.qid != l.qid && !x.held
    && d.clasp.locks.any fun o => o.tag == objTag && o.qid == l.qid && o.volume == l.volume

/-- No conflicting entry of an earlier-admitted command remains. -/
def Dev.grantable (d : Dev) (l : Lock) : Bool :=
  d.clasp.locks.all fun x => !(decide (x.order < l.order) && x.conflicts l && !d.passes l x)

/-- Giving up the lock of a command (R279). -/
def Dev.release (d : Dev) (q tag : Nat) : Dev :=
  d.modClasp fun c => { c with locks := c.locks.filter fun l => !(l.qid == q && l.tag == tag) }

/-- LOCK_GRANT (R278): a waiting entry with no earlier conflict left is held, and its command may start. -/
def Dev.lockGrant (d : Dev) (q tag : Nat) : Dev :=
  match d.clasp.locks.find? fun l => l.qid == q && l.tag == tag && !l.held with
  | none => d
  | some l =>
    if d.grantable l then
      (d.modClasp fun c => { c with locks := c.locks.map fun x => if x.qid = q ∧ x.tag = tag then { x with held := true } else x }).modCmd
        q tag fun c => { c with granted := true }
    else d

/-! ## Moving data to the host -/

/-- Placing output bytes of a command from offset `off` of its output: in the buffer at DPTR or along its list. Answers the
device and the bytes that found no place. -/
def Dev.place (d : Dev) (c : Cmd) (off : Nat) (bs : List Byte) : Dev × List Byte :=
  if c.e.sgl then
    let r := placeIn c.list.desc off bs
    ({ d with hostOut := d.hostOut ++ r.1 }, r.2)
  else if bs.isEmpty then (d, []) else (d.send (.write (c.e.dptr + off) bs), [])

/-- The scatter list of a command is complete as far as `n` bytes, or ended. -/
def Cmd.listReady (c : Cmd) (n : Nat) : Bool := !c.e.sgl || c.list.ended || decide (n ≤ c.list.size)

/-- The result slot (R276): 64 bytes at RPTR. -/
def Dev.resultSlot (d : Dev) (c : Cmd) (first16 a b : Nat) : Dev :=
  d.send (.write c.e.rptr (bytesLE 16 first16 ++ bytesLE 8 a ++ bytesLE 8 b ++ zeros 32))

end Sys2Proof.Machine
end

