-- ==== Sys2Proof/Machine/Time.lean ====
section
/-! DEFINITION. Library time (R24 to R28): PTM dialogues, the host's offset, and their application at an M-tick boundary. -/

namespace Sys2Proof.Machine

/-- SY_LIBTIME_OFS as it reads (R7): the value last written, though it has still to be applied; else the applied one. -/
def LibTime.written (l : LibTime) (applied : Nat) : Nat :=
  let v := l.host.getD applied
  match l.lower with
  | some w => v / 2 ^ 32 * 2 ^ 32 + w
  | none => v

/-- Starting one PTM dialogue: in P3 and P4 it waits for the exit to P2 or higher, and without a PCIe link in L0 for the link
(R28); one that runs serves (log entry 10). -/
def Dev.ptmStart (d : Dev) : Dev :=
  if 3 ≤ getF d .PM_STAT_STATE 0 ∨ !d.pcie.linkUp then { d with libTime := { d.libTime with due := true } }
  else if d.libTime.run then d
  else { d with libTime := { d.libTime with run := true, due := false } }.send .ptmRequest

/-- A due dialogue starts at the exit to P2 or higher, or when the link comes up (R28). -/
def Dev.ptmResume (d : Dev) : Dev := if d.libTime.due then d.ptmStart else d

/-- PTM_PERIOD_EXPIRY (R25): with PTM_EN 1 and a nonzero period a dialogue starts. -/
def Dev.ptmPeriod (d : Dev) : Dev :=
  if getB d .SY_TIME_CTL_PTM_EN 0 && getF d .SY_TIME_CTL_PTM_PERIOD 0 != 0 then d.ptmStart else d

/-- PTM_NOW (R25): with PTM_EN 1 a write of 1 starts a dialogue. -/
def Dev.ptmNow (d : Dev) : Dev := if getB d .SY_TIME_CTL_PTM_EN 0 then d.ptmStart else d

/-- PTM_RESPONSE (R25): the offset t_m − t_l waits for the next M-tick boundary, and the run of failures ends (R26). -/
def Dev.ptmResponse (d : Dev) (tm tl : Nat) : Dev :=
  if d.libTime.run then
    { d with libTime := { d.libTime with
        run := false, fails := 0, ptm := some (ofSigned 64 ((tm : Int) - (tl : Int))) } }
  else d

/-- PTM_TIMEOUT (R25, R26): the dialogue has failed; the third in a row clears LT_VALID. Only a valid response ends the run of failures:
a host write of the offset does not, which R26 leaves open (DESIGN CHOICE, log entry 10). -/
def Dev.ptmTimeout (d : Dev) : Dev :=
  if d.libTime.run then
    let d := { d with libTime := { d.libTime with run := false, fails := d.libTime.fails + 1 } }
    let d := incF d .SY_TIME_CTL_PTM_FAILS 0
    if 3 ≤ d.libTime.fails then setF d .SY_TIME_CTL_LT_VALID 0 0 else d
  else d

/-- LIBTIME_OFS_WRITE (R27): a lower half stays pending; an upper half commits both; an upper half with no lower half pending
takes the lower half that stands (log entry 10). -/
def Dev.libWrite (d : Dev) (half : Half) (v : Nat) : Dev :=
  let l := d.libTime
  let stands := (l.host.getD (getF d .SY_LIBTIME_OFS_OFFSET 0)) % 2 ^ 32
  { d with libTime :=
      match half with
      | .lower => { l with lower := some (v % 2 ^ 32) }
      | .upper => { l with lower := none, host := some (v % 2 ^ 32 * 2 ^ 32 + l.lower.getD stands) }
      | .both => { l with lower := none, host := some (v % 2 ^ 64) } }

/-- The M-tick boundary applies the host's offset, else the PTM result, and sets LT_VALID (R24, R26, R27). -/
def Dev.libTick (d : Dev) : Dev :=
  let l := d.libTime
  match l.host.or l.ptm with
  | none => d
  | some v =>
    setF (setF { d with libTime := { l with host := none, ptm := none } } .SY_LIBTIME_OFS_OFFSET 0 v)
      .SY_TIME_CTL_LT_VALID 0 1

/-- Library time at DTIME `t` (R24). -/
def Dev.libNow (d : Dev) (t : Nat) : Nat := (t + getF d .SY_LIBTIME_OFS_OFFSET 0) % 2 ^ 64

/-- PTM_PERIOD_EXPIRY. -/
def execPtmPeriodExpiry (s : State) : Out := run s fun d => d.ptmPeriod
/-- PTM_NOW. -/
def execPtmNow (s : State) : Out := run s fun d => d.ptmNow
/-- PTM_RESPONSE. -/
def execPtmResponse (tm tl : Nat) (s : State) : Out := run s fun d => d.ptmResponse tm tl
/-- PTM_TIMEOUT. -/
def execPtmTimeout (s : State) : Out := run s fun d => d.ptmTimeout
/-- LIBTIME_OFS_WRITE. -/
def execLibtimeOfsWrite (half : Half) (value : Nat) (s : State) : Out := run s fun d => d.libWrite half value

end Sys2Proof.Machine
end

