-- ==== Sys2Proof/Machine/Admission.lean ====
section
/-! DEFINITION. Doorbells, fetching and admission (R260 to R263, R266, R267, R277, R278, R295, R297, R467), and the admin
commands on queues: CREATE_QUEUE, DELETE_QUEUE, QUEUE_RESTART, CL_CTL.EN (R259, R267, R268, R289). -/

namespace Sys2Proof.Machine

/-! ## Doorbells (R260) -/

/-- A SQ_TAIL index: ignored, with an event, when it is DEPTH or more. -/
def Dev.ringSq (d : Dev) (t q i : Nat) : Dev :=
  match d.pair? q with
  | none => d
  | some p =>
    if i < p.depth then d.modPair q fun x => { x with sqTail := i } else d.event t .CL_DOORBELL_BAD 0 [q]

/-- A CQ_HEAD index: ignored, with an event, when it is DEPTH or more or would pass an entry not yet written. -/
def Dev.ringCq (d : Dev) (t q i : Nat) : Dev :=
  match d.pair? q with
  | none => d
  | some p =>
    if i < p.depth ∧ (i + p.depth - p.cqHead) % p.depth ≤ (p.cqTail + p.depth - p.cqHead) % p.depth then
      d.modPair q fun x => { x with cqHead := i }
    else d.event t .CL_DOORBELL_BAD 0 [q]

/-- DOORBELL (R260, R380): a write of one index or of both; to a pair that does not exist it is ignored; below P0 it wakes. -/
def Dev.doorbell (d : Dev) (t q size : Nat) (upper : Bool) (v : Nat) : Dev :=
  match d.pair? q with
  | none => d
  | some _ =>
    let d := d.wake 1
    if size = 8 then (d.ringSq t q (bits v 11 0)).ringCq t q (bits v 43 32)
    else if upper then d.ringCq t q (bits v 11 0)
    else d.ringSq t q (bits v 11 0)

/-! ## The checks of R467 -/

/-- The opcode is listed for the admin pair. -/
def adminOpc (o : Nat) : Bool :=
  [0x01, 0x02, 0x03, 0x04, 0x05, 0x06, 0x08, 0x09, 0x0C, 0x10, 0x11, 0x12, 0x18, 0x19, 0x1A, 0x1B, 0x1D].contains o
/-- The opcode is listed for I/O pairs. -/
def ioOpc (o : Nat) : Bool := [0x20, 0x21, 0x22, 0x23, 0x24, 0x25, 0x26, 0x28, 0x29].contains o

/-- The FLAGS bits a command uses; FUA is ignored where it has no use (R284; log entry 12). -/
def flagsOf (o : Nat) : Nat :=
  match o with
  | 0x05 | 0x06 | 0x08 | 0x10 | 0x18 | 0x19 | 0x1A | 0x1B | 0x20 | 0x21 => 0x03
  | 0x22 => 0x41
  | 0x23 => 0x09
  | 0x24 => 0x1F
  | 0x25 => 0x2B
  | 0x29 => 0x05
  | _ => 0x01

/-- The command has a data buffer at DPTR. -/
def usesDptr (o : Nat) : Bool :=
  [0x05, 0x06, 0x08, 0x10, 0x18, 0x19, 0x1A, 0x1B, 0x20, 0x21, 0x24, 0x25, 0x28].contains o

/-- The command names a volume. -/
def usesVolume (e : Entry) : Bool :=
  e.opc == 0x08 || e.opc == 0x09 || (e.opc == 0x06 && bits e.arg 7 0 == 1) || ioOpc e.opc

/-- The command reads sectors through the ladder and so takes a BUDGET (R202; log entry 12). -/
def usesBudget (o : Nat) : Bool := [0x20, 0x21, 0x23, 0x24, 0x25, 0x28, 0x29].contains o

/-- The volume is a stream volume. -/
def Dev.isStream (d : Dev) (n : Nat) : Bool := match d.volume? n with | some v => v.stream | none => false

/-- ADDR and ADDR2 carry an extent token. -/
def Dev.usesToken (d : Dev) (e : Entry) : Bool :=
  e.opc == 0x25 || ((e.opc == 0x23 || e.opc == 0x28) && d.isStream e.volume)

/-- The command writes a result slot (R276). -/
def Dev.usesSlot (d : Dev) (e : Entry) : Bool :=
  (e.opc == 0x24 && !e.more) || e.opc == 0x26 || e.opc == 0x25 || e.opc == 0x28 || (e.opc == 0x29 && d.isStream e.volume)

/-- LEN lies within the range of R266, R356 and R418; the LEN of VERIFY and COPY goes by the kind of their volume. -/
def Dev.lenOk (d : Dev) (e : Entry) : Bool :=
  let within (lo hi : Nat) := decide (lo ≤ e.len) && decide (e.len ≤ hi)
  match e.opc with
  | 0x05 => within 1 1024
  | 0x08 => within 1 64
  | 0x10 => within 2 16
  | 0x18 | 0x19 => decide (64 + 8224 * (if bit e.arg 8 then 128 else 1) ≤ e.len)
  | 0x1A => bits e.arg 7 0 != 0 || decide (3156 ≤ e.len)
  | 0x1B => within 1 4096
  | 0x20 | 0x21 => within 1 16384
  | 0x23 => if d.isStream e.volume then e.len == 0 else within 1 16384
  | 0x24 => within 1 (2 ^ 30)
  | 0x28 => if d.isStream e.volume then e.len == 0 else decide (1 ≤ e.len)
  | 0x29 => within 1 (2 ^ 30 - 2 ^ 16)
  | _ => e.len == 0

/-- ARG lies within the range of its command (R266, R267, R302, R356, R418). -/
def argOk (e : Entry) : Bool :=
  match e.opc with
  | 0x01 =>
    decide (1 ≤ e.argQid) && decide (1 ≤ bits e.arg 53 42) && decide (bits e.arg 41 31 ≤ 1023) && bits e.arg 13 0 == 0
      && (if bits e.arg 29 22 = 0 then bits e.arg 21 14 == 0 else decide (1 ≤ bits e.arg 21 14))
  | 0x02 => bits e.arg 53 0 == 0
  | 0x03 => bits e.arg 53 1 == 0
  | 0x04 => bits e.arg 53 48 == 0 && bits e.arg 31 0 == 0
  | 0x05 => bits e.arg 62 32 == 0
  | 0x06 =>
    decide (bits e.arg 7 0 ≤ 2) &&
      (if bits e.arg 7 0 = 2 then decide (bits e.arg 15 8 ≤ 63) else bits e.arg 15 8 == 0) && bits e.arg 63 16 == 0
  | 0x08 => bits e.arg 63 1 == 0
  | 0x0C => bits e.arg 63 6 == 0
  | 0x10 => bits e.arg 63 10 == 0
  | 0x11 => bits e.arg 63 4 == 0
  | 0x12 => bits e.arg 63 14 == 0
  | 0x18 | 0x19 => bits e.arg 63 9 == 0 && !bit e.arg 7
  | 0x1A => bits e.arg 63 1 == 0
  | 0x1B => bits e.arg 62 32 == 0
  | 0x24 =>
    if e.comp then bits e.arg 5 2 == 0 && bits e.arg 1 0 != 3 && (bits e.arg 1 0 == 1 || bits e.arg 63 6 == 0)
    else e.arg == 0
  | 0x28 => bits e.arg 15 10 == 0 && bits e.arg 63 22 == 0
  | 0x29 => bits e.arg 63 6 == 0
  | _ => e.arg == 0

/-- Check 3 of R467: Reserved and unused fields are 0, and FLAGS, LEN, ARG and the pointers lie within their ranges and
alignments (R263 to R267, R303). -/
def Dev.fieldsOk (d : Dev) (e : Entry) : Bool :=
  e.rsvd == 0 && e.flags == Nat.land e.flags (flagsOf e.opc)
    && (usesVolume e || e.volume == 0)
    && (usesBudget e.opc || e.budget == 0)
    && (if d.usesToken e then true
        else if [0x20, 0x21, 0x23, 0x28].contains e.opc || (e.opc == 0x29 && !d.isStream e.volume) then
          decide (e.addr < 2 ^ 40) && e.addr2 == 0
        else e.addr == 0 && e.addr2 == 0)
    && d.lenOk e
    && (if e.opc = 0x01 then e.dptr % 4096 == 0 && e.xptr % 4096 == 0
        else
          (if usesDptr e.opc then e.dptr % (if e.sgl then 16 else 4) == 0 else e.dptr == 0)
            && (if e.opc = 0x25 then e.xptr % 16 == 0 else e.xptr == 0))
    && (if d.usesSlot e then e.rptr % 64 == 0 else e.rptr == 0)
    && argOk e && (!e.zlib || e.comp || e.opc != 0x24)

/-- Check 5 of R467: the volume exists and is of the kind the command needs (R272). -/
def Dev.volumeOk (d : Dev) (e : Entry) : Bool :=
  if e.opc = 0x08 then true
  else if e.opc = 0x22 ∧ e.all then true
  else if usesVolume e then
    match d.volume? e.volume with
    | none => false
    | some v =>
      if e.opc = 0x20 ∨ e.opc = 0x21 then !v.stream
      else if e.opc = 0x24 ∨ e.opc = 0x25 ∨ e.opc = 0x26 then v.stream
      else true
  else true

/-- The position in a volume's home sequence of a PSA at a LOC: the sector number an extent starts at. -/
def Dev.extentStart (d : Dev) (v : Volume) (tok : Token) : Option Nat :=
  (List.range (d.volCap v)).find? fun n =>
    match d.locate v n with
    | none => false
    | some p => p.psa == tok.psa && (if p.chain = 0xFF then p.surf.val == tok.loc else p.member == tok.loc)

/-- Check 6: the token's CHECK, its volume a stream volume, its PSA in that volume's home sequence (R275). -/
def Dev.tokenOk (d : Dev) (e : Entry) : Bool :=
  match e.token with
  | none => false
  | some tok =>
    match d.volume? tok.volume with
    | none => false
    | some v => v.stream && (d.extentStart v tok).isSome

/-- Sectors an extent spans from its first. -/
def Token.sectors (tok : Token) : Nat := (tok.offset + tok.stored + sectorBytes - 1) / sectorBytes

/-- First sector and count of the range a command touches. -/
def Dev.rangeOf (d : Dev) (e : Entry) : Nat × Nat :=
  if d.usesToken e then
    match e.token with
    | none => (0, 0)
    | some tok =>
      match d.volume? tok.volume with
      | none => (0, 0)
      | some v => ((d.extentStart v tok).getD 0, tok.sectors)
  else if e.opc = 0x29 then (e.addr, (e.len + sectorBytes - 1) / sectorBytes)
  else (e.addr, e.len)

/-- The volume whose range a command touches: a token names its own. -/
def Dev.rangeVolume (d : Dev) (e : Entry) : Nat :=
  if d.usesToken e then (e.token.map (·.volume)).getD e.volume else e.volume

/-- The command touches a range of sectors. -/
def Dev.hasRange (d : Dev) (e : Entry) : Bool :=
  [0x20, 0x21, 0x23, 0x25, 0x28].contains e.opc || (e.opc == 0x29 && !d.isStream e.volume)

/-- Check 7: the range lies within the volume (R271). -/
def Dev.rangeOk (d : Dev) (e : Entry) : Bool :=
  if d.hasRange e then
    match d.volume? (d.rangeVolume e) with
    | none => false
    | some v => decide ((d.rangeOf e).1 + (d.rangeOf e).2 ≤ d.volCap v)
  else true

/-- The open object of a stream volume that a pair owns. -/
def Dev.ownObj (d : Dev) (q vol : Nat) : Option StreamObj :=
  match d.volume? vol with
  | none => none
  | some v => v.obj.filter fun o => o.owner == q

/-- A volume's open object closes without a token (R274). -/
def Volume.voidObj (v : Volume) : Volume :=
  match v.obj with
  | some o => { v with obj := none, voided := v.voided.filter (· != o.owner) ++ [o.owner] }
  | none => v

/-- A pair's object on a volume was closed without a token and its owner has not been told (R274). -/
def Dev.voidObj (d : Dev) (q vol : Nat) : Bool :=
  match d.volume? vol with
  | none => false
  | some v => v.voided.contains q

/-- The pair has been told, or begins another object. -/
def Dev.voidTold (d : Dev) (q vol : Nat) : Dev := d.modVolume vol fun v => { v with voided := v.voided.filter (· != q) }

/-- COMP, ZLIB and MODE of the object that a pair's next APPEND on a volume would continue: that of its last outstanding
APPEND there, when that carries MORE, else that of the object open (R273, R303). -/
def Dev.objForm (d : Dev) (q vol : Nat) : Option (Bool × Bool × Nat) :=
  match (d.clasp.cmds.filter fun c => c.qid == q && c.e.opc == 0x24 && c.e.volume == vol).getLast? with
  | some c => if c.e.more then some (c.e.comp, c.e.zlib, bits c.e.arg 1 0) else none
  | none => (d.ownObj q vol).map fun o => (o.compressed, o.zlib, o.mode)

/-- The further admission checks of I/O commands (check 8): the open object of STREAM_FLUSH and APPEND (R273, R274, R303), the
copy tag of RECEIVE (R291). -/
def Dev.lastCheck (d : Dev) (q : Nat) (e : Entry) : Nat :=
  match e.opc with
  | 0x26 => if (d.objForm q e.volume).isSome then 0 else 0x1002
  | 0x24 =>
    if d.voidObj q e.volume && e.more then 0x1002
    else
      match d.objForm q e.volume with
      | none => 0
      | some (comp, zlib, mode) => if comp = e.comp ∧ zlib = e.zlib ∧ (!e.comp ∨ mode = bits e.arg 1 0) then 0 else 0x1002
  | 0x29 => if d.clasp.slots.any (·.slot == bits e.arg 5 0) then 0x6006 else 0
  | _ => 0

/-- The admission checks of R467 in their order: the status of the first that fails, else 0. -/
def Dev.checks (d : Dev) (p : QueuePair) (e : Entry) : Nat :=
  if !(if p.qid = 0 then adminOpc e.opc else ioOpc e.opc) then 0x1001
  else if (d.cmd? p.qid e.tag).isSome then 0x100A
  else if !d.fieldsOk e then 0x1002
  else if e.opc = 0x24 ∧ e.comp ∧ bits e.arg 1 0 ≠ 0 ∧ !p.priv then 0x100B
  else if !d.volumeOk e then 0x1003
  else if d.usesToken e && !d.tokenOk e then 0x1006
  else if !d.rangeOk e then 0x1004
  else d.lastCheck p.qid e

/-! ## Fetching (R261, R262) -/

/-- Every fetch condition but the free lock entry holds for a pair. -/
def Dev.mayFetch (d : Dev) (p : QueuePair) : Bool :=
  p.sqHead != p.sqTail && !p.frozen && decide (d.outstanding p.qid < p.depth - 1)
    && decide (d.clasp.cmds.length < 65536) && getB d .CL_STAT_RDY 0 && getB d .CL_CTL_EN 0

/-- The pair whose turn it is (R262): round-robin among the I/O pairs that may be fetched, the admin pair every second turn. -/
def Dev.turn (d : Dev) : Option Nat :=
  let ok := d.clasp.queues.filter d.mayFetch
  let admin := ok.any (·.qid == 0)
  let io := ok.filter (·.qid != 0)
  if admin && (!d.clasp.adminTurn || io.isEmpty) then some 0
  else
    let after := io.filter fun p => decide (d.clasp.lastIo < p.qid)
    match (if after.isEmpty then io else after) with
    | [] => none
    | p :: l => some (l.foldl (fun m x => min m x.qid) p.qid)

/-- The range lock a command enters in the table, if it takes one (R278). -/
def Dev.lockOf (d : Dev) (q order : Nat) (e : Entry) : Option Lock :=
  let r := d.rangeOf e
  if [0x20, 0x23, 0x25, 0x28].contains e.opc then
    some { qid := q, tag := e.tag, order, volume := d.rangeVolume e, first := r.1, count := r.2, tail := false, shared := true, held := false }
  else if e.opc = 0x21 ∨ (e.opc = 0x29 ∧ !d.isStream e.volume) then
    some { qid := q, tag := e.tag, order, volume := e.volume, first := r.1, count := r.2, tail := false, shared := false, held := false }
  else if e.opc = 0x24 ∨ e.opc = 0x29 then
    some { qid := q, tag := e.tag, order, volume := e.volume, tail := true, append := e.opc == 0x24, shared := false, held := false }
  else none

/-- What a command covers: sectors, or bytes of a stream command. -/
def Dev.totalOf (d : Dev) (e : Entry) : Nat :=
  if d.usesToken e then (d.rangeOf e).2
  else if e.opc = 0x29 ∧ !d.isStream e.volume then (d.rangeOf e).2 else e.len

/-- The scatter list of an entry, before its first segment has been read; `asked`: the device reads it at once. -/
def sgFirst (used asked : Bool) (ptr : Nat) : SgList :=
  if used then { next := some (ptr, 16), asked } else { ended := true }

/-- Admission (R277, R278, R467): a command that fails its checks completes at once and takes no lock; one that passes is
outstanding, its lock entered, and granted when nothing conflicts. It wakes a device below P0 (R297). -/
def Dev.admitOne (d : Dev) (t : Nat) (p : QueuePair) (e : Entry) (head : Nat) : Dev :=
  let st := d.checks p e
  let order := d.clasp.nextOrder
  let c : Cmd := { qid := p.qid, e, order, fence := getF d .CL_QFENCE_FENCE p.qid, sqHead := head, time := d.libNow t,
                   total := d.totalOf e, list := sgFirst e.sgl true e.dptr, xlist := sgFirst (e.opc == 0x25 && e.xptr != 0) false e.xptr }
  let d := d.modClasp fun k => { k with nextOrder := order + 1 }
  if st ≠ 0 then
    let d := if e.opc = 0x24 ∧ st = 0x1002 ∧ d.voidObj p.qid e.volume then d.voidTold p.qid e.volume else d
    let r := d.logCmd t c st 0 0
    r.2.post t p.qid e.tag st 0 head (some r.1)
  else
    let lk := d.lockOf p.qid order e
    let ok := match lk with | none => true | some l => d.grantable l
    let d := d.modClasp fun k => { k with
      cmds := k.cmds ++ [{ c with granted := ok }]
      locks := match lk with | none => k.locks | some l => k.locks ++ [{ l with held := ok }] }
    let d := if e.sgl then d.send (.readReq e.dptr 16) else d
    (d.wake 1).notIdle

/-- SQ_FETCH (R261, R262, R467): the pair whose turn it is gives the entry at its SQ head; with the lock table full the fetch
is delayed and counted. -/
def Dev.sqFetch (d : Dev) (t q : Nat) (bs : List Byte) : Dev :=
  match d.pair? q with
  | none => d
  | some p =>
    if d.turn = some q then
      if 4096 ≤ d.clasp.locks.length then incF d .CL_LOCK_STAT_STALLS 0
      else
        let head := (p.sqHead + 1) % p.depth
        let d := (d.modPair q fun x => { x with sqHead := head }).modClasp fun k =>
          { k with adminTurn := q == 0, lastIo := if q = 0 then k.lastIo else q }
        d.admitOne t p (Entry.parse bs) head
    else d

/-! ## Queue pairs (R259, R267, R268, R289) -/

/-- CL_ENABLE (R259): EN reads 1; with CL_AQ_SIZE 0 the protocol does not start; else the admin pair exists and RDY reads 1. -/
def Dev.clEnable (d : Dev) : Dev :=
  if getB d .CL_CTL_EN 0 then d
  else
    let d := setB d .CL_CTL_EN 0 true
    let n := getF d .CL_AQ_SIZE_SIZE 0
    if n = 0 then d
    else
      setF (d.modClasp fun k => { k with disabling := false, queues := ⟨0, getF d .CL_AQ_SQ_BASE_BASE 0 * 4096,
        getF d .CL_AQ_CQ_BASE_BASE 0 * 4096, n + 1, 0, false, 0, 0, 0, 0, 0, 0, true, false, [], 0, 0⟩ :: k.queues.filter (·.qid != 0) })
        .CL_STAT_RDY 0 1

/-- The admitted admin command of a tag with an opcode. -/
def Dev.admin? (d : Dev) (tag opc : Nat) : Option Cmd :=
  match d.cmd? 0 tag with
  | none => none
  | some c => if c.e.opc = opc then some c else none

/-- CREATE_QUEUE (R267): a QID in use gives 0x6006; else the pair exists, with fence value 0. -/
def Dev.createQueue (d : Dev) (t tag : Nat) : Dev :=
  match d.admin? tag 0x01 with
  | none => d
  | some c =>
    let a := c.e.arg
    let q := c.e.argQid
    if (d.pair? q).isSome then d.complete t c 0x6006 0
    else
      let p : QueuePair := ⟨q, c.e.dptr, c.e.xptr, bits a 53 42 + 1, bits a 41 31, bit a 30, bits a 29 22, bits a 21 14,
        0, 0, 0, 0, true, false, [], 0, 0⟩
      (resetF (d.modClasp fun k => { k with queues := k.queues ++ [p] }) .CL_QFENCE_FENCE q).complete t c 0 0

/-- The pair owns an open stream object (R273). -/
def Dev.ownsObj (d : Dev) (q : Nat) : Bool :=
  d.clasp.volumes.any fun v => v.obj.any fun o => o.owner == q

/-- Taking a pair away: its fence value and its status read 0 (R268). -/
def Dev.removePair (d : Dev) (q : Nat) : Dev :=
  resetF (d.modClasp fun k => { k with
    queues := k.queues.filter (·.qid != q)
    volumes := k.volumes.map fun v => { v with obj := v.obj.filter (·.owner != q), voided := v.voided.filter (· != q) } }) .CL_QFENCE_FENCE q

/-- DELETE_QUEUE (R268): 0x1002 for QID 0 or a pair that does not exist; 0x1008 with commands outstanding or an open object;
else the pair is deleted at once. -/
def Dev.deleteQueue (d : Dev) (t tag : Nat) : Dev :=
  match d.admin? tag 0x02 with
  | none => d
  | some c =>
    let q := c.e.argQid
    if q = 0 ∨ (d.pair? q).isNone then d.complete t c 0x1002 0
    else if d.outstanding q ≠ 0 ∨ d.ownsObj q then d.complete t c 0x1008 0
    else (d.removePair q).complete t c 0 0

/-- Closing a pair's open objects without a token (R274): the stored bytes stay, the tail's lock is released. -/
def Dev.closeObjs (d : Dev) (q : Nat) : Dev :=
  let mine (v : Volume) : Bool := v.obj.any fun o => o.owner == q
  let vols := (d.clasp.volumes.filter mine).map (·.id)
  d.modClasp fun k => { k with
    volumes := k.volumes.map fun v => if mine v then v.voidObj else v
    locks := k.locks.filter fun l => !(l.tag == objTag && l.qid == q && vols.contains l.volume) }

/-- QUEUE_RESTART (R268, R289): only of a frozen I/O pair; with DISCARD the head is first set to the tail and the pair's open
object closes. -/
def Dev.queueRestart (d : Dev) (t tag : Nat) : Dev :=
  match d.admin? tag 0x03 with
  | none => d
  | some c =>
    let q := c.e.argQid
    match d.pair? q with
    | none => d.complete t c 0x1002 0
    | some p =>
      if q = 0 ∨ !p.frozen then d.complete t c 0x1002 0
      else
        let d := if bit c.e.arg 0 then (d.modPair q fun x => { x with sqHead := x.sqTail }).closeObjs q else d
        (d.modPair q fun x => { x with frozen := false }).complete t c 0 0

/-- COALESCE_TIMEOUT (R267): COAL_TIME µs from the first entry not yet signalled, the interrupt for all of them. -/
def Dev.coalesce (d : Dev) (t q : Nat) : Dev :=
  match d.pair? q with
  | none => d
  | some p => if p.unsignalled = 0 ∨ tooSoon t p.since (1000 * p.coalTime) then d else (d.modPair q fun x => { x with unsignalled := 0 }).msix p.vector

/-- DOORBELL. -/
def execDoorbell (qid size : Nat) (upper : Bool) (value : Nat) (s : State) : Out :=
  run s fun d => d.doorbell s.dtime qid size upper value
/-- SQ_FETCH. -/
def execSqFetch (qid : Nat) (entry : List Byte) (s : State) : Out := run s fun d => d.sqFetch s.dtime qid entry
/-- LOCK_GRANT. -/
def execLockGrant (qid tag : Nat) (s : State) : Out := run s fun d => d.lockGrant qid tag
/-- CL_ENABLE. -/
def execClEnable (s : State) : Out := run s fun d => d.clEnable
/-- CREATE_QUEUE. -/
def execCreateQueue (tag : Nat) (s : State) : Out := run s fun d => d.createQueue s.dtime tag
/-- DELETE_QUEUE. -/
def execDeleteQueue (tag : Nat) (s : State) : Out := run s fun d => d.deleteQueue s.dtime tag
/-- QUEUE_RESTART. -/
def execQueueRestart (tag : Nat) (s : State) : Out := run s fun d => d.queueRestart s.dtime tag
/-- COALESCE_TIMEOUT. -/
def execCoalesceTimeout (qid : Nat) (s : State) : Out := run s fun d => d.coalesce s.dtime qid

end Sys2Proof.Machine
end

