-- ==== Sys2Proof/Machine/Coding.lean ====
section
/-! DEFINITION. How a sector is coded on the medium: framing (R43), codewords and interleave (R45), scrambler and modulation
(R46), header (R47, R48), the LDPC code and its decoder (R194, R195), and the arithmetic of parity members (R235, R236). -/

namespace Sys2Proof.Machine

/-! ## Scrambler and modulation (R46) -/

/-- `n` bits of the sequence s(k) = s(k − 31) XOR s(k − 28), newest 31 bits held newest first (log entry 13). -/
def lfsrRun : Nat → List Bool → List Bool → List Bool
  | 0, _, out => out.reverse
  | n + 1, h, out =>
    let b := h.getD 30 false != h.getD 27 false
    lfsrRun n (b :: h.take 30) (b :: out)

/-- The seed of a sector: 0b10101 in bits [30:26], the PSA in [25:0] (R46). -/
def scramSeed (psa : Nat) : Nat := 0x15 * 2 ^ 26 + psa % 2 ^ 26

/-- `n` bits of the scrambler sequence of a PSA: the register first, bit 30 leading, then the recurrence (log entry 13). -/
def scrambler (psa n : Nat) : List Bool :=
  let seed := bitsBE 31 (scramSeed psa)
  if n ≤ 31 then seed.take n else seed ++ lfsrRun (n - 31) seed.reverse []

/-- The 17 channel bits of a 16-bit word: w[15:8], the inserted bit NOT w[8], w[7:0] (R46). -/
def modWord (w : List Bool) : List Bool := w.take 8 ++ [!(w.getD 7 false)] ++ w.drop 8

/-- Modulating a stream of bits word by word. -/
def modulate (bs : List Bool) : List Bool := (chunks 16 bs).flatMap modWord

/-! ## LDPC code (R194) -/

/-- The three rows of information column j. -/
def infoRows (j : Nat) : Nat × Nat × Nat :=
  let a := j % 16
  (a, (a + 1 + j / 16) % 16, (a + 9 + (j / 16) % 7) % 16)

/-- The information circulants of block row r: block column and shift. -/
def infoCols (r : Nat) : List (Nat × Nat) :=
  (List.range 128).filterMap fun j =>
    let x := infoRows j
    if r = x.1 ∨ r = x.2.1 ∨ r = x.2.2 then some (j, (37 * (j + 1) + 91 * r) % 256) else none

/-- The parity circulants of block row r. -/
def parityCols (r : Nat) : List (Nat × Nat) := (if r = 0 then [] else [(127 + r, 0)]) ++ [(128 + r, 0)]

/-- The codeword bits of check t of block row r. -/
def checkBits (r t : Nat) : List Nat := (infoCols r ++ parityCols r).map fun x => 256 * x.1 + (t + x.2) % 256

/-- σ_r: the syndrome of block row r due to the information bits. -/
def sigma (info : Array Bool) (r : Nat) : List Bool :=
  let cols := infoCols r
  (List.range 256).map fun t => cols.foldl (fun a x => a != info.getD (256 * x.1 + (t + x.2) % 256) false) false

/-- The parity bits of information bits, by the staircase p_0 = σ_0, p_r = σ_r + p_(r−1). -/
def ldpcParity (info : List Bool) : List Bool :=
  let a := info.toArray
  ((List.range 16).foldl (fun (acc : List Bool × List Bool) r =>
    let p := List.zipWith (fun x y => x != y) (sigma a r) acc.1
    (p, acc.2 ++ p)) (List.replicate 256 false, [])).2

/-- The 36,864 bits of a codeword from its 4,096 information bytes. -/
def ldpcEncode (info : List Byte) : List Bool := bitsOfBytes info ++ ldpcParity (bitsOfBytes info)

/-- The 4,096 parity checks that fail for hard decisions. -/
def unsatisfied (bs : Array Bool) : Nat :=
  ((List.range 16).map fun r => ((List.range 256).filter fun t =>
    (checkBits r t).foldl (fun a m => a != bs.getD m false) false).length).sum

/-! ## The decoder (R195) -/

/-- Posterior values of the codeword bits and the check-to-bit messages, 26 places a check. -/
structure Ldpc where
  post : Array Int
  msg : Array Int

/-- A message: 3/4 of a minimum, truncated toward zero and saturated at 127, with its sign. -/
def scaledMsg (neg : Bool) (m : Int) : Int := (if neg then -1 else 1) * min 127 (m * 3 / 4)

/-- The smallest of the magnitudes of a list, the value at one place left out. -/
def minOthers : List Int → Nat → Int
  | [], _ => 1023
  | _ :: l, 0 => l.foldl (fun a x => min a x.natAbs) 1023
  | x :: l, k + 1 => min (x.natAbs : Int) (minOthers l k)

/-- One check node: every bit's message is taken out of its posterior, the new messages formed, and put back. -/
def ldpcCheck (s : Ldpc) (c : Nat) (ms : List Nat) : Ldpc :=
  let q := ms.zipIdx.map fun x => satSigned 10 (s.post.getD x.1 0 - s.msg.getD (26 * c + x.2) 0)
  let neg := q.foldl (fun a x => a != decide (x < 0)) false
  (ms.zip q).zipIdx.foldl (fun s x =>
    let m := scaledMsg (neg != decide (x.1.2 < 0)) (minOthers q x.2)
    { post := s.post.setIfInBounds x.1.1 (satSigned 10 (x.1.2 + m)), msg := s.msg.setIfInBounds (26 * c + x.2) m }) s

/-- One iteration: the 16 block rows in order (R195). -/
def ldpcIter (s : Ldpc) : Ldpc :=
  (List.range 16).foldl (fun s r => (List.range 256).foldl (fun s t => ldpcCheck s (256 * r + t) (checkBits r t)) s) s

/-- Hard decisions of the posteriors: a negative value is a 1. -/
def Ldpc.hard (s : Ldpc) : Array Bool := s.post.map fun x => decide (x < 0)

/-- The outcome of a decode: the information bytes if the codeword converged, the iterations run, the unsatisfied checks. -/
structure Decoded where
  info : Option (List Byte)
  iters : Nat
  bad : Nat

/-- The bytes of bits, each most significant first. -/
def bytesOfBits (bs : List Bool) : List Byte := (chunks 8 bs).map fun b => BitVec.ofNat 8 (ofBitsBE b)

/-- Iterating until every check holds or `fuel` iterations have run. -/
def ldpcRun : Nat → Nat → Ldpc → Decoded
  | 0, n, s => ⟨none, n, unsatisfied s.hard⟩
  | fuel + 1, n, s =>
    let s := ldpcIter s
    if unsatisfied s.hard = 0 then ⟨some (bytesOfBits (s.hard.toList.take 32768)), n + 1, 0⟩ else ldpcRun fuel (n + 1) s

/-- Decoding the 36,864 channel values of a codeword, at twice their scale, in at most `limit` iterations (R195). -/
def ldpcDecode (ch : List Int) (limit : Nat) : Decoded :=
  ldpcRun limit 0 ⟨(ch.map (2 * ·)).toArray, Array.replicate (26 * 4096) 0⟩

/-- Known zeros of the header codeword: the values of information bytes 64 to 4,095 are +31 (R189). -/
def headerKnown (ch : List Int) : List Int := ch.take 512 ++ List.replicate 32256 31 ++ ch.drop 32768

/-! ## The sector header (R47) -/

/-- The fields of a sector header. -/
structure Header where
  psa : Nat
  kind : Nat
  volume : Nat
  flags : Nat
  epoch : Nat
  logical : Nat
  time : Nat
  node : Nat
  chain : Nat
  member : Nat
  seq : Nat
  dataCrc : Nat
deriving DecidableEq, Repr

/-- FORMAT_ID. -/
def formatId : Nat := 0x4E440001

/-- Bytes 0 to 55 of a header. -/
def Header.front (h : Header) : List Byte :=
  bytesLE 4 formatId ++ bytesLE 4 (h.psa % 2 ^ 26) ++ bytesLE 1 h.kind ++ bytesLE 1 h.volume ++ bytesLE 2 h.flags
    ++ bytesLE 4 h.epoch ++ bytesLE 8 h.logical ++ bytesLE 8 h.time ++ bytesLE 2 (h.node % 1024) ++ bytesLE 1 h.chain
    ++ bytesLE 1 h.member ++ bytesLE 4 h.seq ++ bytesLE 8 h.dataCrc ++ zeros 8

/-- The 64 bytes of a header (R47, R48). -/
def Header.bytes (h : Header) : List Byte := h.front ++ bytesLE 8 (crc64 h.front)

/-- The fields of the 64 bytes. -/
def Header.parse (bs : List Byte) : Header :=
  ⟨leAt bs 4 4, leAt bs 8 1, leAt bs 9 1, leAt bs 10 2, leAt bs 12 4, leAt bs 16 8, leAt bs 24 8, leAt bs 32 2 % 1024,
   leAt bs 34 1, leAt bs 35 1, leAt bs 36 4, leAt bs 40 8⟩

/-- HDR_CRC is correct over bytes 0 to 55 (row 1 of R197). -/
def hdrCrcOk (bs : List Byte) : Bool := leAt bs 56 8 == crc64 (bs.take 56)

/-! ## A whole sector (R43, R45, R209) -/

/-- The bytes of a codeword. -/
def cwBytes (info : List Byte) : List Byte := bytesOfBits (ldpcEncode info)

/-- The interleaved block of the 16 user codewords: byte j is byte j div 16 of codeword j mod 16 (R45). -/
def interleave (cws : List (List Byte)) : List Byte :=
  (List.range 4608).flatMap fun k => cws.map fun cw => cw.getD k 0

/-- The 78,336 bytes of the coded body before scrambling. -/
def bodyBytes (h : Header) (data : List Byte) : List Byte :=
  cwBytes (h.bytes ++ zeros 4032) ++ interleave ((chunks 4096 data).map cwBytes)

/-- The 48-bit sync mark (R43). -/
def syncMark : List Bool := bitsBE 48 0xAFFFFF000005

/-- The preamble and pad pattern 0b1100, `n` times. -/
def pattern1100 (n : Nat) : List Bool := (List.replicate n [true, true, false, false]).flatten

/-- The coded body of a sector: 665,856 channel bits (R46). -/
def bodyBits (h : Header) (data : List Byte) : List Bool :=
  let bs := bitsOfBytes (bodyBytes h data)
  modulate (List.zipWith (fun a b => a != b) bs (scrambler h.psa bs.length))

/-- The 666,544 channel bits of a sector (R43). -/
def sectorBits (h : Header) (data : List Byte) : List Bool :=
  pattern1100 128 ++ syncMark ++ bodyBits h data ++ pattern1100 32

/-! ## The read side (R185) -/

/-- One 17-value channel word to 16 values: the negated inserted value is added to that of w[8], saturating at ±31. -/
def demodWord (v : List Int) : List Int :=
  v.take 7 ++ [clampInt (-31) 31 (v.getD 7 0 - v.getD 8 0)] ++ v.drop 9

/-- Demodulating and descrambling the values of the coded body of the sector expected at `psa`. -/
def demodBody (psa : Nat) (v : List Int) : List Int :=
  let d := (chunks 17 v).flatMap demodWord
  List.zipWith (fun x b => if b then -x else x) d (scrambler psa d.length)

/-- The channel values of a codeword, 0 the header, out of the demodulated body (R45, R185). -/
def wordValues (w : Nat) (body : List Int) : List Int :=
  if w = 0 then body.take 36864
  else
    let bytes := chunks 8 (body.drop 36864)
    (List.range 4608).flatMap fun k => bytes.getD (16 * k + (w - 1)) (List.replicate 8 0)

/-! ## Parity members (R235, R236) -/

/-- Doubling in GF(2⁸) with the polynomial 0x11D. -/
def gfDouble (a : Nat) : Nat := if 128 ≤ a % 256 then Nat.xor (2 * (a % 256)) 0x11D else 2 * (a % 256)

/-- g^i · a, g = 2. -/
def gfShift (i a : Nat) : Nat := iter gfDouble i (a % 256)

/-- The product in GF(2⁸). -/
def gfMul (a b : Nat) : Nat :=
  (List.range 8).foldl (fun acc k => if bit b k then Nat.xor acc (gfShift k a) else acc) 0

/-- The inverse: a^254. -/
def gfInv (a : Nat) : Nat := iter (fun x => gfMul x a) 253 (a % 256)

/-- XOR of byte lists, as long as the longer. -/
def xorBytes : List Byte → List Byte → List Byte
  | [], b => b
  | a, [] => a
  | x :: a, y :: b => (x ^^^ y) :: xorBytes a b

/-- A constant times every byte. -/
def scaleBytes (c : Nat) (a : List Byte) : List Byte := a.map fun x => BitVec.ofNat 8 (gfMul c x.toNat)

/-- P over the data members (R235). -/
def chainP (ds : List (Nat × List Byte)) : List Byte := ds.foldl (fun a x => xorBytes a x.2) []

/-- Q over the data members, with their indices (R235). -/
def chainQ (ds : List (Nat × List Byte)) : List Byte := ds.foldl (fun a x => xorBytes a (scaleBytes (gfShift x.1 1) x.2)) []

/-- The missing data members of a row from the members read (R236): `k` data members, `got` the bytes by member. Answers the
missing data members' bytes. -/
def rebuildData (k : Nat) (got : List (Nat × List Byte)) : List (Nat × List Byte) :=
  let ds := got.filter fun x => decide (x.1 < k)
  let p := (got.find? (·.1 == k)).map (·.2)
  let q := (got.find? (·.1 == k + 1)).map (·.2)
  let miss := (List.range k).filter fun j => !ds.any (·.1 == j)
  match miss, p, q with
  | [x], some p, _ => [(x, xorBytes p (chainP ds))]
  | [x], none, some q => [(x, scaleBytes (gfInv (gfShift x 1)) (xorBytes q (chainQ ds)))]
  | [x, y], some p, some q =>
    let p' := xorBytes p (chainP ds)
    let q' := xorBytes q (chainQ ds)
    let dx := scaleBytes (gfInv (Nat.xor (gfShift x 1) (gfShift y 1))) (xorBytes (scaleBytes (gfShift y 1) p') q')
    [(x, dx), (y, xorBytes p' dx)]
  | _, _, _ => []

/-- Every missing member of a row, P and Q recomputed from the data (R236). -/
def rebuildAll (k m : Nat) (got : List (Nat × List Byte)) : List (Nat × List Byte) :=
  let made := rebuildData k got
  let ds := (got.filter fun x => decide (x.1 < k)) ++ made
  made ++ (if got.any (·.1 == k) then [] else [(k, chainP ds)])
    ++ (if m = 2 ∧ !got.any (·.1 == k + 1) then [(k + 1, chainQ ds)] else [])

end Sys2Proof.Machine
end

