-- ==== Sys2Proof/Machine/Facet.lean ====
section
/-! DEFINITION. The Facet lanes (R178 to R192): conditioning, cross-track equalizer and its adaptation, defect spans, the
max-log MAP detector and the sync search. A lane works its sector through when the sector's last bits have been received
(log entry 14). -/

namespace Sys2Proof.Machine

/-! ## Arithmetic of the lanes -/

/-- Rounding of x / 2^n to nearest, ties to even (R178). -/
def roundEven (x : Int) (n : Nat) : Int :=
  let q := asr x n
  let r := x - q * (2 ^ n : Nat)
  if 2 * r > (2 ^ n : Nat) then q + 1
  else if 2 * r = (2 ^ n : Nat) ∧ q % 2 = 1 then q + 1 else q

/-- The conditioned sample of a sample s under GAIN (Q2.10), DC (1/8 LSB) and ASYM (Q1.9), in 1/16 LSB (R178). -/
def condition (gain : Nat) (dc asym s : Int) : Int :=
  let u := 8 * s - dc
  let a := if 0 ≤ u then 512 + asym else 512 - asym
  satSigned 12 (roundEven (u * a * (gain : Int)) 18)

/-- Channel bits of a sector (R43). -/
def sectorLen : Nat := 666544

/-! ## Defect spans (R187) -/

/-- The envelope: the peak-to-peak range of x over the 32 channel bits ending at k; fewer at the sector's start. -/
def envelope (xs : Array Int) (k : Nat) : Nat :=
  let w := (List.range 32).filterMap fun i => if i ≤ k then xs[k - i]? else none
  match w with
  | [] => 0
  | a :: l => (l.foldl max a - l.foldl min a).toNat

/-- The state of the span search of a lane: the envelopes of the sector with their bits, newest first, and those carried from before;
runs below and above, an open defect, and the defects found. -/
structure SpanSt where
  hist : List (Nat × Nat) := []
  envs : List Nat
  low : Nat := 0
  high : Nat := 0
  open_ : Option Nat := none
  found : List (Nat × Nat) := []

/-- E < R × th / 16, R the mean of the window. -/
def belowRef (e th : Nat) (envs : List Nat) : Bool := decide (16 * e * envs.length < envs.sum * th)

/-- The own span of a defect (R187). -/
def ownSpan (guard : Nat) (x : Nat × Nat) : Int × Int := ((x.1 : Int) - guard, (x.2 : Int) + guard)

/-- The spans of spot d: its own, and every other spot's widened by SHADOW for each track between (R188). -/
def spansOf (shadow : Nat) (own : List (List (Int × Int))) (d : Nat) : List (Int × Int) :=
  own.zipIdx.flatMap fun x =>
    let w : Nat := shadow * (if x.2 ≤ d then d - x.2 else x.2 - d)
    x.1.map fun s => (s.1 - w, s.2 + w)

/-- Bit k lies in a span. -/
def inSpans (l : List (Int × Int)) (k : Nat) : Bool := l.any fun s => decide (s.1 ≤ k) && decide ((k : Int) ≤ s.2)

/-- DROP_TH, REC_TH, ENTER_N, EXIT_N, GUARD and SHADOW of a lane's sector. -/
structure SpanCfg where
  drop : Nat
  rec_ : Nat
  enter : Nat
  exit_ : Nat
  guard : Nat
  shadow : Nat

/-- The own spans of a lane as known at bit k, an open defect reaching to it. -/
def SpanSt.own (s : SpanSt) (guard k : Nat) : List (Int × Int) :=
  (s.found ++ (match s.open_ with | some a => [(a, k)] | none => [])).map (ownSpan guard)

/-- The window of R at a bit: the last 4,096 envelopes outside the spans known (R187). -/
def SpanSt.window (s : SpanSt) (spans : List (Int × Int)) : List Nat :=
  (((s.hist.filter fun x => !inSpans spans x.1).map (·.2)) ++ s.envs).take 4096

/-- One channel bit of the span search of a lane, with the spans of its spot known so far. -/
def spanStep (c : SpanCfg) (xs : Array Int) (spans : List (Int × Int)) (s : SpanSt) (k : Nat) : SpanSt :=
  let e := envelope xs k
  let ref := s.window spans
  let s := { s with hist := (k, e) :: s.hist }
  match s.open_ with
  | none =>
    let low := if belowRef e c.drop ref then s.low + 1 else 0
    if c.enter ≤ low then { s with low := 0, high := 0, open_ := some (k + 1 - low) } else { s with low }
  | some a =>
    let high := if belowRef e c.rec_ ref then 0 else s.high + 1
    if 4 * c.exit_ ≤ high then { s with high := 0, open_ := none, found := s.found ++ [(a, k - high)] }
    else { s with high }

/-- The spans of a spot that the four lanes know at bit k. -/
def spansAt (cs : List SpanCfg) (l : List SpanSt) (d k : Nat) : List (Int × Int) :=
  spansOf ((cs.map (·.shadow)).getD d 0) (List.zipWith (fun (c : SpanCfg) (s : SpanSt) => s.own c.guard k) cs l) d

/-- The span search of the four lanes over their sectors, bit by bit together, since the spans of each keep bits from the reference of the
others; a defect still open closes at the sector's last bit (R187, R188). -/
def defects (cs : List SpanCfg) (xs : List (Array Int)) (envs : List (List Nat)) : List SpanSt :=
  let step (l : List SpanSt) (k : Nat) : List SpanSt :=
    (List.range 4).filterMap fun d =>
      match cs[d]?, xs[d]?, l[d]? with
      | some c, some x, some s => some (spanStep c x (spansAt cs l d k) s k)
      | _, _, _ => none
  ((List.range sectorLen).foldl step (envs.map fun e => { envs := e })).map fun s =>
    match s.open_ with
    | none => s
    | some a => { s with open_ := none, found := s.found ++ [(a, sectorLen - 1)] }

/-! ## Equalizer (R180 to R182) -/

/-- What the equalizer of a lane needs: its own and its neighbours' samples and link erasures, its spans. -/
structure EqIn where
  own : Array (Int × Bool)
  lower : Option (Array (Int × Bool))
  upper : Option (Array (Int × Bool))
  spans : List (Int × Int)
  xt : Bool
  adapt : Bool
  mu : Nat
  target : List Int
  /-- The bits known as reference: the preamble, and at E3 and E4 the known bits (R181, R200). -/
  known : Nat → Option Bool

/-- A sample at k − i; outside the samples held it is 0 (log entry 14). -/
def sampleAt (a : Array (Int × Bool)) (k : Nat) (i : Int) : Int × Bool :=
  if (k : Int) - i < 0 then (0, false) else a.getD ((k : Int) - i).toNat (0, false)

/-- The 35 samples under the taps of bit k, in the order of FC_TAPS (R208). -/
def window (e : EqIn) (k : Nat) : List (Int × Bool) :=
  let side (a : Option (Array (Int × Bool))) : List (Int × Bool) := (List.range 9).map fun (m : Nat) =>
    match a with
    | none => (0, false)
    | some a =>
      let x := sampleAt a k ((m : Int) - 4)
      (if e.xt then x.1 else 0, x.2)
  ((List.range 17).map fun (m : Nat) => sampleAt e.own k ((m : Int) - 8)) ++ side e.lower ++ side e.upper

/-- The equalizer running: taps, lane values, outputs newest first with their erasures. -/
structure EqSt where
  taps : List Int
  cond : Cond
  ys : List (Int × Bool) := []

/-- The ideal equalized value for the bits b(k), b(k−1), … (R183). -/
def targetVal (g : List Int) (bs : List Bool) : Int :=
  16 * ((g.zip bs).map fun x => if x.2 then x.1 else -x.1).sum

/-- The LMS step of a bit with error e over its window (R181; log entry 14). -/
def lmsStep (mu : Nat) (e : Int) (w : List (Int × Bool)) (taps : List Int) : List Int :=
  List.zipWith (fun c x => satSigned 16 (c + roundEven (e * x.1) mu)) taps w

/-- Following a quantity with a time constant of 4,096 channel bits, in 1/4,096 (R179). -/
def follow (v q : Int) : Int := v + roundEven (4096 * q - v) 12

/-- The step of GAIN, DC and ASYM at a bit whose output y is not erased, with target t and decided bit b (R179). -/
def Cond.step (c : Cond) (g : List Int) (y t : Int) (b : Bool) : Cond :=
  let full : Int := 16 * (g.map fun x => (x.natAbs : Int)).sum
  let e := t - y
  let mark := if b then follow c.mark e else c.mark
  let space := if b then c.space else follow c.space e
  let mag := if t.natAbs = full.natAbs then follow c.mag y.natAbs else c.mag
  { mark, space, mag
    dc := follow c.dc (Config.laneTarget 0 c.dc e 0)
    asym := follow c.asym (Config.laneTarget 1 c.asym mark space)
    gain := follow c.gain (Config.laneTarget 2 c.gain full mag) }

/-- The reference bit for position j once `n` outputs have come: known, or the tentative decision from the outputs up to 24 past it
(R181). -/
def refBit (e : EqIn) (ys : List (Int × Bool)) (n j : Nat) : Bool :=
  match e.known j with
  | some b => b
  | none => Config.tentative ((ys.drop (n - 1 - min (n - 1) (j + 24))).map (·.1))

/-- The taps adapt at bit k: outside bits 0 to 15 and 496 to 559 (R181). -/
def adaptsAt (k : Nat) : Bool := (decide (16 ≤ k) && decide (k ≤ 495)) || decide (560 ≤ k)

/-- Bit k is adapted to as it passes: the bits of its target are all known. Every other waits for its tentative decision, 24 bits later
(R181). -/
def adaptsNow (e : EqIn) (k : Nat) : Bool := (List.range 5).all fun i => decide (k < i) || (e.known (k - i)).isSome

/-- The adaptation at bit k, with `n` outputs (R179, R181). -/
def adaptBit (e : EqIn) (n : Nat) (s : EqSt) (k : Nat) : EqSt :=
  match s.ys[n - 1 - k]? with
  | some (y, false) =>
    let bs := (List.range 5).map fun i => if i ≤ k then refBit e s.ys n (k - i) else false
    let t := targetVal e.target bs
    { s with
      cond := s.cond.step e.target y t (bs.headD false)
      taps := if adaptsAt k then lmsStep e.mu (t - y) (window e k) s.taps else s.taps }
  | _ => s

/-- One step of the equalizer: the output of bit k while the sector lasts, then the adaptations due (R180 to R182). -/
def eqStep (e : EqIn) (s : EqSt) (k : Nat) : EqSt :=
  let s :=
    if k < sectorLen then
      let w := window e k
      let y := satSigned 12 (roundEven ((List.zipWith (fun c x => c * x.1) s.taps w).sum) 14)
      { s with ys := (y, w.any (·.2) || inSpans e.spans k) :: s.ys }
    else s
  if !e.adapt then s
  else
    let n := min sectorLen (k + 1)
    let s := if 24 ≤ k ∧ !adaptsNow e (k - 24) then adaptBit e n s (k - 24) else s
    if k < sectorLen ∧ adaptsNow e k then adaptBit e n s k else s

/-- The equalizer over a sector, to the last tentative decision. -/
def equalize (e : EqIn) (taps : List Int) (cond : Cond) : EqSt := (List.range (sectorLen + 24)).foldl (eqStep e) { taps, cond }

/-! ## Detector (R184) -/

/-- A cost that no path of allowed bits reaches. -/
def bigCost : Int := 2 ^ 50

/-- The cost of bit b at an output from state s, whose bit 0 is b(k−1). -/
def branchCost (g : List Int) (y : Int × Bool) (allowed : Option Bool) (s : Nat) (b : Bool) : Int :=
  if allowed = some !b then bigCost
  else if y.2 then 0
  else
    let t := targetVal g [b, bit s 0, bit s 1, bit s 2, bit s 3]
    (y.1 - t) * (y.1 - t)

/-- The forward costs of the 16 states after an output: state 2s + b comes from s and from s + 8. -/
def mapFwd (g : List Int) (y : Int × Bool) (al : Option Bool) (a : List Int) : List Int :=
  (List.range 16).map fun n =>
    let b := n % 2 == 1
    min (a.getD (n / 2) 0 + branchCost g y al (n / 2) b) (a.getD (n / 2 + 8) 0 + branchCost g y al (n / 2 + 8) b)

/-- The backward costs of the 16 states before an output. -/
def mapBwd (g : List Int) (y : Int × Bool) (al : Option Bool) (a : List Int) : List Int :=
  (List.range 16).map fun s =>
    min (a.getD (2 * s % 16) 0 + branchCost g y al s false) (a.getD ((2 * s + 1) % 16) 0 + branchCost g y al s true)

/-- The least cost of paths with bit b at an output. -/
def bitCost (g : List Int) (y : Int × Bool) (al : Option Bool) (f bk : List Int) (b : Bool) : Int :=
  (List.range 16).foldl (fun m s => min m (f.getD s 0 + branchCost g y al s b + bk.getD ((2 * s + b2n b) % 16) 0)) bigCost

/-- The detector values of a block: 64 outputs of warm-up, `n` of the block, 64 of warm-up; `noise` is the lane's noise
estimate, a free value (log entry 14). -/
def mapBlock (g : List Int) (noise : Nat) (warm blk tail : List ((Int × Bool) × Option Bool)) : List Int :=
  let f0 := warm.foldl (fun a x => mapFwd g x.1 x.2 a) (List.replicate 16 0)
  let b0 := tail.foldr (fun x a => mapBwd g x.1 x.2 a) (List.replicate 16 0)
  let fs := blk.foldl (fun (acc : List (List Int)) x => mapFwd g x.1 x.2 (acc.headD f0) :: acc) [f0]
  let bs := blk.foldr (fun x (acc : List (List Int)) => mapBwd g x.1 x.2 (acc.headD b0) :: acc) [b0]
  (blk.zip (fs.reverse.zip (bs.drop 1))).map fun x =>
    if x.1.1.2 then 0
    else clampInt (-31) 31 (Int.tdiv (bitCost g x.1.1 x.1.2 x.2.1 x.2.2 true - bitCost g x.1.1 x.1.2 x.2.1 x.2.2 false)
      ((noise + 1 : Nat) : Int))

/-- The detector values of a sector, in blocks of 256 (R184). -/
def mapDetect (g : List Int) (noise : Nat) (ys : List ((Int × Bool) × Option Bool)) : List Int :=
  (List.range ((ys.length + 255) / 256)).flatMap fun k =>
    mapBlock g noise ((ys.drop (256 * k - 64)).take (256 * k - (256 * k - 64))) ((ys.drop (256 * k)).take 256)
      ((ys.drop (256 * k + 256)).take 64)

/-! ## Sync search (R191) -/

/-- Matching bits of the mark at a position; erased bits, of spans or of the link, do not match. -/
def syncMatches (ls : Array Int) (erased : Array Bool) (p : Nat) : Nat :=
  (syncMark.zipIdx.filter fun x => (decide (ls.getD (p + x.2) 0 < 0) == x.1) && !erased.getD (p + x.2) true).length

/-- The better of two candidates: more matches, then nearer P, then earlier. -/
def betterSync (P : Nat) (a b : Nat × Nat) : Nat × Nat :=
  let dist (x : Nat) := if x ≤ P then P - x else x - P
  if a.2 < b.2 ∨ (a.2 = b.2 ∧ dist b.1 < dist a.1) then b else a

/-- The position F, if any candidate lies in the window (R191). -/
def syncSearch (win err : Nat) (ls : Array Int) (erased : Array Bool) : Option Nat :=
  let P := 512
  let cs := ((List.range (2 * win + 1)).map fun i => (P - win + i, syncMatches ls erased (P - win + i))).filter
    fun x => decide (48 - err ≤ x.2)
  match cs with
  | [] => none
  | a :: l => some (l.foldl (betterSync P) a).1

/-! ## The lanes of a head -/

/-- The field of an own or neighbour tap: halfword n of FC_TAPS (R208). -/
def tapF (n : Nat) : Fld := if n % 2 = 0 then .FC_TAPS_LO else .FC_TAPS_HI
/-- The same of HM_TAPS. -/
def hmTapF (n : Nat) : Fld := if n % 2 = 0 then .HM_TAPS_LO else .HM_TAPS_HI
/-- The 35 taps of a lane. -/
def Dev.taps (d : Dev) (lane : Nat) : List Int := (List.range 35).map fun n => getI d (tapF n) (18 * lane + n / 2)
/-- Setting them. -/
def Dev.setTaps (d : Dev) (lane : Nat) (c : List Int) : Dev :=
  (List.range 35).foldl (fun d n => setI d (tapF n) (18 * lane + n / 2) (c.getD n 0)) d
/-- The initial tap set of a head, layer and spot (R181, R362). -/
def Dev.initTaps (d : Dev) (h : HeadId) (layer : Nat) (s : SpotId) : List Int :=
  (List.range 35).map fun n => getI d (hmTapF n) (((h * 16 + layer) * 4 + s) * 18 + n / 2)

/-- The target of a head: g_0 to g_4, those beyond TLEN 0 (R183). -/
def Dev.target (d : Dev) (h : HeadId) : List Int :=
  let n := getF d .FC_TARGET_TLEN h + 3
  ([getI d .FC_TARGET_G0 h, getI d .FC_TARGET_G1 h, getI d .FC_TARGET_G2 h, getI d .FC_TARGET_G3 h,
    getI d .FC_TARGET_G4 h].zipIdx).map fun x => if x.2 < n then x.1 else 0

/-- A lane changed. -/
def Dev.modLane (d : Dev) (h : HeadId) (s : SpotId) (f : Lane → Lane) : Dev :=
  d.modFacet h fun x => { x with lanes := x.lanes.set s (f x.lanes[s]) }

/-- The reload of a lane from the calibration values (R179, R181). -/
def Dev.reloadLane (d : Dev) (h : HeadId) (layer : Nat) (s : SpotId) : Dev :=
  let l := laneOf h s
  let d := (setF (setF (setF d .FC_LANE_GAIN l (getF d .HM_LANE_INIT_GAIN l)) .FC_LANE_DC l (getF d .HM_LANE_INIT_DC l))
    .FC_LANE_ASYM l (getF d .HM_LANE_INIT_ASYM l)).setTaps l (d.initTaps h layer s)
  d.modLane h s fun x => { x with cond :=
    { gain := 4096 * (getF d .FC_LANE_GAIN l : Int), dc := 4096 * getI d .FC_LANE_DC l, asym := 4096 * getI d .FC_LANE_ASYM l } }

/-- The stripe start of a head (R190): the lanes that are due reload, and begin the sector; the samples after the start in
its interval follow. Where the stripe is not known its sectors are no one's. -/
def Dev.facetStart (d : Dev) (h : HeadId) (total layer stripe : Nat) (blind : Bool := false) : Dev :=
  let d := d.forEach allSpots fun d s =>
    let due := (d.head h).facet.lanes[s].reload
    (if due then d.reloadLane h layer s else d).modLane h s fun l => { l with xs := [], reload := false, overflowRaised := false }
  d.modFacet h fun f => { f with start := some total, inSector := true, layer, stripe, blind }

/-- Samples of a spot with their link erasures, in their order (R178), under the GAIN, DC and ASYM of the lane. -/
def Dev.facetSamples (d : Dev) (h : HeadId) (s : SpotId) (ss : List (Int × Bool)) : Dev :=
  let l := laneOf h s
  let g := getF d .FC_LANE_GAIN l
  let dc := getI d .FC_LANE_DC l
  let asym := getI d .FC_LANE_ASYM l
  let xs := ss.map fun x => if x.2 then (0, true) else (condition g dc asym x.1, false)
  d.modLane h s fun f => { f with xs := xs.reverse ++ f.xs }

/-- The known bits of a read (R200): the converged codewords coded again, by channel bit of the coded body. -/
def knownBits (psa : Nat) (words : List (Option (List Byte))) : Array (Option Bool) :=
  let cw (w : Nat) : List (Option Bool) :=
    match words.getD w none with
    | none => List.replicate 36864 none
    | some b => (ldpcEncode b).map some
  let users := (List.range 16).map fun w => chunks 8 (cw (w + 1))
  let body := cw 0 ++ (List.range 4608).flatMap fun k => users.flatMap fun u => u.getD k (List.replicate 8 none)
  let scr := List.zipWith (fun (x : Option Bool) b => x.map (· != b)) body (scrambler psa body.length)
  ((chunks 16 scr).flatMap fun w => w.take 8 ++ [(w.getD 7 none).map (!·)] ++ w.drop 8).toArray

/-- A read of the medium is wanted of a head: a first read of either head of the surface, a re-read of the job's own. -/
def ReadJob.wantedAt (r : ReadJob) (h : HeadId) : Bool :=
  r.surf == surfOf h && r.wantRead && !r.realloc && (decide (r.step ≤ 1) || r.head == h)

/-- The sector is read when it next passes the head (R205, R249): within REBUILD_SHARE where it brings a member back; re-reads go before all other reads, and one revolution serves those of the same
band at the same step. -/
def Dev.readsNow (d : Dev) (h : HeadId) (r : ReadJob) : Bool :=
  r.wantedAt h && (!r.resync || (d.head h).motion.shareTurn) &&
    match d.firstReread h with
    | none => true
    | some f => r.step == f.step && r.point == f.point
        && stripeBand (psaLayer r.psa) (psaStripe r.psa) == stripeBand (psaLayer f.psa) (psaStripe f.psa)

/-- The read job that a lane's sector is wanted for. -/
def Dev.laneJob (d : Dev) (h : HeadId) (psa : Nat) : Option ReadJob :=
  d.data.reads.find? fun r => d.readsNow h r && r.psa == psa

/-- Where the coded body of a read begins under its framing (R192). -/
def ReadJob.bodyAt (r : ReadJob) : Nat := r.frame.getD 512 + 48

/-- The known reference bits of a lane: the preamble, and at E3 and E4 those of R200, under the framing of the read. -/
def refKnown (job : Option ReadJob) : Nat → Option Bool := fun k =>
  if k < 512 then some (k % 4 < 2)
  else
    match job with
    | some r =>
      if r.step = 3 ∨ r.step = 4 then
        (if r.bodyAt ≤ k then (knownBits r.psa r.words).getD (k - r.bodyAt) none else none) else none
    | none => none

/-- A re-read at E3 or E4, of the device's known bits (R199). -/
def ReadJob.retrains (r : ReadJob) : Bool := r.step == 3 || r.step == 4

/-- The defect parameters of a lane: from E2 on, the widened ones for the sector that is re-read (R199). -/
def Dev.spanCfg (d : Dev) (h : HeadId) (job : Option ReadJob) : SpanCfg :=
  let wide := job.any fun r => decide (2 ≤ r.step)
  { drop := if wide then getF d .FC_E2_CFG_E2_DROP_TH h else getF d .FC_DEFECT_CFG_DROP_TH h
    rec_ := getF d .FC_DEFECT_CFG_REC_TH h, enter := getF d .FC_DEFECT_CFG_ENTER_N h, exit_ := getF d .FC_DEFECT_CFG_EXIT_N h
    guard := if wide then getF d .FC_E2_CFG_E2_GUARD h else getF d .FC_DEFECT_CFG_GUARD h
    shadow := if wide then getF d .FC_E2_CFG_E2_SHADOW h else getF d .FC_DEFECT_CFG_SHADOW h }

/-- GAIN, DC and ASYM as they have adapted over the sector (R179). -/
def Dev.setCond (d : Dev) (h : HeadId) (s : SpotId) (c : Cond) : Dev :=
  let l := laneOf h s
  (setF (setI (setI d .FC_LANE_DC l (satSigned 10 (roundEven c.dc 12))) .FC_LANE_ASYM l (satSigned 10 (roundEven c.asym 12)))
    .FC_LANE_GAIN l (clampInt 0 4095 (roundEven c.gain 12)).toNat).modLane h s fun x => { x with cond := c }

/-- The end of a stripe's sectors at a head (R180 to R192): spans, equalization, detection and sync search of the four lanes;
the counts of FC_STAT, the flags of R192 for sectors that are read or verified; the results kept with the lanes. -/
def Dev.facetEnd (d : Dev) (h : HeadId) : Dev :=
  let f := (d.head h).facet
  let job (s : SpotId) := if f.blind then none else d.laneJob h (psaOf f.layer f.stripe s)
  let xs (s : SpotId) : Array (Int × Bool) := f.lanes[s].xs.reverse.toArray
  let cfgs := allSpots.map fun s => d.spanCfg h (job s)
  let found := defects cfgs (allSpots.map fun s => (xs s).map (·.1)) (allSpots.map fun s => f.lanes[s].envs)
  let own := List.zipWith (fun (c : SpanCfg) (x : SpanSt) => x.found.map (ownSpan c.guard)) cfgs found
  let d := d.forEach allSpots fun d s =>
    let span := found.getD s { envs := [] }
    let sp := spansOf (d.spanCfg h (job s)).shadow own s
    let j := job s
    let e3 := j.any ReadJob.retrains
    let e : EqIn := {
      own := xs s
      lower := if s.val = 0 then none else some (xs (s - 1))
      upper := if s.val = 3 then none else some (xs (s + 1))
      spans := sp, xt := getB d .FC_EQ_CFG_XT_EN h, adapt := getB d .FC_EQ_CFG_ADAPT_EN h
      mu := if e3 then getF d .FC_EQ_CFG_MU_E3 h else getF d .FC_EQ_CFG_MU_SHIFT h
      target := d.target h, known := refKnown j }
    let taps := if e3 then d.initTaps h f.layer s else d.taps (laneOf h s)
    let q := equalize e taps f.lanes[s].cond
    let ys := q.ys.reverse
    let r := d.drawNat
    let body := (j.map ReadJob.bodyAt).getD 560
    let ls := mapDetect e.target r.1 (ys.zipIdx.map fun x =>
      (x.1, if e3 && decide (body ≤ x.2) then refKnown j x.2 else none))
    let found := syncSearch (getF d .FC_SYNC_CFG_SYNC_WIN h) (getF d .FC_SYNC_CFG_SYNC_ERR h) ls.toArray (ys.map (·.2)).toArray
    let envs := span.window sp
    let xa := (xs s).map (·.1)
    let low := (List.range 512 ++ (List.range 4096).map (560 + ·)).all fun k =>
      decide (4 * envelope xa k * envs.length < envs.sum)
    let d := (r.2.setTaps (laneOf h s) q.taps).setCond h s q.cond
    let read := j.isSome || d.data.writes.any fun w =>
      w.state == .complete && w.surf == surfOf h && w.target == psaOf f.layer f.stripe s && !f.blind
    let d := if !read then d else match found with
      | none => incF d .FC_STAT_SYNC_MISS (laneOf h s)
      | some F => if 2 < (if F ≤ 512 then 512 - F else F - 512) then incF d .FC_STAT_SYNC_DISPLACED (laneOf h s) else d
    let n := span.found.length
    let d := incF (incF d .FC_STAT_OWN_SPANS (laneOf h s) n) .FC_STAT_SHADOW_SPANS (laneOf h s)
      ((own.map List.length).sum - n)
    d.modLane h s fun l => { l with
      envs, ls, found, low, longest := ((own.getD s []).map fun x => (x.2 - x.1 + 1).toNat).foldl max 0, xs := [] }
  let read (w : WriteJob) : WriteJob := if w.pass = some h then { w with pass := none, readBack := some h } else w
  let d := d.modData fun x => { x with writes := x.writes.map read }
  d.modFacet h fun f => { f with past := if f.blind then none else some (f.layer, f.stripe), inSector := false }

/-- The lane values reload at the next sector: after a layer change, on entering FOLLOW, after a return to P0 (R179). -/
def Dev.facetReload (d : Dev) (h : HeadId) : Dev :=
  d.modFacet h fun f => { f with lanes := f.lanes.map fun l => { l with reload := true } }

/-- The lanes lose the sector under them: the head has left FOLLOW or its link (R204). -/
def Dev.facetVoid (d : Dev) (h : HeadId) : Dev :=
  let void (w : WriteJob) : WriteJob := if w.pass = some h then { w with pass := none } else w
  let d := d.modData fun x => { x with writes := x.writes.map void }
  d.modFacet h fun f => { f with start := none, inSector := false, waiting := none, lanes := f.lanes.map fun l => { l with xs := [] } }

end Sys2Proof.Machine
end

