-- ==== Sys2Proof/Machine/CalRuns.lean ====
section
/-! DEFINITION. What starts a calibration run of a head and how runs fold (R343, R344), and the lane snapshot of R342. -/

namespace Sys2Proof.Machine

/-- Both Hallmark cores have failed (R400). -/
def Dev.hallmarkDead (d : Dev) : Bool := getF d .KP_CORES_HALLMARK 0 == 3

/-- The kinds of a full calibration, in their order (R342). -/
def fullCal : List CalKind := [.converter, .laser, .trial, .scale, .focus, .link]

/-- The layers of a head's surface that hold a format record or written data (R343). -/
def Dev.usedLayers (d : Dev) (h : HeadId) : List Nat :=
  let s := d.surf (surfOf h)
  (List.range 16).filter fun l => (l == 0 && s.generation != 0) || s.written.any fun p => p / 2 ^ 22 == l

/-- Beginning a calibration: its trials cover the layers given, its focus margin scans every written layer. -/
def Dev.beginCal (d : Dev) (h : HeadId) (kinds : List CalKind) (full : Bool) : Dev :=
  let used := d.usedLayers h
  let d := d.modCal h fun x => { x with
    kinds, isFull := full
    trialTodo := if kinds.contains .trial then (if full then used else x.wroteLayers) else []
    focusTodo := if kinds.contains .focus then used.flatMap fun l => [(l, false), (l, true)] else []
    wroteLayers := if kinds.contains .trial then [] else x.wroteLayers }
  setF d .HM_STAT_RUNNING h (b2n !kinds.isEmpty)

/-- A trigger (R344): it starts a run, folds into the running one when that has not begun the kinds asked for, or is queued. -/
def Dev.startCal (d : Dev) (h : HeadId) (kinds : List CalKind) (full : Bool) : Dev :=
  let x := (d.head h).hallmark
  if d.hallmarkDead then d
  else if x.kinds.isEmpty then d.beginCal h kinds full
  else if kinds.all fun k => (x.kinds.drop 1).contains k then d.modCal h fun x => { x with isFull := x.isFull || full }
  else d.modCal h fun x => { x with
    queued := fullCal.filter fun k => x.queued.contains k || kinds.contains k, queuedFull := x.queuedFull || full }

/-- A surface has been mounted: its two heads calibrate (R343). -/
def Dev.mountCal (d : Dev) (s : SurfId) : Dev := (surfHeads s).foldl (fun d h => d.startCal h fullCal true) d

/-- The lane snapshot (R342): after a sector that completed at E0 in at most 3 iterations, Hallmark takes the lane's DC, ASYM and GAIN,
and the head's taps, of all four spots, for the layer read. -/
def Dev.laneSnapshot (d : Dev) (h : HeadId) (layer : Nat) (s : SpotId) : Dev :=
  if d.hallmarkDead || getB d .HM_CTL_HOLD h then d
  else
    let l := laneOf h s
    let d := setHm (setHm (setHm d .HM_LANE_INIT_GAIN l (getF d .FC_LANE_GAIN l)) .HM_LANE_INIT_DC l (getF d .FC_LANE_DC l))
      .HM_LANE_INIT_ASYM l (getF d .FC_LANE_ASYM l)
    allSpots.foldl (fun d (k : SpotId) => (List.range 35).foldl (fun d n =>
      setHm d (hmTapF n) (((h * 16 + layer) * 4 + k) * 18 + n / 2) (getF d (tapF n) (18 * laneOf h k + n / 2))) d) d

end Sys2Proof.Machine
end

