-- ==== Sys2Proof/Machine/Ageing.lean ====
section
/-! DEFINITION. The ageing accounts and remaining life (R359 to R361). -/

namespace Sys2Proof.Machine

/-- M-ticks in a day, and in the 30 days of a sample. -/
def dayM : Nat := 34560000
/-- See `dayM`. -/
def monthM : Nat := 30 * dayM

/-- The accounts of a unit. -/
def Dev.accountsOf (d : Dev) (u : LifeUnit) : Accounts :=
  match u with
  | .head h => (d.head h).hallmark.accounts
  | .spindle s => (d.spin s).accounts
  | .device => d.accounts

/-- The device with the accounts of a unit changed. -/
def Dev.modAccounts (d : Dev) (u : LifeUnit) (f : Accounts → Accounts) : Dev :=
  match u with
  | .head h => d.modCal h fun x => { x with accounts := f x.accounts }
  | .spindle s => d.modSpin s fun x => { x with accounts := f x.accounts }
  | .device => { d with accounts := f d.accounts }

/-- The number of limit codes of a unit (R359). -/
def lifeCodes (u : LifeUnit) : Nat := match u with | .head _ => 4 | .spindle _ => 5 | .device => 3

/-- A sub-ADC out of service is good: it is a good spare. -/
def Dev.goodSpare (d : Dev) (h : HeadId) : Bool :=
  let used := ([.HM_ADC_SEL_D3O, .HM_ADC_SEL_D3E, .HM_ADC_SEL_D2O, .HM_ADC_SEL_D2E, .HM_ADC_SEL_D1O, .HM_ADC_SEL_D1E,
    .HM_ADC_SEL_D0O, .HM_ADC_SEL_D0E] : List Fld).map fun f => getF d f h
  (List.range 10).any fun i => !used.contains i && !getB d .HM_ADC_TRIM_BAD (h.val * 10 + i)

/-- The limit of a metric, and whether the metric falls toward it (R359). Units: HEADROOM in 0.01 %, trims and currents in percent,
eyes in 1/64 UI, mean iterations in 0.01, KE drift in 0.1 %, counts as such. `none`: the metric has no limit at present. -/
def Dev.lifeLimit (d : Dev) (u : LifeUnit) (code : Nat) : Option (Int × Bool) :=
  match u, code with
  | .head _, 1 => some (100 * (getF d .HM_CFG_HR_MIN 0 : Nat), true)
  | .head h, 2 => if d.goodSpare h then none else some (100, false)
  | .head _, 3 => some (16, true)
  | .head _, 4 => some (80 * (getF d .LD_POOL_E0_ITER 0 : Nat), false)
  | .spindle _, 1 => some (150 + 25 * (getF d .HM_CFG_FRICTION_MAX 0 : Nat), false)
  | .spindle _, 2 => some (100, false)
  | .spindle _, 3 => some (3984, false)
  | .spindle _, 4 => some (124160, false)
  | .spindle _, 5 => some (16, true)
  | .device, 1 => some (90000000, false)
  | .device, 2 => some (64, false)
  | .device, 3 => some (8, false)
  | _, _ => none

/-- The days until the least-squares line of samples (M-tick, value), newest first, reaches the limit (R360): 0 at or past it,
`none` with fewer than 3 samples or a line that does not move toward it. -/
def lifeDays (now : Nat) (l : List (Nat × Int)) (limit : Int) (falls : Bool) : Option Nat :=
  let s : Int := if falls then -1 else 1
  match l with
  | [] => none
  | x :: _ =>
    if s * limit ≤ s * x.2 then some 0
    else if l.length < 3 then none
    else
      let n : Int := l.length
      let st := (l.map fun p => (p.1 : Int)).sum
      let sv := (l.map fun p => s * p.2).sum
      let p := n * (l.map fun p => (p.1 : Int) * (s * p.2)).sum - st * sv
      let q := n * (l.map fun p => (p.1 : Int) * p.1).sum - st * st
      if p ≤ 0 then none
      else some (Int.fdiv ((st * p + (n * (s * limit) - sv) * q) - n * p * now) (n * p * dayM)).toNat

/-- The samples that a fit uses: those of the last 12 months, or all when they are fewer (R360). -/
def lastYear (now : Nat) (l : List (Nat × Int)) : List (Nat × Int) :=
  l.filter fun p => decide (now < p.1 + 12 * monthM)

/-- The life of a unit by its metrics: the shortest, with the code that gives it (R360). -/
def Dev.lifeOf (d : Dev) (u : LifeUnit) : Option (Nat × Nat) :=
  let x := d.accountsOf u
  ((List.range (lifeCodes u)).map (· + 1)).foldl (fun best code =>
    match d.lifeLimit u code, x.samples.find? (·.1 == code) with
    | some (limit, falls), some l =>
      match lifeDays d.lifeClock (lastYear d.lifeClock l.2) limit falls with
      | some n => if best.any fun (b : Nat × Nat) => decide (b.1 ≤ n) then best else some (n, code)
      | none => best
    | _, _ => best) none

/-- The newest sample of a metric. -/
def Accounts.newest (x : Accounts) (code : Nat) : Option Int :=
  (x.samples.find? (·.1 == code)).bind fun l => (l.2.head?).map (·.2)

/-- The life register of a unit: DAYS, LIMIT, and the newest sample of friction or of the journal's wear. A life longer than the field
holds reads 0xFFFE. -/
def Dev.showLife (d : Dev) (u : LifeUnit) : Dev :=
  let v : Nat × Nat := match d.lifeOf u with | some (n, code) => (min n 0xFFFE, code) | none => (0xFFFF, 0)
  match u with
  | .head h => setF (setF d .HM_LIFE_DAYS h v.1) .HM_LIFE_LIMIT h v.2
  | .spindle s =>
    let d := setF (setF d .HM_SPIN_LIFE_DAYS s v.1) .HM_SPIN_LIFE_LIMIT s v.2
    match (d.accountsOf u).newest 1 with
    | some n => setF d .HM_SPIN_LIFE_FRICTION s (min 4095 n.toNat)
    | none => d
  | .device =>
    let d := setF (setF d .HM_DEV_LIFE_DAYS 0 v.1) .HM_DEV_LIFE_LIMIT 0 v.2
    match (d.accountsOf u).newest 1 with
    | some n => setF d .HM_DEV_LIFE_JRN_WEAR 0 (n.toNat / 1000)
    | none => d

/-- The instance that an event of a unit names. -/
def unitIx (u : LifeUnit) : Nat := match u with | .head h => h | .spindle s => s | .device => 0

/-- HM_LIFE_LOW once, when a unit's life first falls below 180 days (R360). -/
def Dev.lifeCheck (d : Dev) (t : Nat) (u : LifeUnit) : Dev :=
  let low := (d.lifeOf u).any fun (x : Nat × Nat) => decide (x.1 < 180)
  if low && !(d.accountsOf u).lifeLow then (d.event t .HM_LIFE_LOW (unitIx u)).modAccounts u fun x => { x with lifeLow := true } else d

/-- One sample enters a metric's samples: one for each 30 days, for 120 of them (R361); the running one holds the latest. -/
def addSample (now : Nat) (v : Int) (l : List (Nat × Int)) : List (Nat × Int) :=
  match l with
  | [] => [(now, v)]
  | x :: rest => ((now, v) :: if x.1 / monthM = now / monthM then rest else x :: rest).take 120

/-- A sample enters the accounts, and the unit's life follows. -/
def Dev.enterSample (d : Dev) (t : Nat) (u : LifeUnit) (code : Nat) (v : Int) : Dev :=
  let now := d.lifeClock
  let d := d.modAccounts u fun x => { x with
    samples := match x.samples.find? (·.1 == code) with
      | some l => x.samples.map fun p => if p.1 = code then (code, addSample now v l.2) else p
      | none => x.samples ++ [(code, [(now, v)])] }
  (d.lifeCheck t u).showLife u

/-- A friction sample in percent of the mean of the first 30 days (R359), a free value while that mean is 0. -/
def Dev.friction (d : Dev) (s : SpinId) (v : Int) : Int × Dev :=
  let now := d.lifeClock
  let d := d.modAccounts (.spindle s) fun x =>
    let from_ := x.frictionFrom.getD now
    if now < from_ + monthM then
      { x with frictionFrom := some from_, frictionSum := x.frictionSum + v.toNat, frictionCount := x.frictionCount + 1 }
    else x
  let x := (d.spin s).accounts
  if x.frictionSum = 0 then d.drawInt else (100 * v * x.frictionCount / (x.frictionSum : Nat), d)

/-- Sampling a metric of a unit (R359); with both Hallmark cores failed no sample is taken (R400). -/
def Dev.sample (d : Dev) (t : Nat) (u : LifeUnit) (code : Nat) (v : Int) : Dev :=
  if d.hallmarkDead ∨ code = 0 ∨ lifeCodes u < code then d
  else
    match u, code with
    | .spindle s, 1 =>
      let x := d.friction s v
      x.2.enterSample t u 1 x.1
    | .spindle _, 2 => d.enterSample t u 2 v.natAbs
    | _, _ => d.enterSample t u code v

/-- HM_0 writes the accounts to the journal (R361). -/
def Dev.saveAccounts (d : Dev) : Dev :=
  if d.hallmarkDead then d
  else d.modMem fun m => { m with ageArea := {
    clock := d.lifeClock, heads := d.heads.toList.map (·.hallmark.accounts), spindles := d.spindles.toList.map (·.accounts)
    pca := d.surfaces.toList.map (·.pcaUsed), device := d.accounts } }

/-- The accounts as the journal holds them, after a reset of kind C or B (R361, R424). -/
def Dev.loadAccounts (d : Dev) : Dev :=
  let a := d.mem.ageArea
  { d with
    lifeClock := a.clock, accounts := a.device
    heads := Vector.ofFn fun (i : Fin 128) => { d.heads[i] with hallmark := { d.heads[i].hallmark with accounts := a.heads.getD i {} } }
    spindles := Vector.ofFn fun (i : Fin 32) => { d.spindles[i] with accounts := a.spindles.getD i {} }
    surfaces := Vector.ofFn fun (i : Fin 64) => { d.surfaces[i] with pcaUsed := a.pca.getD i d.surfaces[i].pcaUsed } }

/-- A life register that has lost its value is computed again from the journal within one M-tick; once an hour the accounts are
written there (R361). -/
def Dev.lifeTick (d : Dev) : Dev :=
  let fix (d : Dev) (u : LifeUnit) (f : Fld) : Dev :=
    if getF d f (unitIx u) = 0xFFFF ∧ !(d.accountsOf u).samples.isEmpty then d.showLife u else d
  let d := allHeads.foldl (fun d h => fix d (.head h) .HM_LIFE_DAYS) d
  let d := allSpins.foldl (fun d s => fix d (.spindle s) .HM_SPIN_LIFE_DAYS) d
  let d := fix d .device .HM_DEV_LIFE_DAYS
  if d.lifeClock % 1440000 = 0 then d.saveAccounts else d

end Sys2Proof.Machine
end

