-- ==== Sys2Proof/Machine/Reading.lean ====
section
/-! DEFINITION. Reading sectors: the read commands' progress (R279 to R282, R294, R312), the choice of a head (R222, R247), the
capture of a sector, the LDPC pool (R195, R196), the header checks (R197), and the ladder (R198 to R206). -/

namespace Sys2Proof.Machine

/-! ## Heads and surfaces -/

/-- The head is in service: populated, its link not faulted or lost, its mode not FAULT (R247), a Bezel runs it (R250), and it
takes data commands (R110). -/
def Dev.inService (d : Dev) (h : HeadId) : Bool :=
  bit (getF d .SY_POP_HEAD (h / 32)) (h % 32) && getF d .MO_MODE_MODE h != 10 && !(d.head h).link.faulted
    && !(d.head h).link.port.lost && !getB d .BZ_FAULT_FAILED (getF d .BZ_HEAD_STAT_OWNER h)
    && !getB d .BZ_HEAD_STAT_ADOPT_PARK h

/-- The population of the image fits the head (R413). -/
def Dev.fitted (d : Dev) (h : HeadId) : Bool := bit (getF d .SY_POP_HEAD (h / 32)) (h % 32)

/-- The population fits a surface: its spindle and a head of it (R413; log entry 61). -/
def Dev.surfFitted (d : Dev) (s : SurfId) : Bool := bit (getF d .SY_POP_SPIN 0) (s / 2) && (surfHeads s).any d.fitted

/-- Bands between a head and a stripe. -/
def Dev.bandGap (d : Dev) (h : HeadId) (layer stripe : Nat) : Nat :=
  let b := getF d .MO_ADDR_BAND h
  let x := stripeBand layer stripe
  if b ≤ x then x - b else b - x

/-- A write-power trial or a focus margin scan runs on the head (R346): its calibration is at that kind, in an idle revolution. -/
def Dev.trying (d : Dev) (h : HeadId) : Bool :=
  let x := (d.head h).hallmark
  x.idleRev && (x.kinds.head? == some .trial || x.kinds.head? == some .focus)

/-- The head of a surface for work at a stripe: of those in service, leaving out one with a trial or a scan while the other can take the
work (R346), the one whose band lies nearer, the even one on a tie (R222, R244, R247). -/
def Dev.pickHead (d : Dev) (s : SurfId) (layer stripe : Nat) : Option HeadId :=
  let on := (surfHeads s).filter d.inService
  match if on.all d.trying then on else on.filter fun h => !d.trying h with
  | [] => none
  | [h] => some h
  | a :: b :: _ => if d.bandGap b layer stripe < d.bandGap a layer stripe then some b else some a

/-- The other head of a surface. -/
def otherHead (h : HeadId) : HeadId := ⟨4 * (h / 4) + (h % 4 / 2 * 2 + (1 - h % 2)), by omega⟩

/-- A Keeper safe state keeps the medium of a spindle from commands: a latch L or S, level D or X, or Keeper's failure (R390,
R403). -/
def Dev.kept (d : Dev) (s : SpinId) : Bool :=
  bit (getF d .KP_SPIN_L_BITS 0) s || getF d .KP_STAT_DEV 0 != 0 || d.keeper.failed

/-- The status that a surface gives a command that needs it, 0 when it can serve it or will once mounted (R285, R382, R390). -/
def Dev.surfStatus (d : Dev) (s : SurfId) : Nat :=
  if d.kept (surfSpin s) then 0x5002
  else
  match (d.surf s).mount with
  | .noDisc => 0x2008
  | .unformatted => 0x2006
  | .scanning => 0x2007
  | .unmounted | .mounted => 0

/-- The sector lies where the channel rate exceeds R34 at the spindle's speed. -/
def Dev.overRate (d : Dev) (s : SurfId) (psa : Nat) : Bool :=
  !rateOk (stripeRadius (psaLayer psa) (psaStripe psa)) (getF d .TQ_STAT_SPEED (surfSpin s))

/-! ## Staged and lost sectors -/

/-- The newest staged data of a volume's home sector, a filler's zeros among them (R238, R280). -/
def Dev.stagedAt (d : Dev) (vol : Nat) (p : Place) : Option WriteJob :=
  (d.data.writes.filter fun w => w.volume == vol && w.home == p.psa && w.surf == p.surf && !w.lost
    && (w.kind == 1 || w.kind == 2 || w.kind == 0x20)).getLast?

/-- A sector is on the lost-sector list, or its volume's loss found no room there (R333). -/
def Dev.isLost (d : Dev) (vol n : Nat) : Bool := d.mem.lost.contains (vol, n) || d.mem.lostOver.contains vol

/-! ## A read command's progress -/

/-- The command moves stored bytes of an extent rather than sectors. -/
def Dev.byExtent (d : Dev) (c : Cmd) : Bool := d.usesToken c.e

/-- The stored bytes of an extent's sector k, cut to the extent (R275). -/
def cutExtent (tok : Token) (k : Nat) (bs : List Byte) : List Byte :=
  let skip := if k = 0 then tok.offset else 0
  let before := if k = 0 then 0 else k * sectorBytes - tok.offset
  (bs.drop skip).take (tok.stored - before)

/-- The stored bytes of an extent as far as they have come without a gap, from sector k on. -/
def partsPrefix (parts : List (Nat × List Byte)) : Nat → Nat → List Byte
  | 0, _ => []
  | fuel + 1, k =>
    match parts.find? (·.1 == k) with
    | none => []
    | some p => p.2 ++ partsPrefix parts fuel (k + 1)

/-- The stored bytes of a command's extent as far as they have come. -/
def Cmd.stored (c : Cmd) : List Byte := partsPrefix c.parts (c.parts.length + 1) 0

/-- The output of READ_EXTENT from offset `off`: the buffer or list at DPTR, then the list at XPTR (R265). Answers the device
and the bytes that found no place. A buffer named with SGL = 0 takes all. -/
def Dev.placeOut (d : Dev) (c : Cmd) (off : Nat) (bs : List Byte) : Dev × List Byte × Nat :=
  let r := d.place c off bs
  if r.2.isEmpty then (r.1, [], 0)
  else
    let x := placeIn c.xlist.desc (off + (bs.length - r.2.length) - c.list.size) r.2
    ({ r.1 with hostOut := r.1.hostOut ++ x.1 }, x.2, r.2.length - x.2.length)

/-- Ending READ_EXTENT with its result slot: the bytes produced, and those placed through XPTR (R276). -/
def Dev.extentDone (d : Dev) (t : Nat) (c : Cmd) (status : Nat) (ev : Nat := 0) : Dev :=
  (if c.e.opc = 0x25 then d.resultSlot c c.produced c.viaXptr 0 else d).complete t c status (d.countOf c status) ev

/-- The output of READ_EXTENT that waits goes out as far as its lists reach (R264, R265): the next segment is read, of the list at DPTR and,
once that is exhausted, of the list at XPTR; a malformed list gives 0x1005, with both exhausted the command completes with 0x6005, and with
all placed it ends with its own status. -/
def Dev.outMore (d : Dev) (t q tag : Nat) : Dev :=
  match d.cmd? q tag with
  | none => d
  | some c =>
    let r := d.placeOut c c.produced c.out
    let c := { c with produced := c.produced + (c.out.length - r.2.1.length), viaXptr := c.viaXptr + r.2.2, out := r.2.1 }
    let put (c : Cmd) (ask : Option (Nat × Nat)) : Dev :=
      let d := r.1.modCmd q tag fun _ => c
      match ask with
      | some (a, n) => d.send (.readReq a n)
      | none => d
    if c.out.isEmpty then
      match c.outEnd with
      | some (st, ev) => (put c none).extentDone t c st ev
      | none => put c none
    else if !c.list.ended then put { c with list := c.list.ask.1 } c.list.ask.2
    else if c.list.bad then (put c none).extentDone t c 0x1005
    else if !c.xlist.ended then put { c with xlist := c.xlist.ask.1 } c.xlist.ask.2
    else (put c none).extentDone t c (if c.xlist.bad then 0x1005 else 0x6005)

/-- The output of READ_EXTENT, and the status and event that end the command once it is placed. -/
def Dev.deliver (d : Dev) (t q tag : Nat) (bs : List Byte) (status : Nat) (ev : Nat := 0) : Dev :=
  (d.modCmd q tag fun c => { c with out := c.out ++ bs, outEnd := some (status, ev) }).outMore t q tag

/-- The stored bytes of an extent are decoded: READ_EXTENT of a compressed object without RAW, and VERIFY of one (R311, R312). -/
def Cmd.decodes (c : Cmd) : Bool :=
  match c.e.token with
  | none => false
  | some tok => tok.compressed && !c.e.raw && (c.e.opc == 0x25 || c.e.opc == 0x23)

/-- The copy header of R291. -/
def copyHeader (node total : Nat) (comp : Bool) : List Byte :=
  bytesLE 2 (node % 1024) ++ [BitVec.ofNat 8 (b2n comp)] ++ zeros 5 ++ bytesLE 8 total ++ zeros 48

/-- The stored bytes that have come beyond those sent: sent to the peer, in order (R254, R292). -/
def Dev.copyMore (d : Dev) (q tag : Nat) : Dev :=
  match d.cmd? q tag with
  | none => d
  | some c =>
    let new := c.stored.drop c.produced
    if new.isEmpty then d
    else (d.send (.peerWrite (c.e.dptr + 65536 + c.produced) new)).modCmd q tag fun c => { c with produced := c.produced + new.length }

/-- Every sector of a read command has ended: what follows (R279, R281, R292, R312). -/
def Dev.readEnd (d : Dev) (t q tag : Nat) : Dev :=
  match d.cmd? q tag with
  | none => d
  | some c =>
    let st := worstStatus c.recs
    if c.recs.length < c.total then d
    else if c.e.opc = 0x28 then
      if statusClass st ≠ 0 then (d.resultSlot c c.produced 0 0).complete t c st c.done
      else d.send (.peerRead c.e.dptr)
    else if c.decodes then
      { d with filigree := { d.filigree with waiting := d.filigree.waiting ++ [⟨q, tag, false, true⟩] } }
    else if c.e.opc = 0x25 then d.deliver t q tag c.stored st
    else d.complete t c st (d.countOf c st)

/-- The end of one sector of a read command: its outcome, its data placed or kept (R276, R279, R282). -/
def Dev.cmdSector (d : Dev) (t q tag lsn logical status step : Nat) (data : List Byte) : Dev :=
  match d.cmd? q tag with
  | none => d
  | some c =>
    let good := statusClass status = 0
    let r := if good ∧ c.e.opc = 0x20 then d.place c (lsn * sectorBytes) data else (d, [])
    -- a sector that finds no room is not counted (R264)
    if !r.2.isEmpty then r.1.finish t q tag 0x1005 else
    let d := r.1.modCmd q tag fun c => { c with
      recs := c.recs ++ [⟨logical, status, step⟩], done := c.done + (if good then 1 else 0) }
    if !good ∨ c.e.opc = 0x20 then d.readEnd t q tag
    else if d.byExtent c then
      let tok := c.e.token.getD ⟨0, 0, 0, 0, 0, false, 0⟩
      let d := d.modCmd q tag fun c => { c with parts := c.parts ++ [(lsn, cutExtent tok lsn data)] }
      (if c.e.opc = 0x28 then d.copyMore q tag else d).readEnd t q tag
    else if c.e.opc = 0x28 then
      ((d.modCmd q tag fun c => { c with parts := c.parts ++ [(lsn, data)] }).copyMore q tag).readEnd t q tag
    else d.readEnd t q tag

/-! ## Read jobs -/

/-- SEEK_REQUEST (R140, R147): a head holds at most one pending seek, and in FAULT it takes none (R148). -/
def Dev.seekRequest (d : Dev) (h : HeadId) (layer stripe : Nat) : Dev :=
  let m := (d.head h).motion
  if m.pendSeek.isSome ∨ m.seek.isSome ∨ getF d .MO_MODE_MODE h = 10 then d
  else
    (setF d .MO_MODE_TARGET_LAYER h layer).modMotion h fun x => { x with pendSeek := some (layer, stripe) }

/-- The head goes back to the band of a sector that it is to read again: the short seek between re-reads (R199, R227). -/
def Dev.seekBack (d : Dev) (h : HeadId) (psa : Nat) : Dev :=
  if getF d .MO_MODE_MODE h = 3 then d.seekRequest h (psaLayer psa) (psaStripe psa) else d

/-- The device with a read job changed. -/
def Dev.modRead (d : Dev) (id : Nat) (f : ReadJob → ReadJob) : Dev :=
  d.modData fun x => { x with reads := x.reads.map fun r => if r.id = id then f r else r }

/-- The read job of a number. -/
def Dev.read? (d : Dev) (id : Nat) : Option ReadJob := d.data.reads.find? (·.id == id)

/-- Codewords in the soft hold (R196); those of E5 wait for their engines with values of the soft store (R201). -/
def Dev.holdUsed (d : Dev) : Nat := (d.data.hold.filter fun x => (d.read? x.1).any (·.step != 5)).length

/-- Taking the codewords of a read job out of the pool. -/
def Dev.pullWords (d : Dev) (id : Nat) : Dev :=
  let d := d.modData fun x => { x with
    queue := x.queue.filter (·.1 != id)
    hold := x.hold.filter (·.1 != id)
    onRecovery := x.onRecovery.filter (·.1 != id) }
  setF d .LD_POOL_HOLD_USED 0 d.holdUsed

/-- Taking a read job out, with its codewords. -/
def Dev.dropRead (d : Dev) (id : Nat) : Dev :=
  (d.modData fun x => { x with reads := x.reads.filter (·.id != id) }).pullWords id

/-- LAST_STEP of a BUDGET (R202). -/
def Dev.lastStepOf (d : Dev) (h : HeadId) (budget : Nat) : Nat :=
  if bits budget 15 12 ≤ 6 then bits budget 15 12 else getF d .FC_RECOV_DEF_LAST_STEP h

/-- TIME_LIMIT of a BUDGET in ms, 0 none (R202). -/
def Dev.timeLimitOf (d : Dev) (h : HeadId) (budget : Nat) : Nat :=
  if bits budget 11 0 = 0 then getF d .FC_RECOV_DEF_TIME h else bits budget 11 0

/-- The later of two time limits, 0 being none (R206). -/
def laterLimit (a b : Nat) : Nat := if a = 0 ∨ b = 0 then 0 else max a b

/-- Queueing a read; the same sector in hand for another command is joined (R206). -/
def Dev.addRead (d : Dev) (r : ReadJob) : Dev :=
  match r.why, d.data.reads.find? fun x => x.surf == r.surf && x.psa == r.psa && !x.realloc &&
      (match x.why with | .cmd _ _ => true | _ => false) with
  | .cmd q tag, some x =>
    d.modRead x.id fun x => { x with
      joined := x.joined ++ [(q, tag, r.lsn)], lastStep := max x.lastStep r.lastStep
      timeLimit := laterLimit x.timeLimit r.timeLimit }
  | _, _ => d.modData fun x => { x with reads := x.reads ++ [{ r with id := x.nextId }], nextId := x.nextId + 1 }

/-- Members of a chain that are MISSING (R248). -/
def Dev.missingOf (d : Dev) (c : Nat) : List Nat := (d.members c).filter fun j => d.memState c j == 1

/-- A surface holds a sector of a home: at the home PSA, or where a record places it. -/
def Dev.homeHeld (d : Dev) (s : SurfId) (home : Nat) : Bool :=
  (d.surf s).written.contains home || (d.surf s).mirror.any (·.home == home)

/-- A read of a row not yet rebuilt on a member, or of a degraded row's missing member, goes to E6 at once (R246, R249). A row written since
the member was replaced is on its surface. -/
def Dev.toE6 (d : Dev) (p : Place) : Bool :=
  p.chain != 0xFF &&
    (d.memState p.chain p.member == 1
      || (d.chains[p.chain % 16]'(Nat.mod_lt _ (by decide))).degraded.any (fun x => x.1 == p.psa && bit x.2 p.member)
      || (d.memState p.chain p.member == 2 && decide (getF d .CH_CHAIN_W5_REB_NEXT p.chain ≤ p.psa) && !d.homeHeld p.surf p.psa))

/-- KINDs that row 4 of R197 accepts for a data sector of a volume. -/
def dataKinds (stream chained : Bool) : List Nat := [if stream then 2 else 1] ++ (if chained then [0x20] else [])

/-- The command reads sectors of the medium. -/
def mediumReadOpc (o : Nat) : Bool := o == 0x20 || o == 0x23 || o == 0x25 || o == 0x28

/-- A record of a home is about to enter the mirror: reads that have been admitted and not started keep what the home resolves to now
(R61). -/
def Dev.pin (d : Dev) (s : SurfId) (home : Nat) : Dev :=
  d.modData fun x =>
    if d.clasp.cmds.any fun c => mediumReadOpc c.e.opc && !c.started then
      { x with pins := x.pins ++ [⟨d.clasp.nextOrder, s, home, (d.surf s).resolve home⟩] }
    else { x with pins := [] }

/-- What a home resolves to for a command of an admission order (R61): the mirror as it was at its admission. -/
def Dev.resolveAt (d : Dev) (order : Nat) (s : SurfId) (home : Nat) : Nat × Nat × Nat :=
  match d.data.pins.find? fun p => p.surf == s && p.home == home && decide (order < p.order) with
  | some p => p.place
  | none => (d.surf s).resolve home

/-- Starting the read of one sector of a command (R34, R61, R246, R280, R285, R333): from staging, from the medium, or ended. -/
def Dev.readSector (d : Dev) (t q tag lsn n : Nat) (v : Volume) (budget desc order : Nat) : Dev :=
  match d.locate v n with
  | none => d.cmdSector t q tag lsn n 0x1004 0 []
  | some p =>
    match d.stagedAt v.id p with
    | some w => d.cmdSector t q tag lsn n 0 0 w.data
    | none =>
      if v.stream && n == v.appSector && !v.tail.isEmpty then
        d.cmdSector t q tag lsn n 0 0 (v.tail ++ zeros (sectorBytes - v.tail.length))
      else if d.isLost v.id n then d.cmdSector t q tag lsn n 0x3010 0 []
      else
        let e6 := d.toE6 p
        let x := d.resolveAt order p.surf p.psa
        let st := if e6 then 0 else d.surfStatus p.surf
        if p.chain ≠ 0xFF ∧ d.chainM p.chain < (d.missingOf p.chain).length ∧ d.memState p.chain p.member = 1 then
          d.cmdSector t q tag lsn n 0x2005 0 []
        else if st ≠ 0 then d.cmdSector t q tag lsn n st 0 []
        else if !e6 && d.overRate p.surf x.1 then d.cmdSector t q tag lsn n 0x100C 0 []
        else
          let hd := d.pickHead p.surf (psaLayer x.1) (psaStripe x.1)
          if hd.isNone ∧ p.chain = 0xFF then d.cmdSector t q tag lsn n 0x2005 0 []
          else
            let h := hd.getD (headOf (surfSpin p.surf) 0)
            let e6 := e6 || hd.isNone
            d.addRead {
              id := 0, why := .cmd q tag, surf := p.surf, head := h, psa := x.1, home := p.psa, lsn,
              kinds := dataKinds v.stream (p.chain != 0xFF), volume := v.id,
              logical := if v.stream then n * sectorBytes else n, epoch := x.2.1,
              chain := p.chain, member := p.member, row := p.row,
              step := if e6 then 5 else 0, wantRead := !e6,
              lastStep := d.lastStepOf h budget, timeLimit := d.timeLimitOf h budget, desc }

/-- The first sector of the range of a read command, in its volume. -/
def Dev.firstOf (d : Dev) (c : Cmd) : Option (Volume × Nat) :=
  if d.byExtent c then
    match c.e.token with
    | none => none
    | some tok =>
      match d.volume? tok.volume with
      | none => none
      | some v => ((List.range (d.volCap v)).find? fun n =>
          match d.locate v n with
          | none => false
          | some p => p.psa == tok.psa && (if p.chain = 0xFF then p.surf.val == tok.loc else p.member == tok.loc)).map fun n => (v, n)
  else (d.volume? c.e.volume).map fun v => (v, c.e.addr)

/-- READ, VERIFY, READ_EXTENT and COPY start once they hold their lock and their list has been read (R264, R278): every sector
of the range is served or its read queued. -/
def Dev.startRead (d : Dev) (t q tag opc : Nat) : Dev :=
  match d.cmd? q tag with
  | none => d
  | some c =>
    if c.e.opc = opc ∧ c.granted ∧ !c.started ∧ (opc = 0x25 ∨ c.listReady (c.total * sectorBytes)) then
      match d.firstOf c with
      | none => d
      | some (v, first) =>
        let d := (d.modCmd q tag fun c => { c with started := true }).notIdle
        let node := getF d .SY_NODE_NODE_HI 0 * 16 + getF d .SY_NODE_NODE_LO 0
        let size := if d.byExtent c then (c.e.token.map (·.stored)).getD 0 else c.total * sectorBytes
        let d := if opc = 0x28 then
            d.send (.peerWrite c.e.dptr (copyHeader node size ((c.e.token.map (·.compressed)).getD false && d.byExtent c)))
          else d
        if c.total = 0 then d.readEnd t q tag
        else (List.range c.total).foldl (fun d k => d.readSector t q tag k (first + k) v c.e.budget c.desc c.order) d
    else d

/-! ## The end of a read job -/

/-- The bytes of a sector whose 17 codewords have converged. -/
def ReadJob.data (r : ReadJob) : List Byte := (r.words.drop 1).flatMap fun w => w.getD []

/-- The header of a sector whose header codeword has converged. -/
def ReadJob.header (r : ReadJob) : Option (List Byte) := (r.words.headD none).map (·.take 64)

/-- The read of member `j` of a row on a chain (R241, R244, R249): at E0 and E1 only, or under a budget. None where no head is in service
or the channel rate exceeds R34. -/
def Dev.memberJob (d : Dev) (c psa row volume : Nat) (stream brief resync : Bool) (desc : Nat) (budgets : List Nat) (j : Nat) : Option ReadJob :=
  let s := d.memSurf c j
  let k := d.chainK c
  let x := (d.surf s).resolve psa
  if d.overRate s x.1 then none
  else (d.pickHead s (psaLayer x.1) (psaStripe x.1)).map fun h => {
    id := 0, why := .chain c psa j, surf := s, head := h, psa := x.1, home := psa, lsn := 0,
    kinds := if j < k then dataKinds stream true else if j = k then [3] else [4], volume := volume,
    logical := if j < k then (if stream then (row * k + j) * sectorBytes else row * k + j) else row,
    epoch := x.2.1, chain := c, member := j, row := row, brief, resync, desc
    lastStep := if brief then 1 else min 5 ((budgets.map (d.lastStepOf h)).foldl max 0)
    timeLimit := match budgets.map (d.timeLimitOf h) with
      | [] => 0
      | a :: l => l.foldl laterLimit a }

/-- Queueing the read of a member; one that cannot be read joins the list. -/
def Dev.askMember (d : Dev) (c psa row volume : Nat) (stream brief resync : Bool) (desc : Nat) (budgets : List Nat)
    (acc : Dev × List Nat) (j : Nat) : Dev × List Nat :=
  match d.memberJob c psa row volume stream brief resync desc budgets j with
  | none => (acc.1, acc.2 ++ [j])
  | some r => (acc.1.addRead r, acc.2)

/-- The members to read when `missing` are missing (R236, R244): the data members present, then P, then Q, as many parity
members as data members are missing. -/
def planOf (k m : Nat) (missing : List Nat) : List Nat :=
  ((List.range k).filter fun j => !missing.contains j)
    ++ (((List.range m).map (k + ·)).filter fun j => !missing.contains j).take (missing.filter (decide <| · < k)).length

/-- Starting or extending the reads of a rebuild: members of its plan not yet asked for are queued; those without a head count
as missing as well, and the plan is made anew while it may be (R244). The reads carry the descriptor epoch of the command served (R243). -/
def Dev.askPlan (c : Nat) : Nat → Dev → Rebuild → Dev × Rebuild
  | 0, d, b => (d, { b with dead := true })
  | fuel + 1, d, b =>
    let plan := planOf (d.chainK c) (d.chainM c) b.missing
    let new := plan.filter fun j => !b.want.contains j
    let desc := ((b.job.bind d.read?).map (·.desc)).getD 0
    let r := new.foldl (d.askMember c b.psa b.row b.volume b.stream true b.resync.isSome desc []) (d, [])
    let b' := { b with want := (b.want ++ new).filter fun j => !r.2.contains j, missing := b.missing ++ r.2 }
    if r.2.isEmpty then (r.1, b')
    else if d.chainM c < b'.missing.length then (r.1, { b' with dead := true })
    else Dev.askPlan c fuel r.1 b'

/-- The member read of a row that a job stands for. -/
def ReadJob.forMember (r : ReadJob) (c psa j : Nat) : Bool :=
  match r.why with
  | .chain c' psa' j' => c' == c && psa' == psa && j' == j
  | .cmd _ _ => false

/-- The command that a read serves, a member read through the failing sector of its rebuild; none once it has gone. -/
def Dev.ownerOf (d : Dev) (r : ReadJob) : Option (Nat × Nat) :=
  let of_ (w : ReadFor) : Option (Nat × Nat) := match w with
    | .cmd q tag => if w == noCmd then none else some (q, tag)
    | .chain _ _ _ => none
  match r.why with
  | .cmd _ _ => of_ r.why
  | .chain c psa j =>
    match (d.chain ⟨c % 16, Nat.mod_lt _ (by decide)⟩).rebuilds.find? fun b => b.psa == psa && b.job.isSome && (b.want ++ b.missing).contains j with
    | some b => (b.job.bind d.read?).bind fun x => of_ x.why
    | none => none

/-- The stripe of a wanted read is under its head: the read has been dispatched (R243). -/
def Dev.underLane (d : Dev) (r : ReadJob) : Bool :=
  let f := (d.head r.head).facet
  r.wantRead && f.inSector && !f.blind && f.layer == psaLayer r.psa && f.stripe == psaStripe r.psa

/-- The descriptor epoch of a read's command rises (R243): for every piece of its work, and a medium read under way is late. -/
def Dev.bumpDesc (d : Dev) (r : ReadJob) : Dev :=
  match d.ownerOf r with
  | none => d.modRead r.id fun x => { x with desc := (x.desc + 1) % 256 }
  | some o =>
    let bump (y : ReadJob) : ReadJob :=
      if d.ownerOf y = some o then { y with desc := (y.desc + 1) % 256, late := y.late || d.underLane y } else y
    (d.modCmd o.1 o.2 fun x => { x with desc := (x.desc + 1) % 256 }).modData fun x => { x with reads := x.reads.map bump }

/-- A read moves to the other head of its surface, under a new descriptor epoch (R243, R247). -/
def Dev.moveRead (d : Dev) (r : ReadJob) : Dev :=
  (d.bumpDesc r).modRead r.id fun x => { x with head := otherHead r.head, wantRead := true, late := false }

/-- A rebuild for a command goes to another plan: the descriptor epoch rises (R243). -/
def Dev.bumpPlan (d : Dev) (b : Rebuild) : Dev :=
  match b.job.bind d.read? with
  | none => d
  | some r => d.bumpDesc r

/-- The reads waiting at E1 for members of a rebuild go on to E2 to E5, under the command's remaining budget (R244). -/
def Dev.returnReads (d : Dev) (c : Nat) (b : Rebuild) : Dev :=
  let x := match b.job.bind d.read? with
    | some r => (r.timeLimit, r.age)
    | none => (0, none)
  d.modData fun y => { y with reads := y.reads.map fun r =>
    if r.held && (b.held.any fun j => r.forMember c b.psa j) then
      { r with held := false, brief := false, lastStep := 5, timeLimit := x.1, age := some (x.2.getD 0) }
    else r }

/-- A member read of a rebuild has failed (R244): its member counts as missing, and with at most m missing another member is
read in its place. Beyond that the reads that wait at E1 return to E2 to E5; with none the rebuild has failed. `waits`: the
read has failed at E0 and E1 and waits there. -/
def Dev.memberFailed (d : Dev) (c j : Nat) (b : Rebuild) (waits late : Bool) : Dev × Rebuild :=
  let b := { b with missing := b.missing ++ [j], want := b.want.filter (· != j), late := b.late || late
                    held := if waits then b.held ++ [j] else b.held }
  let b := { b with held := b.held.filter fun i => d.data.reads.any fun r => r.held && r.forMember c b.psa i }
  let gone := b.missing.filter fun i => !b.held.contains i
  if b.missing.length ≤ d.chainM c then Dev.askPlan c 16 (d.bumpPlan b) b
  else if d.chainM c < gone.length ∨ b.held.isEmpty then (d, { b with dead := true })
  else (d.returnReads c b, { b with missing := gone, want := b.want ++ b.held, held := [] })

/-- The chain of a number. -/
def chainOf (c : Nat) : Fin 16 := ⟨c % 16, Nat.mod_lt _ (by decide)⟩

/-- A member read ends: its bytes come in for the rebuild or the overwrite that wants them, or the member counts as missing;
an old member that an overwrite cannot read is rebuilt first (R241, R244). `waits` and `late` as in `memberFailed`. -/
def Dev.memberRead (d : Dev) (c psa j : Nat) (data : Option (List Byte)) (waits : Bool := false) (late : Bool := false) : Dev :=
  let ch := d.chain (chainOf c)
  match data with
  | some bs =>
    d.modChain (chainOf c) fun x => { x with
      rebuilds := x.rebuilds.map fun b =>
        if b.psa = psa ∧ b.want.contains j ∧ !b.got.any (·.1 == j) then { b with got := b.got ++ [(j, bs)] } else b
      rows := x.rows.map fun y =>
        if y.psa = psa ∧ y.await.contains j then { y with olds := y.olds ++ [(j, bs)], await := y.await.filter (· != j) } else y }
  | none =>
    match ch.rebuilds.find? fun b => b.psa == psa && b.want.contains j with
    | some b =>
      let r := d.memberFailed c j b waits late
      r.1.modChain (chainOf c) fun x => { x with rebuilds := x.rebuilds.map fun y => if y = b then r.2 else y }
    | none =>
      match ch.rows.find? fun y => y.psa == psa && y.await.contains j with
      | none => d
      | some y =>
        let r := Dev.askPlan c 16 d { psa, volume := y.volume, row := y.row, stream := y.stream, missing := [j], want := [], forOver := true }
        r.1.modChain (chainOf c) fun x => { x with rebuilds := x.rebuilds ++ [r.2] }

/-- Every command that shares a read receives its outcome (R206). -/
def Dev.tellCmds (d : Dev) (t : Nat) (r : ReadJob) (status step : Nat) (data : List Byte) : Dev :=
  match r.why with
  | .cmd q tag =>
    ((q, tag, r.lsn) :: r.joined).foldl (fun d x =>
      d.cmdSector t x.1 x.2.1 x.2.2 (if r.kinds.contains 2 then r.logical / sectorBytes else r.logical) status step data) d
  | .chain c row member =>
    d.memberRead c row member (if statusClass status = 0 then some data else none) false (status == 0x2002)

/-- The read is a member's, for a row of its chain. -/
def ReadJob.isMember (r : ReadJob) : Bool := match r.why with | .chain _ _ _ => true | .cmd _ _ => false

/-- A sector's read ends with a status at its present step (R203): counted, told, and either gone or kept for its
reallocation (R226). A member read that fails counts as missing and ends no sector (R244; log entry 72). -/
def Dev.endRead (d : Dev) (t : Nat) (r : ReadJob) (status : Nat) : Dev :=
  let unreadable := status == 0x2001 || status == 0x2002
  let step := if unreadable then 7 else r.step
  let d := if r.isMember && unreadable then d
    else (setF d .LD_STEP_CNT_COUNT step (getF d .LD_STEP_CNT_COUNT step + 1)).eventIf unreadable t .FC_UNREADABLE r.head [r.psa, r.step]
  let d := if status = 2 then d.modRead r.id fun x => { x with realloc := true, wantRead := false } else d.dropRead r.id
  d.tellCmds t r status r.step (if statusClass status = 0 then r.data else [])

/-- The success status of the step at which a sector completes (R203). -/
def stepStatus (step : Nat) : Nat := if step = 0 then 0 else if step ≤ 2 then 1 else if step ≤ 5 then 2 else 3

/-! ## Capture -/

/-- Heads that may read at once at a throttle step (R373). -/
def readPlaces (step : Nat) : Nat :=
  match step with | 0 | 1 | 2 | 3 => 128 | 4 => 96 | 5 => 64 | 6 => 32 | _ => 0

/-- Heads that may write at once at a throttle step (R373). -/
def writePlaces (step : Nat) : Nat := match step with | 0 => 128 | 1 => 64 | 2 => 32 | _ => 0

/-- Local parking holds the head (R371): its zone or its bail's demands TS3 or more. -/
def Dev.localHold (d : Dev) (h : HeadId) : Bool :=
  decide (3 ≤ getF d .TH_ZONE_DEMAND (16 + h.val)) || decide (3 ≤ getF d .TH_ZONE_DEMAND (144 + h.val / 4))

/-- A sector of the job is on its spot: armed or being written. -/
def WriteJob.live (w : WriteJob) : Bool := w.state == .armed || w.state == .writing

/-- Stripes in a turn at a radius in nm (R35, R38): a stripe period is 668,000 channel bits of 40 nm. -/
def turnStripes (radius : Nat) : Nat := 2 * 355 * radius / (113 * 26720000)

/-- The stripe of a PSA passes the head within a revolution, as R190 predicts its position. -/
def Dev.nearTurn (d : Dev) (h : HeadId) (psa : Nat) : Bool :=
  let x := (d.head h).facet
  x.start.isSome && !x.blind && x.layer == psaLayer psa
    && decide (((psaStripe psa : Int) - x.stripe).natAbs ≤ turnStripes (stripeRadius x.layer x.stripe))

/-- A place in the order in which heads take places (R374, R435): 0 for one that the head keeps, 1 for host work, 2 for device work; then
the admission order of the command; then the number of the job. -/
abbrev PlaceKey := Nat × Nat × Nat

/-- One place of the order comes before another. -/
def ahead (a b : PlaceKey) : Bool :=
  decide (a.1 < b.1) || (a.1 == b.1 && (decide (a.2.1 < b.2.1) || (a.2.1 == b.2.1 && decide (a.2.2 < b.2.2))))

/-- The first of some places. -/
def firstKey (l : List PlaceKey) : Option PlaceKey :=
  l.foldl (fun a k => match a with | some b => if ahead k b then some k else some b | none => some k) none

/-- The admission order of an outstanding command; one that has gone comes last. -/
def Dev.orderOf (d : Dev) (q tag : Nat) : Nat := ((d.cmd? q tag).map (·.order)).getD d.clasp.nextOrder

/-- The place of a read: that of its command; for a member read the command whose sector is rebuilt or whose row is overwritten, and device
work where it brings a member back (R435). -/
def Dev.readKey (d : Dev) (r : ReadJob) : PlaceKey :=
  match r.why with
  | .cmd q tag => (1, d.orderOf q tag, r.id)
  | .chain c psa _ =>
    let ch := d.chain (chainOf c)
    let served := (ch.rebuilds.filter (·.psa == psa)).filterMap fun b => (b.job.bind d.read?).bind fun x =>
      match x.why with | .cmd q tag => some (d.orderOf q tag) | .chain _ _ _ => none
    let staged := (ch.rows.filter (·.psa == psa)).flatMap fun x => x.parts.filterMap fun p => (d.data.writes.find? (·.id == p.2)).map (·.order)
    if r.resync then (2, r.id, r.id) else (1, ((served ++ staged).min?).getD d.clasp.nextOrder, r.id)

/-- The sectors of a head that wait to be read back (R227). -/
def Dev.unread (d : Dev) (h : HeadId) : List WriteJob :=
  d.data.writes.filter fun w => w.head == h && w.state == .complete && w.readBack.isNone

/-- A read or a verification is due on the head within one revolution. -/
def Dev.readNear (d : Dev) (h : HeadId) : Bool :=
  (d.data.reads.any fun r => r.head == h && r.wantRead && !r.realloc && d.nearTurn h r.psa) || (d.unread h).any fun w => d.nearTurn h w.target

/-- A head's place in the order for reading (R374, R435): it keeps a reading place that it has while a read is due within one revolution; a
verification takes a reading place. -/
def Dev.readTurn (d : Dev) (h : HeadId) : Option PlaceKey :=
  (firstKey (((d.data.reads.filter fun r => r.head == h && r.wantRead && !r.realloc).map d.readKey)
    ++ (d.unread h).map fun w => (1, w.order, w.id))).map fun k => (if (d.head h).motion.placeR && d.readNear h then 0 else k.1, k.2)

/-- The head may read but for the places of the throttle step: in service, not held by local parking, its spindle forward (R177). -/
def Dev.ableToRead (d : Dev) (h : HeadId) : Bool := d.inService h && !d.localHold h && !getB d .TQ_CTL_DIR (spinOf h)

/-- A head may read: its spindle turns forward, and fewer heads than there are places come before it (R374). -/
def Dev.mayRead (d : Dev) (h : HeadId) : Bool :=
  let n := readPlaces (getF d .TH_STAT_STEP 0)
  !getB d .TQ_CTL_DIR (spinOf h) && (n == 128 ||
    match d.readTurn h with
    | none => decide (0 < n)
    | some a => decide ((allHeads.filter fun o => d.ableToRead o && (d.readTurn o).any fun b => ahead b a).length < n))

/-- A sector under the head is wanted by a read, or is being read back. -/
def Dev.wantedHere (d : Dev) (h : HeadId) : Bool :=
  let f := (d.head h).facet
  f.inSector && !f.blind &&
    (d.data.reads.any (fun r => d.readsNow h r && psaLayer r.psa == f.layer && psaStripe r.psa == f.stripe)
      || d.data.writes.any fun w => w.pass == some h)

/-- The stripe start of a head (R190): a head that may read powers its lanes for the sectors that begin, and a later throttle step does not
cut them (R374); a sector already written is read back from here on (R227). -/
def Dev.sectorStart (d : Dev) (h : HeadId) (total layer stripe : Nat) (blind : Bool := false) : Dev :=
  let d := d.facetStart h total layer stripe blind
  let on := d.mayRead h && !d.localHold h
  let reads (w : WriteJob) : WriteJob :=
    if w.state = .complete ∧ w.surf = surfOf h ∧ on ∧ !blind ∧ w.target / 4 = psaOf layer stripe 0 / 4 then { w with pass := some h } else w
  let d := (d.modData fun x => { x with writes := x.writes.map reads }).modFacet h fun f => { f with powered := on }
  if on && d.wantedHere h then d.modMotion h fun m => { m with placeR := true } else d

/-- A head has a sector in progress: a spot armed or writing, or a sector being read (R374, R435). -/
def Dev.midSector (d : Dev) (h : HeadId) : Bool :=
  (d.data.writes.any fun w => w.head == h && w.live) || ((d.head h).facet.powered && d.wantedHere h)

/-- A revolution of the head has ended: places that nothing due keeps are given up (R374). -/
def Dev.givePlaces (d : Dev) (h : HeadId) : Dev :=
  let m := (d.head h).motion
  let r := d.readNear h
  let w := d.data.writes.any fun w => w.head == h && (w.live || (w.state == .staged && d.nearTurn h w.target))
  if (m.placeR && !r) || (m.placeW && !w) then d.modMotion h fun m => { m with placeR := m.placeR && r, placeW := m.placeW && w } else d

/-- The first sector that waits to be read back on a head that writes nothing (R227). -/
def Dev.firstUnread (d : Dev) (h : HeadId) : Option Nat :=
  if d.data.writes.any fun w => w.head == h && w.live then none
  else (d.data.writes.find? fun w => w.head == h && w.state == .complete && w.readBack.isNone && w.pass.isNone).map (·.target)

/-- The lanes of a head have ended a stripe: every read made there takes its sector (R190, R192, R198, R201, R205). -/
def Dev.capture (d : Dev) (t : Nat) (h : HeadId) : Dev :=
  match (d.head h).facet.past with
  | none => d
  | some (layer, stripe) =>
    if !(d.head h).facet.powered || !rateOk (stripeRadius layer stripe) (getF d .TQ_STAT_SPEED (spinOf h)) then d else
    let now := d.data.reads.filter fun r => d.readsNow h r && psaLayer r.psa == layer && psaStripe r.psa == stripe
    let d := now.foldl (fun d r =>
        -- a read dispatched under an older descriptor epoch is dropped, and the sector is read again (R243)
        if r.late then incF (d.modRead r.id fun r => { r with late := false }) .CH_STAT_LATE_DROPS 0
        else
        let l := (d.head h).facet.lanes[psaSpot r.psa]
        let blank := l.found.isNone && l.low
        let fail := (List.range 17).filter fun w => (r.words.getD w none).isNone
        let dual := match l.found with
          | none => false
          | some F => decide (2 < if F ≤ 512 then 512 - F else F - 512)
        let r' := { r with
          head := h, wantRead := false, cap := l.ls, found := l.found, age := some (r.age.getD 0)
          frame := if dual then none else some (l.found.getD 512)
          ambig := false, open_ := if dual then 0 :: fail.filter (· != 0) else fail, soft := [], bads := [], convF := [], convP := [], badsP := []
          blank, blankOnce := if r.step = 0 then blank else r.blankOnce }
        let d := d.modRead r.id fun _ => r'
        if blank && r.blankOnce && decide (2 ≤ r.step) then d.endRead t r' 0x2003 else d) d
    -- a re-read or a verification that waits for another band, or whose stripe has passed, needs a seek (R199, R205, R227)
    let want := ((d.firstReread h).map (·.psa)).or (d.firstUnread h)
    match want with
    | some p => if psaLayer p = layer ∧ stripe < psaStripe p ∧ stripeBand layer stripe = stripeBand layer (psaStripe p) then d else d.seekBack h p
    | none => d

/-! ## The LDPC pool -/

/-- The channel values of a codeword under a sync position (R185, R192). -/
def ReadJob.values (r : ReadJob) (Q w : Nat) : List Int :=
  wordValues w (demodBody r.psa ((r.cap.drop (Q + 48)).take 665856))

/-- The number of a read's lane. -/
def ReadJob.lane (r : ReadJob) : Nat := 4 * r.head + psaSpot r.psa

/-- A codeword has become complete: behind those that did so before, and among those of the same instant in the order of their lanes
(R196). -/
def Dev.enqueue (d : Dev) (t : Nat) (r : ReadJob) (w : Nat) : Dev :=
  d.modData fun x =>
    let tied := if x.readyAt = t then min x.tied x.queue.length else 0
    let old := x.queue.take (x.queue.length - tied)
    let same := x.queue.drop (x.queue.length - tied)
    let lower (e : Nat × Nat × Nat) : Bool := ((d.read? e.1).map ReadJob.lane).getD 0 ≤ r.lane
    { x with
      queue := old ++ same.takeWhile lower ++ [(r.id, w, r.desc)] ++ same.dropWhile lower
      readyAt := t, tied := tied + 1 }

/-- CODEWORD_READY (R196): the values of a codeword of a captured sector go to the pool. Under a dual framing the user codewords
wait for the header (R193). -/
def Dev.codewordReady (d : Dev) (t id w : Nat) : Dev :=
  match d.read? id with
  | none => d
  | some r =>
    if r.open_.contains w ∧ !(d.data.queue ++ d.data.hold ++ d.data.onRecovery).contains (id, w, r.desc)
        ∧ (w = 0 ∨ r.frame.isSome) then
      let v := r.values (r.frame.getD (r.found.getD 512)) w
      let d := d.modRead id fun r => { r with soft := r.soft.filter (·.1 != w) ++ [(w, v)] }
      d.enqueue t r w
    else d

/-- Rows 1 to 3 of R197 on a decoded header under dual framing (R193). -/
def framePasses (psa : Nat) (dec : Decoded) : Bool :=
  match dec.info with
  | none => false
  | some b => hdrCrcOk b && leAt b 0 4 == formatId && leAt b 4 4 == psa

/-- Row 4 of R197: the header's fields are those expected. -/
def ReadJob.headerOk (r : ReadJob) (h : Header) : Bool :=
  r.kinds.contains h.kind && h.volume == r.volume && h.logical == r.logical && h.epoch == r.epoch

/-- The parameters of FC_HDR_MISMATCH: of the first field that differs the value expected and that found, of one 32-bit word each or of two
where the field is longer, low word first (log entry 15). -/
def ReadJob.mismatch (r : ReadJob) (h : Header) : List Nat :=
  let long (x : Nat) : List Nat := [x % 2 ^ 32, x / 2 ^ 32 % 2 ^ 32]
  if !r.kinds.contains h.kind then [r.kinds.headD 0, h.kind]
  else if h.volume ≠ r.volume then [r.volume, h.volume]
  else if h.epoch ≠ r.epoch then [r.epoch, h.epoch]
  else long r.logical ++ long h.logical

/-- The state of a job once every codeword has converged: DATA_CRC is judged (row 5 of R197). -/
def Dev.sectorCheck (d : Dev) (t id : Nat) : Dev :=
  match d.read? id with
  | none => d
  | some r =>
    if r.words.any (·.isNone) then d
    else if (match r.header with | some b => leAt b 40 8 == crc64 r.data | none => false) then
      (if r.step = 0 ∧ !r.slow then d.laneSnapshot r.head (psaLayer r.psa) (psaSpot r.psa) else d).endRead t r (stepStatus r.step)
    else
      (incF d .LD_STAT_MISCORRECT 0).modRead id fun r => { r with words := r.words.take 1 ++ List.replicate 16 none, open_ := [] }

/-- A converged header codeword whose HDR_CRC is correct is checked row by row from row 2 on (R197); a passing one stands. A read made again
for its PSA leaves nothing of the last one in the pool. -/
def Dev.headerCheck (d : Dev) (t : Nat) (r : ReadJob) (b : List Byte) : Dev :=
  let hd := Header.parse b
  if leAt b 0 4 ≠ formatId then d.endRead t r 0x2004
  else if leAt b 4 4 ≠ r.psa then
    let d := d.event t .FC_PSA_MISMATCH r.head [r.psa, leAt b 4 4]
    if 0 < r.psaMiss then d.endRead t r 0x3002
    else
      ((d.pullWords r.id).modRead r.id fun x => { x with psaMiss := 1, wantRead := true, open_ := [], cap := [] }).modMotion r.head fun m =>
        { m with wantReloc := true }
  else if !r.headerOk hd then (d.event t .FC_HDR_MISMATCH r.head (r.mismatch hd)).endRead t r 0x3001
  else (d.modRead r.id fun x => { x with words := some b :: x.words.drop 1 }).sectorCheck t r.id

/-- A codeword has converged (R197). -/
def Dev.converged (d : Dev) (t id w : Nat) (b : List Byte) : Dev :=
  match d.read? id with
  | none => d
  | some r =>
    if w = 0 then d.headerCheck t r b
    else (d.modRead id fun r => { r with words := r.words.set w (some b) }).sectorCheck t id

/-- A codeword has failed its E0 decode: to the soft hold, or past E1 when that is full (R196). The ladder of an aborted read ends there
(R204). -/
def Dev.toHold (d : Dev) (t id w desc : Nat) : Dev :=
  let d := setF d .LD_CW_FAIL_COUNT 0 (getF d .LD_CW_FAIL_COUNT 0 + 1)
  if (d.read? id).any ReadJob.orphan then d.dropRead id
  else if d.holdUsed < 128 then
    let d := (d.modData fun x => { x with hold := x.hold ++ [(id, w, desc)] }).modRead id fun r => { r with step := 1, open_ := r.open_ ++ [w] }
    setF d .LD_POOL_HOLD_USED 0 d.holdUsed
  else
    let d := (incF d .LD_STAT_HOLD_FULL 0).eventIf (!d.data.holdFullRaised) t .LD_HOLD_FULL 0
    d.modData fun x => { x with holdFullRaised := true }

/-- Under SYNC_AMBIG the framing with more convergences at E1 is kept, F on a tie (R193). -/
def Dev.settleAmbig (d : Dev) (t id : Nat) : Dev :=
  match d.read? id with
  | none => d
  | some r =>
    if r.ambig ∧ r.step = 1 ∧ r.open_.isEmpty then
      let useP := decide (r.convF.length < r.convP.length)
      let d := d.modRead id fun r => { r with
        ambig := false, frame := some (if useP then 512 else r.found.getD 512), convF := [], convP := []
        soft := if useP then r.soft.map fun x => (x.1, r.values 512 x.1) else r.soft
        bads := if useP then r.badsP else r.bads }
      (if useP then r.convP else r.convF).foldl (fun d x => d.converged t id x.1 x.2) d
    else d

/-- CODEWORD_DECODED (R193, R195 to R197, R243): an engine has converged or stopped on a codeword that is on it. -/
def Dev.codewordDecoded (d : Dev) (t id w : Nat) : Dev :=
  let active := getF d .LD_POOL_ACTIVE 0
  let onE0 := (d.data.queue.take active).find? fun x => x.1 == id && x.2.1 == w
  let onRec := d.data.onRecovery.find? fun x => x.1 == id && x.2.1 == w
  match onE0.or onRec, d.read? id with
  | some e, some r =>
    let d := d.modData fun x => { x with queue := x.queue.filter (· != e), onRecovery := x.onRecovery.filter (· != e) }
    if e.2.2 ≠ r.desc then
      -- dropped; a codeword still wanted is dispatched again under the present epoch (R243)
      let d := incF d .CH_STAT_LATE_DROPS 0
      if onE0.isNone ∧ r.open_.contains w then d.modData fun x => { x with hold := x.hold ++ [(id, w, r.desc)] } else d
    else
      let limit := if onE0.isSome then getF d .LD_POOL_E0_ITER 0 else getF d .LD_POOL_E1_ITER 0
      let known (v : List Int) := if w = 0 then headerKnown v else v
      let v := ((r.soft.find? (·.1 == w)).map (·.2)).getD []
      -- a header that converges with a wrong HDR_CRC counts as not converged (row 1 of R197)
      let judge (x : Decoded) : Decoded := if w = 0 ∧ x.info.any (fun b => !hdrCrcOk b) then { x with info := none } else x
      let raw := ldpcDecode (known v) limit
      let dec := judge raw
      let d := if onE0.isSome ∧ dec.info.isSome then d.modCal r.head fun x => { x with e0Sum := x.e0Sum + dec.iters, e0Count := x.e0Count + 1 } else d
      let d := if raw.info.isSome ∧ dec.info.isNone then incF d .LD_STAT_MISCORRECT 0 else d
      let d := d.modRead id fun r => { r with
        open_ := r.open_.filter (· != w), slow := r.slow || decide (3 < dec.iters)
        bads := r.bads.filter (·.1 != w) ++ (if dec.info.isSome then [] else [(w, dec.bad)]) }
      if r.frame.isNone ∧ w = 0 ∧ onE0.isSome ∧ !r.ambig then
        let decP := judge (ldpcDecode (headerKnown (r.values 512 0)) limit)
        if framePasses r.psa dec then
          (d.modRead id fun r => { r with frame := some (r.found.getD 512) }).converged t id 0 (dec.info.getD [])
        else if framePasses r.psa decP then
          (d.modRead id fun r => { r with
            frame := some 512, bads := r.bads.filter (·.1 != 0), soft := [(0, r.values 512 0)] }).converged t id 0 (decP.info.getD [])
        else if 2 ≤ r.step then d.modRead id fun r => { r with frame := some (r.found.getD 512) }
        else (d.modRead id fun r => { r with frame := some (r.found.getD 512), ambig := true }).toHold t id 0 e.2.2
      else if r.ambig ∧ onE0.isNone then
        let decP := judge (ldpcDecode (known (r.values 512 w)) limit)
        (d.modRead id fun r => { r with
          convF := r.convF ++ (match dec.info with | some b => [(w, b)] | none => [])
          convP := r.convP ++ (match decP.info with | some b => [(w, b)] | none => [])
          badsP := r.badsP ++ (match decP.info with | some _ => [] | none => [(w, decP.bad)]) }).settleAmbig t id
      else
        match dec.info with
        | some b => d.converged t id w b
        | none => if onE0.isSome ∧ r.step ≤ 1 then d.toHold t id w e.2.2 else d
  | _, _ => d

/-- SOFT_HOLD_DISPATCH (R196): a free recovery engine takes the oldest codeword of the soft hold. -/
def Dev.softHoldDispatch (d : Dev) : Dev :=
  match d.data.hold with
  | [] => d
  | e :: l =>
    if d.data.onRecovery.length < 8 then
      let d := d.modData fun x => { x with hold := l, onRecovery := x.onRecovery ++ [e] }
      setF d .LD_POOL_HOLD_USED 0 d.holdUsed
    else d

/-! ## The ladder -/

/-- The failing codewords of a job. -/
def ReadJob.failing (r : ReadJob) : List Nat := (List.range 17).filter fun w => (r.words.getD w none).isNone

/-- A read of a codeword enters the soft store; of a fifth the one with the most unsatisfied checks goes (R201). -/
def storeRead (l : List (Nat × Nat × List Int)) (x : Nat × Nat × List Int) : List (Nat × Nat × List Int) :=
  let l := l ++ [x]
  let mine := l.filter (·.1 == x.1)
  if mine.length ≤ 4 then l
  else
    let m := (mine.map (·.2.1)).foldl max 0
    match l.findIdx? fun y => y.1 == x.1 && y.2.1 == m with
    | none => l
    | some k => l.eraseIdx k

/-- What a read leaves for the soft store: of each failing codeword its unsatisfied checks and its values (R201). -/
def ReadJob.kept (r : ReadJob) : List (Nat × Nat × List Int) :=
  r.failing.filterMap fun w => (r.soft.find? (·.1 == w)).map fun x => (w, ((r.bads.find? (·.1 == w)).map (·.2)).getD 0, x.2)

/-- The reads of a codeword in the soft store. -/
def ReadJob.readsOf (r : ReadJob) (w : Nat) : List (List Int) := (r.stored.filter (·.1 == w)).map (·.2.2)

/-- The reads stored, summed value by value for a codeword, saturating at ±31 (R201). -/
def softSum (reads : List (List Int)) : List Int :=
  reads.foldl (fun (a : List Int) v => if a.isEmpty then v else List.zipWith (fun x y => clampInt (-31) 31 (x + y)) a v) []

/-- A point of E4 applies: REF with the point's offset stays in the Q1.31 range (R208). -/
def Dev.pointOk (d : Dev) (h : HeadId) (i : Nat) : Bool :=
  let fits (ref ofs : Int) := satSigned 32 (ref + ofs * 65536) == ref + ofs * 65536
  fits (getI d .BZ_LOOP_REF_REF (5 * h)) (getI d .FC_E4_PT_FOC_OFS (8 * h + i))
    && fits (getI d .BZ_LOOP_REF_REF (5 * h + 2)) (getI d .FC_E4_PT_TILT_OFS (8 * h + i))

/-- The next point of E4 at or after i, if one applies. -/
def Dev.nextPoint (d : Dev) (h : HeadId) (i : Nat) : Option Nat :=
  (List.range (getF d .FC_RECOV_E4_POINTS h)).find? fun k => decide (i ≤ k) && d.pointOk h k

/-- E6 applies: the sector is chained and the chain can rebuild its member (R199). -/
def Dev.canRebuild (d : Dev) (r : ReadJob) : Bool :=
  r.chain != 0xFF && (match r.why with | .cmd _ _ => true | _ => false)
    && decide (((d.missingOf r.chain).filter (· != r.member)).length + 1 ≤ d.chainM r.chain)

/-- The steps that may follow the present one, each with its E4 point, in order (R199). A head out of service makes no re-read
(R204); a member read of a rebuild stops at E1 (R244). -/
def Dev.laterSteps (d : Dev) (r : ReadJob) : List (Nat × Nat) :=
  let medium : List (Nat × Nat) :=
    (if r.step ≤ 1 then [(2, 0)] else []) ++ (if r.step ≤ 2 then [(3, 0)] else [])
      ++ (if r.step ≤ 4 then
            match d.nextPoint r.head (if r.step = 4 then r.point + 1 else 0) with
            | some k => [(4, k)]
            | none => []
          else [])
  let soft := decide (r.step ≤ 4) && r.failing.any fun w => decide (2 ≤ (r.readsOf w).length)
  (if r.brief then []
   else (if d.inService r.head then medium else []) ++ (if soft then [(5, 0)] else []))
    ++ (if r.step ≤ 5 ∧ d.canRebuild r then [(6, 0)] else [])

/-- The budget allows a step (R202). -/
def ReadJob.allowed (r : ReadJob) (step : Nat) : Bool :=
  decide (step ≤ r.lastStep) && (r.timeLimit == 0 || decide (r.age.getD 0 < 400 * r.timeLimit))

/-- Starting E6 (R244, R246): the members that R236 needs are read. The descriptor epoch is bumped (R243). -/
def Dev.startE6 (d : Dev) (r : ReadJob) : Dev :=
  let c := r.chain
  let d := (d.bumpDesc r).modRead r.id fun r => { r with step := 6, wantRead := false, late := false, open_ := [] }
  let p := Dev.askPlan c 16 d { psa := r.home, volume := r.volume, row := r.row, stream := r.kinds.contains 2,
                                missing := r.member :: (d.missingOf c).filter (· != r.member), want := [], job := some r.id }
  p.1.modChain (chainOf c) fun x => { x with rebuilds := x.rebuilds ++ [p.2] }

/-- The rebuild that a job at E6 waits for. -/
def Dev.rebuildOf (d : Dev) (r : ReadJob) : Option Rebuild := (d.chain (chainOf r.chain)).rebuilds.find? (·.job == some r.id)

/-- A rebuild goes, and with it the member reads that nothing else of its row wants. -/
def Dev.dropRebuild (d : Dev) (c : Nat) (b : Rebuild) : Dev :=
  let d := d.modChain (chainOf c) fun x => { x with rebuilds := x.rebuilds.filter (· != b) }
  let ch := d.chain (chainOf c)
  if ch.rebuilds.any (·.psa == b.psa) || ch.rows.any (fun y => y.psa == b.psa && !y.await.isEmpty) then d
  else ((d.data.reads.filter fun r => (b.want ++ b.missing).any (r.forMember c b.psa)).map (·.id)).foldl Dev.dropRead d

/-- The status of an unreadable sector that no later step may serve: its head out of service, or the ladder at its end (R203,
R204). -/
def Dev.lastStatus (d : Dev) (r : ReadJob) : Nat := if d.inService r.head then 0x2001 else 0x2005

/-- A member read has failed at E0 and E1 and waits there for its rebuild (R244). -/
def Dev.waitAtE1 (d : Dev) (r : ReadJob) : Dev :=
  match r.why with
  | .chain c psa j =>
    if (d.chain (chainOf c)).rebuilds.any fun b => b.psa == psa && b.want.contains j then
      (d.modRead r.id fun r => { r with held := true }).memberRead c psa j none true
    else d.dropRead r.id
  | .cmd _ _ => d

/-- Room in the ladder: with both Hallmark cores failed, CR_1 takes at most 4 sectors at once past E1 (R400; log entry 57). -/
def Dev.ladderRoom (d : Dev) (r : ReadJob) : Bool :=
  !d.hallmarkDead || 2 ≤ r.step || decide ((d.data.reads.filter fun x => 2 ≤ x.step && !x.realloc).length < 4)

/-- LADDER_STEP (R199 to R203): a sector that has not completed goes to the next step that applies within its budget, or ends
unreadable. -/
def Dev.ladderStep (d : Dev) (t id : Nat) : Dev :=
  match d.read? id with
  | none => d
  | some r =>
    if r.orphan ∧ r.open_.isEmpty ∧ !r.realloc then
      match d.rebuildOf r with
      | some b => (d.dropRebuild r.chain b).dropRead id
      | none => d.dropRead id
    else if r.step = 6 then
      match d.rebuildOf r with
      | some b => if b.dead then (d.dropRebuild r.chain b).endRead t r (if b.late then 0x2002 else 0x2001) else d
      | none => d
    else if r.realloc ∨ r.held ∨ r.wantRead ∨ !r.open_.isEmpty ∨ r.failing.isEmpty then d
    else
      let d := if r.step ≤ 4 ∧ !r.cap.isEmpty then
          d.modRead id fun r => { r with cap := [], stored := r.kept.foldl storeRead r.stored }
        else d
      let r := (d.read? id).getD r
      match d.laterSteps r with
      | [] => if r.brief ∧ d.inService r.head then d.waitAtE1 r else d.endRead t r (d.lastStatus r)
      | (step, point) :: _ =>
        if !r.allowed step then d.endRead t r 0x2002
        else if !d.ladderRoom r then d
        else if step = 6 then d.startE6 r
        else if step = 5 then
          let fs := r.failing
          let d := d.modRead id fun r => { r with step := 5, open_ := fs, soft := fs.map fun w => (w, softSum (r.readsOf w)) }
          d.modData fun x => { x with hold := x.hold ++ fs.map fun w => (id, w, r.desc) }
        else
          let n := d.data.nextId
          let d := d.modData fun x => { x with nextId := n + 1 }
          (d.modRead id fun r => { r with step, point, wantRead := true, entered := if r.step ≤ 1 then n else r.entered }).seekBack r.head r.psa

/-! ## What interrupts a read (R204, R247) -/

/-- A sector that its medium cannot serve any more goes to E6 when that applies within its budget, and otherwise ends with a
status (R204, R247, R285). -/
def Dev.noMedium (d : Dev) (t : Nat) (r : ReadJob) (status : Nat) : Dev :=
  if r.orphan then d.dropRead r.id else if !d.canRebuild r then d.endRead t r status else if r.allowed 6 then d.startE6 r else d.endRead t r 0x2002

/-- The head is out of service: its reads not yet made move to the other head, sectors at E1 to E5 go to E6 or end, and a sector
whose E0 read is being decoded stays (R204, R247). -/
def Dev.headReadsLost (d : Dev) (t : Nat) (h : HeadId) : Dev :=
  (d.data.reads.filter fun r => r.head == h && !r.realloc && !r.held && r.step != 6).foldl (fun d r =>
    if r.step = 0 && !r.cap.isEmpty then d
    else if r.step = 0 && d.inService (otherHead h) then d.moveRead r
    else d.noMedium t r 0x2005) d

/-- Reads of a head that have not begun move to the other head of the surface (R371). -/
def Dev.heldReads (d : Dev) (h : HeadId) : Dev :=
  if !d.inService (otherHead h) ∨ d.localHold (otherHead h) then d
  else
    (d.data.reads.filter fun r => r.head == h && !r.realloc && r.step == 0 && r.cap.isEmpty).foldl Dev.moveRead d

/-- The chain engine has rebuilt the sector of a job at E6: it completes with 0x0003 (R245). -/
def Dev.rebuilt (d : Dev) (t id : Nat) (data : List Byte) : Dev :=
  match d.read? id with
  | none => d
  | some r => d.endRead t { r with words := none :: (chunks 4096 data).map some } 3

/-- The read jobs age by a Tick once their E0 read has ended (R202). -/
def Dev.ageReads (d : Dev) : Dev :=
  d.modData fun x => { x with reads := x.reads.map fun r => { r with age := r.age.map (· + 1) } }

/-- CODEWORD_READY. -/
def execCodewordReady (job : Nat) (word : Fin 17) (s : State) : Out := run s fun d => d.codewordReady s.dtime job word
/-- CODEWORD_DECODED. -/
def execCodewordDecoded (job : Nat) (word : Fin 17) (s : State) : Out := run s fun d => d.codewordDecoded s.dtime job word
/-- SOFT_HOLD_DISPATCH. -/
def execSoftHoldDispatch (s : State) : Out := run s fun d => d.softHoldDispatch
/-- LADDER_STEP. -/
def execLadderStep (job : Nat) (s : State) : Out := run s fun d => d.ladderStep s.dtime job
/-- READ. -/
def execRead (qid tag : Nat) (s : State) : Out := run s fun d => d.startRead s.dtime qid tag 0x20
/-- VERIFY. -/
def execVerify (qid tag : Nat) (s : State) : Out := run s fun d => d.startRead s.dtime qid tag 0x23
/-- READ_EXTENT. -/
def execReadExtent (qid tag : Nat) (s : State) : Out := run s fun d => d.startRead s.dtime qid tag 0x25
/-- COPY. -/
def execCopy (qid tag : Nat) (s : State) : Out := run s fun d => d.startRead s.dtime qid tag 0x28

end Sys2Proof.Machine
end

