-- ==== Sys2Proof/Machine/Writing.lean ====
section
/-! DEFINITION. Writing sectors: staging (R228, R237, R272, R280), arming (R209 to R218), the end of a gate (R219 to R223),
remap records and remap sectors (R56 to R58, R223 to R226), verification (R227), what FUA and FLUSH wait for (R228, R229),
formatting (R53, R55) and mounting (R54, R59, R60) of surfaces. -/

namespace Sys2Proof.Machine

/-! ## What a write needs of the device -/

/-- The node number (R19). -/
def Dev.node (d : Dev) : Nat := getF d .SY_NODE_NODE_HI 0 * 16 + getF d .SY_NODE_NODE_LO 0

/-- The temperature of a zone in 1/128 °C, 125 °C while its sensor is broken (R366). -/
def Dev.zoneSeen (d : Dev) (z : Nat) : Int := if getB d .TH_ZONE_BROKEN z then 125 * 128 else getI d .TH_ZONE_TEMP z

/-- The head's zone lies within WT_LO to WT_HI (R218). -/
def Dev.headWarm (d : Dev) (h : HeadId) : Bool :=
  decide ((getF d .FC_WR_TEMP_WT_LO 0 * 128 : Nat) ≤ d.zoneSeen (16 + h)) &&
    decide (d.zoneSeen (16 + h) ≤ (getF d .FC_WR_TEMP_WT_HI 0 * 128 : Nat))

/-- Every die zone lies below DIE_WMAX (R218). -/
def Dev.dieCool (d : Dev) : Bool :=
  (List.range 16).all fun z => decide (d.zoneSeen z < (getF d .FC_WR_TEMP_DIE_WMAX 0 * 128 : Nat))

/-- Samples per spot of a Tick, as the last interval had them. -/
def Dev.perTick (d : Dev) (h : HeadId) : Nat :=
  let x := (d.head h).link
  (x.sampleNext + 2 ^ 32 - x.sampleTotal) % 2 ^ 32

/-- Samples from the last Tick mark to the start of a stripe of the layer under the head, as R190 predicts it: below 0 once it has passed. -/
def Dev.untilStripe (d : Dev) (h : HeadId) (layer stripe : Nat) : Option Int :=
  let x := d.head h
  match x.facet.start with
  | some s =>
    if !x.facet.blind ∧ x.facet.layer = layer then
      some (668000 * ((stripe : Int) - x.facet.stripe) - ((x.link.sampleNext + 2 ^ 32 - s) % 2 ^ 32 : Nat))
    else none
  | none => none

/-- LPWR runs on LASER_WRITE, with no hand-over under way (R123, R144, R217). -/
def Dev.laserWrites (d : Dev) (h : HeadId) : Bool :=
  let x := d.loop h 4
  (d.head h).motion.laserWrite && x.want.isNone && x.blend.isNone &&
    match x.drive with
    | .law r => r.slot == getF d .MO_LAWSEL1_LPWR_WRITE h
    | _ => false

/-- Heads with a spot armed or writing (R374). -/
def Dev.writingHeads (d : Dev) : List HeadId := ((d.data.writes.filter (·.live)).map (·.head)).eraseDups

/-- The sector is a rewrite: it was abandoned, or failed its verification (R223, R227). -/
def WriteJob.again (w : WriteJob) : Bool := decide (0 < w.abandons) || decide (0 < w.vfails)

/-- A reallocation, or the rewrite of a rebuilt sector: it runs behind host writes (R226, R245). -/
def WriteJob.background (w : WriteJob) : Bool := (w.reason == 2 || w.reason == 3 || w.resync) && !w.again

/-- The place of a write: that of its command; for a remap sector the oldest FUA or FLUSH that waits on a record of it; device work comes
last (R435). -/
def Dev.writeKey (d : Dev) (w : WriteJob) : PlaceKey :=
  if w.kind = 0x10 then
    let waiting := d.clasp.cmds.filter fun c => c.waiting && c.waits.any fun i => d.data.writes.any fun j =>
      j.id == i && j.surf == w.surf && w.records.any (·.seq == j.seq)
    (1, ((waiting.map (·.order)).min?).getD d.clasp.nextOrder, w.id)
  else (if w.background then 2 else 1, w.order, w.id)

/-- A head's place in the order for writing (R374, R435): it keeps a writing place while a spot is armed or writing and while a write is
due within one revolution; a trial or a scan takes one as device work (R346). -/
def Dev.writeTurn (d : Dev) (h : HeadId) : Option PlaceKey :=
  let ws := d.data.writes.filter fun w => w.head == h && (w.live || w.state == .staged)
  let keeps := ws.any fun w => w.live || ((d.head h).motion.placeW && d.nearTurn h w.target)
  match firstKey (ws.map d.writeKey) with
  | some k => some (if keeps then 0 else k.1, k.2)
  | none => if d.trying h then some (2, d.clasp.nextOrder, d.data.nextId + h) else none

/-- The conditions of R123 (LASER_WRITE), R144, R146, R177 (forward rotation), R205 (re-reads go first) and R218 that bear on the head
alone. -/
def Dev.ableToWrite (d : Dev) (h : HeadId) : Bool :=
  d.inService h && d.laserWrites h && !getB d .TQ_CTL_DIR (spinOf h) && getF d .MO_MODE_MODE h == 3 && getB d .MO_MODE_GUARD_OK h && (d.head h).motion.guardAck
    && !(d.head h).noWrite && (d.firstReread h).isNone && d.headWarm h && d.dieCool
    && !d.keeper.dip && !(d.spin (spinOf h)).keep.dip && !(d.head h).down.writeInhibit
    && !(d.head h).motion.deferPark && !d.localHold h && d.pState == 0 && getF d .HL_STATUS_RATE h == 0 && getF d .HL_STATUS_STATE h == 6

/-- A head has or may take a writing place at the present throttle step (R373, R374): fewer heads than there are places come before it. -/
def Dev.mayWritePlace (d : Dev) (h : HeadId) : Bool :=
  let n := writePlaces (getF d .TH_STAT_STEP 0)
  let a := (d.writeTurn h).getD (2, d.clasp.nextOrder, d.data.nextId + h)
  n == 128 || decide ((allHeads.filter fun o => o != h && (d.writeTurn o).any fun b => ahead b a && (b.1 == 0 || d.ableToWrite o)).length < n)

/-- The head may write: its own conditions, and a writing place. -/
def Dev.headMayWrite (d : Dev) (h : HeadId) : Bool := d.ableToWrite h && d.mayWritePlace h

/-- The head's write current of a layer is above (1 − HR_MIN) × I_MAX (R352). -/
def Dev.layerLimited (d : Dev) (h : HeadId) (layer : Nat) : Bool :=
  decide ((100 - getF d .HM_CFG_HR_MIN 0) * getF d .HM_LASER_I_MAX h < (d.head h).hallmark.iw.getD layer 0)

/-- The strategy entry of a class as R215 lays it out: 40 bits. -/
def Dev.wsEntry (d : Dev) (h : HeadId) (layer cls : Nat) : Nat :=
  let i := h * 128 + layer * 8 + cls
  getF d .FC_WS_ENTRY_T_START i * 2 ^ 32 + getF d .FC_WS_ENTRY_T_TOP i * 2 ^ 24 + getF d .FC_WS_ENTRY_T_LAST i * 2 ^ 16
    + getF d .FC_WS_ENTRY_T_END i * 2 ^ 8 + getF d .FC_WS_ENTRY_T_COOL i

/-- The CRC-8 of R216 over a layer's eight entries. -/
def Dev.wsCrc (d : Dev) (h : HeadId) (layer : Nat) : Nat :=
  crc8 ((List.range 8).flatMap fun c => bitsBE 40 (d.wsEntry h layer c))

/-- The pendant's bank that matches a layer (R216). -/
def Dev.bankFor (d : Dev) (h : HeadId) (layer : Nat) : Option Nat :=
  ([0, 1] : List (Fin 2)).findSome? fun b =>
    let k := (d.head h).banks[b]
    if k.layer = some layer ∧ k.crc = some (d.wsCrc h layer) then some b.val else none

/-- The shortest mark of a class (R212). -/
def shortestMark (cls : Nat) : Nat := [1, 2, 3, 4, 5, 7, 10, 14].getD cls 1

/-- A strategy entry is valid (R213). -/
def wsValid (cls v : Nat) : Bool :=
  let top := bits v 55 48
  if cls < 2 then decide (1 ≤ top)
  else
    decide (1 ≤ top) && decide (1 ≤ bits v 47 40) &&
      decide (toSigned 8 (bits v 63 56) + (top : Nat) ≤ 16 * (shortestMark cls : Nat) + toSigned 8 (bits v 39 32) - (bits v 47 40 : Nat))

/-- WS_ENTRY_WRITE (R213): a valid entry waits for the head's next stripe start; an invalid one is discarded. -/
def Dev.wsWrite (d : Dev) (t : Nat) (h : HeadId) (layer cls v : Nat) : Dev :=
  let i := h * 128 + layer * 8 + cls
  if wsValid cls v then
    setPend (setPend (setPend (setPend (setPend d .FC_WS_ENTRY_T_START i (bits v 63 56)) .FC_WS_ENTRY_T_TOP i (bits v 55 48))
      .FC_WS_ENTRY_T_LAST i (bits v 47 40)) .FC_WS_ENTRY_T_END i (bits v 39 32)) .FC_WS_ENTRY_T_COOL i (bits v 31 24)
  else d.event t .FC_WS_REJECT h [layer, cls]

/-! ## Write jobs -/

/-- The device with a write job changed. -/
def Dev.modWrite (d : Dev) (id : Nat) (f : WriteJob → WriteJob) : Dev :=
  d.modData fun x => { x with writes := x.writes.map fun w => if w.id = id then f w else w }

/-- The write job of a number. -/
def Dev.write? (d : Dev) (id : Nat) : Option WriteJob := d.data.writes.find? (·.id == id)

/-- Taking a write job out. -/
def Dev.dropWrite (d : Dev) (id : Nat) : Dev := d.modData fun x => { x with writes := x.writes.filter (·.id != id) }

/-- Queueing a write job; its number. -/
def Dev.addWrite (d : Dev) (w : WriteJob) : Dev × Nat :=
  (d.modData fun x => { x with writes := x.writes ++ [{ w with id := x.nextId }], nextId := x.nextId + 1 }, d.data.nextId)

/-- The sector of a head's spot that is armed or being written. -/
def Dev.jobAt (d : Dev) (h : HeadId) (s : SpotId) : Option WriteJob :=
  d.data.writes.find? fun w => w.live && w.head == h && w.spot == s

/-- The header of a sector as it is encoded (R47, R209). -/
def Dev.headerOf (d : Dev) (w : WriteJob) : Header :=
  { psa := w.target, kind := w.kind, volume := w.volume, flags := w.flags, epoch := w.epoch, logical := w.logical,
    time := w.time, node := d.node, chain := w.chain, member := w.member, seq := w.seq, dataCrc := crc64 w.data }

/-- The channel bits of a sector (R209). -/
def Dev.channelBits (d : Dev) (w : WriteJob) : List Bool := sectorBits (d.headerOf w) w.data

/-- A home has been written, or a sector for it is on its way. -/
def Dev.homeUsed (d : Dev) (s : SurfId) (home : Nat) : Bool :=
  d.homeHeld s home || d.data.writes.any fun w => w.surf == s && w.home == home

/-- The placement epoch of the newest sector of a home (R242). -/
def Dev.newestEpoch (d : Dev) (s : SurfId) (home : Nat) : Nat :=
  match (d.data.writes.filter fun w => w.surf == s && w.home == home).getLast? with
  | some w => w.epoch
  | none => ((d.surf s).resolve home).2.1

/-- FLAGS of a sector by its reason (R47, R223). -/
def reasonFlags (reason : Nat) : Nat := match reason with | 1 => 8 | 2 => 2 | 3 => 4 | _ => 0

/-! ## The completion of writes -/

/-- Completing a write-like command with its status: the result slot goes first (R276); COUNT by R282. -/
def Dev.writeDone (d : Dev) (t : Nat) (c : Cmd) (status : Nat) : Dev :=
  let d := match c.result with
    | some (tok, supplied, stored) => d.resultSlot c tok supplied stored
    | none => d
  d.complete t c status (if statusClass status = 0 then (if c.e.opc = 0x22 then 0 else c.staged) else d.countOf c status)

/-- Every write that a command waits for is durable (R228). -/
def Dev.waitsOver (d : Dev) (c : Cmd) : Bool := c.waits.all fun i => !d.data.writes.any (·.id == i)

/-- A sector cannot meet R228: every FUA or FLUSH that waits for it completes with the status of R229, with the count of its
sectors already committed. -/
def Dev.failWaits (d : Dev) (t id status : Nat) : Dev :=
  (d.clasp.cmds.filter fun c => c.waiting && c.waits.contains id).foldl (fun d c =>
    let gone := (c.waits.filter fun i => match d.write? i with
      | none => true
      | some w => w.state == .complete || w.state == .verified).length
    d.complete t c status (if c.e.opc = 0x22 then gone else d.countOf c status)) d

/-- The rewrite of the sector of a stream volume takes an append stripe, not relocation space (R223). -/
def Dev.appends (d : Dev) (w : WriteJob) : Bool :=
  (w.reason == 4 || w.reason == 0) && w.kind == 2 && (d.volume? w.volume).any (·.stream)

/-- The writes that need relocation on a surface whose relocation space is exhausted cannot meet R228 (R222, R229). -/
def Dev.relocFail (d : Dev) (t : Nat) (s : SurfId) : Dev :=
  if (d.surf s).relocFull then
    (d.data.writes.filter fun w => w.surf == s && w.state == .staged && w.reason != 0 && !d.appends w).foldl
      (fun d w => d.failWaits t w.id 0x6003) d
  else d

/-- Every FUA or FLUSH whose conditions now hold completes, and every one that cannot meet them any more ends (R228, R229). -/
def Dev.checkWaits (d : Dev) (t : Nat) : Dev :=
  let d := (d.clasp.cmds.filter fun c => c.waiting && d.waitsOver c).foldl (fun d c => d.writeDone t c (worstStatus c.recs)) d
  (List.finRange 64).foldl (fun d s => d.relocFail t s) d

/-! ## Staging -/

/-- A write of a row would overflow the degraded-row list of its chain (R248): the rows on it and those still to be written, which will join
it, number 65,536, and the row is none of them. -/
def Dev.degradedFull (d : Dev) (c : Fin 16) (psa : Nat) : Bool :=
  let listed := (d.chain c).degraded.map (·.1)
  let new := ((d.chain c).rows.map (·.psa)).eraseDups.filter fun p => !listed.contains p
  decide (65536 ≤ listed.length + new.length) && !listed.contains psa && !new.contains psa

/-- Where a sector to be staged would go, and the status that refuses it (R34, R62, R222, R248, R285). -/
def Dev.stageStatus (d : Dev) (p : Place) : Nat :=
  let ovr := d.homeUsed p.surf p.psa
  let s := d.surf p.surf
  if p.chain ≠ 0xFF ∧ ((d.members p.chain).any fun j => d.memState p.chain j == 1)
      ∧ (!getB d .CH_CFG_DEGRADED_WR 0
          ∨ d.degradedFull (chainOf p.chain) p.psa) then 0x6004
  else if p.chain ≠ 0xFF ∧ d.memState p.chain p.member = 1 then 0
  else if d.surfStatus p.surf ≠ 0 then d.surfStatus p.surf
  else if (d.pickHead p.surf (psaLayer p.psa) (psaStripe p.psa)).isNone then 0x2005
  else if d.overRate p.surf p.psa then 0x100C
  else if ovr && s.remapFull then 0x6002
  else if ovr && s.relocFull then 0x6003
  else 0

/-- A chain row none of whose sectors is armed or beyond: a later copy may still take the place of one of its sectors. -/
def Dev.rowIdle (d : Dev) (r : ChainRow) : Bool :=
  r.parts.all fun x => match d.write? x.2 with | some w => w.state == .staged | none => false

/-- The sector of a home that a later copy replaces (R280): staged and not armed, its row not begun. -/
def Dev.replaceable (d : Dev) (vol : Nat) (p : Place) : Option WriteJob :=
  d.data.writes.find? fun w => w.volume == vol && w.surf == p.surf && w.home == p.psa && w.state == .staged && !w.cancelled
    && (w.kind == 1 || w.kind == 2) && (w.reason == 0 || w.reason == 1 || w.reason == 4)
    && (p.chain == 0xFF || ((d.chain (chainOf p.chain)).rows.find? fun r => r.parts.contains (p.member, w.id)).any d.rowIdle)

/-- A closed row that takes a new copy of a sector is opened again: its parity is formed anew (R280). -/
def Dev.reopenRow (d : Dev) (c id : Nat) : Dev :=
  match (d.chain (chainOf c)).rows.find? fun r => r.parts.any (·.2 == id) with
  | none => d
  | some r =>
    let par := (r.parts.filter fun x => decide (d.chainK c ≤ x.1)).map (·.2)
    (d.modData fun x => { x with writes := x.writes.filter fun w => !par.contains w.id }).modChain (chainOf c) fun x => { x with
      rows := x.rows.map fun y =>
        if y = r then { y with made := false, parts := y.parts.filter fun x => decide (x.1 < d.chainK c) } else y }

/-- A sector takes its place in its chain row: in the open row of its home, else in a new one (R237). -/
def Dev.enterRow (d : Dev) (p : Place) (vol : Nat) (stream needed : Bool) (id budget : Nat) : Dev :=
  d.modChain (chainOf p.chain) fun x =>
    if x.rows.any fun r => r.psa == p.psa && !r.closed then
      { x with rows := x.rows.map fun r =>
          if r.psa = p.psa ∧ !r.closed then
            { r with parts := r.parts ++ [(p.member, id)], needed := r.needed || needed, budgets := r.budgets ++ [budget] } else r }
    else
      { x with rows := x.rows ++ [{ psa := p.psa, volume := vol, row := p.row, stream, parts := [(p.member, id)], needed, budgets := [budget] }] }

/-- Staging one sector of a volume (R228, R272, R280): the device, the status of the sector and the number of its job. -/
def Dev.stageSector (d : Dev) (owner : Option (Nat × Nat)) (fua : Bool) (order time : Nat) (v : Volume) (n : Nat) (comp : Bool)
    (data : List Byte) : Dev × Nat × Nat :=
  match d.locate v n with
  | none => (d, 0x1004, 0)
  | some p =>
    let st := d.stageStatus p
    if st ≠ 0 then (d, st, 0)
    else
      let opc := match owner.bind fun x => d.cmd? x.1 x.2 with
        | some c => if c.e.opc = 0x29 ∨ !v.stream then c.e.opc else 0x24
        | none => if v.stream then 0x24 else 0x21
      match d.replaceable v.id p with
      | some w =>
        let d := d.modWrite w.id fun w => { w with owner, opc, data, order, time, waited := w.waited || fua,
                                                    flags := w.flags / 2 * 2 + b2n comp, lost := false }
        (if p.chain = 0xFF then d else d.reopenRow p.chain w.id, 0, w.id)
      | none =>
        let ovr := d.homeUsed p.surf p.psa
        let h := (d.pickHead p.surf (psaLayer p.psa) (psaStripe p.psa)).getD (headOf (surfSpin p.surf) 0)
        let r := d.addWrite {
          id := 0, owner, surf := p.surf, head := h, home := p.psa, target := if ovr then 0 else p.psa,
          kind := if v.stream then 2 else 1, volume := v.id, flags := b2n comp + (if ovr then 8 else 0),
          epoch := if ovr then d.newestEpoch p.surf p.psa + 1 else 1,
          logical := if v.stream then n * sectorBytes else n, time, chain := p.chain, member := p.member, seq := 0,
          reason := if ovr then 1 else 0, data, waited := fua, row := p.row, order, opc }
        let budget := match owner.bind fun x => d.cmd? x.1 x.2 with
          | some c => c.e.budget
          | none => 0x7000
        (if p.chain = 0xFF then r.1 else r.1.enterRow p v.id v.stream fua r.2 budget, 0, r.2)

/-- All of a write-like command's sectors are staged: its lock is released (R279); without FUA it completes, with FUA it waits
for its sectors (R228). -/
def Dev.allStaged (d : Dev) (t q tag : Nat) : Dev :=
  match d.cmd? q tag with
  | none => d
  | some c =>
    let d := d.release q tag
    if c.e.fua then (d.modCmd q tag fun c => { c with waiting := true }).checkWaits t
    else d.writeDone t c (worstStatus c.recs)

/-- The next sector of a WRITE is staged from the bytes received (R272, R282). -/
def Dev.writeNext (d : Dev) (q tag : Nat) (v : Volume) : Dev :=
  match d.cmd? q tag with
  | none => d
  | some c =>
    let n := c.e.addr + c.recs.length
    let r := d.stageSector (some (q, tag)) c.e.fua c.order c.time v n false (c.buf.take sectorBytes)
    r.1.modCmd q tag fun c => { c with
      buf := c.buf.drop sectorBytes, recs := c.recs ++ [⟨n, r.2.1, 0⟩]
      staged := c.staged + (if r.2.1 = 0 then 1 else 0)
      waits := if c.e.fua ∧ r.2.1 = 0 ∧ !c.waits.contains r.2.2 then c.waits ++ [r.2.2] else c.waits }

/-- The sectors of a WRITE whose bytes have come are staged. -/
def Dev.writeMore (d : Dev) (t q tag : Nat) : Dev :=
  match d.cmd? q tag with
  | none => d
  | some c =>
    match d.volume? c.e.volume with
    | none => d
    | some v =>
      let d := iter (fun d => d.writeNext q tag v) (min (c.buf.length / sectorBytes) (c.total - c.recs.length)) d
      match d.cmd? q tag with
      | none => d
      | some c => if c.recs.length = c.total then d.allStaged t q tag else d

/-! ### Data read from host memory (R264) -/

/-- Giving up the tail lock of an open object. -/
def Dev.freeTail (d : Dev) (q vol : Nat) : Dev :=
  d.modClasp fun k => { k with locks := k.locks.filter fun l => !(l.tag == objTag && l.qid == q && l.volume == vol) }

/-- An APPEND that fails before its first byte opens no object. -/
def Dev.dropNewObj (d : Dev) (q vol : Nat) : Dev :=
  match d.ownObj q vol with
  | none => d
  | some o => if o.supplied = 0 then (d.modVolume vol fun v => { v with obj := none }).freeTail q vol else d

/-- Bytes that a command reads from host memory as its data: the sectors of a WRITE, the input of an APPEND, its static table
apart. -/
def Cmd.dataLen (c : Cmd) : Nat :=
  if c.e.opc = 0x21 then c.total * sectorBytes else if c.e.opc = 0x24 then c.e.len else 0

/-- Bytes of the static table that an APPEND reads before its data (R304). -/
def Dev.tableLen (d : Dev) (c : Cmd) : Nat :=
  if c.e.opc = 0x24 ∧ (d.ownObj c.qid c.e.volume).any (fun o => o.supplied == 0 && o.compressed && o.mode == 1) then 320 else 0

/-- The list of a started WRITE or APPEND has ended before its transfer, and the data that it covers have come (R264). -/
def Dev.listShort (d : Dev) (t q tag : Nat) : Dev :=
  match d.cmd? q tag with
  | none => d
  | some c =>
    if c.e.sgl && c.list.ended && c.started && decide (c.list.size < c.dataLen) && decide (c.list.size + d.tableLen c ≤ c.got) then
      (if c.e.opc = 0x24 then d.dropNewObj q c.e.volume else d).finish t q tag 0x1005
    else d

/-- The read requests for the descriptors of a list, as far as `n` bytes. -/
def readReqs : List (Nat × Nat) → Nat → List HostMsg
  | [], _ => []
  | (a, k) :: l, n => if n = 0 then [] else .readReq a (min n k) :: readReqs l (n - min n k)

/-- A started WRITE or APPEND asks for its data: the buffer at DPTR, or what its list covers once that has been read (R264). -/
def Dev.askData (d : Dev) (t q tag : Nat) : Dev :=
  match d.cmd? q tag with
  | none => d
  | some c =>
    if !c.started ∨ c.dataLen = 0 then d
    else if !c.e.sgl then d.send (.readReq c.e.dptr c.dataLen)
    else if c.list.ended then
      { d with hostOut := d.hostOut ++ readReqs c.list.desc c.dataLen }.listShort t q tag
    else d

/-- WRITE starts once it holds its lock (R272, R278): the device reads its data from host memory. -/
def Dev.startWrite (d : Dev) (t q tag : Nat) : Dev :=
  match d.cmd? q tag with
  | none => d
  | some c =>
    if c.e.opc = 0x21 ∧ c.granted ∧ !c.started then
      ((d.modCmd q tag fun c => { c with started := true }).notIdle).askData t q tag
    else d

/-! ## Arming (R211, R218, R222) -/

/-- A rewrite waits for the head: it goes before any other write queued there (R223). -/
def Dev.rewriteDue (d : Dev) (h : HeadId) : Bool :=
  d.data.writes.any fun w => w.head == h && w.state == .staged && w.stuck.isNone && w.again

/-- A row of a chain has been closed, so that its members may be written (R237). Sectors of no gathered row may be. -/
def Dev.rowOpenFor (d : Dev) (w : WriteJob) : Bool :=
  w.chain == 0xFF ||
    match (d.chain (chainOf w.chain)).rows.find? fun r => r.parts.contains (w.member, w.id) with
    | some r => r.closed && r.made
    | none => true

/-- The turn of a sector among the host writes and the reallocations of its surface (R226): a reallocation waits for them, but goes before them
once a revolution of a writing head has passed without one. -/
def Dev.turnOf (d : Dev) (w : WriteJob) : Bool :=
  let waits (b : Bool) : Bool := d.data.writes.any fun y => y.surf == w.surf && y.state == .staged && !y.cancelled && !y.lost
    && y.stuck.isNone && y.kind != 0x10 && y.kind != 0x11 && y.background == b && d.rowOpenFor y
  let turn := (d.surf w.surf).reallocTurn
  w.kind == 0x10 || w.kind == 0x11 || w.again || (if w.background then turn || !waits false else !(turn && waits true))

/-- The head that writes remap sectors and format records of a surface (R55, R225). -/
def Dev.systemHead (d : Dev) (s : SurfId) : HeadId :=
  match surfHeads s with
  | a :: b :: _ => if d.inService a then a else b
  | _ => headOf (surfSpin s) 0

/-- The conditions that bear on the sector and the spot. -/
def Dev.mayArmJob (d : Dev) (h : HeadId) (s : SpotId) (w : WriteJob) : Bool :=
  w.state == .staged && w.surf == surfOf h && !w.cancelled && !w.lost && w.stuck.isNone && (d.jobAt h s).isNone
    && d.rowOpenFor w && (w.kind == 0x11 || (d.surf w.surf).mount == .mounted)
    && (w.again || !d.rewriteDue h) && d.turnOf w && (!w.resync || (d.head h).motion.shareTurn)
    && (if w.kind = 0x10 ∨ w.kind = 0x11 then h == d.systemHead w.surf else (d.head h).keep.writeHalf)

/-- Relocation space (R270) and its frontier after a stripe. -/
def nextFrontier (psa : Nat) : Nat :=
  if psaStripe psa < 277759 then psa + 4 else psaOf (psaLayer psa + 1) 270000 (psa % 4)

/-- The frontier of a spot lies beyond the last layer. -/
def frontierEnd (psa : Nat) : Bool := decide (2 ^ 26 ≤ psa)

/-- The frontier of a spot (R222); before any relocation it is the first relocation stripe of layer 0. -/
def Surface.frontierAt (s : Surface) (spot : Nat) : Nat :=
  let f := s.frontier.getD spot 0
  if f < 4 then psaOf 0 270000 spot else f

/-- The next append stripe of a stream volume on a spot (R223): the first PSA of the home sequence on that spot, from the
append position on, that is not written; a sector whose home it was takes another in its turn (log entry 17). -/
def Dev.appendPsa (d : Dev) (v : Volume) (w : WriteJob) (spot : Nat) : Option Nat :=
  let from_ := v.appSector / d.volK v
  ((List.range v.seqLen).filterMap fun r =>
    if decide (from_ ≤ r) && r % 4 == spot then (homeIn v.ranges r).map (·.2) else none).find? fun p =>
      !(d.surf w.surf).written.contains p && decide (p ≠ w.home)

/-- The target that a sector would take on a spot of a head: fixed, or the append stripe, or the first relocation stripe at or
after the frontier that the head can reach (R222, R223). -/
def Dev.targetFor (d : Dev) (h : HeadId) (s : SpotId) (w : WriteJob) : Option Nat :=
  let append := if d.appends w then d.volume? w.volume else none
  if w.reason = 0 then (if w.target % 4 = s.val then some w.target else none)
  else
    match append with
    | some v => if w.home % 4 = s.val then d.appendPsa v w s else none
    | none =>
      let f := (d.surf w.surf).frontierAt s
      -- a rewrite stays on its spot
      if frontierEnd f ∨ (w.again ∧ s ≠ w.spot) then none
      else
        let here := getF d .MO_ADDR_STRIPE h + 1
        some (if getF d .MO_ADDR_LAYER h = psaLayer f ∧ psaStripe f < here ∧ here ≤ 277759 then psaOf (psaLayer f) here s else f)

/-- A target in relocation space. -/
def inReloc (psa : Nat) : Bool := decide (270000 ≤ psaStripe psa) && decide (psaStripe psa ≤ 277759)

/-- The head that a write takes: its own for a rewrite; for a target in relocation space the head of the surface whose band lies
nearer the stripe, the even one on a tie (R222, R223). -/
def Dev.headTakes (d : Dev) (h : HeadId) (w : WriteJob) (p : Nat) : Bool :=
  if w.again ∧ d.inService w.head then w.head == h
  else if w.reason ≠ 0 ∧ inReloc p then d.pickHead w.surf (psaLayer p) (psaStripe p) == some h
  else true

/-- The sectors of an arming request that may be armed, with the targets they would take. -/
def Dev.armList (d : Dev) (h : HeadId) (jobs : List (SpotId × Nat)) : List (SpotId × WriteJob × Nat) :=
  jobs.filterMap fun x =>
    match d.write? x.2 with
    | none => none
    | some w =>
      if d.mayArmJob h x.1 w then
        match d.targetFor h x.1 w with
        | none => none
        | some p => if d.headTakes h w p then some (x.1, w, p) else none
      else none

/-- The stripe that a request arms for: that of a sector whose target is fixed, else the latest of the relocation stripes. -/
def armStripe (l : List (SpotId × WriteJob × Nat)) : Option Nat :=
  match l.find? fun x => !inReloc x.2.2 || x.2.1.reason == 0 with
  | some x => some (x.2.2 / 4)
  | none => (l.map fun x => x.2.2 / 4).max?

/-- FC_RELOC_NEXT of both heads of a surface shows where its frontiers have been put (R222, R230). -/
def Dev.showFrontier (d : Dev) (s : SurfId) : Dev :=
  (surfHeads s).foldl (fun d (h : HeadId) => (List.range 4).foldl (fun d k =>
    setF d .FC_RELOC_NEXT_FRONTIER (h.val * 4 + k) ((d.surf s).frontierAt k)) d) d

/-- Arming one sector (R209, R218, R222, R223): its target and SEQ are fixed, the frontier moves on, the PSA counts as armed. -/
def Dev.armOne (d : Dev) (h : HeadId) (s : SpotId) (w : WriteJob) (target bank : Nat) : Dev :=
  let moved := inReloc target && w.reason != 0
  let sf := d.surf w.surf
  let f := sf.frontierAt s
  let seq := if w.reason = 0 then 0 else if w.seq = 0 then sf.nextSeq else w.seq
  let d := if moved ∧ psaLayer f = psaLayer target then
      incF d .FC_WR_STAT_SKIPPED h (psaStripe target - psaStripe f) else d
  let d := d.modSurf w.surf fun x => { x with
    nextSeq := if w.reason ≠ 0 ∧ w.seq = 0 then x.nextSeq + 1 else x.nextSeq
    frontier := if moved then (List.range 4).map fun k => if k = s.val then nextFrontier target else x.frontierAt k else x.frontier
    reallocTurn := x.reallocTurn && !w.background
    written := x.written ++ [target] }
  let d := if moved then d.showFrontier w.surf else d
  let d := d.modWrite w.id fun w => { w with
    state := .armed, head := h, spot := s, target, seq
    flags := w.flags % 2 + reasonFlags w.reason
    sent := 0, bank, begun := false, pass := none, readBack := none
    gateSeen := false, gateLost := false, bad := false, under := false, tempWait := 0 }
  d.modDown h fun x => { x with
    wLayer := psaLayer target, wStripe := psaStripe target, armReq := Nat.lor x.armReq (2 ^ s.val), armEpoch := x.epoch, bank }

/-- WRITE_ARM (R211, R218, R144, R146): the sectors of the request that may be armed and share its stripe are armed on their
spots of the head. -/
def Dev.writeArm (d : Dev) (h : HeadId) (jobs : List (SpotId × Nat)) : Dev :=
  if !d.headMayWrite h then d
  else
    let l := d.armList h jobs
    match armStripe l with
    | none => d
    | some st =>
      let layer := psaLayer (4 * st)
      if d.layerLimited h layer then d
      else if decide ((d.writingHeads.contains h) ∧ ((d.head h).down.wLayer ≠ layer ∨ (d.head h).down.wStripe ≠ psaStripe (4 * st))
          ∧ (d.head h).down.armReq ≠ 0) then d
      else if !rateOk (stripeRadius layer (psaStripe (4 * st))) (getF d .TQ_STAT_SPEED (spinOf h)) then d
      -- a stripe that the head is on or has passed cannot be armed in time
      else if (d.untilStripe h layer (psaStripe (4 * st))).any fun k => decide (k < 0) then d
      else
        match d.bankFor h layer with
        | none => d
        | some bank =>
          let d := d.modMotion h fun m => { m with placeW := true }
          l.foldl (fun d x =>
            let target := 4 * st + x.1.val
            if (x.2.2 = target ∨ (x.2.1.reason ≠ 0 ∧ inReloc x.2.2 ∧ x.2.2 < target ∧ psaLayer x.2.2 = layer))
                ∧ !(d.surf (surfOf h)).written.contains target ∧ (d.jobAt h x.1).isNone
            then d.armOne h x.1 x.2.1 target bank else d) d

/-! ## Gates (R219 to R221) -/

/-- W_STOP for spots of a head (R145, R219, R220): a sector being written is spoilt, an armed one will not start. -/
def Dev.stopSpots (d : Dev) (h : HeadId) (which : WriteJob → Bool) : Dev :=
  (d.data.writes.filter fun w => w.live && w.head == h && which w).foldl (fun d w =>
    (d.modWrite w.id fun w => { w with bad := w.bad || w.state == .writing }).modDown h fun x => { x with
      wStop := Nat.lor x.wStop (2 ^ w.spot.val), wArm := Nat.land x.wArm (15 - 2 ^ w.spot.val)
      armReq := Nat.land x.armReq (15 - 2 ^ w.spot.val) }) d

/-- W_STOP for every armed or writing spot of a head. -/
def Dev.stopHead (d : Dev) (h : HeadId) : Dev := d.stopSpots h fun _ => true

/-- What a frame shows of the gate of an armed sector (R221). `now`: the stripe that starts in the frame's interval; `on_`: the stripe under
the head, while the frame's Tick mark lies before its sectors' end. Before the stripe start only an open gate counts; the first mark
after it decides whether the sector has started; from there to the sector's end the gate must stay open and no flag be set. -/
def WriteJob.frame (w : WriteJob) (f : HeadFlags) (now on_ : Option (Nat × Nat)) : WriteJob :=
  let mine (x : Option (Nat × Nat)) : Bool := x == some (psaLayer w.target, psaStripe w.target)
  let on := bit f.wg w.spot
  let under := bit f.underrun w.spot
  let w := { w with state := if on then .writing else w.state }
  if mine now || (mine on_ && !w.begun) then
    { w with
      begun := true, gateSeen := w.gateSeen || on, gateLost := w.gateLost || (w.gateSeen && !on)
      bad := w.bad || f.guardTrip || f.cmdHeld || (on && (under || f.wdBad)), under := w.under || (on && under) }
  else if mine on_ then
    if w.gateSeen then
      { w with gateLost := w.gateLost || !on, bad := w.bad || under || f.wdBad || f.cmdHeld || f.guardTrip, under := w.under || under }
    else w
  else if on && !w.begun then { w with gateSeen := true, gateLost := true }
  else w

/-- What an upstream frame shows of a head's gates (R221). -/
def Dev.gateFrame (d : Dev) (h : HeadId) (f : HeadFlags) (now on_ : Option (Nat × Nat)) : Dev :=
  d.modData fun x => { x with writes := x.writes.map fun w => if w.live ∧ w.head = h then w.frame f now on_ else w }

/-! ## Remap records (R56 to R58, R223 to R225) -/

/-- The record of a sector. -/
def WriteJob.record (w : WriteJob) : RemapRec := ⟨w.home, w.reason, w.target, w.volume, w.epoch, w.logical, w.seq⟩

/-- A void record (R56). -/
def voidRec : RemapRec := ⟨0, 0, 0, 0, 0, 0, 0⟩

/-- The 32 bytes of a record (R56). -/
def RemapRec.bytes (r : RemapRec) : List Byte :=
  let b := bytesLE 4 (r.home + r.reason * 2 ^ 28) ++ bytesLE 4 r.target ++ bytesLE 1 r.volume ++ zeros 3 ++ bytesLE 4 r.epoch
    ++ bytesLE 8 r.logical ++ bytesLE 4 r.seq
  b ++ bytesLE 4 (crc32c b)

/-- Inserting a record by SEQ. -/
def insRec (r : RemapRec) : List RemapRec → List RemapRec
  | [] => [r]
  | x :: l => if x.seq ≤ r.seq then x :: insRec r l else r :: x :: l

/-- A group of records that stay together enters the open remap sector in SEQ order; where it does not fit, void records fill
the sector and the group begins the next (R224, R241). -/
def placeGroup (openRecs grp : List RemapRec) : List RemapRec :=
  let g := grp.foldl (fun a r => insRec r a) []
  let room := 2048 - openRecs.length % 2048
  if g.length ≤ room ∨ room = 2048 then openRecs ++ g else openRecs ++ List.replicate room voidRec ++ g

/-- The records of complete sectors of a surface enter the mirror and the open remap sector, each with the markers of its home
that were held back (R224). -/
def Surface.addRecords (s : Surface) (rs : List RemapRec) : Surface :=
  let mine (m : RemapRec) := rs.any fun r => r.home == m.home && decide (m.seq < r.seq)
  let grp := s.markers.filter mine ++ rs
  grp.foldl Surface.enter { s with openRecs := placeGroup s.openRecs grp, markers := s.markers.filter fun m => !mine m }

/-- A sector that needs no more: one with a SEQ stays until its record is durable, any other goes (R228). -/
def Dev.settleJob (d : Dev) (w : WriteJob) : Dev :=
  if w.seq = 0 then d.dropWrite w.id
  else ((d.pin w.surf w.home).modWrite w.id fun w => { w with state := .verified }).modSurf w.surf fun s => s.addRecords [w.record]

/-- Every sector of a chain row is complete, and verified where that is owed: the row is complete (R239), its records enter
(R241). -/
def Dev.rowSettled (d : Dev) (c : Nat) (r : ChainRow) : Dev :=
  let ws := r.parts.filterMap fun x => d.write? x.2
  let d := ws.foldl (fun d w => d.settleJob w) d
  d.modChain (chainOf c) fun x => { x with
    rows := x.rows.filter (· != r)
    complete := x.complete.filter (·.1 != r.psa) ++ [(r.psa, r.epoch)]
    epochs := if r.epoch = 1 then x.epochs
      else x.epochs.filter (fun e => !(e.1 == r.psa && r.touched.contains e.2.1)) ++ r.touched.map fun j => (r.psa, j, r.epoch) }

/-- Verification of a sector is due (R227): always for remap sectors and format records; else by VERIFY, and not during a forced eject
(R433). -/
def Dev.verifyDue (d : Dev) (w : WriteJob) : Bool :=
  let v := getF d .FC_WR_CFG_VERIFY w.head
  w.kind == 0x10 || w.kind == 0x11 || ((v == 2 || (v == 1 && w.waited)) && !(d.spin (spinOf w.head)).torc.forced)

/-- Bytes of a format record (R53). -/
def formatRecord (discId side gen node time remapNext : Nat) : List Byte :=
  let b := bytesLE 4 formatId ++ bytesLE 16 discId ++ bytesLE 1 side ++ bytesLE 1 gen ++ bytesLE 2 node ++ bytesLE 8 time
    ++ bytesLE 4 277760 ++ bytesLE 4 remapNext ++ zeros 16
  b ++ bytesLE 8 (crc64 b) ++ zeros 65472

/-- The four sectors of a format attempt (R53, R55). -/
def Dev.formatJobs (d : Dev) (c : Cmd) (s : SurfId) (gen : Nat) (data : List Byte) : Dev :=
  (List.range 4).foldl (fun d spot =>
    (d.addWrite {
      id := 0, owner := some (0, c.e.tag), surf := s, head := d.systemHead s, home := psaOf 0 (0xF04F0 + gen) spot,
      target := psaOf 0 (0xF04F0 + gen) spot, kind := 0x11, volume := 0, flags := 0, epoch := 0, logical := 0, time := c.time,
      chain := 0xFF, member := 0xFF, seq := 0, reason := 0, data, gen, order := c.order }).1) d

/-- The surface of FORMAT_SURFACE's ARG. -/
def Entry.argSurf (e : Entry) : SurfId := ⟨bits e.arg 5 0 % 64, by omega⟩

/-- The PSA of copy A or B of a remap sector of a block (R57). -/
def remapPsa (block sector : Nat) (copyB : Bool) : Nat :=
  psaOf (block / 249) (0xF0500 + 16 * (block % 249) + (if copyB then 8 else 0) + sector / 4) (sector % 4)

/-- The first remap block of a surface not yet used: a block is in use from the writing of its first copy A on (R53, R57). -/
def Dev.blocksUsed (d : Dev) (s : SurfId) : Nat :=
  let sf := d.surf s
  if sf.sector ≠ 0 ∨ sf.written.contains (remapPsa sf.block 0 false)
      ∨ d.data.writes.any (fun w => w.kind == 0x10 && w.surf == s && (w.copyB || w.live || w.state == .complete)) then sf.block + 1
  else sf.block

/-- The next attempt of a FORMAT_SURFACE: DISC_ID stays (R55). -/
def Dev.formatTry (d : Dev) (c : Cmd) (gen discId : Nat) : Dev :=
  let s := c.e.argSurf
  let next := d.blocksUsed s
  (d.modCmd 0 c.e.tag fun c => { c with gen, tries := c.tries + 1, result := some (discId, 0, 0) }).formatJobs c s gen
    (formatRecord discId (s.val % 2) gen d.node c.time next)

/-- A copy of a format record has ended, verified or not (R55): when all four have, the surface mounts, or a further attempt is
made, or the command fails. -/
def Dev.formatEnd (d : Dev) (t id : Nat) (ok : Bool) : Dev :=
  match d.write? id with
  | none => d
  | some w =>
    let d := d.modWrite id fun w => { w with state := .verified, lost := !ok }
    let all := d.data.writes.filter fun x => x.kind == 0x11 && x.surf == w.surf
    if all.any (·.state != .verified) then d
    else
      let good := all.any fun x => !x.lost
      let d := (d.modData fun x => { x with writes := x.writes.filter fun x => !(x.kind == 0x11 && x.surf == w.surf) }).modSurf
        w.surf fun x => { x with genNext := max x.genNext (w.gen + 1) }
      match d.clasp.cmds.find? fun c => c.qid == 0 && c.e.opc == 0x0C && c.e.argSurf == w.surf && c.started with
      | none => d
      | some c =>
        let discId := (c.result.map (·.1)).getD 0
        if good then
          (d.modSurf w.surf fun x => { x with mount := .mounted, generation := w.gen, discId }).complete t c 0 0
        else if getF d .FC_WR_CFG_FUA_TRIES (d.systemHead w.surf) ≤ c.tries then d.complete t c 0x2010 0
        else if 15 ≤ w.gen then d.complete t c 0x200A 0
        else d.formatTry c (w.gen + 1) discId

/-- Sectors rewritten together for one row of a chain: their records become durable together (R241). -/
def WriteJob.mates (a b : WriteJob) : Bool :=
  a.chain != 0xFF && a.chain == b.chain && a.home == b.home && a.epoch == b.epoch && a.reason == 1 && b.reason == 1

/-- The records of a remap sector are on the medium (R58): the sectors they place need no more, those of a row once the records of all its
members are there (R241). -/
def Dev.madeDurable (d : Dev) (t : Nat) (w : WriteJob) : Dev :=
  let seqs := (w.records.filter fun r => r.reason != 0).map (·.seq)
  let mark (y : WriteJob) : WriteJob :=
    if y.surf = w.surf ∧ y.state = .verified ∧ y.seq ≠ 0 ∧ seqs.contains y.seq then { y with recorded := true } else y
  ((d.modSurf w.surf fun s => { s with durable := s.durable + seqs.length }).modData fun x =>
    let ws := x.writes.map mark
    { x with writes := ws.filter fun y => !(y.recorded && ws.all fun z => !y.mates z || z.recorded) }).checkWaits t

/-- The sector that copies A and B go to next (R57). -/
def Surface.nextRemap (s : Surface) : Surface :=
  if s.sector < 31 then { s with sector := s.sector + 1 } else { s with sector := 0, block := s.block + 1 }

/-- The remap area of a surface is full once the last block is used up (R62): SY_REMAP_FULL once. -/
def Dev.remapFullCheck (d : Dev) (t : Nat) (s : SurfId) : Dev :=
  let sf := d.surf s
  if 3984 ≤ sf.block ∧ !sf.remapFull then
    (d.event t .SY_REMAP_FULL 0 [surfSpin s, s.val % 2]).modSurf s fun x => { x with remapFull := true }
  else d

/-- A copy of a remap sector has passed verification (R58, R225): after copy A, copy B follows. -/
def Dev.remapVerified (d : Dev) (t : Nat) (w : WriteJob) : Dev :=
  let d := d.dropWrite w.id
  if w.copyB then (d.modSurf w.surf Surface.nextRemap).remapFullCheck t w.surf
  else
    let b := remapPsa (d.surf w.surf).block (d.surf w.surf).sector true
    (((d.addWrite { w with state := .staged, copyB := true, home := b, target := b }).1).madeDurable t w)

/-- A copy of a remap sector has been abandoned or has failed verification (R57, R225): its block is given up, and its records
go into the next remap sector, together as they were (R224). -/
def Dev.remapAbandoned (d : Dev) (t : Nat) (w : WriteJob) : Dev :=
  ((d.dropWrite w.id).modSurf w.surf fun s => { s with
    openRecs := w.records ++ List.replicate (2048 - w.records.length) voidRec ++ s.openRecs, block := s.block + 1, sector := 0 }).remapFullCheck t w.surf

/-- A sector of a member that is being brought back is complete: its row leaves the degraded-row list for that member, and the
rebuild moves on (R249). -/
def Dev.rowRebuilt (d : Dev) (c psa j : Nat) : Dev :=
  if (d.chain (chainOf c)).rebuilding = some j then
    let d := d.modChain (chainOf c) fun x => { x with
      degraded := (x.degraded.map fun y => if y.1 = psa then (y.1, y.2 - y.2 / 2 ^ j % 2 * 2 ^ j) else y).filter (·.2 != 0) }
    setF (setF d .CH_CHAIN_W0_DEGRADED c (d.chain (chainOf c)).degraded.length) .CH_CHAIN_W5_REB_NEXT c (psa + 1)
  else d

/-- A sector is complete and verified where that is owed (R224, R239). -/
def Dev.settle (d : Dev) (t id : Nat) : Dev :=
  match d.write? id with
  | none => d
  | some w =>
    if w.kind = 0x11 then d.formatEnd t id true
    else if w.kind = 0x10 then d.remapVerified t w
    else
      let d := d.modWrite id fun w => { w with state := .verified }
      if w.chain = 0xFF then (d.settleJob w).checkWaits t
      else
        match (d.chain (chainOf w.chain)).rows.find? fun r => r.parts.contains (w.member, id) with
        | none => ((d.settleJob w).rowRebuilt w.chain w.home w.member).checkWaits t
        | some r =>
          if r.made && r.parts.all fun x => (d.write? x.2).any fun w => w.state == .verified then
            (d.rowSettled w.chain r).checkWaits t
          else d

/-- A sector is complete under R221; where its verification is due the head goes back for it once its gates are closed (R227). -/
def Dev.sectorDone (d : Dev) (t : Nat) (w : WriteJob) : Dev :=
  let d := d.modWrite w.id fun w => { w with state := .complete, abandons := 0 }
  let d := d.modCal w.head fun x => { x with wroteLayers := x.wroteLayers.filter (· != psaLayer w.target) ++ [psaLayer w.target] }
  let d := { d with mem := { d.mem with lost := d.mem.lost.filter fun x => x != (w.volume, w.logical) } }
  let d := match w.owner with
    | some (q, tag) => d.modCmd q tag fun c => { c with committed := c.committed + 1 }
    | none => d
  if d.verifyDue w then (if d.data.writes.any fun y => y.live && y.head == w.head then d else d.seekBack w.head w.target) else d.settle t w.id

/-- A sector has been abandoned, or has failed verification (R223, R224, R226): its rewrite waits, before other writes of its
head; a SEQ it carried becomes a marker. -/
def Dev.abandonSector (d : Dev) (t : Nat) (w : WriteJob) : Dev :=
  if w.kind = 0x11 then d.formatEnd t w.id false
  else if w.kind = 0x10 then d.remapAbandoned t w
  else if w.cancelled then d.dropWrite w.id
  else
    let d := if w.seq = 0 then d
      else d.modSurf w.surf fun s => { s with markers := s.markers ++ [{ w.record with reason := 4 }] }
    let n := w.abandons + 1
    let stuck := decide (getF d .FC_WR_CFG_ABANDON_MAX w.head ≤ n)
    let d := d.modWrite w.id fun w => { w with
      state := .staged, abandons := n, seq := 0, target := 0, reason := if w.reason = 0 then 4 else w.reason
      stuck := if stuck then some 0 else none }
    (if stuck then (d.eventIf (w.abandons < getF d .FC_WR_CFG_ABANDON_MAX w.head) t .FC_WRITE_STUCK w.head []).failWaits t w.id 0x2011
     else d).relocFail t w.surf

/-- A sector that did not start (R221): its PSA stays unwritten and may be armed again. A cancelled one is dropped; a SEQ that
was the last assigned is given back (log entry 18). -/
def Dev.notStarted (d : Dev) (w : WriteJob) : Dev :=
  let d := d.modSurf w.surf fun s => { s with
    written := s.written.filter (· != w.target)
    nextSeq := if w.cancelled ∧ w.seq ≠ 0 ∧ w.seq + 1 = s.nextSeq then w.seq else s.nextSeq }
  if w.cancelled then d.dropWrite w.id
  else
    (if w.reason = 0 then d else incF d .FC_WR_STAT_SKIPPED w.head).modWrite w.id fun w => { w with state := .staged }

/-- WRITE_SECTOR_END (R221): the sector of a spot is classified. -/
def Dev.writeSectorEnd (d : Dev) (t : Nat) (h : HeadId) (s : SpotId) : Dev :=
  match d.jobAt h s with
  | none => d
  | some w =>
    let d := d.modDown h fun x => { x with wArm := Nat.land x.wArm (15 - 2 ^ s.val), armReq := Nat.land x.armReq (15 - 2 ^ s.val) }
    if !w.gateSeen ∧ !w.bad then d.notStarted w
    else if w.gateSeen ∧ !w.gateLost ∧ !w.bad then d.sectorDone t w
    else
      let d := incF d .FC_WR_STAT_ABANDONED h
      (if w.under then incF d .FC_WR_STAT_UNDERRUN h else d).abandonSector t w

/-! ## Remap sectors (R57, R58, R62, R225) -/

/-- A record that is not yet on the medium is needed there: a FLUSH or FUA needs it (R58), that of a sector it waits for or of another member of
such a sector's row, or the record of another member of its row is there already (R241). -/
def Dev.recordNeeded (d : Dev) (s : SurfId) : Bool :=
  (d.data.writes.any fun y => y.surf == s && y.state == .verified && y.seq != 0 && !y.recorded &&
    d.data.writes.any fun z => z.recorded && y.mates z) || d.clasp.cmds.any fun c => c.waiting && c.waits.any fun i =>
    match d.write? i with
    | none => false
    | some w => w.state == .verified && d.data.writes.any fun y =>
        y.surf == s && y.state == .verified && y.seq != 0 && !y.recorded && (y.id == i || (w.chain != 0xFF && y.chain == w.chain && y.home == w.home))

/-- The other surface of a disc. -/
def otherSide (s : SurfId) : SurfId := ⟨s.val / 2 * 2 + (1 - s.val % 2), by omega⟩

/-- REMAP_SECTOR_WRITE (R58, R62, R225): a full remap sector, or the one that a FLUSH or FUA needs with void records for its
unfilled part, is queued as copy A, and the blocks used are an ageing sample (R359). The manual gives its sector no placement epoch, no
logical address and no write command: epoch 0, LOGICAL 0 and the library time of queueing are a DESIGN CHOICE (log entry 19). -/
def Dev.remapWrite (d : Dev) (t : Nat) (s : SurfId) : Dev :=
  let sf := d.surf s
  if sf.mount = .mounted ∧ (2048 ≤ sf.openRecs.length ∨ (!sf.openRecs.isEmpty ∧ d.recordNeeded s))
      ∧ !d.data.writes.any (fun w => w.kind == 0x10 && w.surf == s) then
    if 3984 ≤ sf.block then d.remapFullCheck t s
    else
      let rs := sf.openRecs.take 2048
      let rs := rs ++ List.replicate (2048 - rs.length) voidRec
      let a := remapPsa sf.block sf.sector false
      let used := max (sf.block + 1) (d.blocksUsed (otherSide s))
      (((d.sample t (.spindle (surfSpin s)) 3 used).addWrite {
        id := 0, owner := none, surf := s, head := d.systemHead s, home := a, target := a, kind := 0x10, volume := 0,
        flags := 0, epoch := 0, logical := 0, time := d.libNow t, chain := 0xFF, member := 0xFF, seq := 0, reason := 0,
        data := rs.flatMap RemapRec.bytes, records := rs.filter (·.reason != 0), waited := true }).1).modSurf s fun x => { x with
          openRecs := x.openRecs.drop 2048 }
  else d

/-! ## Verification (R227) -/

/-- The verdict on the last sector of a spot's lane against the write it should hold (R227): sync within 2, every codeword
within VFY_ITER iterations, rows 1 to 5 of R197 with the fields of the write, no own span above VFY_SPAN. -/
def Dev.verifyPass (d : Dev) (w : WriteJob) (l : Lane) : Bool :=
  match l.found with
  | none => false
  | some F =>
    let body := demodBody w.target ((l.ls.drop (F + 48)).take 665856)
    let limit := getF d .FC_WR_CFG_VFY_ITER w.head
    let dec (k : Nat) := (ldpcDecode (if k = 0 then headerKnown (wordValues 0 body) else wordValues k body) limit).info
    let words := (List.range 17).map dec
    let data := (words.drop 1).flatMap fun x => x.getD []
    decide ((if F ≤ 512 then 512 - F else F - 512) ≤ 2) && words.all (·.isSome)
      && decide (l.longest ≤ 4 * getF d .FC_WR_CFG_VFY_SPAN w.head)
      && (match words.headD none with
          | none => false
          | some b =>
            let hd := Header.parse b
            hdrCrcOk b && leAt b 0 4 == formatId && leAt b 4 4 == w.target && hd.kind == w.kind && hd.volume == w.volume
              && hd.logical == w.logical && hd.epoch == w.epoch && leAt b 40 8 == crc64 data)

/-- VERIFY_READ (R227): the head that has read the sector back since it was written judges it. A read that has not taken place changes
nothing. -/
def Dev.verifyRead (d : Dev) (t id : Nat) : Dev :=
  match d.write? id with
  | none => d
  | some w =>
    if w.state ≠ .complete then d
    else
      match w.readBack.filter fun h => (d.head h).facet.past == some (psaLayer w.target, psaStripe w.target) with
      | none => d
      | some h =>
        let d := d.modWrite id fun w => { w with pass := none, readBack := none }
        if d.verifyPass w ((d.head h).facet.lanes[psaSpot w.target]) then
          (d.modWrite id fun w => { w with vfails := 0 }).settle t id
        else
          let d := (incF d .FC_WR_STAT_VFY_FAIL h).event t .FC_VERIFY_FAIL h []
          let n := w.vfails + 1
          let d := d.modWrite id fun w => { w with vfails := n }
          let d := match w.owner with
            | some (q, tag) => d.modCmd q tag fun c => { c with committed := c.committed - 1 }
            | none => d
          let d := d.abandonSector t { w with vfails := n, pass := none, readBack := none }
          if getF d .FC_WR_CFG_FUA_TRIES h ≤ n then d.failWaits t id 0x2010 else d

/-! ## Waits and retries -/

/-- WTEMP_WAIT_EXPIRY (R218, R229, R375): a write kept waiting for WTEMP_WAIT by temperature or the throttle step ends the
commands that wait for it. -/
def Dev.wtempExpiry (d : Dev) (t id : Nat) : Dev :=
  match d.write? id with
  | none => d
  | some w =>
    if w.state = .staged ∧ 400 * getF d .FC_WR_TEMP_WTEMP_WAIT 0 ≤ w.tempWait then
      let src := getF d .TH_STAT_SRC 0
      let st := if !d.headWarm w.head then 0x5011 else if !d.dieCool then 0x5012
        else if 16 ≤ src ∧ src < 176 then 0x5011 else 0x5012
      (d.modWrite id fun w => { w with tempWait := 0 }).failWaits t id st
    else d

/-- REALLOCATION_WRITE (R203, R226): the recovered sector of a read is queued for a new place; refused under R62. -/
def Dev.reallocWrite (d : Dev) (t id : Nat) : Dev :=
  match d.read? id with
  | none => d
  | some r =>
    if !r.realloc then d
    else if (d.surf r.surf).remapFull then (d.dropRead id).event t .FC_REALLOC_FAIL r.head [r.psa]
    else
      (((d.dropRead id).addWrite {
        id := 0, owner := none, surf := r.surf, head := r.head, home := r.home, target := 0,
        kind := (r.header.map fun b => (Header.parse b).kind).getD (r.kinds.headD 1), volume := r.volume,
        flags := 2 + (r.header.map fun b => (Header.parse b).flags % 2).getD 0, epoch := r.epoch, logical := r.logical,
        time := (r.header.map fun b => (Header.parse b).time).getD 0, chain := r.chain, member := r.member, seq := 0,
        reason := 2, data := r.data, row := r.row, order := d.clasp.nextOrder }).1)

/-- WRITE_STUCK_RETRY (R226): after 400 M-ticks a stuck sector may be armed once more. -/
def Dev.stuckRetry (d : Dev) (id : Nat) : Dev :=
  d.modWrite id fun w => match w.stuck with
    | some a => if 400 ≤ a then { w with stuck := none } else w
    | none => w

/-- The ages of waiting sectors at an M-tick (R218, R226). -/
def Dev.ageWrites (d : Dev) : Dev :=
  d.modData fun x => { x with writes := x.writes.map fun w =>
    let w := { w with stuck := w.stuck.map (· + 1) }
    if w.state = .staged ∧ (!d.headWarm w.head || !d.dieCool || !d.mayWritePlace w.head) then { w with tempWait := w.tempWait + 1 }
    else { w with tempWait := 0 } }

/-- FC_RELOC_FULL (R222): when no spot of a surface has relocation space left, the event is raised once; every write that needs relocation
there, then or later, ends. -/
def Dev.relocCheck (d : Dev) (t : Nat) (s : SurfId) : Dev :=
  let sf := d.surf s
  if !sf.relocFull && (List.range 4).all fun k => frontierEnd (sf.frontierAt k) then
    ((d.event t .FC_RELOC_FULL (d.systemHead s) []).modSurf s fun x => { x with relocFull := true }).relocFail t s
  else d

/-! ## FLUSH (R228, R240, R284, R310) -/

/-- The tail sector of a stream volume is written with zeros after its last byte, and the append position moves to the next
sector (R310); a tail that its surface refuses stays. The device, the status of the sector and the number of its job, 0 for none. -/
def Dev.padTail (d : Dev) (owner : Option (Nat × Nat)) (fua : Bool) (order time : Nat) (vol : Nat) : Dev × Nat × Nat :=
  match d.volume? vol with
  | none => (d, 0, 0)
  | some v =>
    if v.tail.isEmpty then (d, 0, 0)
    else
      let r := d.stageSector owner fua order time v v.appSector v.tailComp (v.tail ++ zeros (sectorBytes - v.tail.length))
      if r.2.1 ≠ 0 then (d, r.2.1, 0)
      else
        (r.1.modVolume vol fun v => { v with appSector := v.appSector + 1, appByte := 0, tail := [], tailComp := false, tailAge := 0 }, 0, r.2.2)

/-- A command needs the tail of a volume (R310): the status of a refused one is the command's. -/
def Dev.needTail (d : Dev) (c : Cmd) (vol : Nat) : Dev × Nat :=
  let r := d.padTail (some (c.qid, c.e.tag)) true c.order c.time vol
  (r.1.modCmd c.qid c.e.tag fun c => { c with recs := if r.2.1 = 0 then c.recs else c.recs ++ [⟨0, r.2.1, 0⟩] }, r.2.2)

/-- FLUSH (R228, R240, R284): every write of its volume, or with ALL of the device, completed before it is to become durable;
partial rows and tails are padded. -/
def Dev.flush1 (d : Dev) (t q tag : Nat) : Dev :=
  match d.cmd? q tag with
  | none => d
  | some c =>
    if c.e.opc = 0x22 ∧ !c.started then
      let mine (v : Nat) : Bool := c.e.all || v == c.e.volume
      let d := ((d.clasp.volumes.filter fun v => mine v.id).map (·.id)).foldl (fun d v => (d.needTail c v).1) (d.notIdle)
      let sel (w : WriteJob) : Bool := mine w.volume && decide (w.order ≤ c.order) && !w.cancelled
        && (w.owner.isNone || w.owner == some (q, tag)) && (w.reason == 0 || w.reason == 1 || w.reason == 4)
        && w.kind != 0x10 && w.kind != 0x11
      let ids := (d.data.writes.filter sel).map (·.id)
      -- the rows with a sector staged before the admission (R240)
      let before (r : ChainRow) : Bool := mine r.volume && r.parts.any fun x => (d.write? x.2).any fun w => decide (w.order ≤ c.order)
      let d := d.modData fun x => { x with writes := x.writes.map fun w => if sel w then { w with waited := true } else w }
      let d := (List.finRange 16).foldl (fun d c => d.modChain c fun x => { x with
        rows := x.rows.map fun r => if before r then { r with needed := true } else r }) d
      (d.modCmd q tag fun c => { c with started := true, waiting := true, waits := ids }).checkWaits t
    else d

/-! ## Formatting and mounting (R53 to R55, R59, R60) -/

/-- A surface is used by a volume or a chain (R266). -/
def Dev.surfUsed (d : Dev) (s : SurfId) : Bool :=
  (d.memberOf s).isSome || d.clasp.volumes.any fun v => v.ranges.any fun r => !r.chained && r.surf == s

/-- FORMAT_SURFACE (R55, R266): it waits for a surface that has not been read at a mount; refused on a surface in use or with
generation 15; else the first attempt is queued, with the DISC_ID of R55, a free value where it comes from the random number
generator. -/
def Dev.formatSurface (d : Dev) (t tag : Nat) : Dev :=
  match d.admin? tag 0x0C with
  | none => d
  | some c =>
    if c.started then d
    else
      let s := c.e.argSurf
      let sf := d.surf s
      if sf.mount = .unmounted then d
      else if d.surfUsed s then d.complete t c 0x1008 0
      else if d.kept (surfSpin s) then d.complete t c 0x5002 0
      else if sf.mount = .noDisc then d.complete t c 0x2008 0
      else if 16 ≤ sf.genNext then d.complete t c 0x200A 0
      else
        let other := d.surf (otherSide s)
        let r : Nat × Dev := if sf.mount = .mounted ∨ sf.mount = .scanning then (sf.discId, d)
          else if other.mount = .mounted then (other.discId, d)
          else (d.drawNat.1 % 2 ^ 128, d.drawNat.2)
        (r.2.modCmd 0 tag fun c => { c with started := true }).formatTry c sf.genNext r.1

/-- The first missing SEQ of 1 to the highest, if one is missing (R60). -/
def seqGap (seqs : List Nat) : Option Nat :=
  (List.range ((seqs.foldl max 0) + 1)).find? fun n => n != 0 && !seqs.contains n

/-- The frontier after the targets in use (R222): for each spot the stripe after the highest relocation target. -/
def frontierFrom (targets : List Nat) : List Nat :=
  (List.range 4).map fun k => ((targets.filter fun p => inReloc p && p % 4 == k).map nextFrontier).foldl max 0

/-- A copy of a format record is readable (R53, R54): it completes under R197, its header holds the fields that R53 gives it, and its
record passes REC_CRC over bytes 0 to 55. -/
def formatOk (c : FormatRead) : Bool :=
  let b := c.header
  let h := Header.parse b
  decide (b.length = 64) && hdrCrcOk b && leAt b 0 4 == formatId && leAt b 4 4 == psaOf 0 (0xF04F0 + c.gen) c.spot && c.dataOk
    && h.kind == 0x11 && h.volume == 0 && h.flags == 0 && h.epoch == 0 && h.logical == 0 && h.chain == 0xFF && h.member == 0xFF
    && h.seq == 0 && leAt c.record 0 4 == formatId && leAt c.record 56 8 == crc64 (c.record.take 56)

/-- GENERATION, DISC_ID and REMAP_NEXT of the readable generation with the highest GENERATION among the copies read (R54). -/
def newestFormat (copies : List FormatRead) : Option (Nat × Nat × Nat) :=
  (copies.filter formatOk).foldl (fun best c =>
    let f := (leAt c.record 21 1, leAt c.record 4 16, leAt c.record 36 4)
    match best with
    | some b => if b.1 < f.1 then some f else some b
    | none => some f) none

/-- One above the highest generation whose stripe holds any written sector, readable or not (R55). -/
def nextGen (copies : List FormatRead) : Nat := (copies.map (·.gen.val + 1)).foldl max 0

/-- The first remap block, at or after one, whose copies are blank (R59). -/
def blankBlock (sectors : List RemapSector) : Nat → Nat → Nat
  | 0, b => b
  | fuel + 1, b => if sectors.any (·.block == b) then blankBlock sectors fuel (b + 1) else b

/-- The end of the remap area read at mount: beyond REMAP_NEXT the first blank block (R59). -/
def remapEnd (next : Nat) (sectors : List RemapSector) : Nat := blankBlock sectors (3984 - min next 3984) (min next 3984)

/-- Where the next remap sector goes after a mount: on in the last block used while every sector of it so far has both its copies, else
into the first blank block: DEDUCED (R57; log entry 78). -/
def remapPlace (next : Nat) (sectors : List RemapSector) : Nat × Nat :=
  let e := remapEnd next sectors
  let mine := sectors.filter fun x => x.block + 1 == e
  let top := (mine.map (·.sector)).foldl max 0
  if !mine.isEmpty ∧ top < 31 ∧ (List.range (top + 1)).all fun i => [false, true].all fun b => mine.any fun x => x.sector == i && x.copyB == b
  then (e - 1, top + 1) else (e, 0)

/-- The record of 32 bytes that counts at mount: its RCRC is correct, and it is not void (R56, R59). -/
def recordOf (bs : List Byte) : Option RemapRec :=
  if leAt bs 28 4 = crc32c (bs.take 28) ∧ leAt bs 0 4 / 2 ^ 28 ≠ 0 then
    some ⟨leAt bs 0 4 % 2 ^ 26, leAt bs 0 4 / 2 ^ 28, leAt bs 4 4 % 2 ^ 26, leAt bs 8 1, leAt bs 12 4, leAt bs 16 8, leAt bs 24 4⟩
  else none

/-- The records that count at a mount (R59): those of the remap blocks read whose RCRC is correct. -/
def mountRecords (next : Nat) (sectors : List RemapSector) : List RemapRec :=
  ((sectors.filter fun x => decide (x.block < remapEnd next sectors)).flatMap (·.records)).filterMap recordOf

/-- SURFACE_MOUNT (R54, R59, R60): with no readable generation the surface is unformatted; else the mirror is built of the
counted records, and the surface mounts, or with a gap in their SEQ values scans its headers. -/
def Dev.surfaceMount (d : Dev) (t : Nat) (s : SurfId) (copies : List FormatRead) (sectors : List RemapSector) : Dev :=
  if (d.surf s).mount ≠ .unmounted then d
  else
    let d := (surfHeads s).foldl (fun d h => d.modMotion h fun m => { m with pairs := [] }) d
    let genNext := nextGen copies
    match newestFormat copies with
    | none => d.modSurf s fun x => { x with mount := .unformatted, genNext, block := remapEnd 0 sectors, sector := 0 }
    | some f =>
      let rs := mountRecords f.2.2 sectors
      let gap := seqGap (rs.map (·.seq))
      let at_ := remapPlace f.2.2 sectors
      let d := d.modSurf s fun x =>
        rs.foldl Surface.enter { x with
          mount := if gap.isNone then .mounted else .scanning, discId := f.2.1, generation := f.1, genNext
          mirror := [], nextSeq := (rs.map (·.seq)).foldl max 0 + 1, openRecs := [], markers := [], durable := rs.length
          block := at_.1, sector := at_.2, remapFull := false, frontier := frontierFrom (rs.map (·.target) ++ x.written) }
      let d := (d.remapFullCheck t s).showFrontier s
      match gap with
      | none => d.mountCal s
      | some n => d.event t .SY_REMAP_GAP 0 [surfSpin s, s.val % 2, n]

/-- One sector of the header scan wins over another of the same volume and logical address: the higher REMAP_SEQ, then the
later WRITE_TIME (R60). -/
def scanWins (a b : RemapRead) : Bool := decide (b.seq < a.seq) || (a.seq == b.seq && decide (b.time ≤ a.time))

/-- REMAP_SCAN_DONE (R60): the mirror is rebuilt from the headers; the surface mounts. -/
def Dev.scanDone (d : Dev) (t : Nat) (s : SurfId) (found : List RemapRead) : Dev :=
  if (d.surf s).mount ≠ .scanning then d
  else
    let best := found.filter fun a => found.all fun b => !(a.volume == b.volume && a.logical == b.logical) || scanWins a b
    let rs : List RemapRec := (best.filter (·.seq != 0)).map fun r => ⟨r.home, r.reason, r.target, r.volume, r.epoch, r.logical, r.seq⟩
    (d.modSurf s fun x =>
      rs.foldl Surface.enter { x with
        mount := .mounted, mirror := [], nextSeq := max x.nextSeq ((found.map (·.seq)).foldl max 0 + 1)
        frontier := frontierFrom (found.map (·.target) ++ x.written) }).showFrontier s |>.event t .SY_REMAP_SCAN_DONE 0 [surfSpin s, s.val % 2] |>.mountCal s

/-- WS_ENTRY_WRITE. -/
def execWsEntryWrite (h : HeadId) (layer : Fin 16) (cls : Fin 8) (value : Nat) (s : State) : Out :=
  run s fun d => d.wsWrite s.dtime h layer cls value
/-- WRITE_ARM. -/
def execWriteArm (h : HeadId) (jobs : List (SpotId × Nat)) (s : State) : Out :=
  run s fun d => (d.writeArm h jobs).relocCheck s.dtime (surfOf h)
/-- WRITE_SECTOR_END. -/
def execWriteSectorEnd (h : HeadId) (spot : SpotId) (s : State) : Out := run s fun d => d.writeSectorEnd s.dtime h spot
/-- VERIFY_READ. -/
def execVerifyRead (write : Nat) (s : State) : Out := run s fun d => d.verifyRead s.dtime write
/-- WTEMP_WAIT_EXPIRY. -/
def execWtempWaitExpiry (write : Nat) (s : State) : Out := run s fun d => d.wtempExpiry s.dtime write
/-- REALLOCATION_WRITE. -/
def execReallocationWrite (job : Nat) (s : State) : Out := run s fun d => d.reallocWrite s.dtime job
/-- WRITE_STUCK_RETRY. -/
def execWriteStuckRetry (write : Nat) (s : State) : Out := run s fun d => d.stuckRetry write
/-- REMAP_SECTOR_WRITE. -/
def execRemapSectorWrite (surf : SurfId) (s : State) : Out := run s fun d => d.remapWrite s.dtime surf
/-- WRITE. -/
def execWrite (qid tag : Nat) (s : State) : Out := run s fun d => d.startWrite s.dtime qid tag
/-- FLUSH. -/
def execFlush (qid tag : Nat) (s : State) : Out := run s fun d => d.flush1 s.dtime qid tag
/-- FORMAT_SURFACE. -/
def execFormatSurface (tag : Nat) (s : State) : Out := run s fun d => d.formatSurface s.dtime tag
/-- SURFACE_MOUNT. -/
def execSurfaceMount (surf : SurfId) (spot0 spot1 spot2 spot3 : List FormatRead) (sectors : List RemapSector) (s : State) : Out :=
  run s fun d => d.surfaceMount s.dtime surf (spot0 ++ spot1 ++ spot2 ++ spot3) sectors
/-- REMAP_SCAN_DONE. -/
def execRemapScanDone (surf : SurfId) (found : List RemapRead) (s : State) : Out := run s fun d => d.scanDone s.dtime surf found

end Sys2Proof.Machine
end

