-- ==== Sys2Proof/Machine/Chains.lean ====
section
/-! DEFINITION. Chains: members and their states (R231, R248), rows and their parity (R234 to R241), rebuild (R236, R244,
R245), resynchronization and replacement (R249), and what follows when a head goes out of service (R247). -/

namespace Sys2Proof.Machine

/-! ## Members -/

/-- A member's surface has a head in service and its disc is there. -/
def Dev.memberHere (d : Dev) (c j : Nat) : Bool :=
  (surfHeads (d.memSurf c j)).any d.inService && (d.surf (d.memSurf c j)).mount != .noDisc

/-- A member that has lost both heads or its disc becomes MISSING (R248). -/
def Dev.memberCheck (d : Dev) (t c j : Nat) : Dev :=
  if (d.memState c j = 0 ∨ d.memState c j = 2) ∧ !d.memberHere c j then
    (d.setMemState c j 1).event t .CH_MEMBER_MISSING c [j]
  else d

/-- Every member of every chain is looked at (R248). -/
def Dev.checkMembers (d : Dev) (t : Nat) : Dev :=
  (List.range 16).foldl (fun d c => if d.chainValid c then (d.members c).foldl (fun d j => d.memberCheck t c j) d else d) d

/-- A head has gone out of service (R247): its reads and staged writes move to the other head of the surface, or end. -/
def Dev.headLost (d : Dev) (t : Nat) (h : HeadId) : Dev :=
  let d := d.headReadsLost t h
  let d := d.modData fun x => { x with writes := x.writes.map fun w =>
    if w.head = h ∧ !w.live ∧ d.inService (otherHead h) then { w with head := otherHead h } else w }
  d.checkMembers t

/-! ## Rows -/

/-- The members that a row's write leaves out (R248). -/
def Dev.rowMissing (d : Dev) (c : Nat) : List Nat := d.missingOf c

/-- Not all data sectors of a row are staged. -/
def Dev.rowPartial (d : Dev) (c : Nat) (r : ChainRow) : Bool :=
  decide ((r.parts.filter fun x => decide (x.1 < d.chainK c)).length < d.chainK c)

/-- A row may be closed now (R237): all its data sectors staged, a FLUSH or FUA needs it, or it is the oldest of STAGE_ROWS
partial rows of its chain with a new row beyond them; and no earlier copy of the row is still being written. -/
def Dev.rowReady (d : Dev) (c : Nat) (r : ChainRow) : Bool :=
  let rows := (d.chain (chainOf c)).rows
  let old := (rows.filter fun x => !x.closed).dropLast.filter (d.rowPartial c)
  !r.closed && !rows.any (fun x => x.psa == r.psa && x.closed)
    && (!d.rowPartial c r || r.needed || (decide (getF d .CH_CFG_STAGE_ROWS 0 ≤ old.length) && old.head? == some r))

/-- A filler sector for a data member of a row with no staged sector (R238). -/
def Dev.fillMember (d : Dev) (c time order : Nat) (r : ChainRow) (acc : Dev × List (Nat × Nat)) (j : Nat) : Dev × List (Nat × Nat) :=
  let n := r.row * d.chainK c + j
  let s := d.memSurf c j
  let a := acc.1.addWrite {
    id := 0, owner := none, surf := s, head := ((d.pickHead s (psaLayer r.psa) (psaStripe r.psa)).getD (headOf (surfSpin s) 0)),
    home := r.psa, target := r.psa, kind := 0x20, volume := r.volume, flags := 0, epoch := 1,
    logical := if r.stream then n * sectorBytes else n, time, chain := c, member := j, seq := 0, reason := 0,
    data := zeros sectorBytes, waited := r.needed, row := r.row, order }
  (a.1, acc.2 ++ [(j, a.2)])

/-- WRITE_TIME of a row's filler and parity: that of its latest sector (log entry 19). -/
def Dev.rowTime (d : Dev) (r : ChainRow) : Nat := ((r.parts.filterMap fun x => (d.write? x.2).map (·.time)).foldl max 0)

/-- Closing a row (R237, R238, R241): a first write is padded; an overwrite begins to read the old members and parity. -/
def Dev.closeRow (d : Dev) (c : Nat) (r : ChainRow) : Dev :=
  let k := d.chainK c
  let missing := d.missingOf c
  match (d.chain (chainOf c)).complete.find? (·.1 == r.psa) with
  | none =>
    let holes := (List.range k).filter fun j => !r.parts.any (·.1 == j)
    let f := holes.foldl (d.fillMember c (d.rowTime r) d.clasp.nextOrder r) (d, [])
    let d := if holes.isEmpty then f.1 else incF f.1 .CH_STAT_PADDED 0
    d.modChain (chainOf c) fun x => { x with
      rows := x.rows.map fun y => if y = r then { y with closed := true, parts := y.parts ++ f.2, epoch := 1 } else y }
  | some old =>
    let want := (r.parts.map (·.1)) ++ ((List.range (d.chainM c)).map (k + ·)).filter fun j => !missing.contains j
    let r' := { r with closed := true, ovr := true, await := want, epoch := old.2 + 1 }
    let d := d.modChain (chainOf c) fun x => { x with rows := x.rows.map fun y => if y = r then r' else y }
    let a := (want.filter fun j => !missing.contains j).foldl (d.askMember c r.psa r.row r.volume r.stream false false 0 r.budgets) (d, [])
    (a.2 ++ want.filter fun j => missing.contains j).foldl (fun d j => d.memberRead c r.psa j none) a.1

/-- CHAIN_ROW_WRITE (R237): the row of a home PSA is closed when it may be. -/
def Dev.chainRowWrite (d : Dev) (c : Fin 16) (psa : Nat) : Dev :=
  match (d.chain c).rows.find? fun r => r.psa == psa && !r.closed with
  | none => d
  | some r => if d.rowReady c r then d.closeRow c r else d

/-- PAD_AFTER_EXPIRY (R237): a row partial for PAD_AFTER is closed. -/
def Dev.padExpiry (d : Dev) (c : Fin 16) (psa : Nat) : Dev :=
  match (d.chain c).rows.find? fun r => r.psa == psa && !r.closed with
  | none => d
  | some r =>
    if 400 * getF d .CH_CFG_PAD_AFTER 0 ≤ r.age ∧ !(d.chain c).rows.any (fun x => x.psa == r.psa && x.closed) then d.closeRow c r else d

/-- The bytes of a row's staged members. -/
def Dev.rowData (d : Dev) (r : ChainRow) : List (Nat × List Byte) :=
  r.parts.filterMap fun x => (d.write? x.2).map fun w => (x.1, w.data)

/-- The parity of a row (R235, R241): over all its data members; of an overwrite, from the old parity and the old and new data.
Answers P and Q. -/
def rowParity (ovr : Bool) (k : Nat) (new olds : List (Nat × List Byte)) : List Byte × List Byte :=
  let ds := new.filter fun x => decide (x.1 < k)
  if ovr then
    let old (j : Nat) := ((olds.find? (·.1 == j)).map (·.2)).getD []
    let delta := ds.map fun x => (x.1, xorBytes x.2 (old x.1))
    (xorBytes (old k) (chainP delta), xorBytes (old (k + 1)) (chainQ delta))
  else (chainP ds, chainQ ds)

/-- The degraded-row list gains a row with its missing members (R248). -/
def Dev.addDegraded (d : Dev) (c psa : Nat) (missing : List Nat) : Dev :=
  if missing.isEmpty then d
  else
    let mask := (missing.map (2 ^ ·)).sum
    let d := d.modChain (chainOf c) fun x => { x with
      degraded := if x.degraded.any (·.1 == psa) then
          x.degraded.map fun y => if y.1 = psa then (psa, Nat.lor y.2 mask) else y
        else x.degraded ++ [(psa, mask)] }
    setF d .CH_CHAIN_W0_DEGRADED c (d.chain (chainOf c)).degraded.length

/-- The parity of a closed row is formed (R234, R235, R241): its parity members are queued, its missing members left out. -/
def Dev.makeParity (d : Dev) (t : Nat) (c : Fin 16) (r : ChainRow) : Dev :=
  let k := d.chainK c
  let missing := d.missingOf c
  let pq := rowParity r.ovr k (d.rowData r) r.olds
  let time := d.rowTime r
  let waited := r.parts.any fun x => (d.write? x.2).any (·.waited)
  let mk (acc : Dev × List (Nat × Nat)) (i : Nat) : Dev × List (Nat × Nat) :=
    let j := k + i
    let s := d.memSurf c j
    let a := acc.1.addWrite {
      id := 0, owner := none, surf := s, head := ((d.pickHead s (psaLayer r.psa) (psaStripe r.psa)).getD (headOf (surfSpin s) 0)),
      home := r.psa, target := if r.ovr then 0 else r.psa, kind := 3 + i, volume := r.volume,
      flags := if r.ovr then 8 else 0, epoch := r.epoch, logical := r.row, time, chain := c, member := j, seq := 0,
      reason := if r.ovr then 1 else 0, data := if i = 0 then pq.1 else pq.2, waited := waited || r.needed, row := r.row,
      order := ((r.parts.filterMap fun x => (d.write? x.2).map (·.order)).min?).getD d.clasp.nextOrder }
    (a.1, acc.2 ++ [(j, a.2)])
  let m := ((List.range (d.chainM c)).filter fun i => !missing.contains (k + i)).foldl mk (d, [])
  let gone := (r.parts.filter fun x => missing.contains x.1).map (·.2)
  let ids := r.parts.map (·.2)
  let stamp (w : WriteJob) : WriteJob := if ids.contains w.id then { w with epoch := r.epoch } else w
  let d := m.1.modData fun x => { x with writes := (x.writes.filter fun w => !gone.contains w.id).map stamp }
  let more (y : Cmd) : Cmd := if y.waits.any (ids.contains ·) then { y with waits := y.waits ++ m.2.map (·.2) } else y
  let d := d.modClasp fun x => { x with cmds := x.cmds.map more }
  let done : ChainRow := { r with
    made := true, touched := (r.parts.map (·.1)) ++ (List.range (d.chainM c)).map (k + ·)
    parts := (r.parts.filter fun x => !missing.contains x.1) ++ m.2 }
  let d := d.modChain c fun x => { x with rows := x.rows.map fun y => if y = r then done else y }
  (d.addDegraded c r.psa missing).checkWaits t

/-- A rebuild has all it reads (R236). -/
def Rebuild.ready (b : Rebuild) : Bool :=
  !b.dead && b.made.isEmpty && b.want.all fun j => b.got.any (·.1 == j)

/-- The members of a rebuild are formed (R236, R245): the failing read completes with 0x0003, the old member of an overwrite
comes in, or the bytes wait for their rewrite. -/
def Dev.rebuildFormed (d : Dev) (t : Nat) (c : Fin 16) (b : Rebuild) : Dev :=
  let all := rebuildAll (d.chainK c) (d.chainM c) b.got
  let bytes (j : Nat) := ((all.find? (·.1 == j)).map (·.2)).getD (zeros sectorBytes)
  if b.forOver then
    let d := d.dropRebuild c b
    b.missing.foldl (fun d j => d.memberRead c b.psa j (some (bytes j))) d
  else
    match b.job with
    | some id =>
      match d.read? id with
      | none => d.dropRebuild c b
      | some r =>
        (d.modChain c fun x => { x with rebuilds := x.rebuilds.map fun y =>
          if y = b then { b with made := [(r.member, bytes r.member)], job := none } else y }).rebuilt t id (bytes r.member)
    | none =>
      d.modChain c fun x => { x with rebuilds := x.rebuilds.map fun y =>
        if y = b then { b with made := b.resync.toList.map fun j => (j, bytes j) } else y }

/-- An old member of an overwrite can be neither read nor rebuilt: the FUA and FLUSH that wait for the row end, and the row goes
back to staging (log entry 72). -/
def Dev.overFailed (d : Dev) (t : Nat) (c : Fin 16) (b : Rebuild) : Dev :=
  let d := d.modChain c fun x => { x with rebuilds := x.rebuilds.filter (· != b) }
  match (d.chain c).rows.find? fun r => r.psa == b.psa && r.closed && !r.made with
  | none => d
  | some r =>
    let d := d.modChain c fun x => { x with rows := x.rows.map fun y =>
      if y = r then { r with closed := false, ovr := false, needed := false, olds := [], await := [], age := 0 } else y }
    let d := (((d.data.reads.filter fun x => (List.range 16).any (x.forMember c b.psa)).map (·.id)).foldl Dev.dropRead d)
    (r.parts.map (·.2)).foldl (fun d id => d.failWaits t id (if b.late then 0x2002 else 0x2001)) d

/-- CHAIN_ENGINE_DONE (R235, R236): the Chain engine has formed what a row waits for, a rebuild or else its parity, or its
rebuild has failed. -/
def Dev.engineDone (d : Dev) (t : Nat) (c : Fin 16) (psa : Nat) : Dev :=
  match (d.chain c).rebuilds.find? fun b =>
      b.psa == psa && (b.ready || (b.dead && (b.forOver || b.job.any fun id => (d.read? id).isNone))) with
  | some b => if !b.dead then d.rebuildFormed t c b else if b.forOver then d.overFailed t c b else d.dropRebuild c b
  | none =>
    match (d.chain c).rows.find? fun r => r.psa == psa && r.closed && !r.made && r.await.isEmpty with
    | some r => d.makeParity t c r
    | none => d

/-! ## Rewrites, resynchronization and replacement (R245, R249) -/

/-- The sector of a rebuilt member (R242, R245): to a relocation PSA with reason 0x3, or, on a member that is being replaced,
to its home. It keeps the epoch of the sector that it replaces, which the last rewrite of that member gave it. -/
def Dev.rebuiltSector (d : Dev) (c : Fin 16) (b : Rebuild) (j : Nat) (data : List Byte) : WriteJob :=
  let s := d.memSurf c j
  let k := d.chainK c
  let atHome := d.memState c j == 2
  { id := 0, owner := none, surf := s, head := ((d.pickHead s (psaLayer b.psa) (psaStripe b.psa)).getD (headOf (surfSpin s) 0)),
    home := b.psa, target := if atHome then b.psa else 0,
    kind := if j < k then (if b.stream then 2 else 1) else if j = k then 3 else 4, volume := b.volume,
    flags := if atHome then 0 else 4,
    epoch := (((d.chain c).epochs.find? fun e => e.1 == b.psa && e.2.1 == j).map (·.2.2)).getD 1,
    logical := if j < k then (if b.stream then (b.row * k + j) * sectorBytes else b.row * k + j) else b.row,
    time := 0, chain := c, member := j, seq := 0, reason := if atHome then 0 else 3, data, row := b.row,
    order := d.clasp.nextOrder, resync := b.resync.isSome }

/-- REBUILD_REWRITE (R245, R249): the rebuilt members of a row that wait for their rewrite are queued. -/
def Dev.rebuildRewrite (d : Dev) (t : Nat) (c : Fin 16) (psa : Nat) : Dev :=
  match (d.chain c).rebuilds.find? fun b => b.psa == psa && !b.made.isEmpty with
  | none => d
  | some b =>
    let d := d.dropRebuild c b
    b.made.foldl (fun d x =>
      if (d.surf (d.memSurf c x.1)).remapFull then d
      else (d.addWrite { d.rebuiltSector c b x.1 x.2 with time := d.libNow t }).1) d

/-- The next row to bring a member back: of the degraded-row list for a returning member; for a replaced one of the complete rows that its new
surface does not hold yet (R249). -/
def Dev.nextRebuildRow (d : Dev) (c : Fin 16) (j : Nat) : Option Nat :=
  let ch := d.chain c
  if d.memState c j = 2 then
    ((ch.complete.map (·.1)).filter fun p => decide (getF d .CH_CHAIN_W5_REB_NEXT c ≤ p) && !d.homeHeld (d.memSurf c j) p).min?
  else ((ch.degraded.filter fun x => bit x.2 j).map (·.1)).head?

/-- The volume and the row number of a row of a chain. -/
def Dev.rowOwner (d : Dev) (c : Fin 16) (psa : Nat) : Option (Volume × Nat) :=
  d.clasp.volumes.findSome? fun v =>
    if v.chain? = some c.val then
      ((List.range v.seqLen).find? fun r => ((homeIn v.ranges r).map (·.2)) == some psa).map fun r => (v, r)
    else none

/-- MEMBER_RESYNC (R249): a returning or replacement member whose surface is back takes its next row. -/
def Dev.memberResync (d : Dev) (c j : Fin 16) : Dev :=
  let ch := d.chain c
  let running := ch.rebuilding == some j.val
  if d.chainValid c ∧ (d.memState c j = 1 ∨ d.memState c j = 2) ∧ d.memberHere c j
      ∧ (running ∨ ch.rebuilding.isNone) ∧ !ch.rebuilds.any (fun b => b.resync.isSome && !b.dead) then
    let d := (ch.rebuilds.filter (·.resync.isSome)).foldl (fun d b => d.dropRebuild c b) d
    let d := setF (d.modChain c fun x => { x with rebuilding := some j.val }) .CH_CHAIN_W5_REB_MEMBER c j
    match d.nextRebuildRow c j with
    | none => d
    | some psa =>
      match d.rowOwner c psa with
      | none => d
      | some (v, row) =>
        if d.data.writes.any (fun w => w.chain == c.val && w.member == j.val && (w.home == psa || w.resync)) then d else
        let d := setF d .CH_CHAIN_W5_REB_NEXT c psa
        let p := Dev.askPlan c 16 d { psa, volume := v.id, row, stream := v.stream,
                                      missing := j.val :: (d.missingOf c).filter (· != j.val), want := [], resync := some j.val }
        p.1.modChain c fun x => { x with rebuilds := x.rebuilds ++ [p.2] }
  else d

/-- REBUILD_DONE (R249): with no row left and nothing of it under way, the member is ONLINE. -/
def Dev.rebuildDone (d : Dev) (t : Nat) (c : Fin 16) : Dev :=
  match (d.chain c).rebuilding with
  | none => d
  | some j =>
    if (d.nextRebuildRow c j).isNone ∧ !(d.chain c).rebuilds.any (·.resync.isSome)
        ∧ !d.data.writes.any (fun w => w.chain == c.val && w.member == j && w.owner.isNone && (w.reason == 3 || d.memState c j == 2)) then
      ((d.modChain c fun x => { x with rebuilding := none }).setMemState c j 0).event t .CH_REBUILD_DONE c [j]
    else d

/-! ## The admin commands (R231, R249, R301) -/

/-- A surface may become a member of a chain (R231): formatted, and of no other chain. -/
def Dev.memberOk (d : Dev) (s : SurfId) : Bool :=
  (d.surf s).mount != .unformatted && (d.surf s).mount != .noDisc && (d.memberOf s).isNone

/-- CHAIN_CREATE (R231): a chain number in use gives 0x6006, a member that is not fitted 0x2008 (R413), a definition that breaks R231
0x100D. -/
def Dev.chainCreate (d : Dev) (t tag : Nat) (host : List Byte) : Dev :=
  match d.admin? tag 0x10 with
  | none => d
  | some c =>
    let n := bits c.e.arg 3 0
    let k := bits c.e.arg 7 4
    let m := bits c.e.arg 9 8
    let bs := (host.take c.e.len).map (·.toNat)
    let surfs := bs.map fun b => b % 64
    let spins := surfs.map (· / 2)
    if d.chainValid n then d.complete t c 0x6006 0
    else if bs.length < c.e.len then d.complete t c 0x1005 0
    else if surfs.any (fun s => decide (s < 64) && !d.surfFitted ⟨s % 64, by omega⟩) then d.complete t c 0x2008 0
    else if k = 0 ∨ m = 0 ∨ m = 3 ∨ 16 < k + m ∨ c.e.len ≠ k + m ∨ bs.any (decide <| 64 ≤ ·) ∨ spins.eraseDups.length ≠ spins.length
        ∨ surfs.any (fun s => !d.memberOk ⟨s % 64, by omega⟩) then d.complete t c 0x100D 0
    else
      let d := setF (setF (setF (setF d .CH_CHAIN_W0_VALID n 1) .CH_CHAIN_W0_K n k) .CH_CHAIN_W0_M n m) .CH_CHAIN_W0_DEGRADED n 0
      let d := (List.range 16).foldl (fun d j =>
        match surfs[j]? with
        | some s => d.setMember n j 0 s
        | none => d.setMember n j 3 0) d
      ((d.modChain (chainOf n) fun _ => {}).checkMembers t).complete t c 0 0

/-- A command of a chain is outstanding (R301): one of a volume on it. -/
def Dev.chainBusy (d : Dev) (n : Nat) : Bool :=
  d.clasp.cmds.any fun c => c.qid != 0 && (match d.volume? (d.rangeVolume c.e) with | some v => v.chain? == some n | none => false)

/-- CHAIN_DELETE (R301): 0x1008 while commands are outstanding or a volume uses the chain; only the definition goes. -/
def Dev.chainDelete (d : Dev) (t tag : Nat) : Dev :=
  match d.admin? tag 0x11 with
  | none => d
  | some c =>
    let n := bits c.e.arg 3 0
    if !d.chainValid n then d.complete t c 0x1002 0
    else if d.chainBusy n ∨ d.clasp.volumes.any (fun v => v.chain? == some n) then d.complete t c 0x1008 0
    else
      let d := [Fld.CH_CHAIN_W0_VALID, .CH_CHAIN_W0_K, .CH_CHAIN_W0_M, .CH_CHAIN_W0_DEGRADED, .CH_CHAIN_W5_REB_MEMBER,
        .CH_CHAIN_W5_REB_NEXT].foldl (fun d f => resetF d f n) d
      let d := (List.range 16).foldl (fun d j => d.setMember n j 0 0) d
      (d.modChain (chainOf n) fun _ => {}).complete t c 0 0

/-- CHAIN_REPLACE (R249): a new formatted surface takes a member's place and is rebuilt. -/
def Dev.chainReplace (d : Dev) (t tag : Nat) : Dev :=
  match d.admin? tag 0x12 with
  | none => d
  | some c =>
    let n := bits c.e.arg 3 0
    let j := bits c.e.arg 7 4
    let s := bits c.e.arg 13 8
    if !d.chainValid n ∨ d.chainK n + d.chainM n ≤ j then d.complete t c 0x1002 0
    else if ((d.chain (chainOf n)).rebuilding.any (· != j)) then d.complete t c 0x1008 0
    else if !d.surfFitted ⟨s % 64, by omega⟩ then d.complete t c 0x2008 0
    else if !d.memberOk ⟨s % 64, by omega⟩ ∨ ((d.members n).any fun i => i != j && (d.memSurf n i).val / 2 == s / 2) then
      d.complete t c 0x100D 0
    else
      let d := (d.setMember n j 2 s).modChain (chainOf n) fun x => { x with
        rebuilding := some j, rebuilds := x.rebuilds.filter fun b => b.resync.isNone }
      (setF (setF d .CH_CHAIN_W5_REB_MEMBER n j) .CH_CHAIN_W5_REB_NEXT n 0).complete t c 0 0

/-- The rows of every chain age by an M-tick. -/
def Dev.ageRows (d : Dev) : Dev :=
  (List.finRange 16).foldl (fun d c => d.modChain c fun x => { x with rows := x.rows.map fun r => { r with age := r.age + 1 } }) d

/-- CHAIN_ROW_WRITE. -/
def execChainRowWrite (chain : Fin 16) (row : Nat) (s : State) : Out := run s fun d => d.chainRowWrite chain row
/-- PAD_AFTER_EXPIRY. -/
def execPadAfterExpiry (chain : Fin 16) (row : Nat) (s : State) : Out := run s fun d => d.padExpiry chain row
/-- CHAIN_ENGINE_DONE. -/
def execChainEngineDone (chain : Fin 16) (row : Nat) (s : State) : Out := run s fun d => d.engineDone s.dtime chain row
/-- REBUILD_REWRITE. -/
def execRebuildRewrite (chain : Fin 16) (row : Nat) (s : State) : Out := run s fun d => d.rebuildRewrite s.dtime chain row
/-- MEMBER_RESYNC. -/
def execMemberResync (chain member : Fin 16) (s : State) : Out := run s fun d => d.memberResync chain member
/-- REBUILD_DONE. -/
def execRebuildDone (chain : Fin 16) (s : State) : Out := run s fun d => d.rebuildDone s.dtime chain
/-- CHAIN_CREATE. -/
def execChainCreate (tag : Nat) (host : List Byte) (s : State) : Out := run s fun d => d.chainCreate s.dtime tag host
/-- CHAIN_DELETE. -/
def execChainDelete (tag : Nat) (s : State) : Out := run s fun d => d.chainDelete s.dtime tag
/-- CHAIN_REPLACE. -/
def execChainReplace (tag : Nat) (s : State) : Out := run s fun d => d.chainReplace s.dtime tag

end Sys2Proof.Machine
end

