-- ==== Sys2Proof/Machine/LawPrograms.lean ====
section
/-! DEFINITION. Law programs and their arithmetic (R87 to R98, R101, R106), the law slots (R89, R90, R108, R113), and the
worst-case sum of an adopting Bezel (R110). -/

namespace Sys2Proof.Machine

/-! ## Arithmetic (R92, R93, R95) -/

/-- st() of R93: the 80-bit accumulator stored to 32 bits, and whether it saturated. -/
def st (acc : Int) : Int × Bool :=
  let q := asr acc 28
  let r := acc - q * 2 ^ 28
  let q := if r > 2 ^ 27 ∨ (r = 2 ^ 27 ∧ q % 2 = 1) then q + 1 else q
  if q > 2 ^ 31 - 1 then (2 ^ 31 - 1, true)
  else if q < -(2 ^ 31) then (-(2 ^ 31), true)
  else (q, false)

/-- The feedback product a⊗y of a biquad (R95), in units of 2⁻⁵⁹. -/
def fbMul (a y : Int) : Int := 16 * (a * asr y 32) + asr (a * (y % 2 ^ 32)) 28

/-- x / 2ⁿ rounded to nearest, ties to even (R96). -/
def roundTie (x : Int) (n : Nat) : Int :=
  let q := asr x n
  let r := x - q * (2 ^ n : Nat)
  if 2 * r > (2 ^ n : Nat) ∨ (2 * r = (2 ^ n : Nat) ∧ q % 2 = 1) then q + 1 else q

/-- a / b rounded to nearest, ties to even, for b > 0 (R102, R124). -/
def divTie (a b : Int) : Int :=
  let q := Int.fdiv a b
  let r := a - q * b
  if 2 * r > b ∨ (2 * r = b ∧ q % 2 = 1) then q + 1 else q

/-! ## Stages (R90, R91, R94) -/

/-- A stage descriptor: its structure word and its five coefficients as 32-bit numbers. -/
structure Stage where
  word : Nat
  c : List Int
deriving DecidableEq, Repr

/-- KIND of a structure word. -/
def Stage.kind (s : Stage) : Nat := bits s.word 31 28
/-- SRC_A to SRC_D. -/
def Stage.srcA (s : Stage) : Nat := bits s.word 27 23
/-- See `Stage.srcA`. -/
def Stage.srcB (s : Stage) : Nat := bits s.word 22 18
/-- See `Stage.srcA`. -/
def Stage.srcC (s : Stage) : Nat := bits s.word 17 13
/-- See `Stage.srcA`. -/
def Stage.srcD (s : Stage) : Nat := bits s.word 12 8
/-- Coefficient n. -/
def Stage.coef (s : Stage) (n : Nat) : Int := s.c.getD n 0

/-- The value of a source code (R91): a stage of this Tick, the error, or zero. -/
def source (e : Int) (outs : List Int) (code : Nat) : Int :=
  if code < 16 then outs.getD code 0 else if code = 16 then e else 0

/-- The lookup of R101: entry i and the next, by ANGLE_NEXT. -/
def lookup (table : Nat → Int) (angle : Nat) : Int × Bool :=
  let i := angle / 256 % 256
  let f := angle % 256
  st ((table i * (256 - f : Nat) + table ((i + 1) % 256) * (f : Nat)) * 2 ^ 20)

/-- What a stage needs besides its operands: the error, the two tables of its head, ANGLE_NEXT, whether its integrators run
(R97) and whether the law runs its first Tick (R98). -/
structure StageEnv where
  e : Int
  foc : Nat → Int
  trk : Nat → Int
  angle : Nat
  integrate : Bool
  fresh : Bool

/-- One stage (R94): its output, its new state, its flag condition. -/
def Stage.eval (s : Stage) (env : StageEnv) (outs : List Int) (x : StageSt) : Int × StageSt × Bool :=
  let a := source env.e outs s.srcA
  let b := source env.e outs s.srcB
  match s.kind with
  | 1 => let r := st (s.coef 0 * a); (r.1, x, r.2)
  | 2 =>
    let acc := s.coef 0 * a + s.coef 1 * x.x1 + s.coef 2 * x.x2 - fbMul (s.coef 3) x.y1 - fbMul (s.coef 4) x.y2
    let r := st acc
    let y1 := satSigned 64 acc
    (r.1, { x with x2 := x.x1, x1 := a, y2 := x.y1, y1 }, r.2 || y1 != acc)
  | 3 =>
    let s0 := if env.integrate then x.s + s.coef 0 * a else x.s
    let s1 := satSigned 60 s0
    let r := st s1
    (r.1, { x with s := s1 }, r.2 || s1 != s0)
  | 4 =>
    let r := st (s.coef 0 * (a - if env.fresh then a else x.x1))
    (r.1, { x with x1 := a }, r.2)
  | 5 =>
    let c := source env.e outs s.srcC
    let d := source env.e outs s.srcD
    let sg (n : Nat) (v : Int) : Int := if bit s.word n then -v else v
    let r := st ((sg 4 a + sg 5 b + sg 6 c + sg 7 d) * 2 ^ 28)
    (r.1, x, r.2)
  | 6 => let y := clampInt (s.coef 1) (s.coef 0) a; (y, x, y != a)
  | 7 =>
    let d := clampInt (-s.coef 0) (s.coef 0) (a - x.yp)
    let r := st ((x.yp + d) * 2 ^ 28)
    (r.1, { x with yp := r.1 }, d != a - x.yp)
  | 8 => let r := lookup (if s.coef 0 = 0 then env.foc else env.trk) env.angle; (r.1, x, r.2)
  | 9 => let r := st (a * 2 ^ 28 + s.coef 0 * b); (r.1, x, r.2)
  | _ => (0, x, false)

/-- Cycles of a stage (R94). -/
def Stage.cycles (s : Stage) : Nat := kindCycles s.kind

/-- A stage that bears an integrator state. -/
def Stage.isInt (s : Stage) : Bool := s.kind == 3

/-- A program up to its end (R91). -/
def program (l : List Stage) : List Stage := l.takeWhile fun s => s.kind != 0

/-- The result of a program in a Tick: stage outputs, states, flag conditions. -/
structure ProgOut where
  outs : List Int := []
  st : List StageSt := []
  flags : List Bool := []

/-- Running a program's stages in order. -/
def runStages (env : StageEnv) : List Stage → List StageSt → ProgOut → ProgOut
  | [], rest, o => { o with st := o.st ++ rest }
  | s :: l, sts, o =>
    let r := s.eval env o.outs (sts.headD {})
    runStages env l sts.tail { outs := o.outs ++ [r.1], st := o.st ++ [r.2.1], flags := o.flags ++ [r.2.2] }

/-- The loop output: that of the last stage (R91). -/
def ProgOut.y (o : ProgOut) : Int := o.outs.getLastD 0

/-! ## Conversion (R96) -/

/-- The link field of a loop output, in drive LSB, LASER_SET or microsteps, and whether the conversion was limited (R96,
R97). -/
def convert (l : LoopId) (y : Int) : Int × Bool :=
  match l.val with
  | 3 => (roundTie y 21, false)
  | 4 =>
    if y ≤ 0 then (0, decide (y < 0))
    else
      let v := roundTie y 15
      if 65535 < v then (65535, true) else (v, false)
  | _ =>
    let v := roundTie y 16
    if 32767 < v then (32767, true) else (v, false)

/-! ## Slots (R89, R90) -/

/-- The instance of slot `n` of head `h`. -/
def slotIx (h : HeadId) (n : Nat) : Nat := h * 12 + n

/-- Stage descriptor `k` of a slot as its registers stand. -/
def Dev.stage (d : Dev) (h : HeadId) (n k : Nat) : Stage :=
  let i := slotIx h n * 16 + k
  ⟨16 * getF d .BZ_LAW_STRUCT_WORD i, (List.range 5).map fun j => getI d .BZ_LAW_COEF_C (i * 5 + j)⟩

/-- The program of a slot. -/
def Dev.slotProgram (d : Dev) (h : HeadId) (n : Nat) : List Stage := program ((List.range 16).map (d.stage h n))

/-- The program of a slot with the coefficients that wait for the next Tick counted as written: what COMMIT checks (log entry
25). -/
def Dev.slotWritten (d : Dev) (h : HeadId) (n : Nat) : List Stage :=
  let held := getB d .BZ_LAW_H1_COEF_HOLD (slotIx h n)
  program ((List.range 16).map fun k =>
    let i := slotIx h n * 16 + k
    ⟨16 * getF d .BZ_LAW_STRUCT_WORD i, (List.range 5).map fun j =>
      match pendF d .BZ_LAW_COEF_C (i * 5 + j) with
      | some v => if held then getI d .BZ_LAW_COEF_C (i * 5 + j) else toSigned 32 v
      | none => getI d .BZ_LAW_COEF_C (i * 5 + j)⟩)

/-- A slot may run on a loop: VALID, and its LOOP_KIND names the loop (R89). -/
def Dev.slotFor (d : Dev) (h : HeadId) (l : LoopId) (n : Nat) : Bool :=
  decide (n < 12) && getB d .BZ_LAW_H0_VALID (slotIx h n) && getF d .BZ_LAW_H0_LOOP_KIND (slotIx h n) == l.val

/-- The slot of a running or frozen law. -/
def Drive.slot? : Drive → Option Nat
  | .law r => some r.slot
  | .frozen r => some r.slot
  | _ => none

/-- A slot is active: the running law of a loop, or the incoming law of a hand-over (R89). -/
def Dev.slotActive (d : Dev) (h : HeadId) (n : Nat) : Bool :=
  allLoops.any fun l =>
    let x := d.loop h l
    x.drive.slot? == some n || (x.blend.map (·.inc.slot)) == some n

/-! ## Costs (R106, R110) -/

/-- The cost of a program (R106). -/
def progCost (l : List Stage) : Nat := 16 + (l.map Stage.cycles).sum

/-- COST of a slot. -/
def Dev.slotCost (d : Dev) (h : HeadId) (n : Nat) : Nat := getF d .BZ_LAW_H0_COST (slotIx h n)

/-- The cost of what drives a loop (R106): its law; an open-loop drive, a fall and a frozen loop cost nothing. -/
def Dev.driveCost (d : Dev) (h : HeadId) (x : Drive) : Nat :=
  match x with
  | .law r => d.slotCost h r.slot
  | _ => 0

/-- The cost of a loop in a Tick (R106): what it has taken once it has run, else what it is to take. -/
def Dev.loopCost (d : Dev) (h : HeadId) (l : LoopId) : Nat :=
  let x := d.loop h l
  let inc := match x.blend with
    | some b => d.slotCost h b.inc.slot + 6
    | none => 0
  x.cost.getD (d.driveCost h x.drive + inc)

/-- The cost of a head in a Tick (R106). -/
def Dev.headCost (d : Dev) (h : HeadId) : Nat :=
  let busy := allLoops.any fun l => match (d.loop h l).drive with
    | .law _ => true
    | .open_ _ => true
    | _ => (d.loop h l).blend.isSome || (d.loop h l).cost.any fun (n : Nat) => decide (0 < n)
  if busy then 40 + (allLoops.map (d.loopCost h)).sum else 0

/-- The Bezel that runs a head (R110, R117). -/
def Dev.owner (d : Dev) (h : HeadId) : BezelId := ⟨getF d .BZ_HEAD_STAT_OWNER h % 32, by omega⟩

/-- The heads that a Bezel runs, by slot. -/
def Dev.headsOn (d : Dev) (b : BezelId) : List HeadId :=
  (List.range 5).filterMap fun k => allHeads.find? fun h => d.owner h == b && getF d .BZ_HEAD_STAT_SLOT h == k

/-- A head's term of the worst-case sum (R110): 40 cycles and for each loop the largest COST among its valid slots. -/
def Dev.worstHead (d : Dev) (h : HeadId) : Nat :=
  40 + (allLoops.map fun l =>
    ((List.range 12).filterMap fun n => if d.slotFor h l n then some (d.slotCost h n) else none).foldl max 0).sum

/-- The worst-case sum of an adopting Bezel over its five heads (R110). -/
def Dev.worstSum (d : Dev) (b : BezelId) : Nat := ((d.headsOn b).map d.worstHead).sum + 182

/-! ## COMMIT and structure writes (R108, R113) -/

/-- The source fields that a kind uses (R108). -/
def Stage.used (s : Stage) : List Nat :=
  match s.kind with
  | 5 => [s.srcA, s.srcB, s.srcC, s.srcD]
  | 8 => []
  | 9 => [s.srcA, s.srcB]
  | _ => [s.srcA]

/-- A source code obeys R91 at stage `k`: an earlier stage, the error, or zero. -/
def sourceOk (k code : Nat) : Bool := if code < 16 then decide (code < k) else code == 16 || code == 17

/-- The first failing check of R108, 0 to 6. -/
def commitCheck (l : List Stage) (kind : Nat) : Option Nat :=
  if l.isEmpty then some 0
  else if l.any fun s => decide (9 < s.kind) then some 1
  else if l.zipIdx.any fun x => x.1.used.any fun c => !sourceOk x.2 c then some 2
  else if l.any fun s => s.kind == 6 && decide (s.coef 0 < s.coef 1) then some 3
  else if l.any fun s => s.kind == 7 && decide (s.coef 0 < 1) then some 4
  else if l.any fun s => s.kind == 8 && !(s.coef 0 == 0 || s.coef 0 == 1) then some 5
  else if 4 < kind then some 6
  else none

/-- ADOPT_PARK clears when a change of law slots brings the sum within 3,880 cycles (R110): the head is brought up. -/
def Dev.adoptRecheck (d : Dev) (b : BezelId) : Dev :=
  match (d.bezel b).adopted with
  | none => d
  | some h =>
    if getB d .BZ_HEAD_STAT_ADOPT_PARK h ∧ d.worstSum b ≤ 3880 then
      (setF d .BZ_HEAD_STAT_ADOPT_PARK h 0).modMotion h fun m => { m with wantAcquire := true }
    else d

/-- COMMIT of a slot (R108): VALID and COST when every check passes, else VALID 0 and BZ_LAW_REJECT. -/
def Dev.commit (d : Dev) (t : Nat) (h : HeadId) (n : Nat) : Dev :=
  let i := slotIx h n
  let p := d.slotWritten h n
  let reject (k : Nat) : Dev := ((setF d .BZ_LAW_H0_VALID i 0).adoptRecheck (d.owner h)).event t .BZ_LAW_REJECT h [n, k]
  match commitCheck p (getF d .BZ_LAW_H0_LOOP_KIND i) with
  | some k => reject k
  | none =>
    let d' := setF (setF (setF d .BZ_LAW_H0_VALID i 1) .BZ_LAW_H0_COST i (progCost p)) .BZ_LAW_H0_NSTAGES i p.length
    if (d.bezel (d.owner h)).adopted.isSome && decide (3880 < d'.worstSum (d.owner h)) then reject 7
    else d'.adoptRecheck (d.owner h)

/-- A write of header word 0 (R108, R113): an active slot keeps its LOOP_KIND and ignores COMMIT; a LOOP_KIND that names no loop is
ignored (R466), a changed one clears VALID; COMMIT then validates. -/
def Dev.writeH0 (d : Dev) (t : Nat) (h : HeadId) (n word : Nat) : Dev :=
  if d.slotActive h n then d
  else
    let i := slotIx h n
    let kind := bits word 7 4
    let d := if kind = getF d .BZ_LAW_H0_LOOP_KIND i ∨ 4 < kind then d
      else (setF (setF d .BZ_LAW_H0_LOOP_KIND i kind) .BZ_LAW_H0_VALID i 0).adoptRecheck (d.owner h)
    if bit word 0 then d.commit t h n else d

/-- A write of a structure word (R113), its reserved bits ignored (R10): discarded and counted while the slot is active; else it
clears VALID. -/
def Dev.writeStruct (d : Dev) (h : HeadId) (n k word : Nat) : Dev :=
  if d.slotActive h n then incF d .BZ_HEAD_STAT_LAW_WR_REJ h
  else
    (setF (setF d .BZ_LAW_STRUCT_WORD (slotIx h n * 16 + k) (word / 16)) .BZ_LAW_H0_VALID (slotIx h n) 0).adoptRecheck (d.owner h)

/-- LAW_COMMIT: header word 0 with COMMIT 1. -/
def execLawCommit (h : HeadId) (slot : Fin 12) (word : Nat) (s : State) : Out :=
  run s fun d => d.writeH0 s.dtime h slot (putBits word 0 1 1)
/-- LAW_STRUCTURE_WRITE. -/
def execLawStructureWrite (h : HeadId) (slot : Fin 12) (stage : Fin 16) (word : Nat) (s : State) : Out :=
  run s fun d => d.writeStruct h slot stage word

end Sys2Proof.Machine
end

