-- ==== Sys2Proof/Machine/Loops.lean ====
section
/-! DEFINITION. The loops of a head in a Tick (R87, R88, R96 to R99, R119) and the hand-over between laws (R107, R121 to R125). -/

namespace Sys2Proof.Machine

/-! ## Inputs (R87, R88, R354) -/

/-- The Tick number of an instant (R21). -/
def tickOf (t : Nat) : Nat := t / 2500

/-- The E4 point whose read a head is to make in FOLLOW: its FOC and TILT offsets (R199). -/
def Dev.e4Offset (d : Dev) (h : HeadId) : Int × Int :=
  match (d.firstReread h).filter (·.step == 4) with
  | some r =>
    if getF d .MO_MODE_MODE h = 3 then (getI d .FC_E4_PT_FOC_OFS (h * 8 + r.point), getI d .FC_E4_PT_TILT_OFS (h * 8 + r.point)) else (0, 0)
  | none => (0, 0)

/-- REF of a loop with the offsets of the layer followed (R354) and of an E4 point. -/
def Dev.refOf (d : Dev) (h : HeadId) (l : LoopId) : Int :=
  let base := getI d .BZ_LOOP_REF_REF (h * 5 + l)
  let i := h * 16 + (d.head h).motion.lastLayer
  match l.val with
  | 0 => satSigned 32 (base + (getI d .HM_PLAN_FOC_OFS i + (d.e4Offset h).1) * 2 ^ 16)
  | 2 => satSigned 32 (base + (getI d .HM_PLAN_TILT_OFS i + (d.e4Offset h).2) * 2 ^ 16)
  | _ => base

/-- The measurement m of a loop (R87): TRK's is the seek error during a short seek (R141), SLED's the TRK output. -/
def Dev.measure (d : Dev) (h : HeadId) (l : LoopId) : Int :=
  let x := (d.head h).link.held
  match l.val with
  | 0 => x.fe * 2 ^ 16
  | 1 =>
    match (d.head h).motion.short with
    | some s => satSigned 32 (s.ref - s.pos)
    | none => x.te * 2 ^ 16
  | 2 => x.tilt * 2 ^ 16
  | 3 => (d.loop h 1).y
  | _ => x.mon * 2 ^ 16

/-- The loop error e (R88), under INV as it stood at the Tick's boundary (R117). -/
def Dev.loopError (d : Dev) (h : HeadId) (l : LoopId) : Int :=
  let m := d.measure h l
  let r := d.refOf h l
  satSigned 32 (if (d.loop h l).inv then r - m else m - r)

/-! ## Running a law -/

/-- One Tick of a law on a loop: its new state, its flag conditions and its link field. -/
def Dev.runLaw (d : Dev) (h : HeadId) (l : LoopId) (e : Int) (r : LawRun) (integrate : Bool) : LawRun × List Bool × Int :=
  let o := runStages
    { e, angle := (d.spin (spinOf h)).torc.angle, integrate, fresh := r.fresh,
      foc := fun i => getI d .BZ_RUN_FOC_T (h * 256 + i), trk := fun i => getI d .BZ_RUN_TRK_T (h * 256 + i) }
    (d.slotProgram h r.slot) r.st {}
  let c := convert l o.y
  ({ r with st := o.st, fresh := false, sat := o.flags.getLastD false || c.2, held := !integrate, outs := o.outs, y := o.y },
   o.flags, c.1)

/-- Saturation of a law's Tick, its integrators' hold and its stages' flags, shown in the loop's registers (R94, R97). -/
def Dev.showLaw (d : Dev) (h : HeadId) (l : LoopId) (r : LawRun) (flags : List Bool) : Dev :=
  let i := h.val * 5 + l.val
  let d := setB (setB d .BZ_LOOP_STAT_OUT_SAT i r.sat) .BZ_LOOP_STAT_INT_HOLD i r.held
  let mask := ((flags.zipIdx).map fun x => if x.1 then 2 ^ x.2 else 0).sum
  setF d .BZ_LOOP_SAT_STAGE_SAT i (Nat.lor (getF d .BZ_LOOP_SAT_STAGE_SAT i) mask)

/-- The following-error count of a Tick (R99): a loop's further fault waits for its return to 0. -/
def Dev.followCount (d : Dev) (h : HeadId) (l : LoopId) (e : Int) : Dev :=
  let i := h.val * 5 + l.val
  if getF d .BZ_LOOP_FEL_FE_LIMIT i < e.natAbs then incF d .BZ_LOOP_STAT_FE_COUNT i
  else (setF d .BZ_LOOP_STAT_FE_COUNT i 0).modLoop h l fun x => { x with faulted := false }

/-! ## Asking for a law (R89, R121, R125) -/

/-- Selecting the law of a loop by its slot: a hand-over in progress ends, and its incoming law stays if it is the one selected
(R125); the running law stays; a frozen law resumes; a running loop gets a hand-over; any other starts as a stopped loop. -/
def Dev.select (d : Dev) (h : HeadId) (l : LoopId) (slot : Nat) : Dev :=
  d.modLoop h l fun x =>
    let x := { x with failed := false, completed := false, refusals := 0 }
    match x.blend with
    | some b =>
      if b.inc.slot = slot then { x with blend := none, drive := .law b.inc, want := none }
      else { x with blend := none, drive := .stopped, want := some { slot } }
    | none =>
      match x.drive with
      | .law r => if r.slot = slot then { x with want := none, completed := true } else { x with want := some { slot } }
      | .frozen r =>
        if r.slot = slot then { x with drive := .law r, want := none, completed := true }
        else { x with drive := .stopped, want := some { slot } }
      | _ => { x with want := some { slot } }

/-- A loop stops: its states go (R98), its drive field falls to 0 at once (R119). -/
def Dev.stopLoop (d : Dev) (h : HeadId) (l : LoopId) : Dev :=
  d.modLoop h l fun x => { x with drive := .stopped, blend := none, want := none, refusals := 0, failed := false, completed := false }

/-- A loop freezes: it keeps its law and its states, and repeats its output (R119). -/
def Dev.freezeLoop (d : Dev) (h : HeadId) (l : LoopId) : Dev :=
  d.modLoop h l fun x =>
    match x.blend, x.drive with
    | some b, _ => { x with drive := .frozen b.inc, blend := none, want := none }
    | none, .law r => { x with drive := .frozen r, want := none }
    | none, _ => { x with want := none }

/-- A linear fall of a loop's drive to 0 over `n` Ticks (R119). -/
def Dev.fallLoop (d : Dev) (h : HeadId) (l : LoopId) (n : Nat) : Dev :=
  d.modLoop h l fun x => { x with drive := .fall x.field 0 n, blend := none, want := none, refusals := 0, failed := false }

/-- An open-loop drive of mode control, in drive LSB (R121). -/
def Dev.openLoop (d : Dev) (h : HeadId) (l : LoopId) (v : Int) : Dev :=
  d.modLoop h l fun x => { x with drive := .open_ v }

/-! ## Budget (R107) -/

/-- Head work of a Bezel in the present Tick: what the loops that have run have taken, and what the others will take. -/
def Dev.bezelLoad (d : Dev) (b : BezelId) : Nat := ((d.headsOn b).map d.headCost).sum

/-- A change that adds `extra` cycles on a head may start: the sum stays within 3,880, and no change that was delayed earlier
on the Bezel still waits (R107). -/
def Dev.budgetOk (d : Dev) (h : HeadId) (w : HandReq) (extra : Nat) : Bool :=
  let b := d.owner h
  let first := if d.headCost h = 0 then 40 else 0
  decide (d.bezelLoad b + extra + first ≤ 3880) &&
    !((d.headsOn b).any fun g => allLoops.any fun l =>
      match (d.loop g l).want with
      | some v =>
        match v.delayed, w.delayed with
        | some a, some c => decide (a < c)
        | some _, none => true
        | none, _ => false
      | none => false)

/-- Delaying a change by a Tick (R107). -/
def Dev.defer (d : Dev) (t : Nat) (h : HeadId) (l : LoopId) (w : HandReq) : Dev :=
  (incF d .BZ_BUDGET_DEFERS (d.owner h)).modLoop h l fun x =>
    { x with want := some { w with delayed := some (w.delayed.getD (tickOf t)) } }

/-- A refused hand-over (R122): after four in a row it has failed. -/
def Dev.refuse (d : Dev) (t : Nat) (h : HeadId) (l : LoopId) (w : HandReq) : Dev :=
  let x := d.loop h l
  let d := (incF d .MO_STAT_REFUSALS h).event t .MO_HANDOVER_REFUSED h [l, (x.drive.slot?).getD 15, w.slot]
  let d := d.modBezel (d.owner h) fun b => { b with faultEv := true }
  d.modLoop h l fun x =>
    if 4 ≤ x.refusals + 1 then { x with refusals := 0, want := none, failed := true }
    else { x with refusals := x.refusals + 1, want := some { slot := w.slot, wait := some (getF d .MO_HANDOVER_HOLDOFF (h * 5 + l)) } }

/-! ## A loop's Tick -/

/-- The output of a loop in a Tick: y, its link field. -/
def Dev.putOut (d : Dev) (h : HeadId) (l : LoopId) (y field : Int) : Dev := d.modLoop h l fun x => { x with y, field }

/-- A loop that runs no law in the Tick shows no saturated output and no integrators held (R117). -/
def Dev.quietLoop (d : Dev) (h : HeadId) (l : LoopId) : Dev :=
  setF (setF d .BZ_LOOP_STAT_OUT_SAT (h * 5 + l) 0) .BZ_LOOP_STAT_INT_HOLD (h * 5 + l) 0

/-- The outgoing side of a Tick: a law runs; an open-loop drive, a fall, a stopped and a frozen loop give what R119 says. -/
def Dev.driveTick (d : Dev) (h : HeadId) (l : LoopId) : Dev :=
  let x := d.loop h l
  match x.drive with
  | .law r =>
    let e := d.loopError h l
    let o := d.runLaw h l e r (!r.sat)
    let d := (d.modLoop h l fun x => { x with drive := .law o.1, e }).showLaw h l o.1 o.2.1
    (d.putOut h l o.1.y o.2.2).followCount h l e
  | .open_ v => (d.quietLoop h l).putOut h l (v * 2 ^ 16) v
  | .fall v0 j n =>
    let v := if n ≤ j + 1 then 0 else Int.tdiv (v0 * (n - (j + 1) : Nat)) n
    ((d.quietLoop h l).modLoop h l fun x => { x with drive := .fall v0 (min (n + 1) (j + 1)) n }).putOut h l (v * 2 ^ 16) v
  | .frozen _ => d.quietLoop h l
  | .stopped => (d.quietLoop h l).putOut h l 0 0

/-- A blend Tick (R124). -/
def Dev.blendTick (d : Dev) (h : HeadId) (l : LoopId) (b : Blend) : Dev :=
  let d := d.driveTick h l
  let yo := (d.loop h l).y
  let e := d.loopError h l
  let o := d.runLaw h l e b.inc (!b.inc.sat)
  let n := getF d .MO_HANDOVER_BLEND_TICKS (h * 5 + l)
  let w := if n ≤ b.j then 2 ^ 28 else divTie ((b.j : Int) * 2 ^ 28) n
  let slew : Int := (getF d .MO_HANDOVER_BLEND_SLEW (h * 5 + l) : Nat) * 2 ^ 15
  let want := yo + (st (w * (o.1.y - yo))).1 - b.out
  let step := clampInt (-slew) slew want
  let out := b.out + step
  let d := d.putOut h l out (convert l out).1
  let d := match (d.loop h l).drive with
    | .law _ => d
    | _ => (d.modLoop h l fun x => { x with e }).followCount h l e
  if n ≤ b.j ∧ step = want then
    (d.modLoop h l fun x => { x with drive := .law o.1, blend := none, completed := true }).showLaw h l o.1 o.2.1
  else d.modLoop h l fun x => { x with blend := some { inc := o.1, j := b.j + 1, out } }

/-- The preload Tick of a hand-over (R121, R122). -/
def Dev.preloadTick (d : Dev) (t : Nat) (h : HeadId) (l : LoopId) (w : HandReq) : Dev :=
  let d := (d.modLoop h l fun x => { x with preload := true }).driveTick h l
  let yo := (d.loop h l).y
  let o := d.runLaw h l (d.loopError h l) { slot := w.slot } false
  let diff := yo - o.1.y
  if !d.slotFor h l w.slot || o.1.sat || decide (diff < -(2 ^ 31)) || decide (2 ^ 31 ≤ diff) then d.refuse t h l w
  else
    let states : List StageSt :=
      match (d.slotProgram h w.slot).findIdx? Stage.isInt with
      | some k => (List.replicate 16 ({} : StageSt)).set k { s := diff * 2 ^ 28 }
      | none => List.replicate 16 {}
    let inc : LawRun := { slot := w.slot, st := states }
    if getF d .MO_HANDOVER_BLEND_TICKS (h * 5 + l) = 0 then
      d.modLoop h l fun x => { x with drive := .law inc, want := none, refusals := 0, completed := true }
    else d.modLoop h l fun x => { x with want := none, refusals := 0, blend := some { inc, j := 1, out := yo } }

/-- The cycles that a loop takes in the Tick (R106). -/
def Dev.spend (d : Dev) (h : HeadId) (l : LoopId) (n : Nat) : Dev := d.modLoop h l fun x => { x with cost := some n }

/-- A hand-over whose preload Tick the budget allows, else a Tick's delay (R107); `out` is the cost of the outgoing side. -/
def Dev.handTick (d : Dev) (t : Nat) (h : HeadId) (l : LoopId) (w : HandReq) (out : Nat) : Dev :=
  if d.budgetOk h w (d.slotCost h w.slot + 6) then (d.spend h l (out + d.slotCost h w.slot + 6)).preloadTick t h l w
  else ((d.defer t h l w).spend h l out).driveTick h l

/-- A loop's Tick: a law asked for starts a stopped loop or begins its hand-over when the budget allows; a blend goes on; else
the loop's drive goes on. -/
def Dev.loopRun (d : Dev) (t : Nat) (h : HeadId) (l : LoopId) : Dev :=
  let x := d.loop h l
  let out := d.driveCost h x.drive
  match x.blend with
  | some b => (d.spend h l (out + d.slotCost h b.inc.slot + 6)).blendTick h l b
  | none =>
    match x.want with
    | none => (d.spend h l out).driveTick h l
    | some w =>
      match w.wait with
      | some n => ((d.modLoop h l fun x => { x with want := some { w with wait := some (n - 1) } }).spend h l out).driveTick h l
      | none =>
        match x.drive with
        | .law _ => d.handTick t h l w out
        | .open_ _ => d.handTick t h l w out
        | _ =>
          if !d.slotFor h l w.slot then ((d.refuse t h l w).spend h l 0).driveTick h l
          else if d.budgetOk h w (d.slotCost h w.slot) then
            ((d.modLoop h l fun x =>
              { x with drive := .law { slot := w.slot }, want := none, refusals := 0, completed := true }).spend h l
                (d.slotCost h w.slot)).driveTick h l
          else ((d.defer t h l w).spend h l 0).driveTick h l

/-- A loop's Tick, after what its registers show has been kept for R111. -/
def Dev.loopTick (d : Dev) (t : Nat) (h : HeadId) (l : LoopId) : Dev :=
  let i := h.val * 5 + l.val
  Dev.loopRun (d.modLoop h l fun x => { x with
    preload := false
    shown := ⟨getF d .BZ_LOOP_STAT_FE_COUNT i, getF d .BZ_LOOP_STAT_OUT_SAT i, getF d .BZ_LOOP_STAT_INT_HOLD i,
      getF d .BZ_LOOP_SAT_STAGE_SAT i⟩ }) t h l

/-- LAW and NEXT of a loop (R117). -/
def Dev.showSlots (d : Dev) (h : HeadId) (l : LoopId) : Dev :=
  let x := d.loop h l
  setF (setF d .BZ_LOOP_CFG_LAW (h * 5 + l) ((x.drive.slot?).getD 15)) .BZ_LOOP_CFG_NEXT (h * 5 + l)
    ((x.blend.map (·.inc.slot)).getD 15)

/-- A loop of the head is in a hand-over: its preload Tick or a blend Tick (R121, R149). -/
def Dev.inHandover (d : Dev) (h : HeadId) : Bool := allLoops.any fun l => (d.loop h l).blend.isSome || (d.loop h l).preload

/-- HANDOVER_RETRY (R122): after HOLDOFF Ticks the refused hand-over is asked for again. -/
def Dev.handoverRetry (d : Dev) (h : HeadId) (l : LoopId) : Dev :=
  d.modLoop h l fun x =>
    match x.want with
    | some w => if w.wait = some 0 then { x with want := some { w with wait := none } } else x
    | none => x

/-- HANDOVER_RETRY. -/
def execHandoverRetry (h : HeadId) (l : LoopId) (s : State) : Out := run s fun d => d.handoverRetry h l

/-! ## Following-error faults (R99) -/

/-- FE_COUNT has exceeded FE_TICKS and the fault is not yet raised; 65,535 disables it. -/
def Dev.followDue (d : Dev) (h : HeadId) (l : LoopId) : Bool :=
  let i := h.val * 5 + l.val
  decide (getF d .BZ_LOOP_CFG_FE_TICKS i ≠ 65535) && decide (getF d .BZ_LOOP_CFG_FE_TICKS i < getF d .BZ_LOOP_STAT_FE_COUNT i)
    && !(d.loop h l).faulted

end Sys2Proof.Machine
end

