-- ==== Sys2Proof/Machine/Motion.lean ====
section
/-! DEFINITION. Mode control of a head (R118 to R149): the modes and what they select, focus acquisition, layer jumps, the sled,
seeks, the write guard, and the order of requests and faults. -/

namespace Sys2Proof.Machine

/-! ## Modes and their conditions -/

/-- The mode of a head (R118). -/
def Dev.mode (d : Dev) (h : HeadId) : Nat := getF d .MO_MODE_MODE h

/-- The spindle turns at its commanded speed, and Keeper permits the laser (R120, R389). -/
def Dev.laserOk (d : Dev) (h : HeadId) : Bool :=
  getB d .TQ_STAT_AT_SPEED (spinOf h) && bit (getF d .KP_PERMIT_BITS 0) (spinOf h) && !(d.head h).down.laserInhibit

/-- The three conditions of R120, and Keeper's LASER_INHIBIT absent. -/
def Dev.opticalOk (d : Dev) (h : HeadId) : Bool := d.laserOk h && getB d .HM_STAT_RELEASED h && !getB d .BZ_HEAD_STAT_ADOPT_PARK h

/-- The head's link is UP and unfaulted. -/
def Dev.linkUp (d : Dev) (h : HeadId) : Bool := getF d .HL_STATUS_STATE h == 6 && !(d.head h).link.faulted && !(d.head h).link.port.lost

/-- The modes of R120: ACQUIRE, FOLLOW, JUMP, SEEK_SHORT, SEEK_LONG, RELOCATE. -/
def opticalMode (m : Nat) : Bool := decide (2 ≤ m) && decide (m ≤ 7)

/-- Data commands are queued or in flight on the head (R147). -/
def Dev.headBusy (d : Dev) (h : HeadId) : Bool :=
  d.data.reads.any (fun r => r.head == h) || d.data.writes.any fun w => w.head == h && w.state != .verified

/-- A gate of the head is open. -/
def Dev.gateOpen (d : Dev) (h : HeadId) : Bool := d.data.writes.any fun w => w.head == h && w.state == .writing

/-! ## Places (R135, R139) -/

/-- MO_POS in microsteps. -/
def Dev.pos (d : Dev) (h : HeadId) : Int := getI d .MO_POS_POS h

/-- The head's park position in microsteps: inner for even heads, outer for odd (R18, R139). -/
def parkPos (h : HeadId) : Int := if h.val % 2 = 0 then 1707 else 66560

/-- The band under a centred lens in 1/256 band (R135). -/
def Dev.bandHere (d : Dev) (h : HeadId) : Int := getI d .MO_BAND_AT_0_BAND_AT_0 h + d.pos h * 125

/-- The pair read on the layer whose stripe lies nearest. -/
def nearestPair (pairs : List (Nat × Nat × Nat)) (layer stripe : Nat) : Option (Nat × Nat) :=
  let gap (a b : Nat) : Nat := if a ≤ b then b - a else a - b
  (pairs.filter fun p => p.1 == layer).foldl (fun best p =>
    match best with
    | none => some p.2
    | some b => if gap p.2.1 stripe < gap b.1 stripe then some p.2 else best) none

/-- The predicted band of a stripe: the nominal spiral, corrected by what either head of the surface has read on the layer (R135). -/
def Dev.targetBand (d : Dev) (h : HeadId) (layer stripe : Nat) : Int :=
  let nominal : Int := stripeBand layer stripe
  match nearestPair ((surfHeads (surfOf h)).flatMap fun g => (d.head g).motion.pairs) layer stripe with
  | some (s, b) => nominal + ((b : Int) - (stripeBand layer s : Nat))
  | none => nominal

/-- Stripes in a turn at a band (R43): 2π r over 26.72 mm. -/
def stripesPerTurn (band : Nat) : Nat := 2 * 355 * bandRadius band / (113 * 26720000)

/-! ## Sled profiles (R136; log entry 27) -/

/-- Division rounded up. -/
def ceilDiv (a b : Nat) : Nat := (a + b - 1) / b

/-- Square root rounded up. -/
def sqrtUp (x : Nat) : Nat :=
  let r := isqrtFuel x 64 0 (x + 1)
  if r * r < x then r + 1 else r

/-- Cube root rounded up, by bisection. -/
def cbrtUpFuel (x : Nat) : Nat → Nat → Nat → Nat
  | 0, _, hi => hi
  | fuel + 1, lo, hi =>
    if hi ≤ lo + 1 then hi
    else
      let mid := (lo + hi) / 2
      if mid * mid * mid < x then cbrtUpFuel x fuel mid hi else cbrtUpFuel x fuel lo mid

/-- A profile of `n` microsteps under VMAX, ACCEL and JERK: whole Ticks for its phases, none faster than the limits allow. -/
def Dev.profile (d : Dev) (h : HeadId) (n : Int) : Profile :=
  let dist := n.natAbs
  -- VMAX in microsteps per 3,125 Ticks; ACCEL in microsteps per 625,000 × 10⁵ square Ticks; JERK alike
  let v := getF d .MO_SLED_CFG_VMAX h * 2
  let a := getF d .MO_SLED_CFG_ACCEL h
  let j := getF d .MO_SLED_CFG_JERK h
  let cruise := ceilDiv (dist * 3125) v
  if !getB d .MO_SLED_CFG_PROFILE h then
    let ta := ceilDiv (v * 200) a
    if ta ≤ cruise then ⟨n, false, 0, ta, cruise - ta, 0, 0⟩
    else ⟨n, false, 0, sqrtUp (ceilDiv (dist * 625000) a), 0, 0, 0⟩
  else
    let tj := ceilDiv (a * 4000) j
    let full := if a * tj ≤ v * 200 then (tj, ceilDiv (v * 200) a - tj) else (sqrtUp (ceilDiv (v * 800000) j), 0)
    let te := 2 * full.1 + full.2
    if te ≤ cruise then ⟨n, true, full.1, full.2, cruise - te, 0, 0⟩
    else if 2 * a * tj * tj ≤ dist * 625000 then
      let r := sqrtUp (tj * tj + 4 * ceilDiv (dist * 625000) a)
      ⟨n, true, tj, (r - 3 * tj + 1) / 2, 0, 0, 0⟩
    else
      let x := ceilDiv (dist * 1250000000) j
      ⟨n, true, max 1 (cbrtUpFuel x 64 0 (x + 1)), 0, 0, 0, 0⟩

/-- The path of a profile's form in `t` of its Ticks, six times the distance at a unit of jerk or twice at one of acceleration. -/
def Profile.path (p : Profile) (t : Nat) : Nat :=
  let te := 2 * p.tj + p.ta
  let vm := p.tj * (p.tj + p.ta)
  let rise (t : Nat) : Nat :=
    if p.curved then
      if t ≤ p.tj then t * t * t
      else if t ≤ p.tj + p.ta then
        p.tj * p.tj * p.tj + 3 * p.tj * p.tj * (t - p.tj) + 3 * p.tj * (t - p.tj) * (t - p.tj)
      else 3 * vm * te - (6 * vm * (te - t) - (te - t) * (te - t) * (te - t))
    else t * t
  let top := if p.curved then te else p.ta
  let speed := if p.curved then 6 * vm else 2 * p.ta
  let total := speed * (top + p.tv)
  if t ≤ top then rise t
  else if t ≤ top + p.tv then rise top + speed * (t - top)
  else total - rise (2 * top + p.tv - t)

/-- The Ticks of a profile. -/
def Profile.ticks (p : Profile) : Nat := 2 * (if p.curved then 2 * p.tj + p.ta else p.ta) + p.tv

/-- The profile position after `t` Ticks in 1/65,536 microstep, rounded down, without its sign. -/
def Profile.at (p : Profile) (t : Nat) : Nat :=
  if p.ticks ≤ t then p.dist.natAbs * 65536
  else p.dist.natAbs * 65536 * p.path t / max 1 (p.path p.ticks)

/-- It has landed on its target. -/
def Profile.landed (p : Profile) : Bool := decide (p.ticks ≤ p.age)

/-- The sled stops at once (R137): STEP is 0 in the Tick, that of a Tick's results included that no frame carries yet, no profile goes
on, and POS_VALID falls when it has moved in the last 400 Ticks. -/
def Dev.sledStop (d : Dev) (h : HeadId) : Dev :=
  let m := (d.head h).motion
  let steps := if m.unsent then 0 :: m.steps.drop 1 else m.steps
  let moved := steps.any (· != 0)
  let d := if m.unsent then setI d .MO_POS_POS h (d.pos h - m.steps.headD 0) else d
  let d := (d.modMotion h fun m => { m with profile := none, coil := 1, sledAge := none, sledHalt := true, steps }).modDown h fun x =>
    { x with stepN := 0, coil := 1 }
  if moved then setF (d.modMotion h fun x => { x with lostPos := true }) .MO_MODE_POS_VALID h 0 else d

/-! ## What a mode selects (R118, R119) -/

/-- REF of LPWR from the power plan of a layer (R88). -/
def Dev.laserRef (d : Dev) (h : HeadId) (layer : Nat) : Dev :=
  setPend d .BZ_LOOP_REF_REF (h * 5 + 4) (getF d .HM_PLAN_P_B (h * 16 + layer) * 2 ^ 15)

/-- LPWR on LASER_READ, or on LASER_WRITE while writing. -/
def Dev.selectLaser (d : Dev) (h : HeadId) (layer : Nat) (write : Bool) : Dev :=
  let d := (d.laserRef h layer).modMotion h fun m => { m with laserWrite := write }
  d.select h 4 (if write then getF d .MO_LAWSEL1_LPWR_WRITE h else getF d .MO_LAWSEL1_LPWR_READ h)

/-- FOC on FOCUS_FOLLOW, and TILT on TILT_HOLD. -/
def Dev.holdFocus (d : Dev) (h : HeadId) : Dev :=
  (d.select h 0 (getF d .MO_LAWSEL0_FOC_FOLLOW h)).select h 2 (getF d .MO_LAWSEL0_TILT h)

/-- The lens centres: TRK falls to 0 over CENTRE_TICKS (R119). -/
def Dev.centreLens (d : Dev) (h : HeadId) : Dev := d.fallLoop h 1 (getF d .MO_SEEK_CFG_CENTRE_TICKS h)

/-- The modes in which focus can be lost: FOLLOW, SEEK_SHORT, SEEK_LONG and RELOCATE (R129). -/
def lossMode (m : Nat) : Bool := m == 3 || (decide (5 ≤ m) && decide (m ≤ 7))

/-- What every change of mode does (R118, R119): outside FOLLOW nothing stays armed or being written, and the sector under the
lanes is void (R204); on entering FOLLOW the lanes reload (R179). -/
def Dev.setMode (d : Dev) (h : HeadId) (m : Nat) : Dev :=
  let old := d.mode h
  let d := setF d .MO_MODE_MODE h m
  let d := if m = 3 then (if old = 3 then d else d.facetReload h) else (d.stopHead h).facetVoid h
  d.modMotion h fun x => { x with
    age := 0, settled := 0, next := none
    loss := if lossMode old && lossMode m then x.loss else 0
    wantJump := if m = 3 ∨ (5 ≤ m ∧ m ≤ 7) then x.wantJump else none
    jump := if m = 4 then x.jump else none, short := if m = 5 then x.short else none
    bands := [], collect := false, sledAge := none, homeEdge := false
    deferPark := false }

/-- Every loop stops, the laser is off, the coils hold. -/
def Dev.allStopped (d : Dev) (h : HeadId) : Dev := allLoops.foldl (fun d l => d.stopLoop h l) d

/-- Entering OFF or PARKED. -/
def Dev.enterRest (d : Dev) (h : HeadId) (m : Nat) : Dev :=
  ((d.setMode h m).allStopped h).modMotion h fun x => { x with coil := if m = 0 then 0 else 1, parking := false, laserWrite := false }

/-- Entering ACQUIRE for a layer (R126). -/
def Dev.enterAcquire (d : Dev) (h : HeadId) (layer : Nat) : Dev :=
  let d := (((d.setMode h 2).stopLoop h 1).stopLoop h 2).stopLoop h 3
  let d := d.stopLoop h 0
  (d.selectLaser h layer false).modMotion h fun x => { x with
    acq := .laserWait, acqAge := 0, tries := 0, lastLayer := layer, profile := none, coil := 1, parking := false
    checkLayer := some layer }

/-- Entering FOLLOW. -/
def Dev.enterFollow (d : Dev) (h : HeadId) : Dev :=
  let d := (d.setMode h 3).holdFocus h
  let d := (d.select h 1 (getF d .MO_LAWSEL0_TRK_FOLLOW h)).select h 3 (getF d .MO_LAWSEL0_SLED h)
  d.selectLaser h (d.head h).motion.lastLayer (d.head h).motion.laserWrite

/-- Entering JUMP to a layer (R130, R131). -/
def Dev.enterJump (d : Dev) (h : HeadId) (target : Nat) : Dev :=
  let last := (d.head h).motion.lastLayer
  let d := (((d.setMode h 4).freezeLoop h 1).freezeLoop h 2).stopLoop h 3
  let H := (d.loop h 0).field
  let d := d.selectLaser h target false
  d.modMotion h fun x => { x with
    coil := 1
    jump := some ⟨decide (last < target), if last < target then target - last else last - target, .kick, 0, H, false, false⟩ }

/-- The trapezoid of a short seek's reference (R141): 16 Ticks to FINE_VMAX, or a triangle; whole Ticks, none faster than
FINE_VMAX. -/
def Dev.shortPath (d : Dev) (h : HeadId) (dist : Int) : Profile :=
  let v := getF d .MO_SEEK_CFG_FINE_VMAX h * 65536
  let n := dist.natAbs
  if 16 * v ≤ n then ⟨dist, false, 0, 16, ceilDiv n v - 16, 0, 0⟩ else ⟨dist, false, 0, sqrtUp (ceilDiv (16 * n) v), 0, 0, 0⟩

/-- The reference of a short seek after `t` Ticks, from its start. -/
def Profile.along (p : Profile) (t : Nat) : Int :=
  if p.ticks ≤ t then p.dist else Int.tdiv (p.dist * p.path t) (max 1 (p.path p.ticks) : Nat)

/-- Entering SEEK_SHORT to a band (R141). -/
def Dev.enterShort (d : Dev) (h : HeadId) (band : Int) : Dev :=
  let d := ((d.setMode h 5).holdFocus h).stopLoop h 3
  let d := (d.select h 1 (getF d .MO_LAWSEL0_TRK_SEEK h)).selectLaser h (d.head h).motion.lastLayer false
  let b : Int := (getF d .MO_ADDR_BAND h : Nat)
  d.modMotion h fun x => { x with
    coil := 1
    short := some { ref := b * 2 ^ 24, start := b * 2 ^ 24, path := d.shortPath h ((band - b) * 2 ^ 24), target := band * 2 ^ 24, count := b * 2 ^ 24
                    tePos := decide (0 < (d.head h).link.held.te), pos := b * 2 ^ 24 } }

/-- Entering SEEK_LONG: the lens centres; the profile follows (R142). -/
def Dev.enterLong (d : Dev) (h : HeadId) : Dev :=
  let d := (((d.setMode h 6).holdFocus h).stopLoop h 3).centreLens h
  (d.selectLaser h (d.head h).motion.lastLayer false).modMotion h fun x => { x with coil := 1 }

/-- Entering RELOCATE (R138). -/
def Dev.enterRelocate (d : Dev) (h : HeadId) : Dev :=
  let d := (((d.setMode h 7).holdFocus h).stopLoop h 3).centreLens h
  (d.selectLaser h (d.head h).motion.lastLayer false).modMotion h fun x => { x with coil := 1 }

/-- Entering HOMING (R139): the laser is off. -/
def Dev.enterHoming (d : Dev) (h : HeadId) : Dev :=
  ((d.setMode h 8).allStopped h).modMotion h fun x => { x with
    homeAge := 0, travel := 0, profile := none, parking := false, coil := 2, laserWrite := false }

/-- Entering SAFE_PARK or FAULT (R118, R119, R137): the drives fall to 0 over 40 Ticks; in FAULT the laser goes off at once. -/
def Dev.enterSafe (d : Dev) (h : HeadId) (m : Nat) : Dev :=
  let d := (d.sledStop h).setMode h m
  let d := ((d.fallLoop h 0 40).fallLoop h 1 40).fallLoop h 2 40
  let d := d.stopLoop h 3
  let d := if m = 10 then d.stopLoop h 4 else d
  d.modMotion h fun x => { x with parking := false, laserWrite := false }

/-! ## Seeks (R140 to R143, R285) -/

/-- What a command's sectors do when a seek to their stripe has failed twice (R285): the other head, E6, or 0x2009. -/
def Dev.seekDead (d : Dev) (t : Nat) (h : HeadId) (layer stripe : Nat) : Dev :=
  let here (p : Nat) : Bool := psaLayer p == layer && psaStripe p == stripe
  let d := (d.data.reads.filter fun r => r.head == h && r.wantRead && here r.psa).foldl (fun d r =>
    if d.inService (otherHead h) then d.moveRead r else d.noMedium t r 0x2009) d
  if d.inService (otherHead h) then
    d.modData fun x => { x with writes := x.writes.map fun w =>
      if w.head = h ∧ w.state = .staged ∧ here w.home then { w with head := otherHead h } else w }
  else d

/-- A seek has failed (R143): the first failure is retried by the firmware's next request; on a second one for the same target
its sectors move on or end (R285). -/
def Dev.seekFail (d : Dev) (t : Nat) (h : HeadId) : Dev :=
  let m := (d.head h).motion
  let target := (m.seek.map fun s => (s.layer, s.stripe)).or m.pendSeek
  match target with
  | none => d.modMotion h fun x => { x with seek := none }
  | some p =>
    let d := (d.event t .MO_SEEK_FAIL h [p.1, p.2]).modMotion h fun x => { x with seek := none, pendSeek := none }
    if m.failedSeek = some p then (d.seekDead t h p.1 p.2).modMotion h fun x => { x with failedSeek := none }
    else d.modMotion h fun x => { x with failedSeek := some p }

/-- A seek has completed. -/
def Dev.seekDone (d : Dev) (h : HeadId) : Dev := d.modMotion h fun x => { x with seek := none, failedSeek := none }

/-- The next phase of a seek in FOLLOW (R140): long seek, layer jump, relocation, short seek; none left when the band is
reached. -/
def Dev.seekPhase (d : Dev) (t : Nat) (h : HeadId) (s : Seek) : Dev :=
  let bc : Int := (getF d .MO_ADDR_BAND h : Nat)
  let gap := (s.band - bc).natAbs
  if s.wait ∧ s.again.isNone then d
  else if (getF d .MO_SEEK_CFG_SHORT_MAX h) < gap then
    if 2 ≤ s.longs then d.seekFail t h
    else (d.enterLong h).modMotion h fun x => { x with seek := some { s with longs := s.longs + 1, start := bc } }
  else if s.layer ≠ (d.head h).motion.lastLayer then
    (d.enterJump h s.layer).modMotion h fun x => { x with seek := some { s with jumped := true } }
  else if s.jumped then (d.enterRelocate h).modMotion h fun x => { x with seek := some { s with jumped := false } }
  else
    match s.again with
    | some b => (d.enterShort h b).modMotion h fun x => { x with seek := some { s with again := none, wait := true } }
    | none => (if gap = 0 then d else d.enterShort h s.band).modMotion h fun x => { x with seek := some { s with wait := true } }

/-- What a head in FOLLOW goes on with: a jump that the first word asked for, the return after a TRK fault (row 5 of R148), its seek,
the pending seek. A seek that needs no
phase completes at once (R140). -/
def Dev.followNext (d : Dev) (t : Nat) (h : HeadId) : Dev :=
  let m := (d.head h).motion
  match m.wantJump, m.back, m.seek, m.pendSeek with
  | some l, _, _, _ => d.enterJump h l
  | none, some b, _, _ =>
    let d := d.modMotion h fun x => { x with back := none }
    if b = getF d .MO_ADDR_BAND h then d
    else (d.enterShort h b).modMotion h fun x => { x with short := x.short.map fun y => { y with back := true } }
  | none, none, some s, _ => d.seekPhase t h s
  | none, none, none, some (l, s) =>
    let sk : Seek := { layer := l, stripe := s, band := d.targetBand h l s }
    let d := d.modMotion h fun x => { x with seek := some sk, pendSeek := none }
    if sk.band = (getF d .MO_ADDR_BAND h : Nat) ∧ l = m.lastLayer then d.seekDone h else d.seekPhase t h sk
  | none, none, none, none => d

/-! ## Layer jumps (R130, R131) -/

/-- A jump has failed (R131): the head goes to ACQUIRE for the target layer. -/
def Dev.jumpFail (d : Dev) (t : Nat) (h : HeadId) : Dev :=
  match (d.head h).motion.jump with
  | none => d
  | some j =>
    let last := (d.head h).motion.lastLayer
    let target := if j.deeper then last + j.left else last - j.left
    (d.event t .MO_JUMP_FAIL h [target]).modMotion h fun x => { x with jump := none, lastLayer := target, wantAcquire := true }

/-- JUMP_KICK_END (R130): after KICK_TICKS the jump coasts. -/
def Dev.jumpKickEnd (d : Dev) (h : HeadId) : Dev :=
  match (d.head h).motion.jump with
  | some j =>
    if j.step = .kick ∧ getF d .MO_JUMP_CFG_KICK_TICKS h ≤ j.age then
      d.modMotion h fun x => { x with jump := some { j with step := .coast, age := 0 } }
    else d
  | none => d

/-- JUMP_BRAKE_END (R130): after BRAKE_TICKS FOC is handed over to LAYER_SETTLE, with H as the outgoing output. -/
def Dev.jumpBrakeEnd (d : Dev) (h : HeadId) : Dev :=
  match (d.head h).motion.jump with
  | some j =>
    if j.step = .brake ∧ getF d .MO_JUMP_CFG_BRAKE_TICKS h ≤ j.age then
      let d := d.modMotion h fun x => { x with settled := 0, jump := some { j with step := .settle, age := 0 } }
      (d.openLoop h 0 j.h).select h 0 (getF d .MO_LAWSEL0_FOC_SETTLE h)
    else d
  | none => d

/-- JUMP_COAST_TIMEOUT (R131): the coast has exceeded COAST_MAX. -/
def Dev.jumpCoastTimeout (d : Dev) (t : Nat) (h : HeadId) : Dev :=
  match (d.head h).motion.jump with
  | some j => if j.step = .coast ∧ getF d .MO_JUMP_CFG_COAST_MAX h < j.age then d.jumpFail t h else d
  | none => d

/-- |FE| has stayed below SETTLE_FE for SETTLE_TICKS (R127, R130). -/
def Dev.focusQuiet (d : Dev) (h : HeadId) : Bool :=
  decide (getF d .MO_SETTLE_CFG_SETTLE_TICKS h ≤ (d.head h).motion.settled)

/-- A loop runs a law alone, with no hand-over asked for. -/
def LoopSt.alone (x : LoopSt) : Bool :=
  match x.drive with
  | .law _ => x.blend.isNone && x.want.isNone
  | _ => false

/-- JUMP_SETTLED (R130, R131): the next one-layer jump starts from LAYER_SETTLE; after the last one FOC is handed over to
FOCUS_FOLLOW on the new layer. -/
def Dev.jumpSettled (d : Dev) (h : HeadId) : Dev :=
  match (d.head h).motion.jump with
  | some j =>
    if j.step = .settle ∧ d.focusQuiet h ∧ (d.loop h 0).alone then
      let layer := let l := (d.head h).motion.lastLayer; if j.deeper then l + 1 else l - 1
      if 1 < j.left then
        d.modMotion h fun x => { x with
          lastLayer := layer
          jump := some { j with left := j.left - 1, step := .kick, age := 0, h := (d.loop h 0).field, away := false, lobe := false } }
      else
        let d := d.modMotion h fun x => { x with lastLayer := layer, jump := some { j with left := 0, step := .toFollow } }
        (d.laserRef h layer).select h 0 (getF d .MO_LAWSEL0_FOC_FOLLOW h)
    else d
  | none => d

/-! ## Focus acquisition (R126 to R129) -/

/-- −0.75 and +0.75 of full scale in FOC_DRV LSB. -/
def sweepLow : Int := -24576
/-- See `sweepLow`. -/
def sweepHigh : Int := 24576

/-- ACQUIRE_LASER_WAIT_END (R126): after 200 Ticks of LPWR the sweep starts. -/
def Dev.laserWaitEnd (d : Dev) (h : HeadId) : Dev :=
  let m := (d.head h).motion
  if d.mode h = 2 ∧ m.acq = .laserWait ∧ 200 ≤ m.acqAge then
    (d.modMotion h fun x => { x with acq := .sweep, acqAge := 0, sweep := sweepLow, sphase := 0, scount := 0 }).openLoop h 0 sweepLow
  else d

/-- A sweep without capture (R128): after FOCUS_TRIES of them MO_FOCUS_FAIL and FAULT, else the drive returns. -/
def Dev.sweepMissed (d : Dev) (t : Nat) (h : HeadId) : Dev :=
  let m := (d.head h).motion
  let n := m.tries + 1
  if getF d .MO_FOCUS_CFG_FOCUS_TRIES h ≤ n then
    (d.event t .MO_FOCUS_FAIL h [n]).modMotion h fun x => { x with tries := n, wantFault := true }
  else
    let v := (d.loop h 0).field
    ((d.stopLoop h 0).openLoop h 0 v).modMotion h fun x => { x with tries := n, acq := .sweepBack v, acqAge := 0 }

/-- SWEEP_END (R128): the sweep has reached +0.75 without capture. -/
def Dev.sweepEnd (d : Dev) (t : Nat) (h : HeadId) : Dev :=
  let m := (d.head h).motion
  if d.mode h = 2 ∧ m.acq = .sweep ∧ sweepHigh ≤ m.sweep ∧ (d.loop h 0).blend.isNone then d.sweepMissed t h else d

/-- SWEEP_RETURN_END (R128): after 400 Ticks the drive is back at −0.75, and the next sweep starts. -/
def Dev.sweepReturnEnd (d : Dev) (h : HeadId) : Dev :=
  let m := (d.head h).motion
  match m.acq with
  | .sweepBack _ =>
    if d.mode h = 2 ∧ 400 ≤ m.acqAge then
      (d.modMotion h fun x => { x with acq := .sweep, acqAge := 0, sweep := sweepLow, sphase := 0, scount := 0 }).openLoop h 0 sweepLow
    else d
  | _ => d

/-- FOCUS_SETTLED (R127): FOC is handed over to FOCUS_FOLLOW. -/
def Dev.focusSettled (d : Dev) (h : HeadId) : Dev :=
  if d.mode h = 2 ∧ (d.head h).motion.acq = .capture ∧ d.focusQuiet h ∧ (d.loop h 0).alone then
    (d.modMotion h fun x => { x with acq := .toFollow }).select h 0 (getF d .MO_LAWSEL0_FOC_FOLLOW h)
  else d

/-- FOCUS_LOST (R129): SUM has stayed below SUM_QUAL / 2 for LOSS_TICKS. -/
def Dev.focusLost (d : Dev) (t : Nat) (h : HeadId) : Dev :=
  if (d.mode h = 3 ∨ (5 ≤ d.mode h ∧ d.mode h ≤ 7)) ∧ getF d .MO_FOCUS_CFG_LOSS_TICKS h ≤ (d.head h).motion.loss then
    ((d.event t .MO_FOCUS_LOST h [(d.head h).motion.lastLayer]).stopHead h).modMotion h fun x =>
      { x with wantAcquire := true, loss := 0 }
  else d

/-! ## The ends of sled and lens moves -/

/-- LENS_CENTRE_END (R119, R138, R142): the lens is centred; RELOCATE collects bands, SEEK_LONG runs its profile. -/
def Dev.lensCentreEnd (d : Dev) (h : HeadId) : Dev :=
  match (d.loop h 1).drive with
  | .fall _ j n =>
    if j < n then d
    else
      let m := (d.head h).motion
      let d := d.stopLoop h 1
      if d.mode h = 7 then d.modMotion h fun x => { x with collect := true, bands := [], age := 0 }
      else if d.mode h = 6 then
        let dist : Int :=
          if m.parking then parkPos h - d.pos h
          else
            match m.seek with
            | some s => Int.fdiv (2 * (s.band - s.start) * 256 + 125) 250
            | none => 0
        if m.parking ∧ m.profile.isSome then d else d.modMotion h fun x => { x with profile := some (d.profile h dist), coil := 2 }
      else d
  | _ => d

/-- RAMP_TO_ZERO_END (R119): the drives are 0; the laser goes off. -/
def Dev.rampEnd (d : Dev) (h : HeadId) : Dev :=
  match (d.loop h 0).drive with
  | .fall _ j n => if j < n ∨ (d.mode h ≠ 9 ∧ d.mode h ≠ 10) then d else d.allStopped h
  | _ => d

/-- SLED_PROFILE_END (R136, R142, R147): the profile has landed on its target. -/
def Dev.profileEnd (d : Dev) (h : HeadId) : Dev :=
  let m := (d.head h).motion
  match m.profile with
  | some p =>
    if !p.landed ∨ m.homeEdge then d
    else
      let d := d.modMotion h fun x => { x with profile := none }
      if m.parking then
        let nx : Option Nat := if opticalMode (d.mode h) then none else some 1
        d.modMotion h fun x => { x with parking := false, wantSafe := opticalMode (d.mode h), coil := 1, next := nx }
      else if d.mode h = 6 then d.modMotion h fun x => { x with sledAge := some 0 }
      else d
  | none => d

/-- COIL_HOLD (R136): STEP has been 0 for 400 consecutive Ticks. -/
def Dev.coilHold (d : Dev) (h : HeadId) : Dev :=
  let m := (d.head h).motion
  if 400 ≤ m.steps.length ∧ m.steps.all (· == 0) ∧ 2 ≤ m.coil then d.modMotion h fun x => { x with coil := 1 } else d

/-- SLED_SETTLE_END (R142): SLED_SETTLE × 100 Ticks after the profile the head relocates. -/
def Dev.settleEnd (d : Dev) (h : HeadId) : Dev :=
  match (d.head h).motion.sledAge with
  | some n =>
    if d.mode h = 6 ∧ 100 * getF d .MO_SEEK_CFG_SLED_SETTLE h ≤ n then d.modMotion h fun x => { x with next := some 7 } else d
  | none => d

/-- Ticks of four revolutions at the spindle's speed. -/
def Dev.fourTurns (d : Dev) (h : HeadId) : Nat := 96000000 / max 1 (getF d .TQ_STAT_SPEED (spinOf h))

/-- RELOCATE_TIMEOUT (R138): eight words have not come within 4 revolutions. -/
def Dev.relocTimeout (d : Dev) (h : HeadId) : Dev :=
  let m := (d.head h).motion
  if d.mode h = 7 ∧ m.collect ∧ m.bands.length < 8 ∧ d.fourTurns h ≤ m.age then d.modMotion h fun x => { x with wantHome := true } else d

/-- HOME_TIMEOUT (R139): no closing edge within 300 mm of travel, 512,000 microsteps. -/
def Dev.homeTimeout (d : Dev) (t : Nat) (h : HeadId) : Dev :=
  if d.mode h = 8 ∧ !(d.head h).motion.homeEdge ∧ 512000 ≤ (d.head h).motion.travel then
    (d.event t .MO_HOME_FAIL h []).modMotion h fun x => { x with wantFault := true }
  else d

/-- HOMING_PARK_DONE (R139): the sled is at its park position; homing is complete. -/
def Dev.homeDone (d : Dev) (h : HeadId) : Dev :=
  let m := (d.head h).motion
  if d.mode h = 8 ∧ m.homeEdge ∧ m.profile.any (·.landed) then
    (setF (setF d .MO_MODE_HOMED h 1) .MO_MODE_POS_VALID h 1).modMotion h fun x =>
      { x with profile := none, homeEdge := false, coil := 1, next := some 1, lostPos := false }
  else d

/-- HOME_SWITCH_REPORT (R139): the position that the device held at the edge, from the frame whose STEP was being issued; on a
closing edge while moving inward it becomes 0, and the sled moves out to its park position. -/
def Dev.homeReport (d : Dev) (h : HeadId) (seq steps : Nat) (closing : Bool) : Dev :=
  let m := (d.head h).motion
  if !closing ∨ d.mode h ≠ 8 ∨ m.homeEdge then d
  else
    let back := ((d.head h).down.seq + 4096 - seq % 4096) % 4096
    let start := d.pos h - (m.steps.take (back + 1)).sum
    let latch := start - (steps : Int)
    let d := setI (setI d .MO_HOME_LATCH h latch) .MO_POS_POS h (d.pos h - latch)
    d.modMotion h fun x => { x with homeEdge := true, profile := some (d.profile h (parkPos h - d.pos h)) }

/-- SHORT_SEEK_CAPTURE (R141): |m| has stayed below 0.1 band for 16 Ticks at the target: TRK goes to TRACK_FOLLOW. -/
def Dev.shortCapture (d : Dev) (h : HeadId) : Dev :=
  match (d.head h).motion.short with
  | some s =>
    if d.mode h = 5 ∧ 16 ≤ s.capture ∧ !s.ending ∧ (d.loop h 1).alone then
      (d.modMotion h fun x => { x with short := some { s with ending := true } }).select h 1 (getF d .MO_LAWSEL0_TRK_FOLLOW h)
    else d
  | none => d

/-- A short seek has failed (R141, R143): its seek fails, if it was one's, and the head goes back to FOLLOW (log entry 28). -/
def Dev.shortFail (d : Dev) (t : Nat) (h : HeadId) : Dev :=
  let back := (d.head h).motion.short.any fun (s : ShortSeek) => s.back
  (if back then d else d.seekFail t h).modMotion h fun x => { x with next := some 3 }

/-- SHORT_SEEK_TIMEOUT (R141): no capture within 4 × SHORT_MAX Ticks of the reference reaching the target. -/
def Dev.shortTimeout (d : Dev) (t : Nat) (h : HeadId) : Dev :=
  match (d.head h).motion.short with
  | some s => if d.mode h = 5 ∧ !s.ending ∧ 4 * getF d .MO_SEEK_CFG_SHORT_MAX h ≤ s.late then d.shortFail t h else d
  | none => d

/-! ## Write guard (R144, R145) -/

/-- The guard conditions and the shock condition have been clear for their settle times. -/
def Dev.guardQuiet (d : Dev) (h : HeadId) : Bool :=
  decide (getF d .MO_GUARD2_WG_SETTLE h ≤ (d.head h).motion.guardClear) &&
    decide (getF d .MO_SHOCK_SHOCK_SETTLE (spinOf h) ≤ (d.spin (spinOf h)).torc.shockClear)

/-- A trip of the guard (R145): W_STOP for the head's spots. The Tick's causes collect: 1 TE, 2 FE, 4 shock (log entry 29). -/
def Dev.guardTrip (d : Dev) (h : HeadId) (cause : Nat) : Dev :=
  (d.stopHead h).modMotion h fun x => { x with cause := Nat.lor x.cause cause }

/-- The end of a Tick in which the guard tripped (R145): the event with all its causes and the count, once per episode. -/
def Dev.guardReport (d : Dev) (t : Nat) (h : HeadId) : Dev :=
  let m := (d.head h).motion
  if m.cause = 0 then d
  else
    (if m.episode then d else incF (d.event t .MO_GUARD_TRIP h [m.cause]) .MO_STAT_GUARD_TRIPS h).modMotion h fun x =>
      { x with cause := 0, episode := true }

/-- GUARD_SETTLED, SHOCK_SETTLED (R144, R145): an episode ends when every condition has been clear for its settle time. -/
def Dev.guardSettled (d : Dev) (h : HeadId) : Dev :=
  if d.guardQuiet h then d.modMotion h fun x => { x with episode := false } else d

/-- GUARD_OK (R144): in FOLLOW, no loop in a hand-over, guard and shock clear for their settle times. -/
def Dev.showGuard (d : Dev) (h : HeadId) : Dev :=
  setB d .MO_MODE_GUARD_OK h (d.mode h == 3 && !d.inHandover h && d.guardQuiet h)

/-! ## Requests (R147) -/

/-- A request through MO_CTL takes effect only while HEAD_BUSY is 0; else it is ignored and counted (R147). -/
def Dev.request (d : Dev) (h : HeadId) (byHost : Bool) (f : Motion → Motion) : Dev :=
  if byHost ∧ d.headBusy h then incF d .MO_STAT_CTL_REJ h else d.modMotion h f

/-- A staged sector that a head is to write within WRITE_LEAD Ticks (R217): a spot of it could be armed, and the predicted start of the stripe
that it would take lies no farther ahead. -/
def Dev.writeDue (d : Dev) (h : HeadId) (w : WriteJob) : Bool :=
  w.head == h && (List.finRange 4).any fun s => d.mayArmJob h s w && (d.targetFor h s w).any fun p =>
    (d.untilStripe h (psaLayer p) (psaStripe p)).any fun k =>
      decide (0 ≤ k) && decide (k ≤ ((getF d .FC_WR_CFG_WRITE_LEAD h * d.perTick h : Nat) : Int))

/-- LASER_WRITE_HANDOVER (R217): LPWR is handed over to LASER_WRITE once the first stripe start that the head is to write is WRITE_LEAD
Ticks away. -/
def Dev.laserToWrite (d : Dev) (h : HeadId) : Dev :=
  if d.mode h = 3 ∧ !(d.head h).motion.laserWrite ∧ (d.loop h 4).alone ∧ d.data.writes.any (fun w => d.writeDue h w) then
    d.selectLaser h (d.head h).motion.lastLayer true
  else d

/-- FOLLOWING_ERROR_FAULT (R99, R148): the loop faults, writes stop, and mode control is told. -/
def Dev.followFault (d : Dev) (t : Nat) (h : HeadId) (l : LoopId) : Dev :=
  if !d.followDue h l then d
  else
    let b := d.owner h
    let d := setF (d.event t .BZ_FOLLOW_FAULT h [l]) .BZ_LOOP_STAT_FE_FAULT (h.val * 5 + l.val) 1
    let d := ((incF d .BZ_FAULT_FOLLOW_FAULTS b).stopHead h).modBezel b fun x => { x with faultEv := true }
    let d := d.modLoop h l fun x => { x with faulted := true }
    let d := d.modHead h fun x =>
      if l = 0 then { x with learnFoc := { x.learnFoc with running := false } }
      else if l = 1 then { x with learnTrk := { x.learnTrk with running := false } } else x
    match l.val with
    | 0 => d.modMotion h fun x => { x with wantAcquire := true }
    | 1 =>
      d.modMotion h fun x => { x with
        wantReloc := true, back := some x.lastBand
        seek := x.seek.map fun s => { s with wait := false, jumped := false, again := none } }
    | 2 => d.modLoop h 2 fun x => { x with drive := .stopped, blend := none, want := some { slot := getF d .MO_LAWSEL0_TILT h } }
    | 3 => (d.sledStop h).modMotion h fun x => { x with wantReloc := true }
    | _ => d.modMotion h fun x => { x with wantFault := true }

/-! ## The Tick boundary (R118, R148) -/

/-- A PARK (R147): the sled moves to the park position with a profile, in a mode that holds focus with the lens centred first; then
SAFE_PARK and PARKED. A head in SAFE_PARK whose drives are 0 goes to PARKED, and HOMING ends there by itself (log entry 66). -/
def Dev.startPark (d : Dev) (t : Nat) (h : HeadId) : Dev :=
  let d := d.seekFail t h
  let d := if d.mode h = 9 then d.enterRest h 1 else d
  if d.mode h = 8 ∨ d.mode h = 10 then d
  else if lossMode (d.mode h) ∨ d.mode h = 4 then (d.enterLong h).modMotion h fun x => { x with parking := true, profile := none }
  else if (d.pos h = parkPos h ∧ d.mode h = 1) ∨ !d.linkUp h then d
  else d.modMotion h fun x => { x with parking := true, profile := some (d.profile h (parkPos h - d.pos h)), coil := 2 }

/-- A STOP (R147): the sled stops, any seek fails; RELOCATE when the position has been lost, else FOLLOW if focus is held. -/
def Dev.doStop (d : Dev) (t : Nat) (h : HeadId) : Dev :=
  let d := ((d.sledStop h).seekFail t h).modMotion h fun x => { x with parking := false }
  if d.mode h = 3 ∨ (5 ≤ d.mode h ∧ d.mode h ≤ 7) then
    if getB d .MO_MODE_POS_VALID h then (d.stopLoop h 3).enterFollow h else d.enterRelocate h
  else if d.mode h = 8 then d.enterRest h 1
  else d

/-- A head at rest with a seek pending, or one that a homing interrupted: ACQUIRE for the layer asked for; while the laser is not
permitted, a head that has lost its position homes (R137, R139). -/
def Dev.restNext (d : Dev) (h : HeadId) : Dev :=
  let m := (d.head h).motion
  match (m.pendSeek.map (·.1)).or (m.seek.map (·.layer)) with
  | some l =>
    if d.opticalOk h then d.enterAcquire h l
    else if m.lostPos && !getB d .MO_MODE_POS_VALID h && !d.laserOk h && d.linkUp h then d.enterHoming h
    else d
  | none => d

/-- Entering the mode that a finished step asked for; a homing ends in PARKED, or in ACQUIRE when a seek is pending (R139). Without a
valid position the next optical mode is RELOCATE (R137); a PARK that began in ACQUIRE goes on with the lens centred. -/
def Dev.enterNext (d : Dev) (h : HeadId) (n : Nat) : Dev :=
  match n with
  | 1 => if d.mode h = 8 then (d.enterRest h 1).restNext h else d.enterRest h 1
  | 3 => if (d.head h).motion.parking then d.enterLong h else if getB d .MO_MODE_POS_VALID h then d.enterFollow h else d.enterRelocate h
  | 7 => if (d.head h).motion.parking then d.enterLong h else d.enterRelocate h
  | _ => d

/-- A trial or a scan stops at once when the other head of a mounted surface leaves service (R346): W_STOP to every gate. -/
def Dev.trialGuard (d : Dev) (h : HeadId) : Dev :=
  if d.trying h ∧ !d.inService (otherHead h) ∧ (d.surf (surfOf h)).mount = .mounted then
    (d.modCal h fun x => { x with idleRev := false }).modDown h fun x => { x with wStop := 15 }
  else d

/-- Mode control at a Tick boundary: the row of R148 with the lowest number acts. Under a spindle latch an optical mode goes to
SAFE_PARK first and to FAULT when its drives are 0; a head that faults settles its work (R247). -/
def Dev.modeTick (d : Dev) (t : Nat) (h : HeadId) : Dev :=
  let d := d.trialGuard h
  let m := (d.head h).motion
  let mode := d.mode h
  let clear (f : Motion → Motion) (d : Dev) : Dev := d.modMotion h f
  let ramped := match (d.loop h 0).drive with | .stopped => true | _ => false
  let latched := bit (getF d .KP_SPIN_L_BITS 0) (spinOf h) && !(d.head h).link.faulted && !(d.head h).link.port.lost
  if m.wantFault && latched && opticalMode mode then (d.seekFail t h).enterSafe h 9
  else if m.wantFault && latched && mode == 9 && !ramped then d
  else if m.wantFault then
    let d := clear (fun x => { x with wantFault := false, wantSafe := false, wantAcquire := false, wantReloc := false, wantHome := false }) d
    if mode = 10 then d else ((d.seekFail t h).enterSafe h 10).headLost t h
  else if mode = 10 then
    let d := clear (fun x => { x with wantSafe := false, wantStop := false, wantPark := false, wantAcquire := false }) d
    if !d.linkUp h then clear (fun x => { x with wantHome := false, wantReloc := false }) d
    else if m.wantHome then (clear (fun x => { x with wantHome := false, wantReloc := false }) d).enterHoming h
    else if m.wantReloc then
      let d := setF (clear (fun x => { x with wantReloc := false }) d) .MO_MODE_POS_VALID h 0
      if d.opticalOk h then d.enterAcquire h m.lastLayer else d.enterHoming h
    else d
  else if opticalMode mode && !d.opticalOk h then
    ((clear (fun x => { x with wantSafe := false, wantAcquire := false, wantReloc := false }) d).seekFail t h).enterSafe h 9
  else if m.wantSafe && (opticalMode mode || mode == 8) then
    if mode = 3 ∧ d.gateOpen h then (d.stopSpots h fun w => w.state == .armed).modMotion h fun x => { x with deferPark := true }
    else
      let d := clear (fun x => { x with wantSafe := false, wantAcquire := false, wantReloc := false }) d
      (if m.reacquire then d else d.seekFail t h).enterSafe h 9
  else if m.wantStop then (clear (fun x => { x with wantStop := false, wantSafe := false }) d).doStop t h
  else if m.wantPark then
    if mode = 9 ∧ !ramped then d
    else if mode = 3 ∧ d.gateOpen h then (d.stopSpots h fun w => w.state == .armed).modMotion h fun x => { x with deferPark := true }
    else (clear (fun x => { x with wantPark := false, wantSafe := false }) d).startPark t h
  else if m.wantAcquire && (opticalMode mode || (mode == 1 && d.opticalOk h)) then
    (clear (fun x => { x with wantAcquire := false, wantSafe := false }) d).enterAcquire h m.lastLayer
  else if m.wantReloc && (mode == 3 || (5 ≤ mode && mode ≤ 7)) then
    (clear (fun x => { x with wantReloc := false, wantSafe := false }) d).enterRelocate h
  else if m.wantReloc && mode == 1 && d.opticalOk h then
    (setF (clear (fun x => { x with wantReloc := false }) d) .MO_MODE_POS_VALID h 0).enterAcquire h m.lastLayer
  else if m.wantHome && mode != 9 && d.linkUp h then (clear (fun x => { x with wantHome := false, wantSafe := false }) d).enterHoming h
  else
    let d := clear (fun x => { x with wantSafe := false }) d
    match m.next with
    | some n => (clear (fun x => { x with next := none }) d).enterNext h n
    | none =>
      if mode = 9 then
        if ramped && d.laserOk h then
          let d := clear (fun x => { x with reacquire := false }) (d.enterRest h 1)
          if m.reacquire && d.opticalOk h then d.enterAcquire h m.lastLayer else d
        else d
      else if mode = 3 then d.followNext t h
      else if mode ≤ 1 ∧ m.profile.isNone then d.restNext h
      else d

/-! ## A Tick of mode control (R105, R126 to R130, R136, R141) -/

/-- Before the loops: the open-loop drives of the Tick, and the reference and position of a short seek. CA's mid value is taken as
16,384, and a crossing of TE with CA at or above it counts one band outward: DESIGN CHOICE (log entry 76). -/
def Dev.motionBefore (d : Dev) (h : HeadId) : Dev :=
  let m := (d.head h).motion
  let x := (d.head h).link.held
  let opened := match (d.loop h 0).drive with | .open_ _ => true | _ => false
  match d.mode h with
  | 2 =>
    match m.acq with
    | .sweep => if opened then d.openLoop h 0 m.sweep else d
    | .capture => if opened then d.openLoop h 0 m.sweep else d
    | .sweepBack v0 =>
      if opened then d.openLoop h 0 (v0 + Int.tdiv ((sweepLow - v0) * (min 400 (m.acqAge + 1) : Nat)) 400) else d
    | _ => d
  | 4 =>
    match m.jump with
    | some j =>
      let amp : Int := (256 * getF d .MO_JUMP_CFG_KICK_AMP h : Nat) * (if j.deeper then 1 else -1)
      match j.step with
      | .kick => d.modLoop h 0 fun x => { x with drive := .open_ (satSigned 16 (j.h + amp)), blend := none, want := none }
      | .coast => d.openLoop h 0 j.h
      | .brake => d.openLoop h 0 (satSigned 16 (j.h - amp))
      | _ => d
    | none => d
  | 5 =>
    match m.short with
    | some s =>
      let pos' := decide (0 < x.te)
      let count := if pos' = s.tePos then s.count else if 16384 ≤ x.ca then s.count + 2 ^ 24 else s.count - 2 ^ 24
      let path : Profile := { s.path with age := s.path.age + 1 }
      let ref := s.start + path.along path.age
      let pos := count + Config.bandPhase x.te (x.ca - 16384)
      let at_ := decide (ref = s.target)
      d.modMotion h fun y => { y with short := some { s with
        ref, path, count, tePos := pos', pos
        late := if at_ then s.late + 1 else 0
        capture := if at_ && decide ((ref - pos).natAbs * 10 < 2 ^ 24) then s.capture + 1 else 0 } }
    | none => d
  | _ => d

/-- The microsteps that VMAX allows in Tick `n` (R132). -/
def Dev.stepLimit (d : Dev) (h : HeadId) (n : Nat) : Nat :=
  let v := getF d .MO_SLED_CFG_VMAX h * 2
  (n + 1) * v / 3125 - n * v / 3125

/-- STEP of the Tick, and the speed that bears on the coils, in 1/16,777,216 full steps per second: that of the profile, or in FOLLOW
the mean over 400 Ticks with this one (R132, R136, R139). -/
def Dev.sledStep (d : Dev) (t : Nat) (h : HeadId) : Dev × Int × Nat :=
  let m := (d.head h).motion
  match m.profile with
  | some p =>
    let n := p.age + 1
    let sign : Int := if p.dist < 0 then -1 else 1
    let issued := Int.fdiv (sign * (p.at n : Nat)) 65536
    (d.modMotion h fun x => { x with profile := some { p with age := n, issued } }, issued - p.issued, (p.at n - p.at p.age) * 400000)
  | none =>
    if m.sledHalt then (d, 0, 0)
    else if d.mode h = 8 ∧ !m.homeEdge then
      let n := m.homeAge
      let s := (n + 1) * 16 / 125 - n * 16 / 125
      (d.modMotion h fun x => { x with homeAge := n + 1, travel := x.travel + s }, -(s : Int), 0)
    else if d.mode h = 3 then
      let lim : Int := d.stepLimit h (tickOf t)
      let s := clampInt (-lim) lim (d.loop h 3).field
      (d, s, (s + (m.steps.take 399).sum).natAbs * 65536000)
    else (d, 0, 0)

/-- The sled of a Tick: STEP, MO_POS, the coils (R135, R136). -/
def Dev.sledTick (d : Dev) (t : Nat) (h : HeadId) : Dev :=
  let r := d.sledStep t h
  let d := r.1
  let step := r.2.1
  let v := r.2.2
  let m := (d.head h).motion
  let on := getF d .MO_COIL_CFG_STRONG_ON h
  let hyst := getF d .MO_COIL_CFG_HYST h
  let coil := if m.coil = 3 then (if v < (on - hyst) * 16777216 then 2 else 3)
    else if m.coil = 2 then (if on * 16777216 ≤ v ∧ 0 < v then 3 else 2)
    else if step ≠ 0 then (if on * 16777216 ≤ v then 3 else 2) else m.coil
  let d := setI d .MO_POS_POS h (d.pos h + step)
  (d.modMotion h fun x => { x with steps := (step :: x.steps).take 400, coil, sledHalt := false, unsent := true }).modDown h fun x => { x with stepN := step, coil }

/-- A Tick of the S-curve search of a sweep (R127; log entry 30): the curves qualified so far are counted, and the curve after the
L-th is captured at its zero crossing. -/
def Dev.scurveTick (d : Dev) (h : HeadId) : Dev :=
  let m := (d.head h).motion
  let x := (d.head h).link.held
  let q : Int := (256 * getF d .MO_FOCUS_CFG_FE_QUAL h : Nat)
  let bright := decide (((256 * getF d .MO_FOCUS_CFG_SUM_QUAL h : Nat) : Int) ≤ x.sum)
  let m1 := if m.sphase = 0 ∧ q < x.fe then { m with sphase := 1 } else m
  if m1.sphase = 1 ∧ x.fe ≤ 0 then
    if bright ∧ m1.scount = m1.lastLayer then
      (d.modMotion h fun _ => { m1 with sphase := 2, sumOk := true, acq := .capture, settled := 0 }).select h 0
        (getF d .MO_LAWSEL0_FOC_CAPTURE h)
    else
      let m2 := { m1 with sphase := 2, sumOk := bright }
      d.modMotion h fun _ =>
        if x.fe < -q then { m2 with sphase := 0, scount := m2.scount + (if bright then 1 else 0) } else m2
  else if m1.sphase = 2 ∧ x.fe < -q then
    d.modMotion h fun _ => { m1 with sphase := 0, scount := m1.scount + (if m1.sumOk then 1 else 0) }
  else d.modMotion h fun _ => m1

/-- Mode control's part of ACQUIRE after the loops (R126 to R128, R123). The 200 Ticks of the laser count from LPWR's first. -/
def Dev.acquireAfter (d : Dev) (t : Nat) (h : HeadId) : Dev :=
  let m := (d.head h).motion
  let foc := d.loop h 0
  let lit := match (d.loop h 4).drive with | .law _ => true | _ => false
  let d := d.modMotion h fun x => { x with acqAge := if x.acq = .laserWait ∧ !lit then 0 else x.acqAge + 1 }
  let rate : Int := getF d .MO_FOCUS_CFG_SWEEP_RATE h
  let up (d : Dev) : Dev := d.modMotion h fun x => { x with sweep := min sweepHigh (x.sweep + rate) }
  match m.acq with
  | .sweep => d.scurveTick h |> up
  | .capture => if foc.failed then d.sweepMissed t h else up d
  | .toFollow =>
    if foc.failed then d.sweepMissed t h
    else if foc.completed ∧ foc.alone then
      d.modMotion h fun x => { x with next := some (if getB d .MO_MODE_POS_VALID h then 3 else 7) }
    else d
  | _ => d

/-- Mode control's part of a jump after the loops (R130, R131): FE leaves the departing layer's S-curve, then enters the target
layer's at BRAKE_LEVEL (log entry 31). JUMP ends, and TRK and TILT resume, once the hand-over to FOCUS_FOLLOW has completed: DESIGN
CHOICE (log entry 76). -/
def Dev.jumpAfter (d : Dev) (t : Nat) (h : HeadId) : Dev :=
  match (d.head h).motion.jump with
  | none => d
  | some j =>
    let foc := d.loop h 0
    let x := (d.head h).link.held
    let fe := if j.deeper then x.fe else -x.fe
    let lvl : Int := (256 * getF d .MO_SETTLE_CFG_BRAKE_LEVEL h : Nat)
    let dark := decide (x.sum < ((128 * getF d .MO_FOCUS_CFG_SUM_QUAL h : Nat) : Int))
    let j' := { j with age := j.age + 1 }
    if foc.failed then d.jumpFail t h
    else
      match j.step with
      | .coast =>
        if dark then d.jumpFail t h
        else if j.away ∧ lvl ≤ fe then d.modMotion h fun m => { m with jump := some { j' with step := .brake, age := 0, lobe := true } }
        else d.modMotion h fun m => { m with jump := some { j' with away := j.away || decide (fe ≤ -lvl) } }
      | .brake => if dark then d.jumpFail t h else d.modMotion h fun m => { m with jump := some j' }
      | .toFollow =>
        d.modMotion h fun m => { m with
          jump := some j', next := if foc.completed ∧ foc.alone then some 3 else m.next }
      | _ => d.modMotion h fun m => { m with jump := some j' }

/-- What a failed or finished hand-over of LPWR means (R123, R217), and the hand-back to LASER_READ. -/
def Dev.laserAfter (d : Dev) (h : HeadId) : Dev :=
  let m := (d.head h).motion
  let x := d.loop h 4
  if x.failed then
    let d := d.modLoop h 4 fun x => { x with failed := false }
    if m.laserWrite then
      let d := d.modMotion h fun x => { x with laserWrite := false }
      if d.inService (otherHead h) then
        -- the due writes move as R247 moves writes (R123)
        d.modData fun y => { y with writes := y.writes.map fun w => if d.writeDue h w then { w with head := otherHead h } else w }
      else d
    else if x.drive.slot? = some (getF d .MO_LAWSEL1_LPWR_WRITE h) then
      d.modMotion h fun x => { x with wantSafe := true, reacquire := true }
    else d
  else if d.mode h = 3 ∧ m.laserWrite ∧ x.alone ∧ !d.data.writes.any (fun w => (w.head == h && w.live) || d.writeDue h w) then
    d.selectLaser h m.lastLayer false
  else d

/-- Mode control after the loops of a Tick: counters, the S-curves, a jump's crossing, finished hand-overs, the sled, the
guard. -/
def Dev.motionAfter (d : Dev) (t : Nat) (h : HeadId) : Dev :=
  let x := (d.head h).link.held
  let quiet := decide (x.fe.natAbs < 64 * getF d .MO_SETTLE_CFG_SETTLE_FE h)
  let dark := decide (x.sum < ((128 * getF d .MO_FOCUS_CFG_SUM_QUAL h : Nat) : Int))
  let trip := decide (getF d .MO_GUARD_WG_TE h < x.teMax) || decide (getF d .MO_GUARD_WG_FE h < x.feMax)
  let d := d.modMotion h fun m => { m with
    age := m.age + 1
    settled := if quiet then m.settled + 1 else 0
    loss := if dark then m.loss + 1 else 0
    sledAge := m.sledAge.map (· + 1)
    guardClear := if trip then 0 else m.guardClear + 1 }
  let d := match d.mode h with
    | 2 => d.acquireAfter t h
    | 4 => d.jumpAfter t h
    | 5 =>
      let trk := d.loop h 1
      let ending := (d.head h).motion.short.any fun (s : ShortSeek) => s.ending
      if trk.failed then d.shortFail t h
      else if ending ∧ trk.completed ∧ trk.alone then d.modMotion h fun m => { m with next := some 3 }
      else d
    | _ => d
  let d := (d.laserAfter h).sledTick t h
  let cause := (if getF d .MO_GUARD_WG_TE h < x.teMax then 1 else 0) + (if getF d .MO_GUARD_WG_FE h < x.feMax then 2 else 0)
  let d := if trip && d.linkUp h then d.guardTrip h cause else d
  let d := allLoops.foldl (fun d l => d.modLoop h l fun x => { x with failed := false }) d
  setF (incF d .MO_ADDR_AGE h) .MO_MODE_SEEK_PEND h
    (b2n ((d.head h).motion.seek.isSome || (d.head h).motion.pendSeek.isSome))

/-- LENS_CENTRE_END. -/
def execLensCentreEnd (h : HeadId) (s : State) : Out := run s fun d => d.lensCentreEnd h
/-- RAMP_TO_ZERO_END. -/
def execRampToZeroEnd (h : HeadId) (s : State) : Out := run s fun d => d.rampEnd h
/-- ACQUIRE_LASER_WAIT_END. -/
def execAcquireLaserWaitEnd (h : HeadId) (s : State) : Out := run s fun d => d.laserWaitEnd h
/-- FOCUS_SETTLED. -/
def execFocusSettled (h : HeadId) (s : State) : Out := run s fun d => d.focusSettled h
/-- SWEEP_END. -/
def execSweepEnd (h : HeadId) (s : State) : Out := run s fun d => d.sweepEnd s.dtime h
/-- SWEEP_RETURN_END. -/
def execSweepReturnEnd (h : HeadId) (s : State) : Out := run s fun d => d.sweepReturnEnd h
/-- FOCUS_LOST. -/
def execFocusLost (h : HeadId) (s : State) : Out := run s fun d => d.focusLost s.dtime h
/-- JUMP_KICK_END. -/
def execJumpKickEnd (h : HeadId) (s : State) : Out := run s fun d => d.jumpKickEnd h
/-- JUMP_BRAKE_END. -/
def execJumpBrakeEnd (h : HeadId) (s : State) : Out := run s fun d => d.jumpBrakeEnd h
/-- JUMP_COAST_TIMEOUT. -/
def execJumpCoastTimeout (h : HeadId) (s : State) : Out := run s fun d => d.jumpCoastTimeout s.dtime h
/-- JUMP_SETTLED. -/
def execJumpSettled (h : HeadId) (s : State) : Out := run s fun d => d.jumpSettled h
/-- SLED_PROFILE_END. -/
def execSledProfileEnd (h : HeadId) (s : State) : Out := run s fun d => d.profileEnd h
/-- COIL_HOLD. -/
def execCoilHold (h : HeadId) (s : State) : Out := run s fun d => d.coilHold h
/-- RELOCATE_TIMEOUT. -/
def execRelocateTimeout (h : HeadId) (s : State) : Out := run s fun d => d.relocTimeout h
/-- HOME_TIMEOUT. -/
def execHomeTimeout (h : HeadId) (s : State) : Out := run s fun d => d.homeTimeout s.dtime h
/-- HOMING_PARK_DONE. -/
def execHomingParkDone (h : HeadId) (s : State) : Out := run s fun d => d.homeDone h
/-- HOME_SWITCH_REPORT. -/
def execHomeSwitchReport (h : HeadId) (seq steps : Nat) (closing : Bool) (s : State) : Out :=
  run s fun d => d.homeReport h seq steps closing
/-- SEEK_REQUEST. -/
def execSeekRequest (h : HeadId) (layer : Fin 16) (stripe : Nat) (s : State) : Out := run s fun d => d.seekRequest h layer stripe
/-- SLED_SETTLE_END. -/
def execSledSettleEnd (h : HeadId) (s : State) : Out := run s fun d => d.settleEnd h
/-- SHORT_SEEK_CAPTURE. -/
def execShortSeekCapture (h : HeadId) (s : State) : Out := run s fun d => d.shortCapture h
/-- SHORT_SEEK_TIMEOUT. -/
def execShortSeekTimeout (h : HeadId) (s : State) : Out := run s fun d => d.shortTimeout s.dtime h
/-- GUARD_SETTLED. -/
def execGuardSettled (h : HeadId) (s : State) : Out := run s fun d => (d.guardSettled h).showGuard h
/-- SHOCK_SETTLED. -/
def execShockSettled (s : SpinId) (st : State) : Out :=
  run st fun d => (headsOf s).foldl (fun d h => (d.guardSettled h).showGuard h) d
/-- STOP. -/
def execStop (h : HeadId) (byHost : Bool) (s : State) : Out := run s fun d => d.request h byHost fun m => { m with wantStop := true }
/-- PARK. -/
def execPark (h : HeadId) (byHost : Bool) (s : State) : Out := run s fun d => d.request h byHost fun m => { m with wantPark := true }
/-- HOME. -/
def execHome (h : HeadId) (byHost : Bool) (s : State) : Out := run s fun d => d.request h byHost fun m => { m with wantHome := true }
/-- RELOCATE. -/
def execRelocate (h : HeadId) (byHost : Bool) (s : State) : Out :=
  run s fun d => d.request h byHost fun m => { m with wantReloc := true }
/-- LASER_WRITE_HANDOVER. -/
def execLaserWriteHandover (h : HeadId) (s : State) : Out := run s fun d => d.laserToWrite h
/-- FOLLOWING_ERROR_FAULT. -/
def execFollowingErrorFault (h : HeadId) (l : LoopId) (s : State) : Out := run s fun d => d.followFault s.dtime h l

end Sys2Proof.Machine
end

