-- ==== Sys2Proof/Machine/Regs.lean ====
section
/-! DEFINITION. Registers as the host sees them, field by field: the value of a register word (R7), the values a write may carry
(R466), and the place of a BAR0 offset in the register maps (R11). -/

namespace Sys2Proof.Machine

/-- What a field that is held in the register file reads as: the pending value of an RV field, else the applied one (R7). -/
def fieldHeld (d : Dev) (f : Fld) (i : Nat) : Nat := (pendF d f i).getD (getF d f i)

/-- A register word from the values of its fields. -/
def wordOf (value : Fld → Nat) (fs : List Fld) : Nat := (fs.map fun f => value f % 2 ^ f.info.width * 2 ^ f.info.lo).sum

/-- The word of an instance of a register as the register file holds it. -/
def regHeld (d : Dev) (r : Reg) (i : Nat) : Nat := wordOf (fun f => fieldHeld d f i) r.fields

/-- The part of a register word that a field holds. -/
def fieldOf (f : Fld) (word : Nat) : Nat := word / 2 ^ f.info.lo % 2 ^ f.info.width

/-- The value lies in the range that the description of the field states (R466). -/
def rangeOk (f : Fld) (v : Nat) : Bool :=
  match f.info.range with
  | .all => true
  | .within lo hi => decide (lo ≤ v) && decide (v ≤ hi)
  | .signed lo hi => decide (lo ≤ toSigned f.info.width v) && decide (toSigned f.info.width v ≤ hi)

/-- The relation of REC_TH to DROP_TH, on the values that a word carries for both (R208, R466). -/
def recOk (word : Nat) : Bool := decide (fieldOf .FC_DEFECT_CFG_DROP_TH word ≤ fieldOf .FC_DEFECT_CFG_REC_TH word)

/-- The place of an offset in an array of the dimensions given: the flat instance and the byte in it. -/
def placeAt : List (Nat × Nat) → Nat → Nat → Option (Nat × Nat)
  | [], i, off => some (i, off)
  | (n, stride) :: l, i, off => if off / stride < n then placeAt l (i * n + off / stride) (off % stride) else none

/-- The instance of a register that holds a BAR0 offset, and the byte in it. The admin pair has no fence register (R296). -/
def Reg.place (r : Reg) (off : Nat) : Option (Nat × Nat) :=
  if off < r.info.base then none
  else
    match placeAt r.info.dims 0 (off - r.info.base) with
    | some (i, k) => if k < r.info.width / 8 ∧ !(r == .CL_QFENCE && i == 0) then some (i, k) else none
    | none => none

/-- The register, its instance and the byte in it that a BAR0 offset names; `none` where no map names one (R11). -/
def regAt (off : Nat) : Option (Reg × Nat × Nat) :=
  Reg.all.findSome? fun r => (r.place off).map fun p => (r, p.1, p.2)

/-- The first BAR0 offset of an instance of a register. -/
def instOffset : List (Nat × Nat) → Nat → Nat
  | [], _ => 0
  | (_, stride) :: l, i =>
    let inner := (l.map (·.1)).foldl (· * ·) 1
    i / inner * stride + instOffset l (i % inner)

/-- See `instOffset`. -/
def Reg.offset (r : Reg) (i : Nat) : Nat := r.info.base + instOffset r.info.dims i

/-- A field of the upper halfword of the last word of a taps register: the 36th of 35 taps, reserved (R362). -/
def reservedTap (f : Fld) (i : Nat) : Bool := (f == .HM_TAPS_HI || f == .FC_TAPS_HI) && i % 18 == 17

/-- Eight converters are named, all below 10 and none twice (R362). -/
def adcSelOk (l : List Nat) : Bool := l.all (fun v => decide (v < 10)) && decide l.Nodup

end Sys2Proof.Machine
end

