-- ==== Sys2Proof/Machine/Bezel.lean ====
section
/-! DEFINITION. The Bezel cores: a head's work in a Tick (R105, R106), learning passes (R102 to R104), the trace (R114 to R116),
overruns, failure and adoption (R111, R112, R250 to R252). -/

namespace Sys2Proof.Machine

/-! ## Learning passes (R102 to R104; log entry 32) -/

/-- The pass of a table: TRK or FOC. -/
def Head.learn (x : Head) (trk : Bool) : Learn := if trk then x.learnTrk else x.learnFoc

/-- A pass changed. -/
def Dev.modLearn (d : Dev) (h : HeadId) (trk : Bool) (f : Learn → Learn) : Dev :=
  d.modHead h fun x => if trk then { x with learnTrk := f x.learnTrk } else { x with learnFoc := f x.learnFoc }

/-- The loop of a table. -/
def learnLoop (trk : Bool) : LoopId := if trk then 1 else 0

/-- The table's mode in BZ_LEARN. -/
def learnMode (trk : Bool) : Fld := if trk then .BZ_LEARN_TRK_MODE else .BZ_LEARN_FOC_MODE

/-- The present Tick is an angle wrap of the head's spindle. -/
def Dev.wrapped (d : Dev) (h : HeadId) : Bool :=
  decide ((d.spin (spinOf h)).torc.angle < (d.spin (spinOf h)).torc.anglePrev)

/-- A condition of R103 holds in the present Tick: a gate open or armed, a change of law or the start of a hand-over, a fault,
a saturated output, a faulted link. -/
def Dev.learnSpoiled (d : Dev) (h : HeadId) (l : LoopId) : Bool :=
  let now := d.loop h l
  let old := (d.head h).before[l]
  d.data.writes.any (fun w => w.head == h && w.live)
    || now.drive.slot? != old.drive.slot? || (now.blend.isSome && old.blend.isNone)
    || now.faulted || getB d .BZ_LOOP_STAT_OUT_SAT (h.val * 5 + l.val) || (d.head h).link.faulted

/-- The bin of the present Tick. -/
def Dev.learnBin (d : Dev) (h : HeadId) : Nat := ((d.spin (spinOf h)).torc.angle + 128) % 65536 / 256

/-- Adding the Tick's sample to a pass. -/
def Learn.add (x : Learn) (bin : Nat) (y : Int) : Learn :=
  { x with sums := x.sums.set bin (x.sums.getD bin 0 + y), counts := x.counts.set bin (x.counts.getD bin 0 + 1) }

/-- A pass that starts: 256 empty bins. -/
def Learn.start : Learn := { running := true, sums := List.replicate 256 0, counts := List.replicate 256 0 }

/-- A pass's part of the Tick. -/
def Dev.learnTick (d : Dev) (h : HeadId) (trk : Bool) : Dev :=
  let l := learnLoop trk
  let x := (d.head h).learn trk
  let wrap := d.wrapped h
  let bad := d.learnSpoiled h l
  let clean := wrap && !bad
  let bin := d.learnBin h
  if getF d (learnMode trk) h = 0 then d.modLearn h trk fun _ => {}
  else if x.running && wrap && decide (getF d .BZ_LEARN_LEARN_REVS h ≤ x.wraps + 1) then
    d.modLearn h trk fun x => { x with wraps := x.wraps + 1, done := true, running := false, clean, bin }
  else if bad then d.modLearn h trk fun x => if x.done then x else {}
  else if x.running then
    d.modLearn h trk fun x => { x.add bin (d.loop h l).y with wraps := x.wraps + b2n wrap, clean := false }
  else d.modLearn h trk fun x => { x with clean, bin }

/-- LEARN_PASS_START (R102): at a wrap, with no condition of R103, a pending pass starts with the Tick's sample. -/
def Dev.learnStart (d : Dev) (h : HeadId) (trk : Bool) : Dev :=
  let x := (d.head h).learn trk
  if getF d (learnMode trk) h ≠ 0 ∧ x.clean ∧ !x.running ∧ !x.done then
    d.modLearn h trk fun _ => Learn.start.add x.bin (d.loop h (learnLoop trk)).y
  else d

/-- The means of the bins; a count beyond its 16 bits leaves its bin's mean open (log entry 32). -/
def Dev.learnMeans (d : Dev) (x : Learn) : Dev × List Int :=
  (x.sums.zip x.counts).foldl (fun (acc : Dev × List Int) p =>
    if 65535 < p.2 then
      let r := acc.1.drawInt
      (r.2, acc.2 ++ [r.1])
    else (acc.1, acc.2 ++ [divTie p.1 p.2])) (d, [])

/-- LEARN_PASS_END (R102, R104): the pass replaces the table, or fails for an empty bin; a single pass ends the mode, a
continuous one starts again. -/
def Dev.learnEnd (d : Dev) (h : HeadId) (trk : Bool) : Dev :=
  let x := (d.head h).learn trk
  if !x.done then d
  else
    let fld : Fld := if trk then .BZ_RUN_TRK_T else .BZ_RUN_FOC_T
    let d :=
      if x.counts.any (· == 0) then setF d (if trk then .BZ_LEARN_TRK_FAIL else .BZ_LEARN_FOC_FAIL) h 1
      else
        let r := d.learnMeans x
        let mean := divTie r.2.sum 256
        incF (r.2.zipIdx.foldl (fun d p =>
          setI { d with rvPend := Sparse.erase d.rvPend (regKey fld (h.val * 256 + p.2)) } fld (h.val * 256 + p.2)
            (satSigned 32 (p.1 - mean))) r.1) .BZ_LEARN_PASSES h
    if getF d (learnMode trk) h = 1 then setF (d.modLearn h trk fun _ => {}) (learnMode trk) h 0
    else
      d.modLearn h trk fun _ =>
        if x.clean then Learn.start.add x.bin (d.loop h (learnLoop trk)).y else {}

/-! ## A head's work in a Tick (R105, R106) -/

/-- COST of the head in the Tick (R106): 40 cycles more when a loop ran a law or was driven open-loop. -/
def Dev.showCost (d : Dev) (h : HeadId) (old : Vector LoopSt 5) : Dev :=
  let sum := (allLoops.map fun l => (d.loop h l).cost.getD 0).sum
  let busy := decide (0 < sum) || allLoops.any fun l => match old[l].drive with
    | .law _ => true
    | .open_ _ => true
    | _ => false
  setF d .BZ_HEAD_STAT_COST h (if busy then 40 + sum else 0)

/-- The laser may be on: in the optical modes, and in SAFE_PARK until its ramp has ended (R119). -/
def Dev.laserEn (d : Dev) (h : HeadId) : Bool :=
  let lit := match (d.loop h 4).drive with | .stopped => false | _ => true
  let ramp := match (d.loop h 0).drive with | .fall _ j n => decide (j ≤ n) | _ => false
  opticalMode (d.mode h) || (d.mode h == 9 && lit && ramp)

/-- The results of the Tick go to the next downstream frame (R72). -/
def Dev.fillDown (d : Dev) (h : HeadId) : Dev :=
  let en := d.laserEn h
  d.modDown h fun x => { x with
    focDrv := (d.loop h 0).field, trkDrv := (d.loop h 1).field, tiltDrv := (d.loop h 2).field
    laserSet := (d.loop h 4).field.toNat, laserEn := en }

/-- The work of Tick `n` of a head: mode control, the five loops in order, the frame's fields, the learning sums. A failed
Bezel does none, and a Tick in P3 or P4 carries none (R22). -/
def Dev.headWork (d : Dev) (t : Nat) (h : HeadId) : Dev :=
  if getB d .BZ_FAULT_FAILED (d.owner h) ∨ d.atRest then d
  else
    let d := (d.modHead h fun x => { x with before := x.loops, learnFoc0 := x.learnFoc, learnTrk0 := x.learnTrk }).motionBefore h
    let old := (d.head h).loops
    let d := allLoops.foldl (fun d l => d.loopTick t h l) d
    let d := (d.showCost h old).motionAfter t h
    let d := allLoops.foldl (fun d l => d.showSlots h l) d
    let d := ((setB d .MO_MODE_HANDOVER h (d.inHandover h)).showGuard h).fillDown h
    (d.learnTick h true).learnTick h false

/-! ## The trace (R114 to R116) -/

/-- The state of a stage as a trace node (R114). -/
def stageNode (kind : Nat) (x : StageSt) : Int :=
  match kind with
  | 2 => x.y1
  | 3 => x.s
  | 4 => x.x1
  | 7 => x.yp
  | _ => 0

/-- A link field as a trace node: signed fields extended to Q1.31, the others zero-extended (R66, R114). -/
def Dev.linkNode (d : Dev) (h : HeadId) (item : Nat) : Int :=
  let x := (d.head h).link.held
  let w := (d.head h).down
  match item with
  | 0 => x.fe * 2 ^ 16
  | 1 => x.te * 2 ^ 16
  | 2 => x.tilt * 2 ^ 16
  | 3 => x.sum * 2 ^ 16
  | 4 => x.ca * 2 ^ 16
  | 5 => x.mon * 2 ^ 16
  | 6 => x.iFoc * 2 ^ 16
  | 7 => x.iTrk * 2 ^ 16
  | 8 => x.iTilt * 2 ^ 16
  | 9 => x.stepPhase
  | 10 => x.temp * 2 ^ 16
  | 11 => w.focDrv * 2 ^ 16
  | 12 => w.trkDrv * 2 ^ 16
  | 13 => w.tiltDrv * 2 ^ 16
  | 14 => w.laserSet
  | _ => w.stepN * 2 ^ 16

/-- The value of a node code on a Bezel, 32 bits (R114). The upper half of a 32-bit state, x1 and yp, reads as its sign: DESIGN
CHOICE (log entry 75). -/
def Dev.traceNode (d : Dev) (b : BezelId) (code : Nat) : Nat :=
  match allHeads.find? fun h => d.owner h == b && getF d .BZ_HEAD_STAT_SLOT h == bits code 15 13 && decide (bits code 15 13 < 5) with
  | none => 0
  | some h =>
    let k := bits code 9 6
    match bits code 12 10 with
    | 7 => ofSigned 32 (d.linkNode h k)
    | 5 => 0
    | 6 => 0
    | n =>
      let x := d.loop h ⟨n % 5, Nat.mod_lt _ (by decide)⟩
      let run := match x.drive with
        | .law r => some r
        | .frozen r => some r
        | _ => none
      match run with
      | some r =>
        match (d.slotProgram h r.slot)[k]? with
        | none => 0
        | some s =>
          match bits code 5 4 with
          | 0 => ofSigned 32 (r.outs.getD k 0)
          | 1 => ofSigned 32 (source x.e r.outs s.srcA)
          | 2 => ofSigned 64 (stageNode s.kind (r.st.getD k {})) / 2 ^ 32
          | _ => ofSigned 64 (stageNode s.kind (r.st.getD k {})) % 2 ^ 32
      | none => 0

/-- NODE_k of a Bezel (R117). -/
def Dev.nodeCode (d : Dev) (b : BezelId) (k : Nat) : Nat :=
  16 * if k % 2 = 0 then getF d .BZ_TRACE_NODE_LO (b.val * 4 + k / 2) else getF d .BZ_TRACE_NODE_HI (b.val * 4 + k / 2)

/-- The trigger of R115 fires in a Tick whose NODE_0 reads `v`. -/
def Dev.traceFires (d : Dev) (b : BezelId) (v : Int) : Bool :=
  let x := d.bezel b
  let lvl := getI d .BZ_TRACE_LEVEL_LEVEL b
  let down := getB d .BZ_TRACE_CTL_DIR b
  x.forceNow ||
    match getF d .BZ_TRACE_CTL_KIND b with
    | 0 => if down then decide (v < lvl) else decide (lvl < v)
    | 1 => if down then decide (lvl ≤ x.node0Prev) && decide (v < lvl) else decide (x.node0Prev ≤ lvl) && decide (lvl < v)
    | 2 => x.faultEv
    | _ => false

/-- The trace of the Tick that began at `t` (R115, R116): while ARM is 1 a record is written and the trigger tested, until the
records after it are written. -/
def Dev.traceTick (d : Dev) (t : Nat) (b : BezelId) : Dev :=
  let v := toSigned 32 (d.traceNode b (d.nodeCode b 0))
  let x := d.bezel b
  let seen := d.modBezel b fun x => { x with node0Prev := v }
  let trig := getB d .BZ_TRACE_STAT_TRIGGERED b
  if !getB d .BZ_TRACE_CTL_ARM b || (trig && x.post == 0) || (getB d .BZ_FAULT_FAILED b && !x.coreFail) then seen
  else
    let d' := (List.range 8).foldl (fun a k => setF a .BZ_TRACE_RAM_W ((b.val * 8192 + x.wr) * 8 + k) (d.traceNode b (d.nodeCode b k))) seen
    if trig then d'.modBezel b fun x => { x with wr := (x.wr + 1) % 8192, post := x.post - 1, coreFail := false }
    else if d.traceFires b v then
      let pre := getF d .BZ_TRACE_CTL_PRE b
      let ended := x.coreFail && getF d .BZ_TRACE_CTL_KIND b == 2
      let d' := setF (setF (setF (setF d' .BZ_TRACE_STAT_TRIGGERED b 1) .BZ_TRACE_STAT_TRIG_IDX b x.wr) .BZ_TRACE_STAT_PRE_VALID b
        (min pre x.since)) .BZ_TRACE_TIME_TIME b t
      let d' := d'.modBezel b fun x => { x with wr := (x.wr + 1) % 8192, post := if ended then 0 else 8191 - pre, coreFail := false }
      if ended then setF (setF d' .BZ_TRACE_STAT_DONE b 1) .BZ_TRACE_CTL_ARM b 0 else d'
    else d'.modBezel b fun x => { x with wr := (x.wr + 1) % 8192, since := x.since + 1, coreFail := false }

/-- Setting ARM (R116). -/
def Dev.traceSetArm (d : Dev) (b : BezelId) : Dev :=
  (setF (setF (setF (setF d .BZ_TRACE_CTL_ARM b 1) .BZ_TRACE_STAT_DONE b 0) .BZ_TRACE_STAT_TRIGGERED b 0) .BZ_TRACE_STAT_PRE_VALID b 0).modBezel
    b fun x => { x with since := 0, post := 0 }

/-- A write of FORCE fires the trigger in the next Tick (R115), of a trace that is armed then. -/
def Dev.traceForce (d : Dev) (b : BezelId) : Dev := d.modBezel b fun x => { x with force := true }

/-- A write of BZ_TRACE_CTL (R115 to R117). ARM written 1 while it is 1 goes on with the capture. -/
def Dev.traceWrite (d : Dev) (b : BezelId) (word : Nat) : Dev :=
  let d := setF (setF d .BZ_TRACE_CTL_KIND b (bits word 29 28)) .BZ_TRACE_CTL_DIR b (bits word 27 27)
  let d := if bits word 26 13 ≤ 8191 then setF d .BZ_TRACE_CTL_PRE b (bits word 26 13) else d
  let d := if !bit word 31 then setF d .BZ_TRACE_CTL_ARM b 0 else if getB d .BZ_TRACE_CTL_ARM b then d else d.traceSetArm b
  if bit word 30 then d.traceForce b else d

/-- A write of BZ_TRACE_NODE (R114, R116): ignored while ARM is 1; a reserved LOOP code leaves the LOOP of its node as it was (R466). -/
def Dev.nodeWrite (d : Dev) (i word : Nat) : Dev :=
  if getB d .BZ_TRACE_CTL_ARM (i / 4) then d
  else
    ([.BZ_TRACE_NODE_HI, .BZ_TRACE_NODE_LO] : List Fld).foldl (fun d f =>
      let x := fieldOf f word
      let loop := bits x 8 6
      setF d f i (if loop = 5 ∨ loop = 6 then putBits x 6 3 (bits (getF d f i) 8 6) else x)) d

/-- TRACE_CAPTURE_DONE (R115): the records after the trigger are written. -/
def Dev.traceDone (d : Dev) (b : BezelId) : Dev :=
  if getB d .BZ_TRACE_CTL_ARM b && getB d .BZ_TRACE_STAT_TRIGGERED b && (d.bezel b).post == 0 then
    setF (setF d .BZ_TRACE_STAT_DONE b 1) .BZ_TRACE_CTL_ARM b 0
  else d

/-- The end of a Bezel's Tick that began at `t`: LOAD and PEAK, the trace. -/
def Dev.bezelEnd (d : Dev) (t : Nat) (b : BezelId) : Dev :=
  let load := if getB d .BZ_FAULT_FAILED b then 0 else ((d.headsOn b).map fun (h : HeadId) => getF d .BZ_HEAD_STAT_COST h).sum
  let d := setF (setF d .BZ_BUDGET_LOAD b load) .BZ_BUDGET_PEAK b (max load (getF d .BZ_BUDGET_PEAK b))
  (d.traceTick t b).modBezel b fun x => { x with faultEv := false, forceNow := false }

/-! ## Overruns (R111) -/

/-- The registers of an incomplete loop return to what they showed before its computation; stage flags that the host has cleared
since stay clear (R111). -/
def Dev.showBefore (d : Dev) (h : HeadId) (l : LoopId) : Dev :=
  let i := h.val * 5 + l.val
  let x := (d.loop h l).shown
  let d := setF (setF d .BZ_LOOP_STAT_FE_COUNT i x.fe) .BZ_LOOP_STAT_OUT_SAT i x.sat
  setF (setF d .BZ_LOOP_STAT_INT_HOLD i x.hold) .BZ_LOOP_SAT_STAGE_SAT i (Nat.land (getF d .BZ_LOOP_SAT_STAGE_SAT i) x.stages)

/-- The learning pass of an incomplete loop takes the output that is repeated in place of the one computed (R102, R111). -/
def Dev.learnLate (d : Dev) (h : HeadId) (l : LoopId) : Dev :=
  if l = 0 then (d.modHead h fun x => { x with learnFoc := x.learnFoc0 }).learnTick h false
  else if l = 1 then (d.modHead h fun x => { x with learnTrk := x.learnTrk0 }).learnTick h true
  else d

/-- An incomplete loop (R111): it keeps its state and its output of the previous Tick; a late SLED repeats its STEP. -/
def Dev.loopLate (d : Dev) (h : HeadId) (l : LoopId) : Dev :=
  let d := ((d.showBefore h l).modHead h fun x => { x with loops := x.loops.set l x.before[l] }).learnLate h l
  let m := (d.head h).motion
  if l = 3 ∧ d.mode h = 3 ∧ m.profile.isNone then
    let prev := m.steps.getD 1 0
    let d := setI d .MO_POS_POS h (d.pos h - m.steps.headD 0 + prev)
    (d.modMotion h fun m => { m with steps := prev :: m.steps.drop 1 }).modDown h fun x => { x with stepN := prev }
  else d

/-! ## Failure and adoption (R112, R250 to R252) -/

/-- The transmitter discards the armings that a core has issued under another epoch and that have not gone out, and counts each (R76,
R251). A failed core issues no servo commands: the transmitter repeats its last outputs. -/
def Dev.dropStale (d : Dev) (h : HeadId) : Dev :=
  let x := (d.head h).down
  if x.armReq = 0 ∨ x.armEpoch = getF d .HL_STATUS_EPOCH h then d
  else
    (incF d .HL_ERR_STALE h (allSpots.filter fun s => bit x.armReq s && !bit x.wArm s).length).modDown h fun x =>
      { x with armReq := Nat.land x.armReq x.wArm }

/-- The epoch of a head advances (R76). -/
def Dev.epochAdvance (d : Dev) (h : HeadId) : Dev :=
  let e := (getF d .HL_STATUS_EPOCH h + 1) % 16
  ((setF d .HL_STATUS_EPOCH h e).modDown h fun x => { x with epoch := e, epochAdv := true }).dropStale h

/-- The Bezel that adopts a head of Bezel `b` (R250). -/
def Dev.adopter (d : Dev) (b : BezelId) : Option BezelId :=
  ((List.range 31).map fun k => (⟨(b.val + 1 + k) % 32, Nat.mod_lt _ (by decide)⟩ : BezelId)).find? fun c =>
    !getB d .BZ_FAULT_FAILED c && (d.bezel c).adopted.isNone

/-- A head that no Bezel takes (R250): faulted under R247. -/
def Dev.adoptNone (d : Dev) (t : Nat) (h : HeadId) : Dev :=
  let d := (((d.event t .BZ_ADOPT_NONE h).sledStop h).setMode h 10).allStopped h
  let d := d.modDown h fun x => { x with focDrv := 0, trkDrv := 0, tiltDrv := 0, laserSet := 0, stepN := 0, coil := 1, laserEn := false }
  d.headLost t h

/-- The adoption of a head (R110, R251): its loops stop; above 3,880 cycles ADOPT_PARK; else it goes to ACQUIRE for the layer
followed last, from an optical mode (log entry 33). -/
def Dev.adopt (d : Dev) (t : Nat) (h : HeadId) (c : BezelId) : Dev :=
  let d := setF (setF d .BZ_HEAD_STAT_OWNER h c) .BZ_HEAD_STAT_SLOT h 4
  let d := ((d.modBezel c fun x => { x with adopted := some h }).epochAdvance h).allStopped h
  if 3880 < d.worstSum c then
    let d := (((setF d .BZ_HEAD_STAT_ADOPT_PARK h 1).event t .BZ_ADOPT_OVER h).sledStop h).setMode h 9
    let d := d.modDown h fun x =>
      { x with focDrv := 0, trkDrv := 0, tiltDrv := 0, laserSet := 0, stepN := 0, coil := 1, laserEn := false }
    -- the surface may have no head in service left (R248)
    if d.inService h then d else d.headLost t h
  else if opticalMode (d.mode h) then d.enterAcquire h (d.head h).motion.lastLayer
  else d

/-- The heads of a failed Bezel in the order of R250; a head that is not fitted is never adopted (R413). -/
def Dev.orphans (d : Dev) (b : BezelId) : List HeadId :=
  (headsOf b).filter (fun h => d.owner h == b && d.fitted h) ++ (match (d.bezel b).adopted with
    | some h => if d.owner h = b then [h] else []
    | none => [])

/-- The adoption of every head of a failed Bezel (R250, R251). -/
def Dev.adoptAll (d : Dev) (t : Nat) (b : BezelId) : Dev :=
  ((d.orphans b).foldl (fun d h =>
    match d.adopter b with
    | some c => d.adopt t h c
    | none => d.adoptNone t h) d).modBezel b fun x => { x with adopted := none, adoptDue := none }

/-- A Bezel fails (R112, R251 step 1): the outputs of its heads repeat and their spots stop; adoption follows at the second
Tick boundary. -/
def Dev.bezelFail (d : Dev) (t : Nat) (b : BezelId) : Dev :=
  if getB d .BZ_FAULT_FAILED b then d
  else
    let d := (setF d .BZ_FAULT_FAILED b 1).event t .BZ_CORE_FAIL b
    let d := setF d .KP_CORES_BEZEL 0 (Nat.lor (getF d .KP_CORES_BEZEL 0) (2 ^ b.val))
    let d := (d.orphans b).foldl (fun d h => (allLoops.foldl (fun d l => d.loopLate h l) d).fillDown h |>.stopHead h) d
    d.modBezel b fun x => { x with coreFail := true, faultEv := true, adoptDue := some 2 }

/-- A Tick boundary of a failed Bezel (R251). -/
def Dev.adoptTick (d : Dev) (t : Nat) (b : BezelId) : Dev :=
  match (d.bezel b).adoptDue with
  | none => d
  | some n => if n ≤ 1 then d.adoptAll t b else d.modBezel b fun x => { x with adoptDue := some (n - 1) }

/-- BEZEL_OVERRUN (R111, R112). -/
def Dev.bezelOverrun (d : Dev) (t : Nat) (b : BezelId) (late : List (HeadId × LoopId)) (cycles : Nat) : Dev :=
  let late := late.filter fun x => d.owner x.1 == b
  match late with
  | [] => d
  | (h0, l0) :: _ =>
    if getB d .BZ_FAULT_FAILED b then d
    else
      let d := late.foldl (fun d x => ((d.loopLate x.1 x.2).fillDown x.1).stopHead x.1) d
      let d := (incF d .BZ_FAULT_OVERRUNS b).event t .BZ_OVERRUN b [h0, l0, cycles, late.length]
      let d := setF (setF d .BZ_FAULT_LAST_SLOT b (getF d .BZ_HEAD_STAT_SLOT h0)) .BZ_FAULT_LAST_LOOP b l0
      let again := (d.bezel b).lastOvr.any fun (n : Nat) => decide (tickOf t ≤ n + getF d .BZ_CTL_OVR_WINDOW b)
      let d := d.modBezel b fun x => { x with lastOvr := some (tickOf t), faultEv := true }
      if again then d.bezelFail t b else d

/-- LEARN_PASS_START. -/
def execLearnPassStart (h : HeadId) (trk : Bool) (s : State) : Out := run s fun d => d.learnStart h trk
/-- LEARN_PASS_END. -/
def execLearnPassEnd (h : HeadId) (trk : Bool) (s : State) : Out := run s fun d => d.learnEnd h trk
/-- TRACE_ARM: a write of BZ_TRACE_CTL with ARM 1. -/
def execTraceArm (b : BezelId) (word : Nat) (s : State) : Out := run s fun d => d.traceWrite b (putBits word 31 1 1)
/-- TRACE_FORCE. -/
def execTraceForce (b : BezelId) (s : State) : Out := run s fun d => d.traceForce b
/-- TRACE_CAPTURE_DONE. -/
def execTraceCaptureDone (b : BezelId) (s : State) : Out := run s fun d => d.traceDone b
/-- BEZEL_OVERRUN. -/
def execBezelOverrun (b : BezelId) (late : List (HeadId × LoopId)) (cycles : Nat) (s : State) : Out :=
  run s fun d => d.bezelOverrun s.dtime b late cycles

end Sys2Proof.Machine
end

