-- ==== Sys2Proof/Machine/Casket.lean ====
section
/-! DEFINITION. Casket (R316 to R325): the array with its folded index and tree pseudo-LRU, the merging and eviction buffers,
ZLINE, the disable and the drain for P3. A line is named by its line address A[37:7]. -/

namespace Sys2Proof.Machine

/-! ## The array (R316, R317) -/

/-- The set of a line (R317): A[21:7] XOR A[36:22] XOR (A[37] × 0x4000). -/
def lineSet (line : Nat) : Nat := Nat.xor (Nat.xor (bits line 14 0) (bits line 29 15)) (bits line 30 30 * 0x4000)

/-- The DRAM channel and subchannel of a line (R327): the XOR of A[7], A[15], A[23], A[31], and of A[8], A[16], A[24], A[32]. -/
def lineChannel (line : Nat) : Nat := (bits line 0 0 + bits line 8 8 + bits line 16 16 + bits line 24 24) % 2
/-- See `lineChannel`. -/
def lineSubchannel (line : Nat) : Nat := (bits line 1 1 + bits line 9 9 + bits line 17 17 + bits line 25 25) % 2

/-- The line of the array, if it is held there. -/
def Mem.hit? (m : Mem) (line : Nat) : Option ArrLine := m.array.find? (·.line == line)

/-- The way is disabled under R336. -/
def Mem.dead (m : Mem) (set way : Nat) : Bool := m.deadWays.contains (set, way)

/-- The 15 tree bits of a set: bit n for node n, whose children are nodes 2n + 1 and 2n + 2; 0 points to the left (log
entry 22). -/
def Mem.tree (m : Mem) (set : Nat) : Nat := Sparse.get (fun _ => 0) m.plru set

/-- The victim under a node by the tree, past disabled ways: `depth` levels remain; `low` is the first way under the node. -/
def treeVictim (alive : Nat → Bool) (t : Nat) : Nat → Nat → Nat → Option Nat
  | 0, _, low => if alive low then some low else none
  | depth + 1, n, low =>
    let left := treeVictim alive t depth (2 * n + 1) low
    let right := treeVictim alive t depth (2 * n + 2) (low + 2 ^ depth)
    if bit t n then right.or left else left.or right

/-- The tree after a use of a way: every node on its path points away from it. -/
def treeUse (way : Nat) : Nat → Nat → Nat → Nat
  | 0, _, t => t
  | depth + 1, n, t =>
    let b := way / 2 ^ depth % 2
    treeUse way depth (2 * n + 1 + b) (putBits t n 1 (1 - b))

/-- A use of a way. -/
def Mem.touch (set way : Nat) (m : Mem) : Mem :=
  { m with plru := Sparse.set (fun _ => 0) m.plru set (treeUse way 4 0 (m.tree set)) }

/-- The way that an allocation takes: a free one, else the victim of the tree (R316; log entry 22). -/
def Mem.wayFor (m : Mem) (set : Nat) : Option Nat :=
  match (List.range 16).find? fun w => !m.dead set w && !m.array.any fun a => a.set == set && a.way == w with
  | some w => some w
  | none => treeVictim (fun w => !m.dead set w) (m.tree set) 4 0 0

/-- Allocating a line with its bytes, in the way that holds it already or in another; the victim is dropped without a DRAM write
(R316). -/
def Mem.allocate (m : Mem) (line : Nat) (bytes : List Byte) : Mem :=
  let s := lineSet line
  match ((m.hit? line).map (·.way)).or (m.wayFor s) with
  | none => m
  | some w =>
    Mem.touch s w { m with
      array := (m.array.filter fun a => !(a.line == line || (a.set == s && a.way == w))) ++ [⟨s, w, line, bytes⟩] }

/-- The array takes no allocation while Casket is disabled (R324). -/
def Mem.off (m : Mem) : Bool := m.noAlloc

/-! ## DRAM and the buffers (R318 to R322) -/

/-- A DRAM byte: 0x00 where nothing has been written (log entry 5). -/
def Mem.dramByte (m : Mem) (a : Nat) : Byte := Sparse.get (fun _ => (0 : Byte)) m.dram a

/-- The 128 bytes of a line in DRAM. -/
def Mem.dramLine (m : Mem) (line : Nat) : List Byte := (List.range 128).map fun i => m.dramByte (line * 128 + i)

/-- DRAM takes the bytes of a line. -/
def Mem.writeDram (m : Mem) (line : Nat) (bytes : List Byte) : Mem :=
  let put (l : List Host.Cell) (i : Nat) := Sparse.set (fun _ => (0 : Byte)) l (line * 128 + i) (bytes.getD i 0)
  { m with dram := (List.range 128).foldl put m.dram }

/-- Bytes laid over others under a mask. -/
def overlay (mask : List Bool) (new old : List Byte) : List Byte :=
  (List.range 128).map fun i => if mask.getD i false then new.getD i 0 else old.getD i 0

/-- The merging buffer entry and the eviction buffer entry of a line. -/
def Mem.merge? (m : Mem) (line : Nat) : Option BufLine := m.merge.find? (·.line == line)
/-- See `Mem.merge?`. -/
def Mem.evict? (m : Mem) (line : Nat) : Option EvictLine := m.evict.find? (·.line == line)

/-- What a fill brings (R318): the eviction buffer entry when one exists, else DRAM. -/
def Mem.fill (m : Mem) (line : Nat) : List Byte :=
  match m.evict? line with
  | some e => e.bytes
  | none => m.dramLine line

/-- The merging buffer entry's bytes laid over others. -/
def Mem.overMerge (m : Mem) (line : Nat) (bs : List Byte) : List Byte :=
  match m.merge? line with
  | some e => overlay e.mask e.bytes bs
  | none => bs

/-- A read of a line (R318): every byte from the newest source. -/
def Mem.lineBytes (m : Mem) (line : Nat) : List Byte :=
  m.overMerge line (match m.evict? line, m.hit? line with
    | some e, _ => e.bytes
    | none, some a => a.bytes
    | none, none => m.dramLine line)

/-- A read request (R318): a hit is a use of its way; a miss allocates, unless Casket is disabled. -/
def Mem.readLine (m : Mem) (line : Nat) : Mem :=
  match m.hit? line with
  | some a => m.touch a.set a.way
  | none => if m.off then m else m.allocate line (m.overMerge line (m.fill line))

/-- A read that misses the array and finds other bytes in DRAM, their check bits good (R329). -/
def Mem.readLineAs (m : Mem) (line : Nat) (bs : List Byte) : Mem := if m.off then m else m.allocate line (m.overMerge line bs)

/-- The array line of a write hit takes the masked bytes (R319). -/
def Mem.writeArray (m : Mem) (line : Nat) (mask : List Bool) (bs : List Byte) : Mem :=
  match m.hit? line with
  | none => m
  | some a =>
    Mem.touch a.set a.way
      { m with array := m.array.map fun x => if x.line = line then { x with bytes := overlay mask bs x.bytes } else x }

/-- A QUEUED eviction buffer entry takes a write's bytes as well; an ISSUED one is left alone (R322). -/
def Mem.writeEvict (m : Mem) (line : Nat) (mask : List Bool) (bs : List Byte) : Mem :=
  { m with evict := m.evict.map fun e =>
      if e.line = line ∧ !e.issued then { e with bytes := overlay mask bs e.bytes } else e }

/-- The merging buffer's part of a write: it merges into the line's entry or takes a new one (R319). -/
def Mem.writeMerge (m : Mem) (t line : Nat) (mask : List Bool) (bs : List Byte) : Mem :=
  match m.merge? line with
  | some _ =>
    { m with merge := m.merge.map fun e =>
        if e.line = line then
          { e with bytes := overlay mask bs e.bytes, mask := (List.range 128).map fun i => e.mask.getD i false || mask.getD i false }
        else e }
  | none => { m with merge := m.merge ++ [⟨line, overlay mask bs (zeros 128), (List.range 128).map fun i => mask.getD i false, t⟩] }

/-- The mask of all 128 bytes. -/
def fullMask : List Bool := List.replicate 128 true

/-- An accepted write in its three places (R319); an accepted ZLINE allocates its line first (R323). -/
def Mem.accept (m : Mem) (t : Nat) (w : WaitWrite) : Mem :=
  let m := (if w.zero ∧ !m.off then m.allocate w.line (zeros 128) else m).writeArray w.line w.mask w.bytes
  (m.writeEvict w.line w.mask w.bytes).writeMerge t w.line w.mask w.bytes

/-- The buffer has room for a write: an entry of its line, or one of the 256 free (R319). -/
def Mem.roomFor (m : Mem) (line : Nat) : Bool := (m.merge? line).isSome || decide (m.merge.length < 256)

/-- A write or ZLINE arriving (R319, R323): with the buffer full, or behind a write of its line that waits, it waits in turn. -/
def Mem.write (m : Mem) (t : Nat) (w : WaitWrite) : Mem :=
  if m.roomFor w.line ∧ (m.waiting.isEmpty ∨ (m.merge? w.line).isSome ∧ m.waiting.all (·.line != w.line)) then m.accept t w
  else { m with waiting := m.waiting ++ [w] }

/-- Writes that wait are accepted while there is room, with `fuel` at most. -/
def Mem.admitWaiting (t : Nat) : Nat → Mem → Mem
  | 0, m => m
  | fuel + 1, m =>
    match m.waiting with
    | [] => m
    | w :: l => if m.roomFor w.line then Mem.admitWaiting t fuel ({ m with waiting := l }.accept t w) else m

/-- DRAM writes are issued in entry order: the oldest entry is the one being written (R321; log entry 23). -/
def Mem.issue (m : Mem) : Mem :=
  match m.evict with
  | [] => m
  | e :: l => { m with evict := { e with issued := true } :: l }

/-- A merging buffer entry drains (R320, R321): completed to a whole line, from the array or else from the bytes that a fill brings,
it merges into a QUEUED entry of its line, waits for an ISSUED one or for room, or takes a new entry. -/
def Mem.drainOver (m : Mem) (line : Nat) (fill : List Byte) : Mem :=
  match m.merge? line with
  | none => m
  | some e =>
    let wait := if m.drainWait.contains line then m else { m with drainWait := m.drainWait ++ [line] }
    let base := match m.hit? line with
      | some a => a.bytes
      | none => fill
    let bs := overlay e.mask e.bytes base
    let out : Mem := { m with
      merge := m.merge.filter (·.line != line), drainWait := m.drainWait.filter (· != line) }
    match m.evict? line with
    | some x =>
      if x.issued then wait
      else { out with evict := out.evict.map fun y => if y.line = line then { y with bytes := bs } else y }
    | none => if 32 ≤ m.evict.length then wait else Mem.issue { out with evict := out.evict ++ [⟨line, bs, false⟩] }

/-- The drain of an entry whose fill is good. -/
def Mem.drain (m : Mem) (line : Nat) : Mem := m.drainOver line (m.fill line)

/-- The disable or the P3 drain has nothing left to wait for: the array is being invalidated (R324, R325). -/
def Mem.drainCheck (m : Mem) : Mem :=
  if (m.disabling || m.p3Drain) && !m.invalidating && m.drainSet.isEmpty then { m with invalidating := true } else m

/-- Starting the drain of every entry present (R324, R325). -/
def Mem.startDrain (m : Mem) : Mem :=
  let lines := m.merge.map (·.line)
  let m : Mem := { m with noAlloc := true, invalidating := false, drainSet := (m.drainSet ++ lines).eraseDups }
  (lines.foldl Mem.drain m).drainCheck

/-- DRAM has completed the write of the oldest entry (R321): the next is issued, the drains that waited go on, and what a
disable waits for is one line less. -/
def Mem.writeDone (m : Mem) (t line : Nat) : Mem :=
  match m.evict with
  | [] => m
  | e :: l =>
    if e.line = line ∧ e.issued then
      let again := m.drainWait.contains line
      let m : Mem := { (m.writeDram line e.bytes) with
        evict := l, drainSet := if again then m.drainSet else m.drainSet.filter (· != line) }
      let m := m.issue
      let m := m.drainWait.foldl Mem.drain m
      (Mem.admitWaiting t m.waiting.length m).drainCheck
    else m

/-- The invalidation of the array has ended (R324): it is empty; with DISABLE still 1, or in P3, it takes no allocation. -/
def Dev.invalidated (d : Dev) : Dev :=
  let m := d.mem
  if !m.invalidating then d
  else
    let keep := getB d .CK_CTL_DISABLE 0
    let d := d.modMem fun m => { m with
      array := [], plru := [], invalidating := false, drainSet := [], disabling := false, p3Drain := false
      noAlloc := keep || m.p3Drain }
    if m.disabling ∧ keep then setF d .CK_STAT_DISABLED 0 1 else d

/-- CASKET_DISABLE (R324). -/
def Dev.casketDisable (d : Dev) : Dev :=
  let d := setF d .CK_CTL_DISABLE 0 1
  if getB d .CK_STAT_DISABLED 0 then d else d.modMem fun m => { m with disabling := true }.startDrain

/-- CASKET_ENABLE (R324): a disable that runs finishes its invalidation first. -/
def Dev.casketEnable (d : Dev) : Dev :=
  let d := setF d .CK_CTL_DISABLE 0 0
  if d.mem.disabling || d.mem.p3Drain then d
  else setF (d.modMem fun m => { m with noAlloc := false }) .CK_STAT_DISABLED 0 0

/-- Entry to P3 drains the merging buffer and invalidates the array (R325). -/
def Dev.casketRest (d : Dev) : Dev := d.modMem fun m => { m with p3Drain := true }.startDrain

/-- The exit from P3: allocation starts again unless Casket is disabled. -/
def Dev.casketResume (d : Dev) : Dev :=
  d.modMem fun m => { m with p3Drain := false, noAlloc := m.disabling || getB d .CK_CTL_DISABLE 0 }

/-- Every reset kind invalidates the array (R325); a disable or a P3 drain that runs goes on. -/
def Dev.casketReset (d : Dev) : Dev := d.modMem fun m => { m with array := [], plru := [] }

/-- The most spare lines in use in any SRAM group (R336). -/
def Mem.sparesMax (m : Mem) : Nat := (m.spareLines.map fun x => (m.spareLines.filter (·.1 == x.1)).length).foldl max 0

/-- The highest write count of any journal unit (R337). -/
def Mem.wearMax (m : Mem) : Nat := (m.wear.map (·.2)).foldl max 0

/-- The lines that the populated DRAM holds: its capacity of 16 GiB × 2^CAP in lines of 128 bytes (R327, R339). -/
def Dev.dramLines (d : Dev) : Nat := 2 ^ (27 + min 4 (getF d .MI_DRAM_CFG_CAP 0))

/-- A command of Casket on a line of the populated DRAM; another line does not exist (log entry 71). -/
def onLine (s : State) (line : Nat) (f : Dev → Dev) : Out :=
  if line < s.dev.dramLines then run s f else .fault (.noSuchLine line)

/-- CASKET_WRITE. -/
def execCasketWrite (line : Nat) (mask : List Bool) (data : List Byte) (s : State) : Out :=
  onLine s line fun d => d.modMem fun m => m.write s.dtime ⟨line, mask, data, false⟩
/-- EVICTION_WRITE_DONE. -/
def execEvictionWriteDone (line : Nat) (s : State) : Out := onLine s line fun d => d.modMem fun m => m.writeDone s.dtime line
/-- ZLINE. -/
def execZline (line : Nat) (s : State) : Out :=
  onLine s line fun d => d.modMem fun m => m.write s.dtime ⟨line, fullMask, zeros 128, true⟩
/-- CASKET_DISABLE. -/
def execCasketDisable (s : State) : Out := run s fun d => d.casketDisable
/-- CASKET_ENABLE. -/
def execCasketEnable (s : State) : Out := run s fun d => d.casketEnable
/-- INVALIDATE_DONE. -/
def execInvalidateDone (s : State) : Out := run s fun d => d.invalidated

/-! ## The journal (R337) -/

/-- The write count of a physical unit. -/
def Mem.wearOf (m : Mem) (u : Nat) : Nat := Sparse.get (fun _ => 0) m.wear u

/-- The least worn of units that are free; of equals the first (log entry 24). -/
def Mem.leastWorn (m : Mem) : List Nat → Option Nat
  | [] => none
  | u :: l =>
    match m.leastWorn l with
    | some v => if m.wearOf v < m.wearOf u then some v else some u
    | none => some u

/-- The free unit that the next update takes: a spare never used, else the least worn. -/
def Mem.nextUnit (m : Mem) : Option Nat := if m.jnext < 262144 then some m.jnext else m.leastWorn m.jfree

/-- An update of a logical unit (R337): the least-worn free unit is written, and the map entry switches to it. -/
def Mem.journalWrite (m : Mem) (unit : Nat) : Mem :=
  match m.nextUnit with
  | none => m
  | some u =>
    let old := Sparse.get id m.jmap unit
    { m with
      wear := Sparse.set (fun _ => 0) m.wear u (m.wearOf u + 1)
      jmap := Sparse.set id m.jmap unit u
      jfree := (m.jfree.filter (· != u)) ++ [old]
      jnext := if u = m.jnext then m.jnext + 1 else m.jnext }

/-- The journal keeps a second copy of a logical unit (R338): chain definitions, link coefficients, the memory remap tables and
volume definitions. -/
def twoCopies (unit : Nat) : Bool :=
  decide (0xC20000 ≤ unit * 64 ∧ unit * 64 < 0xC68000) || decide (0xD68000 ≤ unit * 64 ∧ unit * 64 < 0xE68000)

/-- JOURNAL_UPDATE (R337): a logical unit below 245,760; a unit that fails its check raises MI_JOURNAL_ERR, and its owner takes the
second copy where one exists (R338); where none does, OUTCOME is a free value (log entry 54). -/
def Dev.journalUpdate (d : Dev) (t unit : Nat) (good : Bool) : Dev :=
  if 245760 ≤ unit then d
  else
    let d := if good then d
      else
        let d := setF (setF d .MI_LAST_ERR_MEMORY 0 3) .MI_LAST_ERR_CHECK 0 4
        let d := setF (setF d .MI_LAST_ERR_GROUP 0 0) .MI_LAST_ERR_ADDR 0 (unit * 64)
        let r := d.drawNat
        let d := if twoCopies unit then setF d .MI_LAST_ERR_OUTCOME 0 0 else setF r.2 .MI_LAST_ERR_OUTCOME 0 (r.1 % 256)
        d.event t .MI_JOURNAL_ERR 0 [unit]
    d.modMem fun m => m.journalWrite unit

/-- JOURNAL_UPDATE. -/
def execJournalUpdate (unit : Nat) (good : Bool) (s : State) : Out := run s fun d => d.journalUpdate s.dtime unit good

end Sys2Proof.Machine
end

