-- ==== Sys2Proof/Machine/Deflate.lean ====
section
/-! DEFINITION. Filigree's data format: the matches, blocks and objects of R307 to R309 on the way in, and the decoder of R312
and R313 on the way back. Bits stand in stream order, the first bit of a byte its least significant. -/

namespace Sys2Proof.Machine

/-! ## The tables of RFC 1951 -/

/-- Base length and extra bits of length symbols 257 to 285. -/
def lenTable : List (Nat × Nat) :=
  [(3, 0), (4, 0), (5, 0), (6, 0), (7, 0), (8, 0), (9, 0), (10, 0), (11, 1), (13, 1), (15, 1), (17, 1), (19, 2), (23, 2),
   (27, 2), (31, 2), (35, 3), (43, 3), (51, 3), (59, 3), (67, 4), (83, 4), (99, 4), (115, 4), (131, 5), (163, 5), (195, 5),
   (227, 5), (258, 0)]

/-- Base distance and extra bits of distance symbols 0 to 29. -/
def distTable : List (Nat × Nat) :=
  [(1, 0), (2, 0), (3, 0), (4, 0), (5, 1), (7, 1), (9, 2), (13, 2), (17, 3), (25, 3), (33, 4), (49, 4), (65, 5), (97, 5),
   (129, 6), (193, 6), (257, 7), (385, 7), (513, 8), (769, 8), (1025, 9), (1537, 9), (2049, 10), (3073, 10), (4097, 11),
   (6145, 11), (8193, 12), (12289, 12), (16385, 13), (24577, 13)]

/-- The order in which a dynamic header sends the lengths of the code-length code. -/
def clOrder : List Nat := [16, 17, 18, 0, 8, 7, 9, 6, 10, 5, 11, 4, 12, 3, 13, 2, 14, 1, 15]

/-- Code lengths of the fixed codes. -/
def fixedLit : List Nat := List.replicate 144 8 ++ List.replicate 112 9 ++ List.replicate 24 7 ++ List.replicate 8 8
/-- See `fixedLit`. -/
def fixedDist : List Nat := List.replicate 32 5

/-- The first code of each length: of the canonical code of a list of lengths. -/
def firstCode (lens : List Nat) : Nat → Nat
  | 0 => 0
  | n + 1 => (firstCode lens n + (if n = 0 then 0 else lens.count n)) * 2

/-- The canonical code of a symbol: its bits, most significant first; none when its length is 0. -/
def codeOf (lens : List Nat) (s : Nat) : List Bool :=
  let n := lens.getD s 0
  if n = 0 then [] else bitsBE n (firstCode lens n + (lens.take s).count n)

/-- The symbol of a code of a length, if the code assigns one. -/
def symbolOf (lens : List Nat) (n code : Nat) : Option Nat :=
  let k := code - firstCode lens n
  if n = 0 ∨ code < firstCode lens n then none
  else ((List.range lens.length).filter fun s => lens.getD s 0 == n)[k]?

/-- The Kraft sum of code lengths in units of 2⁻¹⁵. -/
def kraft (lens : List Nat) : Nat := (lens.map fun n => if n = 0 then 0 else 2 ^ (15 - n)).sum

/-- The bits of a number, least significant first. -/
def bitsLE (n x : Nat) : List Bool := (bitsBE n x).reverse

/-- The number whose bits are given, least significant first. -/
def ofBitsLE (bs : List Bool) : Nat := ofBitsBE bs.reverse

/-- Symbol, extra bits and their value for a length or a distance. -/
def symbolFor (tab : List (Nat × Nat)) (v : Nat) : Nat × Nat × Nat :=
  let k := ((List.range tab.length).filter fun i => decide ((tab.getD i (0, 0)).1 ≤ v)).getLastD 0
  (k, (tab.getD k (0, 0)).2, v - (tab.getD k (0, 0)).1)

/-! ## Matches (R307) -/

/-- A literal, or a match of a length and a distance. -/
inductive Lz where
  | lit (b : Byte)
  | copy (len dist : Nat)
deriving DecidableEq, Repr

/-- The hash of the three bytes at a position (R307). -/
def lzHash (a : Array Byte) (i : Nat) : Nat :=
  let b (k : Nat) := (a.getD (i + k) 0).toNat
  Nat.xor (Nat.xor (b 0 * 2 ^ 10) (b 1 * 2 ^ 5)) (b 2) % 2 ^ 15

/-- The distances to the `n` most recent positions with the hash of position i, at most 32,768 back (R307). -/
def lzCands (a : Array Byte) (i n : Nat) : List Nat :=
  (((List.range (min i 32768)).filter fun k => lzHash a (i - 1 - k) == lzHash a i).map (· + 1)).take n

/-- How far the bytes at i equal those `dist` before, at most `fuel`. -/
def lzRun (a : Array Byte) (dist : Nat) : Nat → Nat → Nat
  | 0, _ => 0
  | fuel + 1, i => if a.getD i 0 = a.getD (i - dist) 0 then lzRun a dist fuel (i + 1) + 1 else 0

/-- The match at position i of a block that ends at `stop`: the longest of 3 to 258 bytes, the smaller distance on a tie, no
length 3 above distance 4,096; length 0 when there is none (R307). -/
def lzBest (a : Array Byte) (n stop i : Nat) : Nat × Nat :=
  if stop < i + 3 then (0, 0)
  else
    (lzCands a i n).foldl (fun best dist =>
      let len := lzRun a dist (min 258 (stop - i)) i
      if len < 3 ∨ (len = 3 ∧ 4096 < dist) ∨ len ≤ best.1 then best else (len, dist)) (0, 0)

/-- The literals and matches of the bytes from i to `stop` (R307): greedy, or one-step lazy. -/
def lzParse (a : Array Byte) (full : Bool) (stop : Nat) : Nat → Nat → List Lz
  | 0, _ => []
  | fuel + 1, i =>
    if stop ≤ i then []
    else
      let n := if full then 16 else 4
      let m := lzBest a n stop i
      if m.1 = 0 ∨ (full = true ∧ m.1 < (lzBest a n stop (i + 1)).1) then .lit (a.getD i 0) :: lzParse a full stop fuel (i + 1)
      else .copy m.1 m.2 :: lzParse a full stop fuel (i + m.1)

/-! ## Blocks (R308, R309) -/

/-- The bits of one literal or match under two codes. -/
def lzBits (lit dist : List Nat) : Lz → List Bool
  | .lit b => codeOf lit b.toNat
  | .copy len d =>
    let l := symbolFor lenTable len
    let x := symbolFor distTable d
    codeOf lit (257 + l.1) ++ bitsLE l.2.1 l.2.2 ++ codeOf dist x.1 ++ bitsLE x.2.1 x.2.2

/-- How often each literal and length symbol, end of block included, and each distance symbol occurs in a block. -/
def lzCounts (l : List Lz) : List Nat × List Nat :=
  let lits := 256 :: l.map fun x => match x with | .lit b => b.toNat | .copy len _ => 257 + (symbolFor lenTable len).1
  let dists := l.filterMap fun x => match x with | .lit _ => none | .copy _ d => some (symbolFor distTable d).1
  ((List.range 286).map fun s => lits.count s, (List.range 30).map fun s => dists.count s)

/-- A block as coded in a table mode (R302). -/
def codedBlock (mode : Nat) (table : List Byte) (final : Bool) (l : List Lz) : List Bool :=
  let c := lzCounts l
  let lit := if mode = 0 then fixedLit else if mode = 1 then (table.take 286).map (·.toNat) else Config.litLengths c.1
  let dist := if mode = 0 then fixedDist else if mode = 1 then ((table.drop 288).take 30).map (·.toNat) else Config.distLengths c.2
  [final] ++ (if mode = 0 then bitsLE 2 1 else bitsLE 2 2 ++ Config.dynHeader lit dist) ++ l.flatMap (lzBits lit dist)
    ++ codeOf lit 256

/-- A stored block at a bit position of the stream. -/
def storedBlock (pos : Nat) (final : Bool) (bs : List Byte) : List Bool :=
  [final, false, false] ++ List.replicate ((8 - (pos + 3) % 8) % 8) false ++ bitsLE 16 bs.length ++ bitsLE 16 (65535 - bs.length)
    ++ bitsOfBytesLE bs

/-- One block: coded, or stored when the coded form is larger (R308). Answers its bits and whether it is stored. -/
def deflateBlock (mode : Nat) (table : List Byte) (a : Array Byte) (pos lo stop : Nat) (final : Bool) : List Bool × Bool :=
  let coded := codedBlock mode table final (lzParse a (mode != 0) stop (stop - lo) lo)
  let stored := storedBlock pos final ((a.toList.drop lo).take (stop - lo))
  if stored.length < coded.length then (stored, true) else (coded, false)

/-- The blocks of the bytes from `lo` to `stop`, 32,768 a block, the last of them final or not (R308): the bits after those at
hand, and the stored blocks counted. -/
def deflateBlocks (mode : Nat) (table : List Byte) (a : Array Byte) (stop : Nat) (final : Bool) :
    Nat → Nat → List Bool × Nat → List Bool × Nat
  | 0, _, acc => acc
  | fuel + 1, lo, acc =>
    if stop ≤ lo then acc
    else
      let e := min stop (lo + 32768)
      let b := deflateBlock mode table a acc.1.length lo e (final && e == stop)
      deflateBlocks mode table a stop final fuel e (acc.1 ++ b.1, acc.2 + b2n b.2)

/-- Adler-32 going on from a value. -/
def adlerOn (adler : Nat) (bs : List Byte) : Nat :=
  let r := bs.foldl (fun (s : Nat × Nat) b =>
    let x := (s.1 + b.toNat) % 65521
    (x, (s.2 + x) % 65521)) (adler % 65536, adler / 65536)
  r.2 * 65536 + r.1

/-- Bytes of bits in stream order; a last partial byte is filled with zeros. -/
def packBits (bs : List Bool) : List Byte := (chunks 8 bs).map fun b => BitVec.ofNat 8 (ofBitsLE b)

/-- What compressing one APPEND gives (R308, R309): stored bytes, bits of the last partial byte, Adler-32, stored blocks. -/
structure Deflated where
  bytes : List Byte
  bits : List Bool
  adler : Nat
  stored : Nat
deriving DecidableEq, Repr

/-- Compressing the input of an APPEND, or with no input closing the object (R308, R309). -/
def deflate (mode : Nat) (table : List Byte) (zlib first final : Bool) (hist : List Byte) (bits : List Bool) (adler : Nat)
    (inp : List Byte) : Deflated :=
  let head : List Byte := if zlib && first then [0x78, if mode = 0 then 0x01 else if mode = 1 then 0x9C else 0xDA] else []
  let a := (hist ++ inp).toArray
  let r := deflateBlocks mode table a a.size final (inp.length + 1) hist.length (bits, 0)
  let out := if final && inp.isEmpty then r.1 ++ [true, true, false] ++ List.replicate 7 false else r.1
  let adler := adlerOn adler inp
  if final then ⟨head ++ packBits out ++ (if zlib then bytesBE 4 adler else []), [], adler, r.2⟩
  else ⟨head ++ packBits (out.take (out.length / 8 * 8)), out.drop (out.length / 8 * 8), adler, r.2⟩

/-! ## The decoder (R312, R313) -/

/-- The decoder: bits to come, bits consumed, the bytes produced newest first, the status of the first fault (0 none). -/
structure Inflate where
  rest : List Bool
  used : Nat := 0
  out : List Byte := []
  status : Nat := 0
deriving DecidableEq, Repr

/-- Stopping with a status. -/
def Inflate.fault (s : Inflate) (status : Nat) : Inflate := { s with status }

/-- Reading `n` bits, least significant first; a stream that ends is truncated. -/
def Inflate.take (s : Inflate) (n : Nat) : Nat × Inflate :=
  if s.status ≠ 0 then (0, s)
  else if s.rest.length < n then (0, s.fault 0x3025)
  else (ofBitsLE (s.rest.take n), { s with rest := s.rest.drop n, used := s.used + n })

/-- Reading a symbol of a code: 0x3020 when no code matches, 0x3025 when the stream ends within one. -/
def Inflate.symbol (lens : List Nat) : Nat → Nat → Nat → Inflate → Nat × Inflate
  | 0, _, _, s => (0, s.fault 0x3020)
  | fuel + 1, n, code, s =>
    if s.status ≠ 0 then (0, s)
    else
      match s.rest with
      | [] => (0, s.fault 0x3025)
      | b :: l =>
        let s' := { s with rest := l, used := s.used + 1 }
        match symbolOf lens (n + 1) (2 * code + b2n b) with
        | some x => (x, s')
        | none => Inflate.symbol lens fuel (n + 1) (2 * code + b2n b) s'

/-- Copying `len` bytes from `dist` back. -/
def copyBack : Nat → Nat → List Byte → List Byte
  | 0, _, out => out
  | n + 1, dist, out => copyBack n dist (out.getD (dist - 1) 0 :: out)

/-- The symbols of a block until its end (R313). -/
def Inflate.codes (lit dist : List Nat) : Nat → Inflate → Inflate
  | 0, s => s
  | fuel + 1, s =>
    if s.status ≠ 0 then s
    else
      let (x, s) := Inflate.symbol lit 15 0 0 s
      if s.status ≠ 0 ∨ x = 256 then s
      else if x < 256 then Inflate.codes lit dist fuel { s with out := BitVec.ofNat 8 x :: s.out }
      else if 285 < x then s.fault 0x3020
      else
        let l := lenTable.getD (x - 257) (0, 0)
        let (e, s) := s.take l.2
        let (y, s) := Inflate.symbol dist 15 0 0 s
        if s.status ≠ 0 then s
        else if 29 < y then s.fault 0x3020
        else
          let t := distTable.getD y (0, 0)
          let (f, s) := s.take t.2
          if s.status ≠ 0 then s
          else if s.out.length < t.1 + f then s.fault 0x3021
          else Inflate.codes lit dist fuel { s with out := copyBack (l.1 + e) (t.1 + f) s.out }

/-- The lengths of both alphabets, `n` in all, by the code-length code (R313: a repeat with no length before it, or one that
runs past the end, is a bad table). -/
def Inflate.lengths (cl : List Nat) (n : Nat) : Nat → List Nat → Inflate → List Nat × Inflate
  | 0, acc, s => (acc, s)
  | fuel + 1, acc, s =>
    if s.status ≠ 0 ∨ n ≤ acc.length then (acc, s)
    else
      let (x, s) := Inflate.symbol cl 7 0 0 s
      if s.status ≠ 0 then (acc, s)
      else if x < 16 then Inflate.lengths cl n fuel (acc ++ [x]) s
      else
        let (e, s) := s.take (if x = 16 then 2 else if x = 17 then 3 else 7)
        let k := (if x = 18 then 11 else 3) + e
        if s.status ≠ 0 then (acc, s)
        else if (x = 16 ∧ acc.isEmpty) ∨ n < acc.length + k then (acc, s.fault 0x3024)
        else Inflate.lengths cl n fuel (acc ++ List.replicate k (if x = 16 then acc.getLastD 0 else 0)) s

/-- A dynamic header (R313): the lengths of both alphabets, or 0x3024. -/
def Inflate.header (s : Inflate) : List Nat × List Nat × Inflate :=
  let (hlit, s) := s.take 5
  let (hdist, s) := s.take 5
  let (hclen, s) := s.take 4
  if s.status ≠ 0 then ([], [], s)
  else if 29 < hlit ∨ 29 < hdist then ([], [], s.fault 0x3024)
  else
    let r := (List.range (hclen + 4)).foldl (fun (acc : List Nat × Inflate) _ =>
      let (x, s) := acc.2.take 3
      (acc.1 ++ [x], s)) ([], s)
    let cl := (List.range 19).map fun k => match clOrder.findIdx? (· == k) with | some i => r.1.getD i 0 | none => 0
    if r.2.status ≠ 0 then ([], [], r.2)
    else if (cl.map fun n => if n = 0 then 0 else 2 ^ (7 - n)).sum ≠ 128 then ([], [], r.2.fault 0x3024)
    else
      let (ls, s) := Inflate.lengths cl (hlit + 257 + hdist + 1) (hlit + hdist + 258) [] r.2
      let lit := ls.take (hlit + 257)
      let dist := ls.drop (hlit + 257)
      if s.status ≠ 0 then ([], [], s)
      else if lit.getD 256 0 = 0 ∨ kraft lit ≠ 2 ^ 15 ∨ (kraft dist ≠ 2 ^ 15 ∧ 1 < (dist.filter (· != 0)).length) then
        ([], [], s.fault 0x3024)
      else (lit, dist, s)

/-- A stored block (R313). -/
def Inflate.storedPart (s : Inflate) : Inflate :=
  let (_, s) := s.take ((8 - s.used % 8) % 8)
  let (n, s) := s.take 16
  let (m, s) := s.take 16
  if s.status ≠ 0 then s
  else if n + m ≠ 65535 then s.fault 0x3023
  else
    let have_ := min n (s.rest.length / 8)
    let bs := packBits (s.rest.take (8 * have_))
    let s := { s with rest := s.rest.drop (8 * have_), used := s.used + 8 * have_, out := bs.reverse ++ s.out }
    if have_ < n then s.fault 0x3025 else s

/-- The blocks of a stream until the final one. -/
def Inflate.blocks : Nat → Inflate → Inflate
  | 0, s => s
  | fuel + 1, s =>
    let (fin, s) := s.take 1
    let (ty, s) := s.take 2
    if s.status ≠ 0 then s
    else
      let s := match ty with
        | 0 => s.storedPart
        | 1 => Inflate.codes fixedLit fixedDist (s.rest.length + 1) s
        | 2 =>
          let (lit, dist, s) := s.header
          if s.status ≠ 0 then s else Inflate.codes lit dist (s.rest.length + 1) s
        | _ => s.fault 0x3028
      if s.status ≠ 0 ∨ fin = 1 then s else Inflate.blocks fuel s

/-- The wrapper header of RFC 1950 (R313). -/
def Inflate.wrapper (s : Inflate) : Inflate :=
  let (cmf, s) := s.take 8
  let (flg, s) := s.take 8
  if s.status ≠ 0 then s
  else if cmf % 16 ≠ 8 ∨ 7 < cmf / 16 ∨ bit flg 5 ∨ (cmf * 256 + flg) % 31 ≠ 0 then s.fault 0x3027
  else s

/-- The trailer of RFC 1950 (R313). -/
def Inflate.trailer (s : Inflate) : Inflate :=
  let (_, s) := s.take ((8 - s.used % 8) % 8)
  let (a, s) := s.take 8
  let (b, s) := s.take 8
  let (c, s) := s.take 8
  let (e, s) := s.take 8
  if s.status ≠ 0 then s
  else if ((a * 256 + b) * 256 + c) * 256 + e ≠ adlerOn 1 s.out.reverse then s.fault 0x3026
  else s

/-- Decoding the stored bytes of an object (R312, R313): the bytes decoded, the status of the first fault, 0 for none, and its
stored byte offset. -/
def inflate (zlib : Bool) (bs : List Byte) : List Byte × Nat × Nat :=
  let s : Inflate := { rest := bitsOfBytesLE bs }
  let s := if zlib then s.wrapper else s
  let s := if s.status ≠ 0 then s else Inflate.blocks (s.rest.length + 1) s
  let s := if s.status ≠ 0 || !zlib then s else s.trailer
  let s := if s.status = 0 ∧ 8 ≤ s.rest.length then s.fault 0x3022 else s
  (s.out.reverse, s.status, s.used / 8)

/-- A static table is valid (R304): lengths 1 to 15, both alphabets complete, the other bytes 0. -/
def staticOk (t : List Byte) : Bool :=
  let lit := (t.take 286).map (·.toNat)
  let dist := ((t.drop 288).take 30).map (·.toNat)
  t.length == 320 && (lit ++ dist).all (fun n => decide (1 ≤ n) && decide (n ≤ 15)) && kraft lit == 2 ^ 15 && kraft dist == 2 ^ 15
    && t.getD 286 0 == 0 && t.getD 287 0 == 0 && t.getD 318 0 == 0 && t.getD 319 0 == 0

end Sys2Proof.Machine
end

