-- ==== Sys2Proof/Machine/Streams.lean ====
section
/-! DEFINITION. Stream volumes: the tail and the append position (R271, R310), objects and their tokens (R273 to R276), and
Filigree's engines (R302 to R314). -/

namespace Sys2Proof.Machine

/-! ## The tail -/

/-- Bytes that still fit behind the append position of a volume (R271). -/
def Dev.streamRoom (d : Dev) (v : Volume) : Nat := d.volCap v * sectorBytes - (v.appSector * sectorBytes + v.tail.length)

/-- The full sectors at the front of a volume's tail are staged, one after the other (R310): the jobs made and the records of
those refused. -/
def Dev.stageTail (owner : Option (Nat × Nat)) (fua : Bool) (order time vol : Nat) :
    Nat → Dev × List Nat × List SectorRec → Dev × List Nat × List SectorRec
  | 0, acc => acc
  | fuel + 1, (d, ids, recs) =>
    match d.volume? vol with
    | none => (d, ids, recs)
    | some v =>
      if v.tail.length < sectorBytes then (d, ids, recs)
      else
        let r := d.stageSector owner fua order time v v.appSector v.tailComp (v.tail.take sectorBytes)
        let last := v.tail.length == sectorBytes
        let d := r.1.modVolume vol fun v => { v with
          appSector := v.appSector + 1, tail := v.tail.drop sectorBytes, appByte := v.tail.length - sectorBytes
          tailComp := v.tailComp && !last, tailAge := 0 }
        Dev.stageTail owner fua order time vol fuel
          (d, if r.2.1 = 0 then ids ++ [r.2.2] else ids, if r.2.1 = 0 then recs else recs ++ [⟨v.appSector, r.2.1, 0⟩])

/-- Stored bytes go to the tail of a volume, as many as fit, and fill the home sequence sector by sector (R271, R310). Answers
the device and whether they all fitted. -/
def Dev.storeBytes (d : Dev) (q tag vol : Nat) (comp : Bool) (bs : List Byte) : Dev × Bool :=
  match d.volume? vol, d.cmd? q tag with
  | some v, some c =>
    let room := d.streamRoom v
    let fit := bs.take room
    let touched := if fit.isEmpty then 0 else (v.tail.length + fit.length + sectorBytes - 1) / sectorBytes
    let d := d.modVolume vol fun v => { v with
      tail := v.tail ++ fit, appByte := v.tail.length + fit.length, tailComp := v.tailComp || comp }
    let r := Dev.stageTail (some (q, tag)) c.e.fua c.order c.time vol (touched + 1) (d, [], [])
    (r.1.modCmd q tag fun c => { c with
      staged := c.staged + touched, recs := c.recs ++ r.2.2, waits := if c.e.fua then c.waits ++ r.2.1 else c.waits },
     decide (bs.length ≤ room))
  | _, _ => (d, true)

/-! ## Objects (R273 to R276) -/

/-- The extent token of an object (R275). -/
def Dev.objToken (d : Dev) (v : Volume) (o : StreamObj) : Token :=
  let p := (d.locate v o.sector).getD ⟨0, 0, 0xFF, 0xFF, 0⟩
  { node := d.node, volume := v.id, loc := if p.chain = 0xFF then p.surf.val else p.member, psa := p.psa, offset := o.offset,
    compressed := o.compressed, stored := o.stored }

/-- Changing the open object of a volume. -/
def Dev.modObj (d : Dev) (vol : Nat) (f : StreamObj → StreamObj) : Dev :=
  d.modVolume vol fun v => { v with obj := v.obj.map f }

/-- The tail lock of a command becomes that of its open object (R273, R279). -/
def Dev.keepTail (d : Dev) (q tag vol : Nat) : Dev :=
  let has := d.clasp.locks.any fun l => l.tag == objTag && l.qid == q && l.volume == vol
  let mine (l : Lock) : Bool := l.qid == q && l.tag == tag
  if has then d.modClasp fun k => { k with locks := k.locks.filter fun l => !mine l }
  else d.modClasp fun k => { k with locks := k.locks.map fun l => if mine l then { l with tag := objTag, held := true } else l }

/-- An open object closes with its token, which the closing command will write to its result slot (R274, R276). -/
def Dev.closeObj (d : Dev) (q tag vol : Nat) : Dev :=
  match d.volume? vol with
  | none => d
  | some v =>
    match v.obj with
    | none => d
    | some o =>
      let d := d.modCmd q tag fun c => { c with result := some ((d.objToken v o).value, o.supplied, o.stored) }
      (d.modVolume vol fun v => { v with obj := none }).freeTail q vol

/-- With FUA the tail that a command needs is written now (R310), and the command waits for it. -/
def Dev.fuaTail (d : Dev) (q tag vol : Nat) : Dev :=
  match d.cmd? q tag with
  | none => d
  | some c =>
    if !c.e.fua then d
    else
      let r := d.needTail c vol
      r.1.modCmd q tag fun c => { c with waits := if r.2 = 0 then c.waits else c.waits ++ [r.2] }

/-- The bytes of an APPEND are stored: the object closes, or stays open with its lock (R273, R279); a volume that is full gives
0x6001 (R271). -/
def Dev.appendEnd (d : Dev) (t q tag vol : Nat) (fits : Bool) : Dev :=
  match d.cmd? q tag with
  | none => d
  | some c =>
    if !fits then (d.keepTail q tag vol).complete t c 0x6001 (d.countOf c 0x6001)
    else if d.voidObj q vol then
      (d.voidTold q vol).complete t c 0x1002 0
    else
      let d := if c.e.more then d.keepTail q tag vol else d.closeObj q tag vol
      (d.fuaTail q tag vol).allStaged t q tag

/-- Work enters the queue of the engines (R305). -/
def Dev.askEngine (d : Dev) (q tag : Nat) (full decode : Bool) : Dev :=
  { d with filigree := { d.filigree with waiting := d.filigree.waiting ++ [⟨q, tag, full, decode⟩] } }

/-- APPEND starts once it holds the tail (R273, R278, R304): it opens an object where none is open, and the device reads the
static table, when one is needed, and the data. -/
def Dev.startAppend (d : Dev) (t q tag : Nat) : Dev :=
  match d.cmd? q tag with
  | none => d
  | some c =>
    match d.volume? c.e.volume with
    | none => d
    | some v =>
      if c.e.opc = 0x24 ∧ c.granted ∧ !c.started then
        let mode := bits c.e.arg 1 0
        let own := (d.ownObj q v.id).isSome
        if !own ∧ c.e.more ∧ d.voidObj q v.id then (d.voidTold q v.id).complete t c 0x1002 0 else
        let d := if own then d
          else (d.voidTold q v.id).modVolume v.id fun v => { v with obj := some {
            owner := q, sector := v.appSector, offset := v.tail.length, supplied := 0, stored := 0, compressed := c.e.comp,
            zlib := c.e.zlib, mode, opened := t } }
        let d := (d.modCmd q tag fun c => { c with started := true }).notIdle
        let d := if !own && c.e.comp && mode = 1 then d.send (.readReq (bits c.e.arg 63 6 * 64) 320) else d
        d.askData t q tag
      else d

/-- The data of an APPEND have come in: the static table first, then the bytes, stored as they are or given to an engine
(R304, R305). -/
def Dev.appendMore (d : Dev) (t q tag : Nat) : Dev :=
  match d.cmd? q tag with
  | none => d
  | some c =>
    match d.ownObj q c.e.volume with
    | none => if d.voidObj q c.e.volume then d.appendEnd t q tag c.e.volume true else d
    | some o =>
      let needs := o.compressed && o.mode == 1 && o.table.isEmpty
      if needs && decide (c.buf.length < 320) then d
      else if needs && !staticOk (c.buf.take 320) then
        let d := d.modVolume c.e.volume fun v => { v with obj := none }
        (d.freeTail q c.e.volume).complete t c 0x1002 0
      else
        let d := if needs then d.modObj c.e.volume (fun o => { o with table := c.buf.take 320 }) else d
        let d := if needs then d.modCmd q tag (fun c => { c with buf := c.buf.drop 320 }) else d
        let buf := if needs then c.buf.drop 320 else c.buf
        if buf.length < c.e.len then d
        else if o.compressed then d.askEngine q tag (o.mode != 0) false
        else
          let room := ((d.volume? c.e.volume).map d.streamRoom).getD 0
          let r := d.storeBytes q tag c.e.volume false (buf.take c.e.len)
          let d := r.1.modObj c.e.volume fun o => { o with supplied := o.supplied + c.e.len, stored := o.stored + min room c.e.len }
          d.appendEnd t q tag c.e.volume r.2

/-- STREAM_FLUSH (R273, R309): the open object of the pair closes; a compressed one is finished by an engine. Earlier APPENDs
of the object come first. -/
def Dev.streamFlush (d : Dev) (t q tag : Nat) : Dev :=
  match d.cmd? q tag with
  | none => d
  | some c =>
    let vol := c.e.volume
    if c.e.opc ≠ 0x26 ∨ c.started
        ∨ d.clasp.cmds.any (fun x => x.qid == q && x.e.opc == 0x24 && x.e.volume == vol && decide (x.order < c.order)) then d
    else
      match d.ownObj q vol with
      | none => d.complete t c 0x1002 0
      | some o =>
        let d := d.modCmd q tag fun c => { c with started := true }
        if o.compressed then d.askEngine q tag (o.mode != 0) false
        else
          let d := d.closeObj q tag vol
          match d.cmd? q tag with
          | none => d
          | some c => d.writeDone t c 0

/-- OPEN_MAX_EXPIRY (R274): an object open for OPEN_MAX closes without a token. -/
def Dev.openMax (d : Dev) (t vol : Nat) : Dev :=
  match d.volume? vol with
  | none => d
  | some v =>
    match v.obj with
    | none => d
    | some o =>
      if o.opened + getF d .CL_CTL_OPEN_MAX 0 * 1000000000 ≤ t then (d.modVolume vol Volume.voidObj).freeTail o.owner vol
      else d

/-! ## Engines (R305) -/

/-- A standard engine is 0 to 11. -/
def stdEngine (e : Fin 16) : Bool := decide (e.val < 12)

/-- Every standard engine is busy. -/
def Dev.stdBusy (d : Dev) : Nat := ((List.finRange 16).filter fun e => stdEngine e && (d.filigree.engines[e]).isSome).length

/-- An engine may take a piece of work (R305). -/
def Dev.mayTake (d : Dev) (e : Fin 16) (w : FgWork) : Bool :=
  if stdEngine e then w.decode || !w.full
  else w.decode || w.full || (getB d .FG_CFG_FULL_FOR_STD 0 && d.stdBusy == 12)

/-- The place of a piece of work in the admission order. -/
def Dev.workOrder (d : Dev) (w : FgWork) : Nat := ((d.cmd? w.qid w.tag).map (·.order)).getD 0

/-- ENGINE_DISPATCH (R305): a free engine takes the work it may take that was admitted first. -/
def Dev.engineDispatch (d : Dev) (e : Fin 16) : Dev :=
  if (d.filigree.engines[e]).isSome then d
  else
    match d.filigree.waiting.filter (d.mayTake e) with
    | [] => d
    | w :: l =>
      let w := l.foldl (fun a b => if d.workOrder b < d.workOrder a then b else a) w
      { d with filigree := { waiting := d.filigree.waiting.erase w, engines := d.filigree.engines.set e (some w) } }

/-- An engine has ended its work. -/
def Dev.engineFree (d : Dev) (e : Fin 16) : Dev :=
  { d with filigree := { d.filigree with engines := d.filigree.engines.set e none } }

/-- A 64-bit counter that wraps (R315). -/
def addWrap (d : Dev) (f : Fld) (n : Nat) : Dev := setF d f 0 (getF d f 0 + n)

/-- COMPRESSION_DONE (R306 to R309): the input of an APPEND has been compressed, or a STREAM_FLUSH has ended its object. -/
def Dev.compressionDone (d : Dev) (t : Nat) (e : Fin 16) : Dev :=
  match d.filigree.engines[e] with
  | none => d
  | some w =>
    if w.decode then d
    else
      let d := d.engineFree e
      match d.cmd? w.qid w.tag with
      | none => d
      | some c =>
        let vol := c.e.volume
        match d.ownObj w.qid vol with
        | none => d.appendEnd t w.qid w.tag vol true
        | some o =>
          let inp := if c.e.opc = 0x26 then [] else c.buf.take c.e.len
          let final := c.e.opc == 0x26 || !c.e.more
          let r := deflate o.mode o.table o.zlib (o.supplied == 0) final o.hist o.bits o.adler inp
          let d := incF (addWrap (addWrap d .FG_IN_BYTES_COUNT inp.length) .FG_OUT_BYTES_COUNT r.bytes.length)
            .FG_ERR_STORED_BLOCKS 0 r.stored
          let all := o.hist ++ inp
          let room := ((d.volume? vol).map d.streamRoom).getD 0
          let d := d.modObj vol fun o => { o with
            supplied := o.supplied + inp.length, stored := o.stored + min room r.bytes.length, bits := r.bits, adler := r.adler
            hist := all.drop (all.length - 32768) }
          let p := d.storeBytes w.qid w.tag vol true r.bytes
          if c.e.opc = 0x26 then
            let d := p.1.closeObj w.qid w.tag vol
            match d.cmd? w.qid w.tag with
            | none => d
            | some c => if p.2 then d.writeDone t { c with staged := 0 } 0 else d.complete t c 0x6001 (d.countOf c 0x6001)
          else p.1.appendEnd t w.qid w.tag vol p.2

/-- What decoding the stored bytes that have come gives (R312 to R314): the bytes, the status of a decoder fault, 0 for none,
and its offset. A stream cut short by a sector that did not complete is no decoder fault. -/
def Cmd.decoded (c : Cmd) : List Byte × Nat × Nat :=
  let r := inflate c.e.zlib c.stored
  let cut := statusClass (worstStatus c.recs) != 0
  if cut && r.2.1 == 0x3025 then (r.1, 0, r.2.2) else r

/-- DECOMPRESSION_DONE (R311, R312, R314): the object is decoded without a decoder fault. -/
def Dev.decompressionDone (d : Dev) (t : Nat) (e : Fin 16) : Dev :=
  match d.filigree.engines[e] with
  | none => d
  | some w =>
    match d.cmd? w.qid w.tag with
    | none => d
    | some c =>
      let r := c.decoded
      if !w.decode ∨ r.2.1 ≠ 0 then d
      else
        let d := d.engineFree e
        let st := worstStatus c.recs
        if c.e.opc = 0x23 then d.complete t c st c.done
        else d.deliver t w.qid w.tag r.1 st

/-- DECODE_ERROR (R311, R313): the decoder has stopped at a fault: the bytes before it are delivered, the event and the record
of the stored sector name it. -/
def Dev.decodeError (d : Dev) (t : Nat) (e : Fin 16) : Dev :=
  match d.filigree.engines[e] with
  | none => d
  | some w =>
    match d.cmd? w.qid w.tag with
    | none => d
    | some c =>
      let r := c.decoded
      if !w.decode ∨ r.2.1 = 0 then d
      else
        let tok := c.e.token.getD ⟨0, 0, 0, 0, 0, false, 0⟩
        let first := ((c.recs.map (·.lsn)).min?).getD 0
        let d := incF (d.engineFree e) .FG_ERR_DECODE_ERRORS 0
        let d := d.event t .FG_BAD_STREAM e [r.2.1, r.2.2]
        let d := d.modCmd w.qid w.tag fun c => { c with recs := c.recs ++ [⟨first + (tok.offset + r.2.2) / sectorBytes, r.2.1, 0⟩] }
        if c.e.opc ≠ 0x23 then d.deliver t w.qid w.tag r.1 r.2.1 Event.FG_BAD_STREAM.code
        else
          match d.cmd? w.qid w.tag with
          | none => d
          | some c => d.extentDone t c r.2.1 Event.FG_BAD_STREAM.code

/-- The tails of stream volumes age by an M-tick, and one partial for PAD_AFTER is written (R310). -/
def Dev.ageTails (d : Dev) (t : Nat) : Dev :=
  let d := d.modClasp fun k => { k with volumes := k.volumes.map fun v =>
    if v.tail.isEmpty then { v with tailAge := 0 } else { v with tailAge := v.tailAge + 1 } }
  ((d.clasp.volumes.filter fun v => decide (400 * getF d .CH_CFG_PAD_AFTER 0 ≤ v.tailAge)).map (·.id)).foldl
    (fun d v => (d.padTail none false d.clasp.nextOrder (d.libNow t) v).1) d

/-- APPEND. -/
def execAppend (qid tag : Nat) (s : State) : Out := run s fun d => d.startAppend s.dtime qid tag
/-- STREAM_FLUSH. -/
def execStreamFlush (qid tag : Nat) (s : State) : Out := run s fun d => d.streamFlush s.dtime qid tag
/-- OPEN_MAX_EXPIRY. -/
def execOpenMaxExpiry (volume : Nat) (s : State) : Out := run s fun d => d.openMax s.dtime volume
/-- ENGINE_DISPATCH. -/
def execEngineDispatch (engine : Fin 16) (s : State) : Out := run s fun d => d.engineDispatch engine
/-- COMPRESSION_DONE. -/
def execCompressionDone (engine : Fin 16) (s : State) : Out := run s fun d => d.compressionDone s.dtime engine
/-- DECOMPRESSION_DONE. -/
def execDecompressionDone (engine : Fin 16) (s : State) : Out := run s fun d => d.decompressionDone s.dtime engine
/-- DECODE_ERROR. -/
def execDecodeError (engine : Fin 16) (s : State) : Out := run s fun d => d.decodeError s.dtime engine

end Sys2Proof.Machine
end

