-- ==== Sys2Proof/Machine/HostCmds.lean ====
section
/-! DEFINITION. Data from host memory (R264, R299), abort and fences (R253, R268, R286 to R288), the admin commands on logs and
volumes (R269, R290, R298, R301), and copies between devices (R254, R255, R291, R292). -/

namespace Sys2Proof.Machine

/-! ## Bytes read from host memory (R264) -/

/-- Bytes of the transfer of a command, where they are known before it ends (R264). -/
def Cmd.transferLen (c : Cmd) : Option Nat :=
  match c.e.opc with
  | 0x20 => some (c.total * sectorBytes)
  | 0x21 | 0x24 => some c.dataLen
  | 0x25 => if c.decodes then none else c.e.token.map (·.stored)
  | 0x05 => some (128 * c.e.len)
  | 0x06 => some 4096
  | 0x1B => some (32 * c.e.len)
  | 0x18 => some (64 + (if bit c.e.arg 8 then 128 else 1) * 8224)
  | 0x1A => some (if bits c.e.arg 7 0 = 0 then 3156 else c.e.len)
  | _ => some c.e.len

/-- The next segment of a command's list has come (R264): the list at DPTR, or the one at XPTR. Segments of a list whose transfer is known
follow one another; those of output that may grow are read as it needs them. -/
def Dev.listMore (d : Dev) (t : Nat) (c : Cmd) (data : List Byte) : Dev :=
  let q := c.qid
  let tag := c.e.tag
  let need := c.transferLen
  if c.list.asked then
    let l := c.list.segment need data
    let more := if need.isSome then l.ask else (l, none)
    let d := d.modCmd q tag fun c => { c with list := more.1 }
    match more.2 with
    | some (a, n) => d.send (.readReq a n)
    | none => if c.e.opc = 0x25 then d.outMore t q tag else d.askData t q tag
  else (d.modCmd q tag fun c => { c with xlist := c.xlist.segment none data }).outMore t q tag

/-- HOST_READ_COMPLETION (R264, R279): the next bytes a command has asked for: a segment of its list, or data, which are staged
or compressed; a list that ends too soon gives 0x1005. -/
def Dev.hostData (d : Dev) (t q tag : Nat) (data : List Byte) : Dev :=
  match d.cmd? q tag with
  | none => d
  | some c =>
    if c.list.asked || c.xlist.asked then d.listMore t c data
    else if c.e.opc ≠ 0x21 ∧ c.e.opc ≠ 0x24 ∨ !c.started then d
    else
      let d := (d.modCmd q tag fun c => { c with buf := c.buf ++ data, got := c.got + data.length }).notIdle
      let d := if c.e.opc = 0x21 then d.writeMore t q tag
        else if c.got < c.dataLen + 320 ∧ !(d.filigree.waiting.any fun w => w.qid == q && w.tag == tag) then d.appendMore t q tag
        else d
      d.listShort t q tag

/-- HOST_DMA_ERROR (R299): the command completes with 0x3004, and the device logs the error through AER. -/
def Dev.dmaError (d : Dev) (t q tag : Nat) : Dev :=
  match d.cmd? q tag with
  | none => d
  | some c =>
    let d := { d with pcie := { d.pcie with aerErrors := d.pcie.aerErrors + 1 } }.send .aer
    (if c.e.opc = 0x24 then d.dropNewObj q c.e.volume else d).finish t q tag 0x3004

/-! ## What abort and fence do to a command's writes (R220, R253, R287) -/

/-- A chain row of which a member is armed or beyond. -/
def Dev.rowBegun (d : Dev) (r : ChainRow) : Bool := !d.rowIdle r

/-- The row of a write job. -/
def Dev.rowOf (d : Dev) (w : WriteJob) : Option ChainRow :=
  if w.chain = 0xFF then none else (d.chain (chainOf w.chain)).rows.find? fun r => r.parts.contains (w.member, w.id)

/-- A staged sector leaves its row; a row left with no sector of a command goes, its fillers with it (R287). -/
def Dev.leaveRow (d : Dev) (w : WriteJob) : Dev :=
  match d.rowOf w with
  | none => d
  | some r =>
    let made (id : Nat) : Bool := (d.write? id).any fun x => x.kind == 0x20 || x.kind == 3 || x.kind == 4
    let keep := r.parts.filter fun x => x.2 != w.id && !made x.2
    let gone := (r.parts.filter fun x => made x.2).map (·.2)
    let d := d.modData fun x => { x with writes := x.writes.filter fun y => !gone.contains y.id }
    let r' : ChainRow := { r with parts := keep, closed := false, made := false, ovr := false, olds := [], await := [] }
    d.modChain (chainOf w.chain) fun x => { x with
      rows := (x.rows.map fun y => if y = r then r' else y).filter fun y => !y.parts.isEmpty }

/-- One sector of a command that is aborted or fenced: a chain row begun is finished in full; an open gate stays open; an armed
sector is stopped and dropped if it has not started; a staged one is discarded (R220, R253, R287). -/
def Dev.cutWrite (d : Dev) (w : WriteJob) : Dev :=
  if (d.rowOf w).any d.rowBegun then d
  else
    match w.state with
    | .staged =>
      ((d.leaveRow w).dropWrite w.id).modSurf w.surf fun s => { s with
        nextSeq := if w.seq ≠ 0 ∧ w.seq + 1 = s.nextSeq then w.seq else s.nextSeq }
    | .armed => (d.stopSpots w.head fun x => x.id == w.id).modWrite w.id fun w => { w with cancelled := true }
    | _ => d

/-- Ending a command by abort, fence or forced eject with a status: the sectors committed are counted first, what it has not
begun is dropped (R253, R287). An APPEND's object closes without a token (R274). -/
def Dev.cutCmd (d : Dev) (t : Nat) (c : Cmd) (status : Nat) : Dev :=
  let n := d.committedNow c
  let d := (d.data.writes.filter fun w => w.owner == some (c.qid, c.e.tag)).foldl Dev.cutWrite d
  let d := if c.e.opc = 0x24 then
      match d.ownObj c.qid c.e.volume with
      | some _ => (d.modVolume c.e.volume Volume.voidObj).freeTail c.qid c.e.volume
      | none => d
    else d
  d.complete t { c with result := none } status n

/-- ABORT (R268, R286): decided at one instant. -/
def Dev.abort1 (d : Dev) (t tag : Nat) : Dev :=
  match d.admin? tag 0x04 with
  | none => d
  | some c =>
    let q := c.e.argQid
    let target := bits c.e.arg 47 32
    match d.pair? q with
    | none => d.complete t c 0x1009 0
    | some p =>
      if q = 0 ∧ target = tag then d.complete t c 0x1009 0
      else
        match d.cmd? q target with
        | some x => (d.cutCmd t x 0x4001).endCmd t 0 tag 0 0
        | none => d.complete t c (if p.used.contains target then 0x4002 else 0x1009) 0

/-- Every command of a pair admitted under another fence value is fenced, in admission order, and the pair's object closes
(R253, R274, R288). -/
def Dev.fence (d : Dev) (t q v : Nat) : Dev :=
  let d := setF d .CL_QFENCE_FENCE q v
  (((d.clasp.cmds.filter fun c => c.qid == q && c.fence != v)).foldl (fun d c => d.cutCmd t c 0x4003) d).closeObjs q

/-- QFENCE_WRITE (R288): a new value fences; the value that stands changes nothing. -/
def Dev.qfence (d : Dev) (t q v : Nat) : Dev :=
  if q = 0 ∨ (d.pair? q).isNone ∨ getF d .CL_QFENCE_FENCE q = v % 2 ^ 16 then d else d.fence t q (v % 2 ^ 16)

/-- CL_DISABLE (R268, R274): EN is written 0: every I/O pair is fenced by a value raised by 1, its object closes, and when every
completion owed is posted every pair is deleted and RDY reads 0. -/
def Dev.clDisable (d : Dev) (t : Nat) : Dev :=
  if !getB d .CL_CTL_EN 0 then d
  else
    let d := setB d .CL_CTL_EN 0 false
    let d := ((d.clasp.queues.filter (·.qid != 0)).map (·.qid)).foldl
      (fun d q => d.fence t q ((getF d .CL_QFENCE_FENCE q + 1) % 2 ^ 16)) d
    (d.modClasp fun k => { k with disabling := true }).finishDisable

/-! ## GET_LOG and IDENTIFY (R290, R298) -/

/-- The output of an admin command is placed at DPTR; with no room for it the list was too short (R264). -/
def Dev.adminOut (d : Dev) (t : Nat) (c : Cmd) (bs : List Byte) (count : Nat) : Dev :=
  let r := d.place c 0 bs
  r.1.complete t c (if r.2.isEmpty then 0 else 0x1005) count

/-- The entries of `n` bytes that a list at DPTR has room for, all of them in a buffer (R264). -/
def Cmd.entriesFit (c : Cmd) (n : Nat) : Nat := if c.e.sgl then c.list.size / n else c.e.len

/-- GET_LOG (R290): LEN entries from the named LOG_SEQ; entries not held read as zero; CLEAR frees up to the last copied. -/
def Dev.getLog1 (d : Dev) (t tag : Nat) : Dev :=
  match d.admin? tag 0x05 with
  | none => d
  | some c =>
    if !c.listReady (128 * c.e.len) then d
    else
      let first := bits c.e.arg 31 0
      let found := (List.range c.e.len).map fun i => d.clasp.log.find? (·.seq == first + i)
      let held := (found.take (c.entriesFit 128)).filterMap id
      let last := (held.map (·.seq)).foldl max 0
      let d := if bit c.e.arg 63 then d.modClasp fun k => { k with log := k.log.filter fun l => decide (last < l.seq) } else d
      d.adminOut t c (found.flatMap fun x => match x with | some l => l.bytes | none => zeros 128) held.length

/-- Page 0 of IDENTIFY (R3, R298). -/
def Dev.identify0 (d : Dev) : List Byte :=
  let pop := ((List.range 128).filter fun h => bit (getF d .SY_POP_HEAD (h / 32)) (h % 32)).length
  let vols := ((d.clasp.volumes.map fun v => 2 ^ v.id).sum)
  let chains := (((List.range 16).filter d.chainValid).map (2 ^ ·)).sum
  bytesLE 2 d.node ++ [0x21, Config.steppingByte] ++ bytesLE 4 pop ++ bytesLE 32 vols ++ bytesLE 2 chains ++ zeros 4054

/-- A page of 4,096 bytes. -/
def page4k (bs : List Byte) : List Byte := (bs ++ zeros 4096).take 4096

/-- Page 1: kind, chain or surface, capacity, append position, ranges (R298). -/
def Dev.identify1 (d : Dev) (v : Volume) : List Byte :=
  let r := v.ranges.headD ⟨0, 0, 0, 0⟩
  page4k (Config.identifyLayout 1 ([b2n v.stream, r.place, d.volCap v, v.appSector * sectorBytes + v.tail.length]
    ++ v.ranges.flatMap fun r => [r.place, r.layer, r.first, r.stripes]))

/-- The mount state as a number (R298). -/
def mountCode (m : Mount) : Nat := match m with | .noDisc => 0 | .unmounted => 1 | .unformatted => 2 | .scanning => 3 | .mounted => 4

/-- Page 2: DISC_ID, GENERATION, the highest remap SEQ, the mount state (R298). -/
def Dev.identify2 (d : Dev) (s : SurfId) : List Byte :=
  let x := d.surf s
  page4k (Config.identifyLayout 2 [x.discId, x.generation, x.nextSeq - 1, mountCode x.mount])

/-- IDENTIFY (R298). -/
def Dev.identify (d : Dev) (t tag : Nat) : Dev :=
  match d.admin? tag 0x06 with
  | none => d
  | some c =>
    if !c.listReady 4096 then d
    else
      match bits c.e.arg 7 0 with
      | 0 => d.adminOut t c d.identify0 0
      | 1 =>
        match d.volume? c.e.volume with
        | some v => d.adminOut t c (d.identify1 v) 0
        | none => d.complete t c 0x1003 0
      | _ => d.adminOut t c (d.identify2 ⟨bits c.e.arg 13 8 % 64, by omega⟩) 0

/-! ## Volumes (R269 to R271, R300, R301) -/

/-- The surfaces that a range lies on. -/
def Dev.rangeSurfs (d : Dev) (r : VRange) : List SurfId :=
  if r.chained then (d.members r.chain).map fun j => d.memSurf r.chain j else [r.surf]

/-- Two ranges share a stripe of a surface. -/
def Dev.rangesMeet (d : Dev) (a b : VRange) : Bool :=
  a.layer == b.layer && decide (a.first < b.first + b.stripes) && decide (b.first < a.first + a.stripes)
    && (d.rangeSurfs a).any fun s => (d.rangeSurfs b).contains s

/-- A list of ranges breaks R269: out of reach, over another range, chains and surfaces mixed, more than one chain. -/
def Dev.layoutBad (d : Dev) (rs : List VRange) : Bool :=
  rs.any (fun r => decide (270000 < r.first + r.stripes))
    || rs.any (fun r => d.clasp.volumes.any fun v => v.ranges.any fun x => d.rangesMeet r x)
    || (List.range rs.length).any (fun i => (List.range i).any fun j =>
        match rs[i]?, rs[j]? with | some a, some b => d.rangesMeet a b | _, _ => false)
    || (rs.any VRange.chained && (rs.any (fun r => !r.chained) || 1 < ((rs.map VRange.chain).eraseDups).length))

/-- A range lies on a chain that is not defined, or on a surface that is not formatted (R269). -/
def Dev.rangeUnready (d : Dev) (r : VRange) : Bool :=
  if r.chained then !d.chainValid r.chain else (d.surf r.surf).mount == .unformatted || (d.surf r.surf).mount == .noDisc

/-- VOLUME_CREATE (R269): 0x6006 with the number in use, 0x1002 with a field out of its range, 0x1007 for the layout, 0x2008 for a
surface that is not fitted (R413), 0x2006 for a surface or chain that is unformatted or undefined. -/
def Dev.volumeCreate (d : Dev) (t tag : Nat) (host : List Byte) : Dev :=
  match d.admin? tag 0x08 with
  | none => d
  | some c =>
    let rs := (chunks 16 (host.take (16 * c.e.len))).map parseRange
    let ok := rs.filterMap id
    if host.length < 16 * c.e.len then d.complete t c 0x1005 0
    else if (d.volume? c.e.volume).isSome then d.complete t c 0x6006 0
    else if ok.length ≠ rs.length then d.complete t c 0x1002 0
    else if d.layoutBad ok then d.complete t c 0x1007 0
    else if ok.any (fun r => !r.chained && !d.surfFitted r.surf) then d.complete t c 0x2008 0
    else if ok.any d.rangeUnready then d.complete t c 0x2006 0
    else
      let v : Volume := { id := c.e.volume, stream := bit c.e.arg 0, ranges := ok, appSector := 0, appByte := 0, obj := none }
      (d.modClasp fun k => { k with volumes := k.volumes ++ [v] }).complete t c 0 0

/-- VOLUME_DELETE (R300, R301, R333): 0x1008 while a command of the volume is outstanding; the definition goes, and what stood
against it for losses that found no room. -/
def Dev.volumeDelete (d : Dev) (t tag : Nat) : Dev :=
  match d.admin? tag 0x09 with
  | none => d
  | some c =>
    let busy := d.clasp.cmds.any fun x => x.qid != 0 && !(x.e.opc == 0x22 && x.e.all) && d.rangeVolume x.e == c.e.volume
    if busy then d.complete t c 0x1008 0
    else
      ((d.modClasp fun k => { k with volumes := k.volumes.filter (·.id != c.e.volume) }).modMem fun m => { m with
        lostOver := m.lostOver.filter (· != c.e.volume) }).complete t c 0 0

/-! ## Copies (R254, R255, R291, R292) -/

/-- PEER_READ_DONE (R255, R276): the zero-length read of a COPY whose sectors are all sent completes, or the destination is
found unreachable. -/
def Dev.peerReadDone (d : Dev) (t q tag : Nat) (ok : Bool) : Dev :=
  match d.cmd? q tag with
  | none => d
  | some c =>
    if c.e.opc ≠ 0x28 ∨ !c.started then d
    else if !ok then (d.resultSlot c c.produced 0 0).complete t c 0x6010 c.done
    else if c.recs.length < c.total then d
    else (d.resultSlot c c.produced 0 0).complete t c (worstStatus c.recs) c.done

/-- RECEIVE (R291): it opens its receive slot; where another has opened that meanwhile, it completes with 0x6006. -/
def Dev.startReceive (d : Dev) (t q tag : Nat) : Dev :=
  match d.cmd? q tag with
  | none => d
  | some c =>
    let slot := bits c.e.arg 5 0
    if c.e.opc ≠ 0x29 ∨ !c.granted ∨ c.started then d
    else if d.clasp.slots.any (·.slot == slot) then d.complete t c 0x6006 0
    else
      ((d.modCmd q tag fun c => { c with started := true }).modClasp fun k => { k with
        slots := k.slots ++ [{ slot, qid := q, tag, header := zeros 64, data := [], since := t }] }).notIdle

/-- A receive slot changed. -/
def Dev.modSlot (d : Dev) (slot : Nat) (f : RecvSlot → RecvSlot) : Dev :=
  d.modClasp fun k => { k with slots := k.slots.map fun x => if x.slot = slot then f x else x }

/-- The full sectors that a RECEIVE to a sector volume has accepted are staged; with `last` a partial one too, padded with zeros
(R291). -/
def Dev.recvSectors (q tag : Nat) (v : Volume) (last : Bool) : Nat → Dev → Dev
  | 0, d => d
  | fuel + 1, d =>
    match d.cmd? q tag with
    | none => d
    | some c =>
      let n := c.buf.length
      if sectorBytes ≤ n then Dev.recvSectors q tag v last fuel (d.writeNext q tag v)
      else if last && n != 0 then
        (d.modCmd q tag fun c => { c with buf := c.buf ++ zeros (sectorBytes - n) }).writeNext q tag v
      else d

/-- A RECEIVE ends with what it has accepted (R276, R291): a stream volume takes it as one object. -/
def Dev.recvEnd (d : Dev) (t : Nat) (x : RecvSlot) (status : Nat) : Dev :=
  match d.cmd? x.qid x.tag with
  | none => d
  | some c =>
    match d.volume? c.e.volume with
    | none => d
    | some v =>
      let d := d.modClasp fun k => { k with slots := k.slots.filter (· != x) }
      let comp := bit (leAt x.header 2 1) 0
      let d := if v.stream then
          let o : StreamObj := { owner := x.qid, sector := v.appSector, offset := v.tail.length, supplied := x.data.length,
                                 stored := x.data.length, compressed := comp }
          let tok := (d.objToken v o).value
          let r := d.storeBytes x.qid x.tag v.id comp x.data
          let d := r.1.modCmd x.qid x.tag fun c => { c with
            result := some (tok, x.data.length, x.data.length)
            recs := if r.2 then c.recs else c.recs ++ [⟨v.appSector, 0x6001, 0⟩] }
          d.fuaTail x.qid x.tag v.id
        else Dev.recvSectors x.qid x.tag v true (c.buf.length / sectorBytes + 1) d
      if status = 0 then d.allStaged t x.qid x.tag
      else
        match d.cmd? x.qid x.tag with
        | none => d
        | some c =>
          let d := match c.result with | some (a, b, e) => d.resultSlot c a b e | none => d
          d.complete t c status (d.countOf c status)

/-- A peer write that is dropped is counted (R254). -/
def Dev.peerDrop (d : Dev) : Dev := incF d .CH_STAT_PEER_DROPS 0

/-- PEER_WRITE (R254, R291): accepted for an open RECEIVE whose pair's fence value stands; the header goes to bytes 0 to 63,
data in rising order, at most LEN bytes. -/
def Dev.peerWriteIn (d : Dev) (t addr : Nat) (data : List Byte) : Dev :=
  let off := addr % 2 ^ 30
  match d.clasp.slots.find? (·.slot == addr / 2 ^ 30) with
  | none => d.peerDrop
  | some x =>
    match d.cmd? x.qid x.tag, (d.cmd? x.qid x.tag).bind fun c => d.volume? c.e.volume with
    | some c, some v =>
      if c.fence ≠ getF d .CL_QFENCE_FENCE x.qid then d.peerDrop
      else if off < 64 then
        d.modSlot x.slot fun x => { x with
          header := (x.header.take off ++ data ++ x.header.drop (off + data.length)).take 64, since := t }
      else if off < 65536 then d
      else if off - 65536 ≠ x.data.length then d.peerDrop
      else
        let new := data.take (c.e.len - x.data.length)
        let d := (d.modSlot x.slot fun x => { x with data := x.data ++ new, since := t }).notIdle
        let d := if v.stream then d
          else Dev.recvSectors x.qid x.tag v false (new.length / sectorBytes + 1)
            (d.modCmd x.qid x.tag fun c => { c with buf := c.buf ++ new })
        if x.data.length + new.length = c.e.len then d.recvEnd t { x with data := x.data ++ new, since := t } 0 else d
    | _, _ => d.peerDrop

/-- RECV_TIMEOUT (R291): no accepted peer write has come for RECV_TIMEOUT, in units of 100 ms: the RECEIVE ends with 0x6011. -/
def Dev.recvTimeout1 (d : Dev) (t slot : Nat) : Dev :=
  match d.clasp.slots.find? (·.slot == slot) with
  | none => d
  | some x => if tooSoon t x.since (100000000 * getF d .CL_CTL_RECV_TIMEOUT 0) then d else d.recvEnd t x 0x6011

/-- HOST_READ_COMPLETION. -/
def execHostReadCompletion (qid tag : Nat) (data : List Byte) (s : State) : Out := run s fun d => d.hostData s.dtime qid tag data
/-- HOST_DMA_ERROR. -/
def execHostDmaError (qid tag : Nat) (s : State) : Out := run s fun d => d.dmaError s.dtime qid tag
/-- ABORT. -/
def execAbort (tag : Nat) (s : State) : Out := run s fun d => d.abort1 s.dtime tag
/-- QFENCE_WRITE. -/
def execQfenceWrite (qid value : Nat) (s : State) : Out := run s fun d => d.qfence s.dtime qid value
/-- CL_DISABLE. -/
def execClDisable (s : State) : Out := run s fun d => d.clDisable s.dtime
/-- GET_LOG. -/
def execGetLog (tag : Nat) (s : State) : Out := run s fun d => d.getLog1 s.dtime tag
/-- IDENTIFY. -/
def execIdentify (tag : Nat) (s : State) : Out := run s fun d => d.identify s.dtime tag
/-- VOLUME_CREATE. -/
def execVolumeCreate (tag : Nat) (host : List Byte) (s : State) : Out := run s fun d => d.volumeCreate s.dtime tag host
/-- VOLUME_DELETE. -/
def execVolumeDelete (tag : Nat) (s : State) : Out := run s fun d => d.volumeDelete s.dtime tag
/-- PEER_READ_DONE. -/
def execPeerReadDone (qid tag : Nat) (ok : Bool) (s : State) : Out := run s fun d => d.peerReadDone s.dtime qid tag ok
/-- RECEIVE. -/
def execReceive (qid tag : Nat) (s : State) : Out := run s fun d => d.startReceive s.dtime qid tag
/-- PEER_WRITE: R254 gives the source node no part in the acceptance. -/
def execPeerWrite (_source addr : Nat) (data : List Byte) (s : State) : Out := run s fun d => d.peerWriteIn s.dtime addr data
/-- RECV_TIMEOUT. -/
def execRecvTimeout (slot : Fin 64) (s : State) : Out := run s fun d => d.recvTimeout1 s.dtime slot

end Sys2Proof.Machine
end

