-- ==== Sys2Proof/Machine/Torc.lean ====
section
/-! DEFINITION. The Torc cores (R150 to R177): the states of a spindle, starts and stops, the current loop, the chopper, the
bus, and the door, tray and eject sequences of a bay. -/

namespace Sys2Proof.Machine

/-! ## States (R159, R160) -/

/-- STATE of a spindle. -/
def Dev.torcState (d : Dev) (s : SpinId) : Nat := getF d .TQ_STAT_STATE s

/-- Torc's record. -/
def Dev.torc (d : Dev) (s : SpinId) : Torc := (d.spin s).torc

/-- The spindle's Torc core has failed. -/
def Dev.torcDead (d : Dev) (s : SpinId) : Bool := getB d .TQ_CORE_FAILED (torcOf s)

/-- The spindle stops being at speed (R159). -/
def Dev.notAtSpeed (d : Dev) (s : SpinId) : Dev :=
  (setF d .TQ_STAT_AT_SPEED s 0).modTorc s fun x => { x with inTol := 0, badUpd := 0 }

/-- Depth-limited closed-loop control: RUN and DECEL (R153, R160). -/
def torcService (n : Nat) : Bool := n == 5 || n == 6

/-- Entering a state (R160): the bridge and the sampling as its row says; an exit from RUN ends AT_SPEED. The control of currents goes on
from RAMP to RUN and between RUN and DECEL; elsewhere it begins at rest. -/
def Dev.torcEnter (d : Dev) (s : SpinId) (n : Nat) : Dev :=
  let was := torcService (d.torcState s)
  let d := if n = 5 then d else d.notAtSpeed s
  let d := setF d .TQ_STAT_STATE s n
  let keep := decide (4 ≤ n) && decide (n ≤ 6)
  let d := d.modTorc s fun x => { x with
    age := 0, still := 0, predRun := if was && torcService n then x.predRun else 0, keUpd := 0, handAge := 0, chopGood := 0
    doorWait := false, cleared := false
    rested := if n = 0 ∨ n = 9 then x.rested else false
    redir := if n = 5 ∨ n = 6 then x.redir else false
    alignAge := 0, field := if n = 4 then x.field else 0
    iD := if keep then x.iD else 0, iQ := if keep then x.iQ else 0
    vD := if keep then x.vD else 0, vQ := if keep then x.vQ else 0
    gD := if keep then x.gD else 0, gQ := if keep then x.gQ else 0
    gS := if keep then x.gS else 0, iqTgt := if keep then x.iqTgt else 0 }
  let d := if torcService n then d else setF d .TQ_STAT_DEPTH_LIM s 0
  let on := decide (2 ≤ n) && decide (n ≤ 7)
  let d := d.modSpinDown s fun x => { x with
    bridgeEn := on, shortBrake := n == 7, chopMode := if n = 9 then 1 else 0
    winEn := x.winEn && on && n != 7
    dutyA := if on && n != 7 then x.dutyA else 0
    dutyB := if on && n != 7 then x.dutyB else 0
    dutyC := if on && n != 7 then x.dutyC else 0 }
  if n = 0 ∨ n = 2 ∨ n = 3 then setF d .TQ_STAT_SPEED s 0 else d

/-- The effective target: SPEED_CMD, limited to 1,000 rpm while ABNORMAL (R172). -/
def Dev.torcTarget (d : Dev) (s : SpinId) : Nat :=
  let v := getF d .TQ_CTL_SPEED_CMD s
  if getB d .TQ_STAT_ABNORMAL s then min v 1000 else v

/-- The target is taken anew; a change of it ends AT_SPEED (R159). -/
def Dev.retarget (d : Dev) (s : SpinId) : Dev :=
  let v := d.torcTarget s
  if (d.torc s).target = v then d else (d.notAtSpeed s).modTorc s fun x => { x with target := v }

/-- Entering RUN at a speed in rpm. -/
def Dev.torcRun (d : Dev) (s : SpinId) (rpm : Nat) (newEpoch : Bool) : Dev :=
  ((d.torcEnter s 5).modTorc s fun x => { x with ref := rpm * 2000000, newEpoch := x.newEpoch || newEpoch, retry := false }).retarget s

/-- Every head of the spindle is in OFF, PARKED, HOMING or FAULT (R161). -/
def Dev.headsRest (d : Dev) (s : SpinId) : Bool :=
  (headsOf s).all fun h => d.mode h == 0 || d.mode h == 1 || d.mode h == 8 || d.mode h == 10

/-- PARK is issued to the heads in any other mode. -/
def Dev.parkHeads (d : Dev) (s : SpinId) : Dev :=
  (headsOf s).foldl (fun d h =>
    let m := d.mode h
    if m = 0 ∨ m = 1 ∨ m = 8 ∨ m = 10 ∨ (d.head h).motion.parking then d
    else d.modMotion h fun x => { x with wantPark := true }) d

/-! ## Starts (R164 to R167) -/

/-- A refused start (R164). -/
def Dev.startRefused (d : Dev) (t : Nat) (s : SpinId) (cause : Nat) : Dev :=
  (d.event t .TQ_START_REFUSED s [cause]).modTorc s fun x => { x with doorWait := false, startPend := false, retry := false }

/-- An electrical turn of the open-loop field: what one rpm of one pole pair covers in a Tick, in 1/2,000,000 rpm, against a turn. -/
def fieldTurn : Nat := 2000000 * 60 * 400000

/-- Saturation to 32 bits, as st() saturates (R93). -/
def sat32 (x : Int) : Int := satSigned 32 x

/-- The electrical angle of the frame in which Torc controls the current: the estimate in ALIGN, the open-loop field in RAMP, the observer's
angle elsewhere (R157, R166). -/
def Dev.frameAngle (d : Dev) (s : SpinId) : Nat :=
  let x := d.torc s
  match d.torcState s with
  | 3 => x.estimate * 65536 / 360
  | 4 => x.field * 65536 / fieldTurn
  | _ => x.elec

/-- Duty of a phase in Q0.16 (R151): 0.5 + (v − mid / 2) / VBUS with the voltages scaled by num / den, limited to 0 … 1 and rounded as st()
rounds (R93). -/
def dutyOf (v mid2 : Int) (vbus num den : Nat) : Nat :=
  let b : Int := 2 * (vbus : Int) * den
  (clampInt 0 65535 (divTie (65536 * (b + 2 * (2 * v - mid2) * num)) (2 * b))).toNat

/-- The middle of three. -/
def middle (a b c : Int) : Int := max (min a b) (min (max a b) c)

/-- The duties of the next period for a d-q voltage in mV (R151 to R153): in RUN and DECEL the vector is scaled until the window is 800 ns,
elsewhere a narrow window is not requested. -/
def Dev.setDuties (d : Dev) (s : SpinId) (limited : Bool) (vD vQ : Int) : Dev :=
  let v := Config.toPhases (d.frameAngle s) vD vQ
  let vbus := max 1 (d.spin s).link.held.vbus
  let mid2 := max v.1 (max v.2.1 v.2.2) + min v.1 (min v.2.1 v.2.2)
  -- d_mid may be at most 1 − (800 + 2 × T_DEAD) / 20,000: (9,200 − 2 × T_DEAD) / 20,000 above one half
  let room := 9200 - 40 * getF d .TQ_RUN_CFG_T_DEAD s
  let ovr := (2 * middle v.1 v.2.1 v.2.2 - mid2) * 10000
  let narrow := decide (((room * vbus : Nat) : Int) < ovr)
  let num := if narrow && limited then room * vbus else 1
  let den := if narrow && limited then ovr.toNat else 1
  let d := d.modSpinDown s fun x => { x with
    dutyA := dutyOf v.1 mid2 vbus num den, dutyB := dutyOf v.2.1 mid2 vbus num den, dutyC := dutyOf v.2.2 mid2 vbus num den
    winAt := 10000, winEn := limited || !narrow }
  let d := d.modTorc s fun x => { x with vD := sat32 (divTie (vD * num) den), vQ := sat32 (divTie (vQ * num) den) }
  setB d .TQ_STAT_DEPTH_LIM s (narrow && limited)

/-- The door, the lock, the tray and the cartridge are all in place (R164). -/
def Dev.fourIn (d : Dev) (s : SpinId) : Bool :=
  getB d .TQ_DOOR_DOOR_CLOSED s && getB d .TQ_DOOR_LOCK_ENGAGED s && getB d .TQ_DOOR_TRAY_IN s && getB d .TQ_DOOR_CART_PRESENT s

/-- Entering TEST (R165): TP_WIDTH, or twice that of the pulses before (R166), and the duty that is high for it in a period. The width at
which the peak is I_ALIGN is the motor's (log entry 34). -/
def Dev.enterTest (d : Dev) (s : SpinId) (twice : Bool) : Dev :=
  let w :=
    if twice then min 20000 (2 * (d.torc s).tpWidth)
    else Config.tpWidth (10 * getF d .TQ_START_CFG_I_ALIGN s) (getF d .TQ_MOTOR2_R_PH s) (getF d .TQ_MOTOR2_L_PH s)
      (d.spin s).link.held.vbus % 20001
  (d.torcEnter s 2).modTorc s fun x => { x with
    tpWidth := w, tpDuty := min 65535 (divTie (65536 * (w : Int)) 20000).toNat, testTwice := twice, rested := false }

/-- A start from OFF (R164): the checks in order; with all of them met, LISTEN, or TEST after a rest in BRAKE. At
TS6 and TS7 no spindle starts (R373): the start waits. None begins during a forced eject (row 4 of R162), or where a door that fell bars it
(R176). The self-test runs at standstill only (R171), else CHOP_FAULT refuses. -/
def Dev.torcStart (d : Dev) (t : Nat) (s : SpinId) : Dev :=
  if (d.torc s).barred ∨ (d.torc s).forced then d
  else if 6 ≤ getF d .TH_STAT_STEP 0 then d.modTorc s fun x => { x with startPend := true }
  else if !d.fourIn s then d.startRefused t s 1
  else if getB d .TQ_STAT_CHOP_FAULT s then
    if getB d .TQ_STAT_LOW30 s then ((d.torcEnter s 9).modTorc s fun x => { x with startPend := true }).wake 6 else d.startRefused t s 2
  else if 24000 ≤ getF d .TQ_MOTOR_KE_NOM s * 3 then d.startRefused t s 3
  else if (d.torc s).busWarn then d.startRefused t s 4
  else if (d.torc s).fourOk < 80000 then d.modTorc s fun x => { x with doorWait := true }
  else
    let d := d.modTorc s fun x => { x with doorWait := false, startPend := false }
    if (d.torc s).rested then d.enterTest s false else d.torcEnter s 1

/-- A failed start (R166): from an agreement the first time a retry from rest, else FAULT. -/
def Dev.startFail (d : Dev) (t : Nat) (s : SpinId) (again : Bool) : Dev :=
  let d := incF (d.event t .TQ_START_FAIL s) .TQ_ERR_START_FAILS s
  if again && !(d.torc s).retry then (d.torcEnter s 7).modTorc s fun x => { x with retry := true, startPend := true }
  else (d.torcEnter s 10).modTorc s fun x => { x with retry := false, startPend := false }

/-- START_DOOR_WAIT_END (R164): the four have been 1 for 200 ms. -/
def Dev.doorWaitEnd (d : Dev) (t : Nat) (s : SpinId) : Dev :=
  if d.torcState s = 0 ∧ (d.torc s).doorWait ∧ 80000 ≤ (d.torc s).fourOk then d.torcStart t s else d

/-- LISTEN_END (R164, R167): at rest, a start from rest; forward at CATCH_MIN or above, a catch; else BRAKE and a start from
rest. -/
def Dev.listenEnd (d : Dev) (t : Nat) (s : SpinId) (speed : Nat) (reverse : Bool) : Dev :=
  if d.torcState s ≠ 1 ∨ (d.torc s).age < 2048 then d
  else
    let d := setB (setF d .TQ_STAT_SPEED s speed) .TQ_STAT_REVERSE s (reverse && decide (10 ≤ speed))
    let d := d.modTorc s fun x => { x with speed }
    if speed < 10 then d.enterTest s false
    else if !reverse ∧ 10 * getF d .TQ_START_CFG_CATCH_MIN s ≤ speed then
      -- the voltage integrators start from the observed back-EMF (R167)
      let d := (incF (d.event t .TQ_CATCH s [speed]) .TQ_ERR_CATCHES s).torcRun s speed true
      let d := d.modTorc s fun x => { x with gD := x.eD, gQ := x.eQ }
      d.setDuties s true (d.torc s).eD (d.torc s).eQ
    else (d.torcEnter s 7).modTorc s fun x => { x with startPend := true }

/-- The axis with the largest peak, the lowest-numbered of equals (R166). -/
def bestAxis (p : List Nat) : Nat := (List.range 6).foldl (fun b k => if p.getD b 0 < p.getD k 0 then k else b) 0

/-- The rotor estimate in electrical degrees, if it is accepted (R166). -/
def rotorEstimate (p : List Nat) : Option Nat :=
  let a := bestAxis p
  let top := p.getD a 0
  let opp := p.getD ((a + 3) % 6) 0
  if 0 < top ∧ 3 * top ≤ 100 * (top - opp) then
    let up := p.getD ((a + 1) % 6) 0
    let dn := p.getD ((a + 5) % 6) 0
    some ((60 * a + (if dn < up then 15 else if up < dn then 345 else 0)) % 360)
  else none

/-- TEST_PULSES_DONE (R166). -/
def Dev.testDone (d : Dev) (t : Nat) (s : SpinId) (peaks : List Nat) : Dev :=
  if d.torcState s ≠ 2 ∨ (d.torc s).age < 192 then d
  else
    match rotorEstimate peaks with
    | some e => (d.torcEnter s 3).modTorc s fun x => { x with estimate := e, testTwice := false }
    | none => if (d.torc s).testTwice then d.startFail t s false else d.enterTest s true

/-- ALIGN_END (R166): after ALIGN_MS the field turns, from where it was held. -/
def Dev.alignEnd (d : Dev) (s : SpinId) : Dev :=
  if d.torcState s = 3 ∧ 800 * getF d .TQ_START_CFG_ALIGN_MS s ≤ (d.torc s).age then
    (d.torcEnter s 4).modTorc s fun x => { x with ref := 0, field := x.estimate * fieldTurn / 360 }
  else d

/-- OBS_HAND in 1/2,000,000 rpm: 1.5 × OBS_MIN (R166). -/
def Dev.obsHand (d : Dev) (s : SpinId) : Nat := 3 * getF d .TQ_START_CFG_OBS_MIN s * 2000000

/-- RAMP_HANDOVER (R166, R158): at OBS_HAND with the observer in agreement, RUN and a new angle epoch; the q-axis current target starts
from the open-loop current. -/
def Dev.rampHandover (d : Dev) (s : SpinId) : Dev :=
  if d.torcState s = 4 ∧ d.obsHand s ≤ (d.torc s).ref then
    let i : Int := 10 * getF d .TQ_START_CFG_I_ALIGN s
    (d.torcRun s (3 * getF d .TQ_START_CFG_OBS_MIN s) true).modTorc s fun x => { x with iqTgt := i, gS := i }
  else d

/-- RAMP_AGREE_TIMEOUT (R166): no agreement within 256 periods at OBS_HAND. -/
def Dev.rampTimeout (d : Dev) (t : Nat) (s : SpinId) : Dev :=
  if d.torcState s = 4 ∧ 2048 ≤ (d.torc s).handAge then d.startFail t s true else d

/-! ## Requests (R161, R163) -/

/-- A request to run (R163); during a forced eject it does not act (row 4 of R162). -/
def Dev.torcGo (d : Dev) (t : Nat) (s : SpinId) : Dev :=
  if d.torcDead s ∨ (d.torc s).forced then d
  else
    match d.torcState s with
    | 0 => if (d.torc s).doorWait then d else d.torcStart t s
    | 5 => d.retarget s
    | 6 => if (d.torc s).redir then d else d.torcRun s (d.torc s).speed false
    | 7 => d.modTorc s fun x => { x with startPend := true }
    | 8 => d.modTorc s fun x => { x with inFault := x.inFault && !x.cleared }
    | 9 => d.modTorc s fun x => { x with startPend := true, inFault := false }
    | 10 => if (d.torc s).cleared then (d.torcEnter s 0).torcStart t s else d
    | _ => d

/-- A request to stop (R163). RUN is left once the heads are at rest (R161). -/
def Dev.torcHalt (d : Dev) (s : SpinId) : Dev :=
  let d := d.modTorc s fun x => { x with startPend := false, doorWait := false }
  if d.torcDead s then d
  else
    match d.torcState s with
    | 1 => d.torcEnter s 0
    | 2 => d.torcEnter s 0
    | 3 => d.torcEnter s 0
    | 4 => d.torcEnter s 7
    | _ => d

/-- HEAD_BUSY is 0 on the four heads of the spindle (R161). -/
def Dev.spinFree (d : Dev) (s : SpinId) : Bool := !(headsOf s).any d.headBusy

/-- A host write to TQ_CTL or TQ_DOOR_CTL (R161, R174): ignored and counted while a head is busy. -/
def Dev.hostTorc (d : Dev) (s : SpinId) (f : Dev → Dev) : Dev := if d.spinFree s then f d else incF d .TQ_ERR_CTL_REJ s

/-- RUN written (R161, R163). A request made with the Keeper latch of the spindle clear lifts the bar of R176. -/
def Dev.writeRun (d : Dev) (t : Nat) (s : SpinId) (run : Bool) : Dev :=
  let d := setB d .TQ_CTL_RUN s run
  let d := if run && !bit (getF d .KP_SPIN_L_BITS 0) s then d.modTorc s fun x => { x with barred := false } else d
  if run then d.torcGo t s else d.torcHalt s

/-- SPEED_CMD written (R163, R177): outside its range ignored; stored while RUN is 0, and during a forced eject (row 4 of R162). -/
def Dev.writeSpeed (d : Dev) (t : Nat) (s : SpinId) (rpm : Nat) : Dev :=
  if rpm < 600 ∨ 3000 < rpm then d
  else
    let d := setF d .TQ_CTL_SPEED_CMD s rpm
    if !getB d .TQ_CTL_RUN s ∨ d.torcDead s ∨ (d.torc s).forced then d
    else
      match d.torcState s with
      | 0 => if (d.torc s).doorWait then d else d.torcStart t s
      | 5 => d.retarget s
      | 6 => if (d.torc s).redir then d else d.torcRun s (d.torc s).speed false
      | 7 => d.modTorc s fun x => { x with startPend := true }
      | _ => d

/-- Entering BRAKE from RUN or DECEL; under a change of direction the start follows at standstill (R163). -/
def Dev.torcBrake (d : Dev) (s : SpinId) : Dev :=
  (d.torcEnter s 7).modTorc s fun x => { x with startPend := (d.torc s).redir && getB d .TQ_CTL_RUN s }

/-- DIR written (R163): a change of it while the spindle starts or turns is a stop followed by a start. -/
def Dev.writeDir (d : Dev) (s : SpinId) (dir : Nat) : Dev :=
  if getF d .TQ_CTL_DIR s = dir then d
  else
    let d := setF d .TQ_CTL_DIR s dir
    if d.torcDead s then d
    else
      match d.torcState s with
      | 1 => d.torcEnter s 0
      | 2 => d.torcEnter s 0
      | 3 => d.torcEnter s 0
      | 4 => (d.torcEnter s 7).modTorc s fun x => { x with startPend := getB d .TQ_CTL_RUN s }
      | 5 => d.modTorc s fun x => { x with redir := !x.redir }
      | 6 => d.modTorc s fun x => { x with redir := !x.redir }
      | _ => d

/-- CLEAR lets a spindle leave FAULT at its next RUN request (R163). -/
def Dev.torcClear (d : Dev) (s : SpinId) : Dev :=
  if d.torcState s = 10 ∨ (d.torc s).inFault then d.modTorc s fun x => { x with cleared := true } else d

/-! ## Chopper (R169 to R171) -/

/-- CHOP_TEST written (R171): from OFF at standstill; from FAULT once it has been cleared (R402). The test is device work, which wakes
(R380). -/
def Dev.chopTest (d : Dev) (s : SpinId) : Dev :=
  if !d.torcDead s ∧ getB d .TQ_STAT_LOW30 s ∧ (d.torcState s = 0 ∨ (d.torcState s = 10 ∧ (d.torc s).cleared)) then
    ((d.torcEnter s 9).modTorc s fun x => { x with startPend := false, inFault := d.torcState s == 10 }).wake 6
  else d

/-- CHOP_TEST_DONE (R171): passed when ICHOP lay in its band in each of the last four Ticks. A test made in a cleared FAULT ends there: only
a RUN request leaves it (R163). -/
def Dev.chopDone (d : Dev) (t : Nat) (s : SpinId) : Dev :=
  if d.torcState s ≠ 9 ∨ (d.torc s).age < 8 then d
  else
    let ok := decide (4 ≤ (d.torc s).chopGood)
    let pend := (d.torc s).startPend
    let d := if (d.torc s).inFault then (d.torcEnter s 10).modTorc s fun x => { x with cleared := true, inFault := false } else d.torcEnter s 0
    if !ok then d.startRefused t s 2
    else
      let d := (setF d .TQ_STAT_CHOP_FAULT s 0).modKeepSpin s fun k => { k with needChop := false }
      if pend then d.torcStart t s else d

/-- CHOPPER_FAULT (R169, R170): latched; a spindle in DECEL enters BRAKE. -/
def Dev.chopFault (d : Dev) (t : Nat) (s : SpinId) : Dev :=
  let x := d.torc s
  if getB d .TQ_STAT_CHOP_FAULT s ∨ (x.chopHigh < 80 ∧ x.chopLow < 8 ∧ !(d.spin s).link.held.chopFault) then d
  else
    let d := (setF d .TQ_STAT_CHOP_FAULT s 1).event t .TQ_CHOP_FAULT s
    if d.torcState s = 6 then d.torcBrake s else d

/-! ## Running and stopping (R159, R168, R172, R173) -/

/-- AT_SPEED (R159): |speed − target| ≤ SPEED_TOL for 400 consecutive Ticks in RUN. -/
def Dev.atSpeed (d : Dev) (s : SpinId) : Dev :=
  if d.torcState s = 5 ∧ 400 ≤ (d.torc s).inTol then setF d .TQ_STAT_AT_SPEED s 1 else d

/-- DECEL_END (R168): the observer speed is below OBS_MIN. -/
def Dev.decelEnd (d : Dev) (s : SpinId) : Dev :=
  if d.torcState s = 6 ∧ (d.torc s).speed < 2 * getF d .TQ_START_CFG_OBS_MIN s then d.torcBrake s else d

/-- STANDSTILL (R168): the current has stayed below STILL_I for 200 ms: OFF with LOW30 set; a pending start goes on from
rest. -/
def Dev.standstill (d : Dev) (t : Nat) (s : SpinId) : Dev :=
  if d.torcState s ≠ 7 ∨ (d.torc s).still < 80000 ∨ d.torcDead s then d
  else
    let pend := (d.torc s).startPend
    let d := setF (setF (d.torcEnter s 0) .TQ_STAT_LOW30 s 1) .TQ_STAT_REVERSE s 0
    let d := d.modTorc s fun x => { x with rested := true, speed := 0, startPend := false }
    if pend && getB d .TQ_CTL_RUN s then d.torcStart t s else d

/-- KE_WINDOW_END (R172): KE_MEAS, whose drift is an ageing sample (R359); outside KE_NOM ± 12 % the motor is abnormal. -/
def Dev.keEnd (d : Dev) (t : Nat) (s : SpinId) (ke : Nat) : Dev :=
  if d.torcState s ≠ 5 ∨ (d.torc s).keUpd < 64 then d
  else
    let d := (setF d .TQ_MOTOR_KE_MEAS s ke).modTorc s fun x => { x with keUpd := 0 }
    let nom := getF d .TQ_MOTOR_KE_NOM s
    let drift : Int := Int.fdiv (1000 * ((ke : Int) - nom)) nom
    let d := if nom = 0 then d else d.sample t (.spindle s) 2 drift
    if 100 * ke < 88 * nom ∨ 112 * nom < 100 * ke then
      let d := if getB d .TQ_STAT_ABNORMAL s then d else (setF d .TQ_STAT_ABNORMAL s 1).event t .TQ_MOTOR_ABNORMAL s [ke]
      d.retarget s
    else d

/-- ABNORMAL_CLEAR (R172): a write of 1; the limit lifts. -/
def Dev.abnormalClear (d : Dev) (s : SpinId) : Dev :=
  let d := setF d .TQ_STAT_ABNORMAL s 0
  if d.torcState s = 5 then d.retarget s else d

/-- BUS_RECOVERY (R173): VBUS has stayed at or above 21.6 V for 8 M-ticks. -/
def Dev.busRecovery (d : Dev) (s : SpinId) : Dev :=
  if (d.torc s).busWarn ∧ 8 ≤ (d.torc s).busOk then
    (setF d .TQ_STAT_BUS_WARN s 0).modTorc s fun x => { x with busWarn := false, busOk := 0 }
  else d

/-! ## Door, tray and eject (R174 to R176) -/

/-- The LED pattern of a bay. -/
def Dev.led (d : Dev) (s : SpinId) (n : Nat) : Dev :=
  (setF d .TQ_DOOR_LED s n).modSpinDown s fun x => { x with led := n }

/-- A disc has gone from the bay: nothing of it is mounted, what was to be read goes to E6 or ends with 0x2008 (R285), and its
members are missing (R248). -/
def Dev.discOut (d : Dev) (t : Nat) (s : SpinId) : Dev :=
  let gone (d : Dev) (k : Nat) : Dev :=
    d.modSurf ⟨(2 * s.val + k) % 64, Nat.mod_lt _ (by decide)⟩ fun x => { ({} : Surface) with pcaUsed := x.pcaUsed }
  let d := (headsOf s).foldl (fun d h => d.modMotion h fun m => { m with pairs := [] }) d
  let d := (gone (gone d 0) 1).checkMembers t
  (d.data.reads.filter fun r => surfSpin r.surf == s && !r.realloc && r.step != 6).foldl (fun d r =>
    d.noMedium t r 0x2008) d

/-- The commands with a sector to read or to write on the heads of a spindle (R174). -/
def Dev.spinCmds (d : Dev) (s : SpinId) : List Cmd :=
  d.clasp.cmds.filter fun c =>
    d.data.writes.any (fun w => (w.owner == some (c.qid, c.e.tag) || c.waits.contains w.id) && spinOf w.head == s && w.state != .verified)
    || d.data.reads.any fun r =>
        spinOf r.head == s && !r.realloc && r.step != 6
          && (r.why == .cmd c.qid c.e.tag || r.joined.any fun j => j.1 == c.qid && j.2.1 == c.e.tag)

/-- A disc is in the bay: its surfaces wait to be mounted. -/
def Dev.discIn (d : Dev) (s : SpinId) : Dev :=
  let come (d : Dev) (k : Nat) : Dev :=
    d.modSurf ⟨(2 * s.val + k) % 64, Nat.mod_lt _ (by decide)⟩ fun x =>
      if x.mount = .noDisc then { x with mount := .unmounted } else x
  come (come d 0) 1

/-- The eject sequence begins (R175): RUN is 0 and the heads park. -/
def Dev.startEject (d : Dev) (s : SpinId) (forced : Bool) : Dev :=
  let d := setF d .TQ_CTL_RUN s 0
  ((d.torcHalt s).parkHeads s).led s 3 |>.modTorc s fun x => { x with doorSeq := .parking, forced, lastEject := true }

/-- EJECT written (R174, R175): a running sequence goes on. -/
def Dev.ejectWrite (d : Dev) (s : SpinId) : Dev := if (d.torc s).doorSeq = .idle then d.startEject s false else d

/-- LOAD (R174, R175): TRAY_CMD = 1 until TRAY_IN rises. -/
def Dev.startLoad (d : Dev) (s : SpinId) : Dev :=
  if (d.torc s).doorSeq = .idle then
    (d.modSpinDown s fun x => { x with trayCmd := 1 }).modTorc s fun x =>
      { x with doorSeq := .trayIn, trayAge := 0, lastEject := false, forced := false }
  else d

/-- TRAY_TIMEOUT (R175): 4 s without the end sensor. -/
def Dev.trayTimeout (d : Dev) (t : Nat) (s : SpinId) : Dev :=
  let x := d.torc s
  if (x.doorSeq = .trayIn ∨ x.doorSeq = .trayOut) ∧ 1600000 ≤ x.trayAge then
    let d := (d.modSpinDown s fun x => { x with trayCmd := 0 }).modTorc s fun x => { x with doorSeq := .idle, trayAge := 0, forced := false }
    ((setF d .TQ_DOOR_TRAY_FAIL s 1).event t .TQ_TRAY_FAIL s).led s 5
  else d

/-- The running sequence goes on as far as the bay allows (R175). -/
def Dev.doorStep (d : Dev) (t : Nat) (s : SpinId) : Dev :=
  let x := d.torc s
  let still := getB d .TQ_STAT_LOW30 s && (d.torcState s == 0 || d.torcState s == 10)
  match x.doorSeq with
  | .idle => d
  | .parking =>
    if d.headsRest s then d.modTorc s fun x => { x with doorSeq := .stopping } else d.parkHeads s
  | .stopping =>
    if still then (d.modSpinDown s fun x => { x with unlockReq := true }).modTorc s fun x => { x with doorSeq := .unlocking } else d
  | .unlocking =>
    if getB d .TQ_DOOR_LOCK_ENGAGED s then d
    else (d.modSpinDown s fun x => { x with trayCmd := 2 }).modTorc s fun x => { x with doorSeq := .trayOut, trayAge := 0 }
  | .trayOut =>
    if getB d .TQ_DOOR_TRAY_OUT s then
      let d := (d.modSpinDown s fun x => { x with trayCmd := 0 }).modTorc s fun x => { x with doorSeq := .idle, forced := false }
      ((setF d .TQ_DOOR_EJ_REQ s 0).led s 4).discOut t s
    else d.modTorc s fun x => { x with trayAge := x.trayAge + 1 }
  | .trayIn =>
    if getB d .TQ_DOOR_TRAY_IN s then
      (d.modSpinDown s fun x => { x with trayCmd := 0, unlockReq := false }).modTorc s fun x => { x with doorSeq := .locking }
    else d.modTorc s fun x => { x with trayAge := x.trayAge + 1 }
  | .locking =>
    if getB d .TQ_DOOR_DOOR_CLOSED s && getB d .TQ_DOOR_LOCK_ENGAGED s then
      let d := (d.led s (if getB d .TQ_DOOR_CART_PRESENT s then 1 else 0)).modTorc s fun x => { x with doorSeq := .idle }
      if getB d .TQ_DOOR_CART_PRESENT s then d.discIn s else d
    else d

/-- The verification reads of a spindle's heads are dropped: data sectors stand as complete (R433). -/
def Dev.dropUnread (d : Dev) (t : Nat) (s : SpinId) : Dev :=
  (d.data.writes.filter fun w => spinOf w.head == s && w.state == .complete && w.kind != 0x10 && w.kind != 0x11).foldl
    (fun d w => d.settle t w.id) d

/-- A forced eject (R174): every command queued or in flight on the spindle's four heads ends with 0x5001, and the sequence runs
without a grant. -/
def Dev.forcedEject (d : Dev) (t : Nat) (s : SpinId) : Dev :=
  let d := (setF d .TQ_DOOR_FORCED s 1).event t .TQ_FORCED_EJECT s
  let d := ((d.spinCmds s).foldl (fun d c => d.cutCmd t c 0x5001) d).dropUnread t s
  d.startEject s true

/-- An eject press as the IO block shows it (R174, R176): short on its release, forced at 5,000 ms, a load with the tray out;
ignored while a sequence runs. -/
def Dev.pressTick (d : Dev) (t : Nat) (s : SpinId) (now : Bool) (ms : Nat) : Dev :=
  let x := d.torc s
  let busy := x.doorSeq != .idle
  let held := if now then ms else x.pressMs
  let d' := d.modTorc s fun x => { x with pressed := now, pressMs := if now then ms else 0, pressDone := now && x.pressDone }
  let acted (d : Dev) : Dev := d.modTorc s fun x => { x with pressDone := now }
  if x.pressDone ∨ (!now ∧ !x.pressed) then d'
  else if busy then acted d'
  else if getB d .TQ_DOOR_TRAY_OUT s then (if 50 ≤ held then (acted d').startLoad s else d')
  else if now ∧ 5000 ≤ ms then (acted d').forcedEject t s
  else if !now ∧ x.pressed ∧ 50 ≤ held then
    ((setF d' .TQ_DOOR_EJ_REQ s 1).event t .TQ_EJECT_REQ s).led s 2
  else d'

/-- The IO block of a frame (R174 to R176): the door register, a fall of DOOR_CLOSED while the spindle turns, a refused wait, the
press, the disc's coming and going. -/
def Dev.doorFrame (d : Dev) (t : Nat) (s : SpinId) (x : SpinIn) : Dev :=
  let was := getB d .TQ_DOOR_DOOR_CLOSED s
  let d := setB (setB (setB d .TQ_DOOR_DOOR_CLOSED s x.doorClosed) .TQ_DOOR_LOCK_ENGAGED s x.lockEngaged) .TQ_DOOR_TRAY_IN s x.trayIn
  let d := setB (setB d .TQ_DOOR_TRAY_OUT s x.trayOut) .TQ_DOOR_CART_PRESENT s x.cartPresent
  let turning := !getB d .TQ_STAT_LOW30 s || (decide (3 ≤ d.torcState s) && decide (d.torcState s ≤ 7))
  let d := if was && !x.doorClosed && turning then
      ((setF d .TQ_CTL_RUN s 0).torcHalt s |>.led s 3).modTorc s fun x => { x with barred := true }
    else d
  let d := if (d.torc s).doorWait && !d.fourIn s then d.startRefused t s 1 else d
  let d := if x.cartPresent && x.trayIn then d.discIn s else d
  let gone := !x.cartPresent && x.trayIn && (d.surf ⟨2 * s.val, by omega⟩).mount != .noDisc
  let d := if gone then d.discOut t s else d
  d.pressTick t s x.ejectNow x.ejectMs

/-! ## A Tick of Torc (R151 to R159) -/

/-- The phases that are high for the axis k × 60° (R165). -/
def axisPhases (k : Nat) : Bool × Bool × Bool :=
  match k % 6 with
  | 0 => (true, false, false)
  | 1 => (true, true, false)
  | 2 => (false, true, false)
  | 3 => (false, true, true)
  | 4 => (false, false, true)
  | _ => (true, false, true)

/-- The duties of a period of TEST (R165): one pulse in the first of four periods, from the period that follows the entry on. -/
def Dev.testDuties (d : Dev) (s : SpinId) : Dev :=
  let x := d.torc s
  let n := (x.age - 1) / 8
  let p := axisPhases (n / 4)
  let on := decide (n % 4 = 0) && decide (n < 24)
  let duty (b : Bool) : Nat := if b && on then x.tpDuty else 0
  d.modSpinDown s fun y => { y with
    dutyA := duty p.1, dutyB := duty p.2.1, dutyC := duty p.2.2, winAt := x.tpWidth - 200, winEn := on }

/-- The states that track the rotor (R157, R159). -/
def tracks (n : Nat) : Bool := n == 1 || (decide (4 ≤ n) && decide (n ≤ 6))

/-- The step from one electrical angle to the next, the shorter way round. -/
def elecStep (a b : Nat) : Int :=
  let k : Int := ((b + 65536 - a) % 65536 : Nat)
  if k < 32768 then k else k - 65536

/-- The observer of a period (R157): speed and direction, electrical angle and back-EMF, in the states that track the rotor, in BRAKE and
in FAULT; the observer itself is not given (log entry 34). The mechanical angle accumulates the change of the electrical one. The first
period tracked after COAST begins a new angle epoch (R158). -/
def Dev.observe (d : Dev) (s : SpinId) : Dev :=
  let n := d.torcState s
  if tracks n || n == 7 || n == 10 then
    let r := d.drawInt
    let a := r.2.drawNat
    let e := a.2.drawInt
    let e' := e.2.drawInt
    let v := r.1.natAbs % 4096
    let el := a.1 % 65536
    let turn := 65536 * max 1 (getF d .TQ_MOTOR_POLE_PAIRS s)
    let d := (setF e'.2 .TQ_STAT_SPEED s v).modTorc s fun x => { x with
      speed := v, elec := el, obsAge := 0, mech := (((x.mech : Int) + elecStep x.elec el) % (turn : Int)).toNat
      eD := clampInt (-24000) 24000 e.1, eQ := clampInt (-24000) 24000 e'.1
      newEpoch := x.newEpoch || (x.coasted && tracks n), coasted := x.coasted && !tracks n }
    if tracks n then setB (setB d .TQ_STAT_LOW30 s (decide (v < 30))) .TQ_STAT_REVERSE s (decide (r.1 < 0) && decide (0 < v)) else d
  else d

/-- The d-q currents of a period (R153): its sample, or the prediction from the last ones over one period of 20 µs, in mA, mV, mΩ and µH. -/
def Dev.currents (d : Dev) (s : SpinId) (sampled : Bool) : Dev :=
  let h := (d.spin s).link.held
  let r := getF d .TQ_MOTOR2_R_PH s
  let l := getF d .TQ_MOTOR2_L_PH s
  let next (i v e : Int) : Int := sat32 (i + divTie (20 * (1000 * (v - e) - r * i)) (1000 * max 1 l : Nat))
  if sampled then
    let i := Config.toDq (d.frameAngle s) h.ia h.ib h.ic
    d.modTorc s fun x => { x with iD := sat32 i.1, iQ := sat32 i.2 }
  else if 2 < d.torcState s ∧ d.torcState s < 7 then
    d.modTorc s fun x => { x with iD := next x.iD x.vD x.eD, iQ := next x.iQ x.vQ x.eQ }
  else d

/-- A requested window whose sample is missing (R84, R153): counted; more than 8 in RUN or DECEL are a sample fault. `true` where the
window has its sample. The manual gives no consequence to a failed check of the sum of the three currents (R152), and none is
taken (log entry 34). -/
def Dev.sampleCheck (d : Dev) (t : Nat) (s : SpinId) : Bool × Dev :=
  let l := (d.spin s).link
  let asked := (d.spin s).down.winEn
  let n := d.torcState s
  let missing := asked && (!l.sampled || l.narrow)
  let d := d.modSpinLink s fun x => { x with
    sampled := false, narrow := false, missWin := if asked then (if l.sampled then 0 else x.missWin + 1) else x.missWin }
  if missing then
    let d := incF (incF d .SL_ERR_CURR_BAD s) .TQ_ERR_PRED s
    let d := if torcService n then d.modTorc s fun x => { x with predRun := x.predRun + 1 } else d
    (false, if 8 < (d.torc s).predRun then (d.event t .TQ_SAMPLE_FAULT s).torcEnter s 7 else d)
  else (asked, if asked then d.modTorc s fun x => { x with predRun := 0 } else d)

/-- The direction-signed current that the bus leaves to regeneration (R168): in full up to 26.0 V, none from 27.0 V. -/
def regenLimit (full vbus : Nat) : Nat := if vbus ≤ 26000 then full else full * (27000 - vbus) / 1000

/-- The q-axis current that the current loop is to make: the speed loop's, within the limit of the throttle step (R373) and the bus limit on
regeneration (R168, R172, R173). -/
def Dev.iqWanted (d : Dev) (s : SpinId) : Int :=
  let step := getF d .TH_STAT_STEP 0
  let full := if 6 ≤ step then Config.iqFull / 2 else if step = 5 then 3 * Config.iqFull / 4 else Config.iqFull
  clampInt (-(regenLimit full (d.spin s).link.held.vbus : Nat)) full (d.torc s).iqTgt

/-- The current in mA held along the field in ALIGN and RAMP (R166): in ALIGN it rises over the first tenth of ALIGN_MS. -/
def Dev.fieldCurrent (d : Dev) (s : SpinId) : Nat :=
  let i := 10 * getF d .TQ_START_CFG_I_ALIGN s
  let tenth := 80 * getF d .TQ_START_CFG_ALIGN_MS s
  if d.torcState s = 3 then i * min (d.torc s).alignAge tenth / max 1 tenth else i

/-- The current loop of a period in the states that control a current (R153, R154, R166): two controllers in the frame of the field; their
integrators hold where the depth is limited. -/
def Dev.controlTick (d : Dev) (s : SpinId) : Dev :=
  let x := d.torc s
  let limited := torcService (d.torcState s)
  let want : Int × Int := if limited then (0, d.iqWanted s) else (d.fieldCurrent s, 0)
  let pi := Config.currentPi (getF d .TQ_MOTOR2_R_PH s) (getF d .TQ_MOTOR2_L_PH s) (getF d .TQ_LOOP_CFG_CUR_BW s)
  let a := pi (want.1 - x.iD) x.gD
  let b := pi (want.2 - x.iQ) x.gQ
  let d := d.setDuties s limited a.1 b.1
  if getB d .TQ_STAT_DEPTH_LIM s then d else d.modTorc s fun x => { x with gD := sat32 a.2, gQ := sat32 b.2 }

/-- The current loop of a period (R153, R154). -/
def Dev.currentLoop (d : Dev) (t : Nat) (s : SpinId) : Dev :=
  let r := d.sampleCheck t s
  let d := (r.2.currents s r.1).observe s
  let n := d.torcState s
  if n = 2 then d.testDuties s else if 3 ≤ n ∧ n ≤ 6 then d.controlTick s else d

/-- The speed loop of a spindle (R159, R168, R172): the q-axis current target, and in RUN the errors of AT_SPEED and the KE window. -/
def Dev.speedLoop (d : Dev) (s : SpinId) : Dev :=
  let d :=
    if torcService (d.torcState s) then
      let x := d.torc s
      let r := Config.speedPi (getF d .TQ_LOOP_CFG_SPD_BW s) ((x.ref : Int) - 2000000 * x.speed) x.gS
      d.modTorc s fun x => { x with iqTgt := sat32 r.1, gS := sat32 r.2 }
    else d
  if d.torcState s ≠ 5 then d
  else
    let x := d.torc s
    let err := if x.speed ≤ x.target then x.target - x.speed else x.speed - x.target
    let bad := decide (4 * getF d .TQ_RUN_CFG_SPEED_TOL s < err)
    let d := d.modTorc s fun x => { x with
      badUpd := if bad then x.badUpd + 1 else 0, keUpd := if 600 ≤ x.speed then x.keUpd + 1 else 0 }
    if 3 ≤ (d.torc s).badUpd then d.notAtSpeed s else d

/-- The speed reference of a Tick (R163, R166, R168, R173): toward the target at ACCEL or DECEL; no acceleration below the bus
warning, both halved from TS5 on (R373). ALIGN's current and RAMP's speed hold in a dip, and RAMP's field turns at its speed. -/
def Dev.rampTick (d : Dev) (s : SpinId) : Dev :=
  let half (v : Nat) : Nat := if 5 ≤ getF d .TH_STAT_STEP 0 then v / 2 else v
  let up := half (5 * getF d .TQ_RUN_CFG_ACCEL s)
  let dn := half (5 * getF d .TQ_RUN_CFG_DECEL s)
  let x := d.torc s
  match d.torcState s with
  | 3 => d.modTorc s fun x => { x with alignAge := if x.busWarn then x.alignAge else x.alignAge + 1 }
  | 4 =>
    let top := d.obsHand s
    let turn := x.ref * getF d .TQ_MOTOR_POLE_PAIRS s
    d.modTorc s fun x => { x with
      field := (if getB d .TQ_CTL_DIR s then x.field + fieldTurn - turn else x.field + turn) % fieldTurn
      ref := if x.busWarn then x.ref else min top (x.ref + up), handAge := if top ≤ x.ref then x.handAge + 1 else 0 }
  | 5 =>
    let goal := x.target * 2000000
    let near := decide ((if x.speed ≤ x.target then x.target - x.speed else x.speed - x.target) ≤ getF d .TQ_RUN_CFG_SPEED_TOL s)
    d.modTorc s fun x => { x with
      ref := if x.ref < goal then (if x.busWarn then x.ref else min goal (x.ref + up)) else max goal (x.ref - dn)
      inTol := if near then x.inTol + 1 else 0 }
  | 6 => d.modTorc s fun x => { x with ref := x.ref - dn }
  | _ => d

/-- The counts of a Tick from the values held: while the bail has its bridges off the disc coasts, and no standstill is counted (R170); door, chopper, standstill, shock (R145, R164, R168, R169, R171). -/
def Dev.torcCounts (d : Dev) (s : SpinId) : Dev :=
  let x := (d.spin s).link.held
  let r := getF d .TQ_BRAKE_CFG_R_CHOP s
  let amp := max x.ia.natAbs (max x.ib.natAbs x.ic.natAbs)
  let inBand := decide (30 * x.vbus ≤ 4 * x.ichop * r) && decide (4 * x.ichop * r ≤ 50 * x.vbus)
  -- while the bail is lost the door's state is unknown (R79)
  let four := d.fourIn s && getF d .SL_STATUS_STATE s == 6
  d.modTorc s fun y => { y with
    age := y.age + 1
    fourOk := if four then y.fourOk + 1 else 0
    chopHigh := if x.chopOn && decide (29000 < x.vbus) then y.chopHigh + 1 else 0
    chopLow := if x.chopOn && decide (x.ichop * r < 5 * x.vbus) then y.chopLow + 1 else 0
    chopGood := if inBand then y.chopGood + 1 else 0
    still := if amp < getF d .TQ_BRAKE_CFG_STILL_I s && !x.bridgeOff then y.still + 1 else 0
    shockClear := if y.shockNow then 0 else y.shockClear + 1, shockNow := false }

/-- RUN at 0, or a new direction (R161, R163, R168, R170): with the heads at rest RUN gives way to DECEL, or to BRAKE under a
chopper fault. In OFF after a stop that Torc did not see, LOW30 comes with the bail's own speed (R159; log entry 35). -/
def Dev.stopTick (d : Dev) (s : SpinId) : Dev :=
  if d.torcState s = 5 ∧ (!getB d .TQ_CTL_RUN s ∨ (d.torc s).redir) then
    if !d.headsRest s then d.parkHeads s
    else if getB d .TQ_STAT_CHOP_FAULT s then d.torcBrake s
    else d.torcEnter s 6
  else if d.torcState s = 0 ∧ getF d .SL_STATUS_STATE s = 6 ∧ (d.spin s).link.held.speedRpm < 30 then setF d .TQ_STAT_LOW30 s 1
  else d

/-- Torc's work for a spindle in the Tick numbered `n` that began at `t` (R155). -/
def Dev.torcTick (d : Dev) (t n : Nat) (s : SpinId) : Dev :=
  if d.torcDead s then d.torcCounts s
  else
    let d := ((d.torcCounts s).rampTick s).stopTick s
    let p := n % 8
    let late := (d.torc s).late
    let d := if p = 1 ∧ n / 8 % 8 = s.val % 8 ∧ !late then d.speedLoop s else d
    let d := if p = (if s.val % 8 < 4 then 5 else 6) ∧ !late then d.currentLoop t s else d
    ((d.doorStep t s).modTorc s fun x => { x with late := false }).modSpinDown s fun x =>
      { x with brakeIlim := getF d .TQ_BRAKE_CFG_BRAKE_ILIM s }

/-- ANGLE_NEXT of a new Tick (R157, R158): 0 in TEST and ALIGN; where the rotor is tracked the accumulated angle, predicted at the observer
speed for the next Tick boundary plus the mean latency of the four head links (log entry 34); the first Tick of an epoch clears
the runout tables of the four heads and starts their passes. -/
def Dev.angleTick (d : Dev) (s : SpinId) : Dev :=
  let n := d.torcState s
  let d :=
    if n = 2 ∨ n = 3 then d.modTorc s fun x => { x with anglePrev := x.angle, angle := 0 }
    else if tracks n || n == 7 then
      let x := d.torc s
      -- from the instant of the observation to the next Tick boundary and the heads' mean latency, in quarters of a nanosecond
      let ahead := (x.obsAge + 1) * 10000 + ((headsOf s).map fun h => getF d .HL_STATUS_LATENCY h).sum
      let turned := divTie (65536 * x.speed * ahead : Nat) 240000000000
      let now : Int := x.mech / max 1 (getF d .TQ_MOTOR_POLE_PAIRS s)
      let next := if getB d .TQ_STAT_REVERSE s then now - turned else now + turned
      d.modTorc s fun x => { x with anglePrev := x.angle, angle := (next % 65536).toNat, obsAge := x.obsAge + 1 }
    else d.modTorc s fun x => { x with anglePrev := x.angle }
  if (d.torc s).newEpoch && !d.torcDead s then
    let d := (headsOf s).foldl (fun d (h : HeadId) =>
      let d := (List.range 256).foldl (fun d i => resetF (resetF d .BZ_RUN_FOC_T (h.val * 256 + i)) .BZ_RUN_TRK_T (h.val * 256 + i)) d
      setF (setF d .BZ_LEARN_FOC_MODE h 1) .BZ_LEARN_TRK_MODE h 1) d
    (setF d .TQ_STAT_ANGLE_NEW s 1).modTorc s fun x => { x with newEpoch := false }
  else d

/-! ## Overruns and failure (R156) -/

/-- A Torc core fails: its spindles are short-braked, and their speed is withdrawn. A spindle in COAST stays so (row 1 of R162). -/
def Dev.torcFail (d : Dev) (t : Nat) (c : TorcId) : Dev :=
  if getB d .TQ_CORE_FAILED c then d
  else
    let d := (setF d .TQ_CORE_FAILED c 1).event t .TQ_CORE_FAIL c
    let d := setF d .KP_CORES_TORC 0 (Nat.lor (getF d .KP_CORES_TORC 0) (2 ^ c.val))
    (allSpins.filter fun s => torcOf s == c && d.torcState s != 8).foldl (fun d s => d.torcEnter s 7) d

/-- TORC_OVERRUN (R156): bit i of the mask is spindle 8t + i. -/
def Dev.torcOverrun (d : Dev) (t : Nat) (c : TorcId) (late : Nat) : Dev :=
  let late := late % 256
  let hit := allSpins.filter fun s => torcOf s == c && bit late (s.val % 8)
  match hit with
  | [] => d
  | s0 :: _ =>
    if getB d .TQ_CORE_FAILED c then d
    else
      let d := hit.foldl (fun d s => d.modTorc s fun x => { x with late := true }) d
      let d := (incF d .TQ_CORE_OVERRUNS c).event t .TQ_OVERRUN s0 [late]
      let again := d.cores[c].lastOvr.any fun (n : Nat) => decide (tickOf t ≤ n + 400)
      let d := { d with cores := d.cores.set c { d.cores[c] with lastOvr := some (tickOf t) } }
      if again then d.torcFail t c else d

/-! ## The bail's coming and going (R162, row 1) -/

/-- The spindle's link is lost or faulted: COAST, before every other row. A FAULT and its CLEAR stand behind it (R163). -/
def Dev.torcCoast (d : Dev) (s : SpinId) : Dev :=
  let x := d.torc s
  let fault := x.inFault || d.torcState s == 10
  (d.torcEnter s 8).modTorc s fun y => { y with coasted := true, inFault := fault, cleared := fault && x.cleared }

/-- The bail is found: with RUN at 1 a start begins at once, with RUN at 0 the spindle is OFF (log entry 35); a failed core's spindle is
short-braked (row 2 of R162), and one in FAULT is still in it (R163). -/
def Dev.torcBack (d : Dev) (t : Nat) (s : SpinId) : Dev :=
  if d.torcState s ≠ 8 then d
  else if d.torcDead s then d.torcEnter s 7
  else if (d.torc s).inFault then
    let c := (d.torc s).cleared
    (d.torcEnter s 10).modTorc s fun x => { x with inFault := false, cleared := c }
  else
    let d := (d.torcEnter s 0).modTorc s fun x => { x with rested := false }
    if getB d .TQ_CTL_RUN s then d.torcStart t s else d

/-- TORC_OVERRUN. -/
def execTorcOverrun (c : TorcId) (late : Nat) (s : State) : Out := run s fun d => d.torcOverrun s.dtime c late
/-- TQ_CTL_RUN: by the host through TQ_CTL, or by the firmware. -/
def execTqCtlRun (sp : SpinId) (go byHost : Bool) (s : State) : Out :=
  run s fun d => if byHost then d.hostTorc sp fun d => d.writeRun s.dtime sp go else d.writeRun s.dtime sp go
/-- SPEED_CMD. -/
def execSpeedCmd (sp : SpinId) (rpm : Nat) (s : State) : Out := run s fun d => d.hostTorc sp fun d => d.writeSpeed s.dtime sp rpm
/-- CHOP_TEST. -/
def execChopTest (sp : SpinId) (s : State) : Out := run s fun d => d.hostTorc sp fun d => d.chopTest sp
/-- CHOP_TEST_DONE. -/
def execChopTestDone (sp : SpinId) (s : State) : Out := run s fun d => d.chopDone s.dtime sp
/-- START_DOOR_WAIT_END. -/
def execStartDoorWaitEnd (sp : SpinId) (s : State) : Out := run s fun d => d.doorWaitEnd s.dtime sp
/-- LISTEN_END. -/
def execListenEnd (sp : SpinId) (speed : Nat) (reverse : Bool) (s : State) : Out :=
  run s fun d => d.listenEnd s.dtime sp speed reverse
/-- TEST_PULSES_DONE. -/
def execTestPulsesDone (sp : SpinId) (peaks : List Nat) (s : State) : Out := run s fun d => d.testDone s.dtime sp peaks
/-- ALIGN_END. -/
def execAlignEnd (sp : SpinId) (s : State) : Out := run s fun d => d.alignEnd sp
/-- RAMP_HANDOVER. -/
def execRampHandover (sp : SpinId) (s : State) : Out := run s fun d => d.rampHandover sp
/-- RAMP_AGREE_TIMEOUT. -/
def execRampAgreeTimeout (sp : SpinId) (s : State) : Out := run s fun d => d.rampTimeout s.dtime sp
/-- AT_SPEED. -/
def execAtSpeed (sp : SpinId) (s : State) : Out := run s fun d => d.atSpeed sp
/-- DECEL_END. -/
def execDecelEnd (sp : SpinId) (s : State) : Out := run s fun d => d.decelEnd sp
/-- STANDSTILL. -/
def execStandstill (sp : SpinId) (s : State) : Out := run s fun d => d.standstill s.dtime sp
/-- CHOPPER_FAULT. -/
def execChopperFault (sp : SpinId) (s : State) : Out := run s fun d => d.chopFault s.dtime sp
/-- KE_WINDOW_END. -/
def execKeWindowEnd (sp : SpinId) (ke : Nat) (s : State) : Out := run s fun d => d.keEnd s.dtime sp ke
/-- ABNORMAL_CLEAR. -/
def execAbnormalClear (sp : SpinId) (s : State) : Out := run s fun d => d.abnormalClear sp
/-- BUS_RECOVERY. -/
def execBusRecovery (sp : SpinId) (s : State) : Out := run s fun d => d.busRecovery sp
/-- EJECT. -/
def execEject (sp : SpinId) (s : State) : Out := run s fun d => d.hostTorc sp fun d => d.ejectWrite sp
/-- LOAD. -/
def execLoad (sp : SpinId) (s : State) : Out := run s fun d => d.hostTorc sp fun d => d.startLoad sp
/-- TRAY_TIMEOUT. -/
def execTrayTimeout (sp : SpinId) (s : State) : Out := run s fun d => d.trayTimeout s.dtime sp

end Sys2Proof.Machine
end

