-- ==== Sys2Proof/Machine/ResetKinds.lean ====
section
/-! DEFINITION. What a reset kind and a power state do to the register file: the Survives and Retention columns (R14, R15,
R424, R428), with the values of the image put back where the Reset column reads image (R412). -/

namespace Sys2Proof.Machine

/-- The reset kinds, from widest to narrowest (R427). -/
inductive ResetKind where
  | c | b | h | f | s | k
deriving DecidableEq, Repr

/-- A field with this Survives column keeps its value through a reset of the kind (R14). -/
def Survives.through (x : Survives) (kind : ResetKind) : Bool :=
  match kind, x with
  | .c, .cbhfsk => true
  | .b, .cbhfsk => true
  | .b, .bhfsk => true
  | .k, .hfs => false
  | .h, .sk => false
  | .f, .sk => false
  | .h, .k => false
  | .f, .k => false
  | .s, .k => false
  | .c, _ => false
  | .b, _ => false
  | _, .none => false
  | _, _ => true

/-- A field with this Retention column keeps its value in the power state P (R15). -/
def Retention.through (x : Retention) (p : Nat) : Bool :=
  match x with
  | .none => p == 0
  | .p12 => decide (p ≤ 2)
  | .p123 => decide (p ≤ 3)
  | .p1234 => decide (p ≤ 4)

/-- The field of a register key. -/
def fldOf (key : Nat) : Fld := Fld.ofNat (key % 1024)

/-- Every register whose field does not pass `keep` returns to its Reset value: its default, or what the records of the image
set (R412, R424). -/
def Dev.dropFields (d : Dev) (keep : Fld → Bool) : Dev :=
  let d := { d with
    regs := d.regs.filter fun p => keep (fldOf p.1)
    rvPend := d.rvPend.filter fun p => keep (fldOf p.1)
    hmPend := d.hmPend.filter fun k => keep (fldOf k) }
  (d.locket.image.filter fun p => !keep (fldOf p.1)).foldl (fun d p => setF d (fldOf p.1) (p.1 / 1024) p.2) d

/-- The register file through a reset kind. -/
def Dev.resetFields (d : Dev) (kind : ResetKind) : Dev := d.dropFields fun f => f.info.survives.through kind

/-- The register file on entering the power state P. -/
def Dev.retainFields (d : Dev) (p : Nat) : Dev := d.dropFields fun f => f.info.retention.through p

end Sys2Proof.Machine
end

