-- ==== Sys2Proof/Machine/Keeper.lean ====
section
/-! DEFINITION. Keeper (R387 to R403): the inhibits and permits it sends, the reaction levels H, L, S, D and X, the safety
functions, dips, core failures, and how latches clear. -/

namespace Sys2Proof.Machine

/-- Bit `k` of a field. -/
def Dev.bitF (d : Dev) (f : Fld) (i k : Nat) : Bool := bit (getF d f i) k

/-- Setting bit `k` of a field. -/
def Dev.putBit (d : Dev) (f : Fld) (i k : Nat) (b : Bool) : Dev := setF d f i (putBits (getF d f i) k 1 (b2n b))

/-! ## What Keeper sends (R387 to R390, R397, R398) -/

/-- The H latch of a head. -/
def Dev.headLatch (d : Dev) (h : HeadId) : Bool := d.bitF .KP_HEAD_LATCH_BITS (h / 32) (h % 32)
/-- The L or S latch of a spindle. -/
def Dev.spinLatch (d : Dev) (s : SpinId) : Bool := d.bitF .KP_SPIN_L_BITS 0 s
/-- The S latch of a spindle. -/
def Dev.spinLatchS (d : Dev) (s : SpinId) : Bool := d.bitF .KP_SPIN_S_BITS 0 s
/-- Level D or X. -/
def Dev.devSafe (d : Dev) : Bool := getF d .KP_STAT_DEV 0 != 0
/-- The strict profile (R402). -/
def Dev.strict (d : Dev) : Bool := getB d .KP_STAT_PROFILE 0

/-- LASER_INHIBIT and WRITE_INHIBIT of a head (R390, R397, R398). A gate that the inhibit closes is abandoned (R221), and an armed
spot receives W_STOP (R433). -/
def Dev.showInhibit (d : Dev) (h : HeadId) : Dev :=
  let lat := d.headLatch h || d.spinLatch (spinOf h) || d.devSafe
  let w := lat || d.keeper.dip || (d.spin (spinOf h)).keep.dip
  let d := if w && !(d.head h).down.writeInhibit then
      (d.modData fun x => { x with writes := x.writes.map fun j =>
        if j.state = .writing ∧ j.head = h then { j with bad := true } else j }).stopSpots h fun j => j.state == .armed
    else d
  d.modDown h fun x => { x with laserInhibit := lat, writeInhibit := w }

/-- The inhibits of the four heads of a spindle. -/
def Dev.showInhibits (d : Dev) (s : SpinId) : Dev := (headsOf s).foldl (fun d h => d.showInhibit h) d

/-- The inhibits of every head. -/
def Dev.showAllInhibits (d : Dev) : Dev := allHeads.foldl (fun d h => d.showInhibit h) d

/-- The link of a spindle is UP. -/
def Dev.spinUp (d : Dev) (s : SpinId) : Bool := getF d .SL_STATUS_STATE s == 6 && !(d.spin s).link.port.lost

/-- Keeper's laser permit (R389). -/
def Dev.permit (d : Dev) (s : SpinId) : Bool :=
  let x := (d.spin s).link.held
  !d.keeper.failed && !d.spinLatch s && !d.devSafe && d.spinUp s && x.doorClosed && x.lockEngaged

/-- KP_PERMIT of a spindle. -/
def Dev.showPermit (d : Dev) (s : SpinId) : Dev := d.putBit .KP_PERMIT_BITS 0 s (d.permit s)

/-! ## Reaction levels (R390) -/

/-- LAST_SF and KP_CAUSE (R404). -/
def Dev.keepCause (d : Dev) (t code unit : Nat) : Dev :=
  setF (setF (setF (setF d .KP_STAT_LAST_SF 0 code) .KP_CAUSE_CODE 0 code) .KP_CAUSE_UNIT 0 unit) .KP_CAUSE_TIME 0 (t % 2 ^ 48)

/-- A safety function trips: 1 to 8 for SF-A to SF-H. -/
def Dev.sfTrip (d : Dev) (t code unit : Nat) : Dev := (d.keepCause t code unit).event t .KP_SF_TRIP unit

/-- A diagnostic fault that takes a reaction (R399). -/
def Dev.diagFault (d : Dev) (t row unit : Nat) : Dev := (d.keepCause t 9 row).event t .KP_DIAG_FAULT unit [row]

/-- Level H on a head: the inhibits, latched; mode control goes to FAULT; both halves of the inhibit path test are due again. -/
def Dev.levelH (d : Dev) (h : HeadId) : Dev :=
  let d := (d.putBit .KP_HEAD_LATCH_BITS (h / 32) (h % 32) true).showInhibit h
  (d.modKeepHead h fun k => { k with laserHalf := false, writeHalf := false }).modMotion h fun m => { m with wantFault := true }

/-- Level L on a spindle: H on its four heads, latched as a spindle latch; the permit goes; the commands that need the spindle
end with 0x5002. -/
def Dev.levelL (d : Dev) (t code : Nat) (s : SpinId) : Dev :=
  if d.spinLatch s then d
  else
    let d := (d.putBit .KP_SPIN_L_BITS 0 s true).modKeepSpin s fun k => { k with cause := code, clearing := false }
    let d := ((headsOf s).foldl (fun d h => d.modMotion h fun m => { m with wantFault := true }) d).showInhibits s
    (d.spinCmds s).foldl (fun d c => d.cutCmd t c 0x5002) (d.showPermit s)

/-- Level S on a spindle: L, BRIDGE_INHIBIT until standstill, and Torc in FAULT with RUN at 0. -/
def Dev.levelS (d : Dev) (t code : Nat) (s : SpinId) : Dev :=
  let d := d.levelL t code s
  if d.spinLatchS s then d
  else
    let d := (d.putBit .KP_SPIN_S_BITS 0 s true).modKeepSpin s fun k => { k with bridge := true, slow := 0, clearing := false, cause := code }
    let d := setF (d.modSpinDown s fun x => { x with bridgeInhibit := true }) .TQ_CTL_RUN s 0
    let d := d.modTorc s fun x => { x with startPend := false, doorWait := false, retry := false }
    if d.torcDead s then d else d.torcEnter s 10

/-- Level D: S on every spindle, reset kind K, the alarm (R390, R424). -/
def Dev.levelD (d : Dev) (t code : Nat) : Dev :=
  if d.devSafe then d
  else
    let d := setF (setF d .KP_STAT_DEV 0 1) .KP_STAT_ALARM 0 1
    let d := allSpins.foldl (fun d s => d.levelS t code s) d
    let d := setF ((d.resetFields .k).casketReset) .SY_RESET_LAST 0 6
    allSpins.foldl (fun d s => d.showPermit s) d.showAllInhibits

/-- Level X: D, and 16 Ticks later the system PLL stops. -/
def Dev.levelX (d : Dev) (t code : Nat) : Dev :=
  let d := setF (d.levelD t code) .KP_STAT_DEV 0 2
  d.modKeeper fun k => { k with xAge := k.xAge.or (some 0) }

/-- SHUTDOWN_PLL_STOP (R390): after 16 Ticks of level X every domain but KEEPER and AON stops, and the links fall silent. -/
def Dev.pllStop (d : Dev) : Dev :=
  if d.keeper.xAge.any fun (n : Nat) => decide (16 ≤ n) then
    { d with
      keeper := { d.keeper with pllStopped := true }
      heads := d.heads.map fun x => { x with wire := [] }, spindles := d.spindles.map fun x => { x with wire := [] } }
  else d

/-! ## SF-A and the sources of speed (R392; R399, row 4) -/

/-- Torc's report: none from a failed core or in COAST. -/
def Dev.torcSource (d : Dev) (s : SpinId) : Option Nat :=
  if d.torcDead s ∨ d.torcState s = 8 then none else some (getF d .TQ_STAT_SPEED s)

/-- The clock-track rates of the heads that qualify, else the bail's SPEED_RPM: each as a numerator and a denominator in rpm. -/
def Dev.bailSource (d : Dev) (s : SpinId) : List (Nat × Nat) :=
  let hs := (headsOf s).filter fun h =>
    let l := (d.head h).link
    d.linkUp h && l.flags.pllLock && l.flags.laserOn && decide (getF d .MO_ADDR_AGE h ≤ 400)
  let rates := hs.map fun (h : HeadId) =>
    let x := d.head h
    ((x.link.sampleTotal + 2 ^ 32 - x.keep.winTotal) % 2 ^ 32 * 38197, 218000 + 12 * getF d .MO_ADDR_BAND h)
  if !rates.isEmpty then rates
  else if d.spinUp s then [((d.spin s).link.held.speedRpm, 1)]
  else []

/-- Two readings are apart by more than 5 % of the larger and more than 20 rpm. -/
def speedsApart (a : Nat) (b : Nat × Nat) : Bool :=
  let x := a * b.2
  let diff := if x ≤ b.1 then b.1 - x else x - b.1
  decide (max x b.1 < 20 * diff) && decide (20 * b.2 < diff)

/-- SPEED_WINDOW (R392, R399): a window of 40 Ticks ends. -/
def Dev.speedWindow (d : Dev) (t : Nat) (s : SpinId) : Dev :=
  let k := (d.spin s).keep
  if d.keeper.failed ∨ k.winAt.any fun (n : Nat) => decide (tickOf t < n + 40) then d
  else
    let a := d.torcSource s
    let b := d.bailSource s
    let ovr := a.any (fun (v : Nat) => decide (3300 < v)) || b.any fun x => decide (3300 * x.2 < x.1)
    let slow := a.any (fun (v : Nat) => decide (v < 30)) && !b.isEmpty && b.all fun x => decide (x.1 < 30 * x.2)
    let apart := a.any fun (v : Nat) => b.any (speedsApart v)
    let d := d.modKeepSpin s fun k => { k with
      winAt := some (tickOf t)
      ovr := if ovr then k.ovr + 1 else 0
      failBoth := if a.isNone && b.isEmpty then k.failBoth + 1 else 0
      apart := if apart then k.apart + 1 else 0
      slow := if slow then k.slow + 40 else 0 }
    let d := (headsOf s).foldl (fun d (h : HeadId) => d.modKeepHead h fun k => { k with winTotal := (d.head h).link.sampleTotal }) d
    let k := (d.spin s).keep
    let turning := decide (d.torcState s = 5) || decide (d.torcState s = 6)
    if d.spinLatchS s then d
    else if 2 ≤ k.ovr ∨ (turning ∧ 10 ≤ k.failBoth) then (d.sfTrip t 1 s).levelS t 1 s
    else if 10 ≤ k.apart then (incF (d.diagFault t 4 s) .KP_DIAG_DISAGREE 0).levelS t 9 s
    else d

/-! ## SF-B to SF-H (R391, R393 to R395) -/

/-- SF-B: a door or lock open while a head of the spindle reports LASER_ON. -/
def Dev.checkDoor (d : Dev) (t : Nat) (s : SpinId) : Dev :=
  let x := (d.spin s).link.held
  if !d.keeper.failed && d.spinUp s && !(x.doorClosed && x.lockEngaged) && !d.spinLatch s
      && (headsOf s).any fun h => d.linkUp h && (d.head h).link.flags.laserOn then
    (d.sfTrip t 2 s).levelL t 2 s
  else d

/-- SF-D: the bus above 31 V with the bridges on in 2 consecutive Ticks. -/
def Dev.checkBridge (d : Dev) (t : Nat) (s : SpinId) : Dev :=
  let x := (d.spin s).link.held
  let ovr := decide (31000 < x.vbus) && !x.bridgeOff
  let d := d.modKeepSpin s fun k => { k with overVolt := if ovr then k.overVolt + 1 else 0 }
  if !d.keeper.failed && decide (2 ≤ (d.spin s).keep.overVolt) && !d.spinLatch s then
    ((d.diagFault t 7 s).sfTrip t 4 s).levelL t 4 s
  else d

/-- SF-E and SF-F on an intact frame of a head (R394): the conditions of this frame, and a trip when one held in the last. -/
def Dev.checkHead (d : Dev) (t : Nat) (h : HeadId) : Dev :=
  let x := (d.head h).link
  let k := (d.head h).keep
  let set := (d.head h).down.laserSet
  let mon := decide ((12 * max set k.prevSet : Nat) < 20 * x.held.mon)
  let ft := getF d .KP_ILIM_I_FT_MAX 0
  let cur := decide (ft < x.held.iFoc.natAbs) || decide (ft < x.held.iTrk.natAbs)
    || decide (getF d .KP_ILIM_I_TILT_MAX 0 < x.held.iTilt.natAbs)
  let d := d.modKeepHead h fun k => { k with
    prevSet := set, monOver := mon, powOver := x.flags.overpower, curOver := cur, ocOver := x.flags.overcurrent }
  if d.keeper.failed || d.headLatch h then d
  else if (mon && k.monOver) || (x.flags.overpower && k.powOver) then (d.sfTrip t 5 h).levelH h
  else if (cur && k.curOver) || (x.flags.overcurrent && k.ocOver) then (d.sfTrip t 6 h).levelH h
  else d

/-- SERVO_HEARTBEAT_LOSS (R32): SF-G. -/
def Dev.servoLost (d : Dev) (t : Nat) : Dev :=
  if d.keeper.failed || d.devSafe then d else (d.sfTrip t 7 0).levelD t 7

/-- A sensor returns its open or its shorted code (R366). -/
def deadCode (v : Nat) : Bool := v % 65536 == 0x7FFF || v % 65536 == 0x8000

/-- The middle of the readings of the other sensors. -/
def midOther (temps : List Nat) (i : Nat) : Option Int :=
  let l := ((List.range 4).filter fun j => j != i && !deadCode (temps.getD j 0)).map fun j => toSigned 16 (temps.getD j 0)
  let s := sortBy (fun a b => decide (a ≤ b)) l
  s[s.length / 2]?

/-- DIE_SENSOR_SAMPLE (R395; R399, row 6): readings of Keeper's four sensors in 1/128 °C. -/
def Dev.dieSample (d : Dev) (t : Nat) (temps : List Nat) : Dev :=
  let k := d.keeper
  if k.failed ∨ k.dieAt.any fun (n : Nat) => decide (tickOf t < n + 40) then d
  else
    let away (i : Nat) : Bool := !deadCode (temps.getD i 0) && (midOther temps i).any fun (m : Int) =>
      decide (768 < (toSigned 16 (temps.getD i 0) - m).natAbs)
    let apart := (List.range 4).map fun i => if away i then k.apart.getD i 0 + 1 else 0
    let broken := (List.range 4).map fun i =>
      k.broken.getD i false || deadCode (temps.getD i 0) || decide (10 ≤ apart.getD i 0)
    let fresh := (List.range 4).filter fun i => broken.getD i false && !k.broken.getD i false
    let hot := ((List.range 4).filter fun i => !broken.getD i false && decide (14080 ≤ toSigned 16 (temps.getD i 0))).length
    let need := if 2 ≤ (broken.filter id).length then 1 else 2
    let run := if need ≤ hot then k.hotRun + 1 else 0
    let d := d.modKeeper fun k => { k with dieAt := some (tickOf t), apart, broken, hotRun := run }
    let d := fresh.foldl (fun d i =>
      if d.strict then (d.diagFault t 6 i).levelD t 9
      else (setF d .KP_STAT_LAST_SF 0 9).event t .KP_DIAG_FAULT i [6]) d
    if decide (2 ≤ run) && getF d .KP_STAT_DEV 0 != 2 then (d.sfTrip t 8 0).levelX t 8 else d

/-- REF25_FAILURE (R399, row 3; R458). -/
def Dev.refFailed (d : Dev) (t : Nat) : Dev :=
  if d.keeper.failed || d.devSafe then d else (d.diagFault t 3 0).levelD t 9

/-! ## Door and bridge release (R392, R393) -/

/-- RELEASE_HOLD in Ticks; at least 2 s under the strict profile. -/
def Dev.holdTicks (d : Dev) : Nat :=
  let v := getF d .KP_CFG_RELEASE_HOLD 0
  4000 * (if d.strict then max 200 v else v)

/-- A fallback of R400 is in force. -/
def Dev.fallback (d : Dev) : Bool :=
  getF d .KP_CORES_CROWN 0 != 0 || getF d .KP_CORES_HALLMARK 0 != 0 || getF d .KP_CORES_CLASP 0 != 0

/-- The conditions of R393 for LOCK_HOLD = 0. -/
def Dev.mayUnlock (d : Dev) (s : SpinId) : Bool :=
  getB d .TQ_STAT_LOW30 s && !d.torcDead s && !d.fallback && d.spinUp s
    && decide ((d.spin s).link.held.speedRpm < 30) && decide ((d.spin s).keep.failBoth < 10)
    && (headsOf s).all fun h => if d.linkUp h then !(d.head h).link.flags.laserOn else decide (8 ≤ (d.head h).keep.downAge)

/-- LOCK_HOLD of a spindle. -/
def Dev.setLock (d : Dev) (s : SpinId) (hold : Bool) : Dev :=
  (d.putBit .KP_LOCK_HOLD_BITS 0 s hold).modSpinDown s fun x => { x with lockHold := hold }

/-- RELEASE_HOLD_EXPIRY (R392, R393): the conditions have held for RELEASE_HOLD. -/
def Dev.releaseExpiry (d : Dev) (s : SpinId) : Dev :=
  if d.keeper.failed then d
  else
    let k := (d.spin s).keep
    let d := if d.mayUnlock s && decide (d.holdTicks ≤ k.doorHold) then d.setLock s false else d
    if k.bridge && decide (d.holdTicks ≤ k.slow) then
      (d.modKeepSpin s fun k => { k with bridge := false }).modSpinDown s fun x => { x with bridgeInhibit := false }
    else d

/-! ## Clearing (R396, R402) -/

/-- The cause of a spindle's latch is absent. -/
def Dev.causeGone (d : Dev) (s : SpinId) : Bool :=
  let k := (d.spin s).keep
  let x := (d.spin s).link.held
  !d.devSafe &&
    match k.cause with
    | 1 => k.ovr == 0 && k.failBoth == 0
    | 2 => x.doorClosed && x.lockEngaged
    | 4 => k.overVolt == 0
    | 9 => k.apart == 0
    | _ => true

/-- The latch of a spindle is lifted. -/
def Dev.unlatch (d : Dev) (s : SpinId) : Dev :=
  let d := (d.putBit .KP_SPIN_L_BITS 0 s false).putBit .KP_SPIN_S_BITS 0 s false
  let d := d.modKeepSpin s fun k => { k with bridge := false, clearing := false, cause := 0, needChop := false, needTests := 0 }
  ((d.modSpinDown s fun x => { x with bridgeInhibit := false }).showInhibits s).showPermit s

/-- CLEAR (R163, R396, R402): Torc's FAULT is released, and a latch whose cause is absent is lifted; under the strict profile once
a chopper self-test and the inhibit path tests of the four heads have passed. -/
def Dev.clearWrite (d : Dev) (s : SpinId) : Dev :=
  if !d.spinLatch s then d.torcClear s
  else if d.keeper.failed ∨ !d.causeGone s ∨ (d.spinLatchS s ∧ (d.spin s).keep.bridge) then d
  else
    let d := d.torcClear s
    if d.strict then
      let d := d.modKeepSpin s fun k => { k with clearing := true, needChop := true, needTests := 15 }
      ((headsOf s).foldl (fun d h => d.modKeepHead h fun k => { k with laserHalf := false, writeHalf := false }) d).chopTest s
    else d.unlatch s

/-- The strict conditions have been met (R402). -/
def Dev.strictCleared (d : Dev) (s : SpinId) : Dev :=
  let k := (d.spin s).keep
  if d.spinLatch s && k.clearing && !k.needChop && k.needTests == 0 && d.causeGone s then d.unlatch s else d

/-- A head's link bring-up has completed: its H latch clears while the cause is absent (R396). -/
def Dev.headCleared (d : Dev) (h : HeadId) : Dev :=
  let k := (d.head h).keep
  if d.headLatch h && !(k.monOver || k.powOver || k.curOver || k.ocOver) then
    (d.putBit .KP_HEAD_LATCH_BITS (h / 32) (h % 32) false).showInhibit h
  else d

/-- A device-level cause is present (R396). -/
def Dev.deviceCause (d : Dev) : Bool := d.crownDead || (d.strict && d.keeper.broken.any id)

/-- The end of level D by SOFT_RESET (R396, R426). -/
def Dev.leaveD (d : Dev) : Dev :=
  if getF d .KP_STAT_DEV 0 = 1 ∧ !d.deviceCause ∧ !d.keeper.failed then
    let d := setF (setF d .KP_STAT_DEV 0 0) .KP_STAT_ALARM 0 0
    allSpins.foldl (fun d s => d.showPermit s) d.showAllInhibits
  else d

/-! ## Dips (R397, R398) -/

/-- CORE_DIP (R397): one event and count per dip; a further fall restarts the settle time. -/
def Dev.coreDip (d : Dev) (t : Nat) : Dev :=
  if d.keeper.failed then d
  else
    let first := !d.keeper.dip
    let d := d.modKeeper fun k => { k with dip := true, settle := 0 }
    if first then ((incF (setF d .KP_STAT_CORE_DIP 0 1) .KP_DIAG_CORE_DIPS 0).event t .KP_DIP 0).showAllInhibits else d

/-- The intact V block of a frame (R398): a bus dip starts, goes on, or settles. -/
def Dev.busDip (d : Dev) (t : Nat) (s : SpinId) : Dev :=
  if d.keeper.failed ∨ 21600 ≤ (d.spin s).link.held.vbus then d
  else
    let first := !(d.spin s).keep.dip
    let d := d.modKeepSpin s fun k => { k with dip := true, settle := 0 }
    if first then ((incF d .KP_DIAG_BUS_DIPS 0).event t .KP_BUS_DIP s).showInhibits s else d

/-- DIP_SETTLE_END (R397, R398): the rail or the bus of a spindle has been good for DIP_SETTLE M-ticks. -/
def Dev.settleDip (d : Dev) (bus : Option SpinId) : Dev :=
  let n := getF d .KP_CFG_DIP_SETTLE 0
  match bus with
  | none =>
    if !d.keeper.failed ∧ d.keeper.dip ∧ n ≤ d.keeper.settle then
      (setF (d.modKeeper fun k => { k with dip := false }) .KP_STAT_CORE_DIP 0 0).showAllInhibits
    else d
  | some s =>
    if !d.keeper.failed ∧ (d.spin s).keep.dip ∧ n ≤ (d.spin s).keep.settle then
      (d.modKeepSpin s fun k => { k with dip := false }).showInhibits s
    else d

/-! ## Core failures and Keeper's own (R400, R403) -/

/-- A core's bit of KP_CORES. -/
def corePlace (c : MgmtCore) : Nat :=
  match c with
  | .clasp i => 36 + i
  | .hallmark i => 42 + i
  | .crown i => 44 + i

/-- The field of KP_CORES and the bit in it. -/
def coreField (c : MgmtCore) : Fld × Nat :=
  match c with
  | .clasp i => (.KP_CORES_CLASP, i)
  | .hallmark i => (.KP_CORES_HALLMARK, i)
  | .crown i => (.KP_CORES_CROWN, i)

/-- CORE_HEARTBEAT_LOSS (R400): the core has failed; both Crown cores gone, level D; the commands of a Clasp core end with
0x7002; HM_1 takes the device-wide accounts of HM_0 from the journal. -/
def Dev.coreLost (d : Dev) (t : Nat) (c : MgmtCore) : Dev :=
  let f := coreField c
  if d.keeper.failed || d.bitF f.1 0 f.2 then d
  else
    let d := ((d.putBit f.1 0 f.2 true).keepCause t 10 (corePlace c)).event t .KP_CORE_FAIL (corePlace c)
    match c with
    | .clasp i => (d.clasp.cmds.filter fun x => x.qid % 6 == i.val).foldl (fun d x => d.cutCmd t x 0x7002) d
    | .hallmark i => if i = 0 ∧ !d.hallmarkDead then { d with accounts := d.mem.ageArea.device } else d
    | .crown _ => if d.crownDead then d.levelD t 10 else d

/-- KEEPER_FAILURE (R403). -/
def Dev.keeperFail (d : Dev) (t : Nat) : Dev :=
  if d.keeper.failed then d
  else
    let d := setF (d.modKeeper fun k => { k with failed := true }) .KP_STAT_ALARM 0 1
    let d := allSpins.foldl (fun d s =>
      let d := (d.writeRun t s false).showPermit s
      (d.spinCmds s).foldl (fun d c => d.cutCmd t c 0x5002) d) d
    d.event t .KP_KEEPER_FAIL 0

/-! ## A Tick of Keeper (R387, R393) -/

/-- BEAT_CHK of a unit: the CRC-8 of R40 over BEAT and the unit's number (R70, R83). -/
def beatChk (beat unit width : Nat) : Nat := crc8 (bitsBE 12 beat ++ bitsBE width unit)

/-- Keeper's work of a Tick for a spindle and its heads: the permit, the door's hold, the strict clearing. -/
def Dev.keepSpinTick (d : Dev) (s : SpinId) : Dev :=
  let d := (headsOf s).foldl (fun d (h : HeadId) => d.modKeepHead h fun k => { k with
    downAge := if getF d .HL_STATUS_STATE h = 6 then 0 else min 8 (k.downAge + 1) }) d
  let ok := d.mayUnlock s
  let d := d.modKeepSpin s fun k => { k with doorHold := if ok then k.doorHold + 1 else 0 }
  let d := if ok then d else d.setLock s true
  (d.strictCleared s).showPermit s

/-- Keeper's work of a Tick: a new BEAT, and its record of every spindle. A failed Keeper writes none. -/
def Dev.keepTick (d : Dev) : Dev :=
  if d.keeper.failed then d
  else
    let d := d.modKeeper fun k => { k with beat := (k.beat + 1) % 4096, xAge := k.xAge.map (· + 1) }
    let b := d.keeper.beat
    let d := allHeads.foldl (fun d (h : HeadId) => d.modDown h fun x => { x with beat := b, beatChk := beatChk b h 7 }) d
    let d := allSpins.foldl (fun d (s : SpinId) => d.modSpinDown s fun x => { x with beat := b, beatChk := beatChk b s 5 }) d
    allSpins.foldl (fun d s => d.keepSpinTick s) d

/-- Keeper's counts of an M-tick: the settle times and the day (R397 to R399). -/
def Dev.keepMTick (d : Dev) : Dev :=
  let d := d.modKeeper fun k => { k with settle := k.settle + 1 }
  let d := allHeads.foldl (fun d h => d.modKeepHead h fun k => { k with day := k.day + 1 }) d
  allSpins.foldl (fun d s => d.modKeepSpin s fun k => { k with settle := k.settle + 1 }) d

/-- CLEAR. -/
def execClear (sp : SpinId) (s : State) : Out := run s fun d => d.hostTorc sp fun d => d.clearWrite sp
/-- SPEED_WINDOW. -/
def execSpeedWindow (sp : SpinId) (s : State) : Out := run s fun d => d.speedWindow s.dtime sp
/-- DIE_SENSOR_SAMPLE. -/
def execDieSensorSample (temps : List Nat) (s : State) : Out := run s fun d => d.dieSample s.dtime temps
/-- SHUTDOWN_PLL_STOP. -/
def execShutdownPllStop (s : State) : Out := run s fun d => d.pllStop
/-- CORE_DIP. -/
def execCoreDip (s : State) : Out := run s fun d => d.coreDip s.dtime
/-- DIP_SETTLE_END. -/
def execDipSettleEnd (bus : Option SpinId) (s : State) : Out := run s fun d => d.settleDip bus
/-- RELEASE_HOLD_EXPIRY. -/
def execReleaseHoldExpiry (sp : SpinId) (s : State) : Out := run s fun d => d.releaseExpiry sp
/-- CORE_HEARTBEAT_LOSS. -/
def execCoreHeartbeatLoss (core : MgmtCore) (s : State) : Out := run s fun d => d.coreLost s.dtime core
/-- KEEPER_FAILURE. -/
def execKeeperFailure (s : State) : Out := run s fun d => d.keeperFail s.dtime
/-- SERVO_HEARTBEAT_LOSS. -/
def execServoHeartbeatLoss (s : State) : Out := run s fun d => d.servoLost s.dtime
/-- REF25_FAILURE. -/
def execRef25Failure (s : State) : Out := run s fun d => d.refFailed s.dtime

end Sys2Proof.Machine
end

