-- ==== Sys2Proof/Machine/Links.lean ====
section
/-! DEFINITION. The head and spindle links (R63 to R86): their mailbox, their bring-up, their loss, the rates of a head link,
margin scans, and the strategy banks of a pendant (R215, R216). -/

namespace Sys2Proof.Machine

/-! ## A link of either kind -/

/-- The number of a link among those of its kind. -/
def linkIx (l : LinkId) : Nat := match l with | .head h => h | .spin s => s
/-- The number that names a link in HL_MAILBOX_FAIL: a head link by its head, a spindle link by 128 and its spindle. -/
def linkName (l : LinkId) : Nat := match l with | .head h => h | .spin s => 128 + s
/-- A field of HL_ or of SL_ registers. -/
def linkFld (l : LinkId) (hl sl : Fld) : Fld := match l with | .head _ => hl | .spin _ => sl
/-- The event of a head link or of a spindle link. -/
def linkEv (l : LinkId) (hl sl : Event) : Event := match l with | .head _ => hl | .spin _ => sl
/-- What a link holds beyond its registers. -/
def Dev.port (d : Dev) (l : LinkId) : Port := match l with | .head h => (d.head h).link.port | .spin s => (d.spin s).link.port
/-- The device with a link changed. -/
def Dev.modPort (d : Dev) (l : LinkId) (f : Port → Port) : Dev :=
  match l with
  | .head h => d.modLink h fun x => { x with port := f x.port }
  | .spin s => d.modSpinLink s fun x => { x with port := f x.port }
/-- STATE of a link. -/
def Dev.linkState (d : Dev) (l : LinkId) : Nat := getF d (linkFld l .HL_STATUS_STATE .SL_STATUS_STATE) (linkIx l)
/-- A new STATE. -/
def Dev.setLink (d : Dev) (l : LinkId) (n : Nat) : Dev :=
  (setF d (linkFld l .HL_STATUS_STATE .SL_STATUS_STATE) (linkIx l) n).modPort l fun p => { p with age := 0 }
/-- The received signal is present. -/
def Dev.signal? (d : Dev) (l : LinkId) : Bool := getB d (linkFld l .HL_STATUS_PRESENT .SL_STATUS_PRESENT) (linkIx l)
/-- The signal comes or goes. -/
def Dev.setSignal (d : Dev) (l : LinkId) (b : Bool) : Dev := setB d (linkFld l .HL_STATUS_PRESENT .SL_STATUS_PRESENT) (linkIx l) b
/-- The head or spindle is populated. -/
def Dev.populated (d : Dev) (l : LinkId) : Bool :=
  match l with
  | .head h => d.bitF .SY_POP_HEAD (h / 32) (h % 32)
  | .spin s => d.bitF .SY_POP_SPIN 0 s
/-- Bring-up is allowed: LINK_EN, a populated place, and a power state whose links run (R76 of the ladder: P3 and P4 hold them
down, and the exit brings them up), start-up having come so far (R421, step 10). -/
def Dev.mayBringUp (d : Dev) (l : LinkId) : Bool :=
  (d.locket.stage == .links || d.locket.stage == .done) && getB d (linkFld l .HL_CTL_LINK_EN .SL_CTL_LINK_EN) (linkIx l) && d.populated l && (decide (d.pState < 3) || d.power.exiting)

/-! ## The mailbox (R75) -/

/-- The settings of a sub-ADC: its three trims. -/
def trimFields (h k : Nat) : List (Fld × Nat) :=
  [(.HM_ADC_TRIM_OFFSET, h * 10 + k), (.HM_ADC_TRIM_GAIN, h * 10 + k), (.HM_ADC_TRIM_SKEW, h * 10 + k)]
/-- The selection of the sub-ADCs. -/
def selFields (h : Nat) : List (Fld × Nat) :=
  ([.HM_ADC_SEL_D3O, .HM_ADC_SEL_D3E, .HM_ADC_SEL_D2O, .HM_ADC_SEL_D2E, .HM_ADC_SEL_D1O, .HM_ADC_SEL_D1E, .HM_ADC_SEL_D0O,
    .HM_ADC_SEL_D0E] : List Fld).map fun f => (f, h)
/-- The servo scales. -/
def scaleFields (h : Nat) : List (Fld × Nat) :=
  ([.HM_SCALE_TE_GAIN, .HM_SCALE_FE_GAIN, .HM_SCALE_TILT_GAIN] : List Fld).map fun f => (f, h)
/-- The converter settings of a head and their instances. -/
def adcFields (h : Nat) : List (Fld × Nat) := selFields h ++ (List.range 10).flatMap (trimFields h)

/-- The fields whose values the `k`-th request of a purpose carries: of release the selection, each sub-ADC's trims and the servo
scales (R340); the write-guard limits (R146); the scales or the converter settings that wait (R355); the drive law (R350). -/
def mailFields (purpose : Purpose) (i k : Nat) : List (Fld × Nat) :=
  match purpose with
  | .release => if k = 0 then selFields i else if k ≤ 10 then trimFields i (k - 1) else scaleFields i
  | .guard => [(.MO_GUARD_WG_TE, i), (.MO_GUARD_WG_FE, i)]
  | .scale => scaleFields i
  | .correction => adcFields i
  | .laser => [(.HM_LASER_I_TH, i), (.HM_LASER_ETA, i), (.HM_LASER_I_MAX, i)]
  | .margin => []

/-- The number of a purpose in the companion's datasheet. -/
def Purpose.num (p : Purpose) : Nat := p.ctorIdx

/-- The `k`-th request of a purpose: it writes the values that wait, or those in force. Its register address and the layout of its
data are those of the companion's datasheet (R75; log entry 60). -/
def Dev.mail (d : Dev) (l : LinkId) (purpose : Purpose) (k : Nat := 0) : Dev :=
  let data := Config.mailWord purpose.num ((mailFields purpose (linkIx l) k).map fun x => fieldHeld d x.1 x.2)
  d.modPort l fun p =>
    let tag := p.lastTag % 255 + 1
    { p with
      lastTag := tag
      mbox := p.mbox ++ [{ tag, write := true, addr := Config.mailAddr purpose.num k % 65536, data := data % 2 ^ 32, purpose }] }

/-- The request with a tag, changed. -/
def Dev.modReq (d : Dev) (l : LinkId) (tag : Nat) (f : MboxReq → MboxReq) : Dev :=
  d.modPort l fun p => { p with mbox := p.mbox.map fun r => if r.tag = tag then f r else r }
/-- A request is over. -/
def Dev.dropReq (d : Dev) (l : LinkId) (tag : Nat) : Dev := d.modPort l fun p => { p with mbox := p.mbox.filter (·.tag != tag) }
/-- The request with a tag that has been issued and has not failed. -/
def Dev.issued? (d : Dev) (l : LinkId) (tag : Nat) : Option MboxReq :=
  (d.port l).mbox.find? fun r => r.tag == tag && !r.queued && !r.failed

/-- A request ends in a failure: HL_MAILBOX_FAIL at most once for it in a bring-up, and a new start 400 Ticks later. -/
def Dev.mailFail (d : Dev) (t : Nat) (l : LinkId) (r : MboxReq) : Dev :=
  (d.eventIf (!r.raised) t .HL_MAILBOX_FAIL (linkIx l) [linkName l, r.addr, r.status]).modReq l r.tag fun r =>
    { r with failed := true, raised := true, age := 0 }

/-- A re-issue, up to 3; then the failure. -/
def Dev.reissue (d : Dev) (t : Nat) (l : LinkId) (r : MboxReq) : Dev :=
  if r.reissues < 3 then d.modReq l r.tag fun r => { r with queued := true, busy := false, age := 0, reissues := r.reissues + 1 }
  else d.mailFail t l r

/-- What STATUS 0 to a request of a head does: release goes on (R340), the guard is loaded (R146), HM_SCALE applies (R355). -/
def Dev.mailDone (d : Dev) (h : HeadId) (p : Purpose) : Dev :=
  match p with
  | .release =>
    let left := (d.head h).hallmark.relMail - 1
    d.modCal h fun x => { x with relMail := left, relStep := if left = 0 ∧ x.relStep = 1 then 2 else x.relStep }
  | .guard => d.modMotion h fun x => { x with guardAck := true }
  | .scale => applyPend (applyPend (applyPend d .HM_SCALE_TE_GAIN h) .HM_SCALE_FE_GAIN h) .HM_SCALE_TILT_GAIN h
  | .correction => d
  | .laser => d
  | .margin => d

/-- MAILBOX_ANSWER: an answer with the TAG and ADDR of an issued request completes it, fails it, or leaves it busy. -/
def Dev.mailAnswer (d : Dev) (t : Nat) (l : LinkId) (tag addr status : Nat) : Dev :=
  match d.issued? l tag with
  | none => d
  | some r =>
    if r.addr ≠ addr then d
    else
      match status with
      | 0 =>
        let d := d.dropReq l tag
        match l with
        | .head h => d.mailDone h r.purpose
        | .spin _ => d
      | 1 => d.mailFail t l { r with status := 1 }
      | 2 => d.modReq l tag fun r => { r with busy := true, status := 2, age := 0 }
      | _ => d

/-- MAILBOX_TIMEOUT: no answer within 4 Ticks. -/
def Dev.mailTimeout (d : Dev) (t : Nat) (l : LinkId) (tag : Nat) : Dev :=
  match d.issued? l tag with
  | none => d
  | some r => if !r.busy ∧ 4 ≤ r.age then d.reissue t l r else d

/-- MAILBOX_BUSY_REISSUE: 4 Ticks after a busy answer. -/
def Dev.mailBusy (d : Dev) (t : Nat) (l : LinkId) (tag : Nat) : Dev :=
  match d.issued? l tag with
  | none => d
  | some r => if r.busy ∧ 4 ≤ r.age then d.reissue t l r else d

/-- MAILBOX_RETRY: 400 Ticks after its failure a request is made again from the start, while the link is UP. -/
def Dev.mailRetry (d : Dev) (l : LinkId) (tag : Nat) : Dev :=
  if d.linkState l ≠ 6 then d
  else d.modReq l tag fun r =>
    if r.failed ∧ 400 ≤ r.age then { r with failed := false, queued := true, busy := false, reissues := 0, status := 255, age := 0 } else r

/-- The payload of a request's HK block (R75). -/
def MboxReq.block (r : MboxReq) : Nat :=
  (if r.write then 2 else 1) * 2 ^ 56 + r.tag % 256 * 2 ^ 48 + r.addr % 65536 * 2 ^ 32 + r.data % 2 ^ 32

/-- The mailbox in a Tick: ages, and the requests that the next frame's `n` HK blocks issue. -/
def Port.mailTick (p : Port) (n : Nat) : Port :=
  let out := (p.mbox.filter (·.queued)).take n
  { p with
    hk := out.map MboxReq.block
    mbox := p.mbox.map fun r =>
      if r.queued then (if out.any (·.tag == r.tag) then { r with queued := false, age := 0 } else r) else { r with age := r.age + 1 } }

/-- HM_SCALE goes to the pendant (R355); an older request for it no longer counts. -/
def Dev.scaleMail (d : Dev) (h : HeadId) : Dev :=
  let d := d.modPort (.head h) fun p => { p with mbox := p.mbox.filter fun r => r.purpose != .scale }
  if d.linkState (.head h) = 6 then d.mail (.head h) .scale else d

/-- A value of HM_SCALE waits for the pendant. -/
def Dev.scalePend (d : Dev) (h : HeadId) : Bool :=
  ([.HM_SCALE_TE_GAIN, .HM_SCALE_FE_GAIN, .HM_SCALE_TILT_GAIN] : List Fld).any fun f => (pendF d f h).isSome

/-- The write-guard limits go to the pendant (R146); an older request for them no longer counts. -/
def Dev.guardMail (d : Dev) (h : HeadId) : Dev :=
  let d := (d.modMotion h fun x => { x with guardAck := false }).modPort (.head h) fun p =>
    { p with mbox := p.mbox.filter fun r => r.purpose != .guard }
  if d.linkState (.head h) = 6 then d.mail (.head h) .guard else d

/-- MO_GUARD_WRITE (R146). -/
def Dev.guardWrite (d : Dev) (h : HeadId) (word : Nat) : Dev :=
  (setF (setF d .MO_GUARD_WG_TE h (bits word 31 16)) .MO_GUARD_WG_FE h (bits word 15 0)).guardMail h

/-! ## Release begins (R340, steps 1 and 2) -/

/-- The RV fields of a head's Hallmark window and their instances. -/
def hmWindow (h : Nat) : List (Fld × Nat) :=
  adcFields h ++ scaleFields h
    ++ (List.range 16).flatMap (fun k => ([.HM_PLAN_P_B, .HM_PLAN_FOC_OFS, .HM_PLAN_TILT_OFS, .HM_PLAN_S0, .HM_PLAN_S1,
        .HM_PLAN_S2, .HM_PLAN_S3] : List Fld).map fun f => (f, h * 16 + k))
    ++ (List.range 4).flatMap (fun k => [(.HM_LANE_INIT_GAIN, h * 4 + k), (.HM_LANE_INIT_DC, h * 4 + k), (.HM_LANE_INIT_ASYM, h * 4 + k)])
    ++ (List.range 1152).flatMap fun k => [(.HM_TAPS_HI, h * 1152 + k), (.HM_TAPS_LO, h * 1152 + k)]

/-- A field returns to its image default, and a pending value of it goes (R412). -/
def Dev.toImage (d : Dev) (f : Fld) (i : Nat) : Dev :=
  let d := { d with rvPend := Sparse.erase d.rvPend (regKey f i) }
  match d.locket.image.find? fun p => p.1 == regKey f i with
  | some p => setF d f i p.2
  | none => resetF d f i

/-- A head's link has come UP: the identity is compared with the record, and the converter settings and servo scales go to the
pendant: one request for HM_ADC_SEL, one for each HM_ADC_TRIM and one for HM_SCALE. -/
def Dev.startRelease (d : Dev) (h : HeadId) : Dev :=
  let d := setF d .HM_STAT_RELEASED h 0
  let d := (d.modCal h fun x => { x with relStep := 0, relMail := 0 }).modKeepHead h fun k => { k with laserHalf := false, writeHalf := false }
  if d.hallmarkDead then d
  else
    let serial := (d.head h).link.port.serial
    let d := if (d.head h).hallmark.recSerial.any fun (n : Nat) => decide (n ≠ serial) then
        ((hmWindow h).foldl (fun d x => d.toImage x.1 x.2) d).modCal h fun x => { x with skews := List.replicate 10 0 }
      else d
    let d := d.modCal h fun x => { x with recSerial := some serial, relStep := 1, relMail := 12 }
    (List.range 12).foldl (fun d k => d.mail (.head h) .release k) d

/-! ## Loss of a link (R73, R79, R84) -/

/-- A head is marked faulted (R73): the laser goes to 0 and every gate closes in the next frame; release is withdrawn, and mode
control goes to FAULT at the next Tick boundary. A trial of the other head stops (R346). -/
def Dev.headFaulted (d : Dev) (h : HeadId) : Dev :=
  let d := ((d.modLink h fun x => { x with faulted := true, relock := none, rateMiss := false }).stopHead h).facetVoid h
  let d := d.modDown h fun x => { x with laserSet := 0, wStop := 15, wArm := 0, armReq := 0, switchIn := 0 }
  let d := (setF d .HM_STAT_RELEASED h 0).modCal h fun x => { x with relStep := 0, relMail := 0 }
  let d := d.modHead h fun x => { x with
    learnTrk := { x.learnTrk with running := false }, learnFoc := { x.learnFoc with running := false } }
  let d := (d.modPort (.head h) fun p => { p with mbox := [], margin := none }).modMotion h fun m => { m with wantFault := true, guardAck := false }
  let o := otherHead h
  if (d.head o).hallmark.idleRev then (d.modCal o fun x => { x with idleRev := false }).modDown o fun x => { x with wStop := 15 } else d

/-- The bail is lost or its link faulted (R79, R84): the gates of the four heads close and their LASER_SET goes to 0; Torc
coasts; the door state is unknown. -/
def Dev.bailGone (d : Dev) (s : SpinId) : Dev :=
  let d := (headsOf s).foldl (fun d h => (d.stopHead h).modDown h fun x => { x with laserSet := 0, wStop := 15, wArm := 0, armReq := 0 }) d
  let d := (d.torcCoast s).modPort (.spin s) fun p => { p with mbox := [], margin := none }
  d.showPermit s

/-- A link fault: its event; a retraining follows when the signal is seen (R73, R78, R84). -/
def Dev.linkFault (d : Dev) (t : Nat) (l : LinkId) : Dev :=
  let d := (d.event t (linkEv l .HL_LINK_FAULT .SL_LINK_FAULT) (linkIx l)).setLink l 7
  let d := d.modPort l fun p => { p with retryWait := false }
  match l with
  | .head h => (d.headFaulted h).modBezel (d.owner h) fun b => { b with faultEv := true }
  | .spin s => d.bailGone s

/-- What leaving UP means, whatever the reason. -/
def Dev.linkGone (d : Dev) (l : LinkId) : Dev :=
  match l with
  | .head h => d.headFaulted h
  | .spin s => d.bailGone s

/-- SIGNAL_LOSS (R79): on a link that is UP its companion is lost; on one locked out the return of the signal may try again. The STATE of a
link whose signal is lost reads 0 DOWN, which the manual does not give: DESIGN CHOICE (log entry 77). -/
def Dev.signalLoss (d : Dev) (t : Nat) (l : LinkId) : Dev :=
  let st := d.linkState l
  let d := d.setSignal l false
  if st = 6 then
    let d := ((d.event t (linkEv l .HL_PENDANT_LOST .SL_BAIL_LOST) (linkIx l)).setLink l 0).modPort l fun p => { p with lost := true }
    d.linkGone l
  else if st = 8 then d.modPort l fun p => { p with wentAway := true }
  else d

/-! ## Bring-up (R78) -/

/-- A bring-up begins with DETECT; it uses full training when no coefficients are stored. -/
def Dev.startBringUp (d : Dev) (l : LinkId) : Dev :=
  (d.setLink l 1).modPort l fun p => { p with retryWait := false, wentAway := false, full := p.full || p.stored.isNone }

/-- SIGNAL_DETECT: the signal of a companion begins DETECT on a link that is down, faulted, or locked out with the signal gone
in between. -/
def Dev.signalDetect (d : Dev) (l : LinkId) : Dev :=
  let st := d.linkState l
  let d := d.setSignal l true
  let p := d.port l
  if !d.mayBringUp l then d
  else if st = 0 ∨ (st = 7 ∧ !p.retryWait) then d.startBringUp l
  else if st = 8 ∧ p.wentAway then (d.modPort l fun p => { p with fails := 0 }).startBringUp l
  else d

/-- A step has failed: a retry after 40 Ticks, or LOCKOUT after RETRY_MAX failures in a row; full training follows a failed check
of stored coefficients. In the 40 Ticks STATE reads 7 FAULT, for which the manual names no state: DESIGN CHOICE (log entry 77). -/
def Dev.phaseFail (d : Dev) (t : Nat) (l : LinkId) : Dev :=
  let st := d.linkState l
  if st = 0 ∨ 6 ≤ st then d
  else
    let d := d.modPort l fun p => { p with fails := p.fails + 1, full := p.full || st == 4 }
    if getF d (linkFld l .HL_CTL_RETRY_MAX .SL_CTL_RETRY_MAX) (linkIx l) ≤ (d.port l).fails then
      ((d.event t (linkEv l .HL_LINK_LOCKOUT .SL_LINK_LOCKOUT) (linkIx l)).setLink l 8).modPort l fun p => { p with wentAway := false }
    else (d.setLink l 7).modPort l fun p => { p with retryWait := true }

/-- A head link has reached UP, at full rate: VERIFY has run there, and a lower rate of the power state is reached by a countdown (R77,
R78). -/
def Dev.headUp (d : Dev) (t : Nat) (h : HeadId) : Dev :=
  let d := setF d .HL_STATUS_RATE h 0
  let found := (d.head h).link.port.lost
  let d := d.eventIf found t .HL_PENDANT_FOUND h
  let d := d.modLink h fun x => { x with
    port := { x.port with lost := false }, faulted := false, frameSeen := false, badServo := false, badTiming := false
    badHdr := false, relock := none, rateMiss := false, sampleTotal := 0, sampleNext := 0, dropTail := false }
  let d := d.modHead h fun x => { x with banks := Vector.replicate 2 {}, noWrite := false, keep := { x.keep with winTotal := 0 } }
  let d := d.modDown h fun x => { x with epochAdv := false, switchIn := 0, rateNext := 0 }
  let d := (((d.facetVoid h).facetReload h).headCleared h).startRelease h
  let d := d.guardMail h
  let d := if d.scalePend h then d.scaleMail h else d
  if (d.head h).hallmark.corrPend && !d.hallmarkDead then d.mail (.head h) .correction else d

/-- A spindle link has reached UP. -/
def Dev.spinLinkUp (d : Dev) (t : Nat) (s : SpinId) : Dev :=
  let d := d.eventIf (d.spin s).link.port.lost t .SL_BAIL_FOUND s
  let d := d.modSpinLink s fun x => { x with
    port := { x.port with lost := false }, frameSeen := false, badV := false, badM := false, badIO := false, missWin := 0, sampled := false
    narrow := false, winBase := none, winGap := 0 }
  (d.torcBack t s).showPermit s

/-- The link is UP. -/
def Dev.linkUpNow (d : Dev) (t : Nat) (l : LinkId) : Dev :=
  let d := (d.setLink l 6).modPort l fun p => { p with fails := 0, full := false, retryWait := false, mbox := [] }
  match l with
  | .head h => d.headUp t h
  | .spin s => d.spinLinkUp t s

/-- The end of ALIGN: the companion's revision and serial number, and the latency, which may be 80 ns at most (R65). -/
def Dev.alignDone (d : Dev) (t : Nat) (l : LinkId) (i : PhaseInfo) : Dev :=
  let d := setF d (linkFld l .HL_STATUS_LATENCY .SL_STATUS_LATENCY) (linkIx l) (min 255 i.latency)
  let d := setF d (linkFld l .HL_STATUS_PEND_REV .SL_STATUS_BAIL_REV) (linkIx l) i.rev
  let d := d.modPort l fun p => { p with
    serial := i.serial, full := p.full || p.stored.all fun x => x.1 != i.serial }
  if 80 < i.latency then (d.event t (linkEv l .HL_LATENCY .SL_LATENCY) (linkIx l)).phaseFail t l
  else
    match l with
    | .head h => (setF (d.modLink h fun x => { x with iMax := i.iMax }) .HM_LASER_I_MAX h i.iMax).setLink l 3
    | .spin _ => d.setLink l 4

/-- Both eyes are at least 16/64 UI wide and 40 mV high (R78). -/
def eyesOk (i : PhaseInfo) : Bool :=
  decide (16 ≤ i.eyeW) && decide (20 ≤ i.eyeH) && decide (16 ≤ i.compW) && decide (20 ≤ i.compH)

/-- LINK_PHASE_DONE: the step in progress has completed; full training stores its coefficients, and VERIFY lasts 400 Ticks. -/
def Dev.phaseDone (d : Dev) (t : Nat) (l : LinkId) (i : PhaseInfo) : Dev :=
  match d.linkState l with
  | 1 => d.setLink l 2
  | 2 => d.alignDone t l i
  | 3 => d.setLink l 4
  | 4 =>
    (d.modPort l fun p => { p with stored := if p.full then some (p.serial, i.coeffs) else p.stored }).setLink l 5
  | 5 => if !eyesOk i then d.phaseFail t l else if 400 ≤ (d.port l).age then d.linkUpNow t l else d
  | _ => d

/-- LINK_RETRY_DELAY: DETECT again 40 Ticks after a failed step, when the signal is there. -/
def Dev.retryDelay (d : Dev) (l : LinkId) : Dev :=
  if d.linkState l = 7 ∧ (d.port l).retryWait ∧ 40 ≤ (d.port l).age then
    if d.mayBringUp l ∧ d.signal? l then d.startBringUp l else (d.setLink l 0).modPort l fun p => { p with retryWait := false }
  else d

/-- RETRAIN and FULL_TRAIN: the link begins again from DETECT, its failures forgotten. -/
def Dev.retrain (d : Dev) (l : LinkId) (full : Bool) : Dev :=
  if !d.mayBringUp l then d
  else
    let d := if d.linkState l = 6 then d.linkGone l else d
    let d := d.modPort l fun p => { p with fails := 0, full := full || p.stored.isNone, retryWait := false }
    if d.signal? l then d.startBringUp l else d.setLink l 0

/-! ## Rates of a head link (R77) -/

/-- The rate of the present power state, or of the one that an exit leads to (R77, R376). -/
def Dev.rateWanted (d : Dev) : Nat :=
  if d.power.exiting then (if d.power.onlyP2 ∧ 3 ≤ d.pState then 2 else 0) else min d.pState 2

/-- The head's pendant reports no laser and no open gate. -/
def Dev.headDark (d : Dev) (h : HeadId) : Bool := !(d.head h).link.flags.laserOn && (d.head h).link.flags.wg == 0

/-- A rate change of the head may begin: between the lane rates with the laser off and the gates closed; between full and
servo-only rate with the gates closed and no spot armed. -/
def Dev.maySwitch (d : Dev) (h : HeadId) : Bool :=
  let a := getF d .HL_STATUS_RATE h
  let b := d.rateWanted
  if a = 2 ∨ b = 2 then d.headDark h && !d.data.writes.any fun w => w.head == h && w.live
  else (d.head h).link.flags.wg == 0 && !d.data.writes.any fun w => w.head == h && w.live

/-- The countdown of the frame being formed: a change that is due begins at 8. -/
def Dev.rateCount (d : Dev) (h : HeadId) : Dev :=
  let x := d.head h
  if x.down.switchIn ≠ 0 then d.modDown h fun y => { y with switchIn := y.switchIn - 1 }
  else if (getF d .HL_STATUS_RATE h ≠ d.rateWanted ∨ x.link.rateMiss) ∧ x.link.relock.isNone ∧ d.maySwitch h then
    (d.modLink h fun y => { y with rateMiss := false }).modDown h fun y => { y with rateNext := d.rateWanted, switchIn := 8 }
  else d

/-- The switch boundary: RATE takes the new rate; a change of the lane rate needs a relock; a return to full rate reloads the
lanes (R179). The Ticks of a relock carry no frames: damage before it and after it is not in consecutive Ticks (R73). -/
def Dev.rateSwitch (d : Dev) (h : HeadId) : Dev :=
  let a := getF d .HL_STATUS_RATE h
  let b := (d.head h).down.rateNext
  if (d.head h).down.switchIn ≠ 1 ∨ d.linkState (.head h) ≠ 6 then d
  else
    let d := (setF d .HL_STATUS_RATE h b).modDown h fun y => { y with switchIn := 0 }
    let d := if a ≠ b ∧ (a = 2 ∨ b = 2) then d.modLink h fun x => { x with relock := some 0, badServo := false, badTiming := false, badHdr := false } else d
    if b = 0 then d.facetReload h else d.facetVoid h

/-- RATE_RELOCK_DONE: the receivers have relocked within the 16 Ticks, or the head goes through bring-up. -/
def Dev.relockDone (d : Dev) (h : HeadId) (ok : Bool) : Dev :=
  match (d.head h).link.relock with
  | none => d
  | some n =>
    if ok ∧ n ≤ 16 then d.modLink h fun x => { x with relock := none }
    else
      let d := d.headFaulted h
      if d.signal? (.head h) ∧ d.mayBringUp (.head h) then d.startBringUp (.head h) else d.setLink (.head h) 0

/-! ## Margin scans (R80) -/

/-- MARGIN_START: both receivers of a link that is UP are scanned. A start on another link or during a scan is ignored, and
MARGIN_DONE clears as a scan starts: DESIGN CHOICE (log entry 77). -/
def Dev.marginStart (d : Dev) (l : LinkId) : Dev :=
  if d.linkState l ≠ 6 ∨ (d.port l).margin.isSome then d
  else
    let d := setF d (linkFld l .HL_STATUS_MARGIN_DONE .SL_STATUS_MARGIN_DONE) (linkIx l) 0
    (d.modPort l fun p => { p with margin := some 0 }).mail l .margin

/-- The end of a scan after its 81,920 Ticks: its results. -/
def Dev.marginDone (d : Dev) (l : LinkId) (eyeW eyeH compW compH : Nat) : Dev :=
  if d.linkState l = 6 ∧ (d.port l).margin.any fun (n : Nat) => decide (81920 ≤ n) then
    let i := linkIx l
    let d := d.modPort l fun p => { p with margin := none }
    let d := setF d (linkFld l .HL_STATUS_MARGIN_DONE .SL_STATUS_MARGIN_DONE) i 1
    let d := setF (setF d (linkFld l .HL_MARGIN_EYE_W .SL_MARGIN_EYE_W) i eyeW) (linkFld l .HL_MARGIN_EYE_H .SL_MARGIN_EYE_H) i eyeH
    setF (setF d (linkFld l .HL_MARGIN_PEND_EYE_W .SL_MARGIN_PEND_EYE_W) i compW) (linkFld l .HL_MARGIN_PEND_EYE_H .SL_MARGIN_PEND_EYE_H) i compH
  else d

/-! ## Strategy banks (R216) -/

/-- BANK_REPORT: the report of a bank whose eight entries have been loaded is compared; a mismatch loads it again, and the third
in a row makes the head unable to write. -/
def Dev.bankReport (d : Dev) (t : Nat) (h : HeadId) (bank crc : Nat) : Dev :=
  let b : Fin 2 := ⟨bank % 2, Nat.mod_lt _ (by decide)⟩
  let d := d.modHead h fun x => { x with banks := x.banks.set b { x.banks[b] with crc := some (crc % 256) } }
  let k := (d.head h).banks[b]
  match k.layer with
  | none => d
  | some layer =>
    if k.next < 8 then d
    else if d.wsCrc h layer = crc % 256 then d.modHead h fun x => { x with banks := x.banks.set b { k with misses := 0 } }
    else if 3 ≤ k.misses + 1 then
      (d.eventIf (!(d.head h).noWrite) t .FC_WS_CHECK h).modHead h fun x =>
        { x with noWrite := true, banks := x.banks.set b { k with misses := k.misses + 1 } }
    else d.modHead h fun x => { x with banks := x.banks.set b { k with misses := k.misses + 1, next := 0, crc := none } }

/-! ## Corrections (R355) -/

/-- A step of a sub-ADC in service toward its goal: at most 1/4 LSB of offset, 0.5 % of gain and 10 ps of skew (R349). -/
def Dev.trimStep (d : Dev) (h : HeadId) (g : Nat × Int × Int × Int) : Dev :=
  let i := h.val * 10 + g.1
  let used := (selFields h).any fun x => getF d x.1 x.2 == g.1
  let step (lim : Int) (now goal : Int) : Int := if used then now + clampInt (-lim) lim (goal - now) else goal
  let put (d : Dev) (f : Fld) (v : Int) := setHm d f i (ofSigned 8 v)
  put (put (put d .HM_ADC_TRIM_OFFSET (step 2 (getI d .HM_ADC_TRIM_OFFSET i) g.2.1))
    .HM_ADC_TRIM_GAIN (step 5 (getI d .HM_ADC_TRIM_GAIN i) g.2.2.1)) .HM_ADC_TRIM_SKEW (step 5 (getI d .HM_ADC_TRIM_SKEW i) g.2.2.2)

/-- The next corrections of a head's converters go to the pendant's shadow bank: trims that have not reached their goals, and a
spare's role once the spare is trimmed to match the sub-ADC it replaces, from where it goes on to its own best trims (R349, R355). -/
def Dev.sendCorrections (d : Dev) (h : HeadId) : Dev :=
  let at_ (g : Nat × Int × Int × Int) : Bool :=
    let i := h.val * 10 + g.1
    getI d .HM_ADC_TRIM_OFFSET i == g.2.1 && getI d .HM_ADC_TRIM_GAIN i == g.2.2.1 && getI d .HM_ADC_TRIM_SKEW i == g.2.2.2
  let goals := (d.head h).hallmark.goals.filter fun g => !at_ g
  let swap := (d.head h).hallmark.swap
  let ready := swap.any fun (x : Nat × Nat) => goals.all fun g => g.1 != x.2
  let d := d.modCal h fun x => { x with goals, swap := if ready then none else x.swap }
  let d := goals.foldl (fun d g => d.trimStep h g) d
  let best := (d.head h).hallmark.swapGoal
  let d := match swap with
    | some (_, spare) => if ready then d.modCal h fun x => { x with goals := x.goals ++ [(spare, best)] } else d
    | none => d
  let d := match swap with
    | some (role, spare) =>
      if ready then
        match (selFields h).reverse[role]? with
        | some x => setHm d x.1 x.2 spare
        | none => d
      else d
    | none => d
  if (adcFields h).any fun x => (pendF d x.1 x.2).isSome then
    let d := (d.modCal h fun x => { x with corrPend := true }).modPort (.head h) fun p =>
      { p with mbox := p.mbox.filter fun r => r.purpose != .correction }
    if d.linkState (.head h) = 6 then d.mail (.head h) .correction else d
  else d

/-- CORRECTION_APPLIED_REPORT: the pendant has applied the settings of its shadow bank, to which it had answered, and the registers take
them; the next step of a correction in steps follows. -/
def Dev.corrApplied (d : Dev) (h : HeadId) : Dev :=
  if !(d.head h).hallmark.corrPend || (d.port (.head h)).mbox.any (fun r => r.purpose == .correction) then d
  else (((adcFields h).foldl (fun d x => applyPend d x.1 x.2) d).modCal h fun x => { x with corrPend := false }).sendCorrections h

/-! ## FIFOs and the bay (R31, R380) -/

/-- FIFO_OVERFLOW (R31): lost samples of a spot become erasures, with HL_SAMPLE_OVERFLOW once per sector; any other FIFO is an
internal fault that fails the commands concerned with class 7. Samples are numbered from the stripe start. -/
def Dev.fifoOverflow (d : Dev) (t : Nat) (f : Fifo) : Dev :=
  match f with
  | .sample h spot a b =>
    if !(d.head h).facet.inSector then d
    else
      let raised := (d.head h).facet.lanes[spot].overflowRaised
      let d := d.modLane h spot fun l =>
        let n := l.xs.length
        { l with
          xs := l.xs.zipIdx.map fun x => if a ≤ n - 1 - x.2 ∧ n - 1 - x.2 ≤ b then (0, true) else x.1, overflowRaised := true }
      d.eventIf (!raised) t .HL_SAMPLE_OVERFLOW h
  | .other n cmds =>
    let d := d.event t .SY_FIFO_OVERFLOW 0 [n]
    cmds.foldl (fun d x => match d.cmd? x.1 x.2 with | some c => d.cutCmd t c 0x7001 | none => d) d

/-- MAILBOX_ANSWER. -/
def execMailboxAnswer (link : LinkId) (tag addr status _data : Nat) (s : State) : Out :=
  run s fun d => d.mailAnswer s.dtime link tag addr status
/-- MAILBOX_TIMEOUT. -/
def execMailboxTimeout (link : LinkId) (tag : Nat) (s : State) : Out := run s fun d => d.mailTimeout s.dtime link tag
/-- MAILBOX_BUSY_REISSUE. -/
def execMailboxBusyReissue (link : LinkId) (tag : Nat) (s : State) : Out := run s fun d => d.mailBusy s.dtime link tag
/-- MAILBOX_RETRY. -/
def execMailboxRetry (link : LinkId) (tag : Nat) (s : State) : Out := run s fun d => d.mailRetry link tag
/-- BANK_REPORT. -/
def execBankReport (h : HeadId) (bank crc : Nat) (s : State) : Out := run s fun d => d.bankReport s.dtime h bank crc
/-- CORRECTION_APPLIED_REPORT. -/
def execCorrectionAppliedReport (h : HeadId) (_stripe : Nat) (s : State) : Out := run s fun d => d.corrApplied h
/-- RATE_SWITCH. -/
def execRateSwitch (h : HeadId) (rate : Nat) (s : State) : Out :=
  run s fun d => if (d.head h).down.rateNext = rate then d.rateSwitch h else d
/-- RATE_RELOCK_DONE. -/
def execRateRelockDone (h : HeadId) (ok : Bool) (s : State) : Out := run s fun d => d.relockDone h ok
/-- SIGNAL_DETECT. -/
def execSignalDetect (link : LinkId) (s : State) : Out := run s fun d => d.signalDetect link
/-- LINK_PHASE_DONE. -/
def execLinkPhaseDone (link : LinkId) (info : PhaseInfo) (s : State) : Out := run s fun d => d.phaseDone s.dtime link info
/-- LINK_PHASE_FAIL. -/
def execLinkPhaseFail (link : LinkId) (s : State) : Out := run s fun d => d.phaseFail s.dtime link
/-- LINK_RETRY_DELAY. -/
def execLinkRetryDelay (link : LinkId) (s : State) : Out := run s fun d => d.retryDelay link
/-- RETRAIN. -/
def execRetrain (link : LinkId) (s : State) : Out := run s fun d => d.retrain link false
/-- FULL_TRAIN. -/
def execFullTrain (link : LinkId) (s : State) : Out := run s fun d => d.retrain link true
/-- MARGIN_START. -/
def execMarginStart (link : LinkId) (s : State) : Out := run s fun d => d.marginStart link
/-- SIGNAL_LOSS. -/
def execSignalLoss (link : LinkId) (s : State) : Out := run s fun d => d.signalLoss s.dtime link
/-- MO_GUARD_WRITE. -/
def execMoGuardWrite (h : HeadId) (word : Nat) (s : State) : Out := run s fun d => d.guardWrite h word
/-- FIFO_OVERFLOW. -/
def execFifoOverflow (fifo : Fifo) (s : State) : Out := run s fun d => d.fifoOverflow s.dtime fifo

end Sys2Proof.Machine
end

