-- ==== Sys2Proof/Machine/Frames.lean ====
section
/-! DEFINITION. The upstream frames of the head and spindle links: which blocks are corrupt, and what the intact ones do
(R63 to R69, R73, R82, R84); address words (R40, R41, R134, R138, R143); the samples of the four lanes (R68, R190). -/

namespace Sys2Proof.Machine

/-! ## Blocks and their check codes (R63, R65) -/

/-- The payload of a slot with the sync it must have: control in slot 0, data elsewhere. -/
def slotPay (bs : List Block) (k : Nat) : Option Nat :=
  match bs[k]? with
  | some b => if b.sync = (if k = 0 then 2 else 1) then some b.payload.toNat else none
  | none => none

/-- A frame begins with its start block of the type given. -/
def startsWith (bs : List Block) (ty : Nat) : Bool := (slotPay bs 0).any fun (p : Nat) => bits p 63 56 == ty

/-- The payload of a CRC block whose self byte holds. -/
def crcBlock (bs : List Block) (k : Nat) : Option Nat :=
  match slotPay bs k with
  | some v => if crc8 (bitsBE 56 (v / 256)) = v % 256 then some v else none
  | none => none

/-- The blocks of some slots are intact under the CRC-8 byte that begins at bit `lo` of their CRC block. -/
def intact (bs : List Block) (crc : Option Nat) (lo : Nat) (slots : List Nat) : Bool :=
  match crc with
  | none => false
  | some v =>
    let ps := slots.map (slotPay bs)
    ps.all Option.isSome && crc8 (ps.flatMap fun p => bitsBE 64 (p.getD 0)) == bits v (lo + 7) lo

/-- The payload of a slot, 0 when it is missing. -/
def pay (bs : List Block) (k : Nat) : Nat := (slotPay bs k).getD 0

/-! ## The head link's upstream frame (R66 to R69) -/

/-- H0:H1, S0 to S3, T0:T1 and the housekeeping blocks are intact. -/
def hdrOk (bs : List Block) : Bool := startsWith bs 0xF1 && intact bs (crcBlock bs 8) 56 [0, 1]
/-- See `hdrOk`. -/
def servoOk (bs : List Block) (k : Nat) : Bool := startsWith bs 0xF1 && intact bs (crcBlock bs 8) (48 - 8 * k) [2 + k]
/-- See `hdrOk`: both blocks are needed. -/
def timingOk (bs : List Block) : Bool :=
  startsWith bs 0xF1 && intact bs (crcBlock bs 8) 16 [6] && intact bs (crcBlock bs 8) 8 [7]
/-- See `hdrOk`: T1, which holds SPILL. -/
def spillOk (bs : List Block) : Bool := startsWith bs 0xF1 && intact bs (crcBlock bs 8) 8 [7]
/-- See `hdrOk`. -/
def hkOk (bs : List Block) : Bool :=
  startsWith bs 0xF1 && intact bs (crcBlock bs 455) 8 ((List.range 8).map (447 + ·))

/-- The flags of H0. -/
def headFlags (p : Nat) : HeadFlags where
  rate := bits p 39 38
  pllLock := bit p 37
  laserOn := bit p 36
  wg := bits p 35 32
  safe := bit p 31
  sampleDrop := bit p 30
  underrun := bits p 29 26
  wdBad := bit p 25
  cmdHeld := bit p 24
  guardTrip := bit p 23
  overcurrent := bit p 22
  overpower := bit p 21

/-- A signed 16-bit field. -/
def s16 (p lo : Nat) : Int := toSigned 16 (bits p (lo + 15) lo)

/-- The servo values of a frame over those held: a corrupt block leaves its fields (R73). -/
def HeadIn.take (x : HeadIn) (bs : List Block) : HeadIn :=
  let p := pay bs 2
  let x := if servoOk bs 0 then { x with fe := s16 p 48, te := s16 p 32, tilt := s16 p 16, sum := s16 p 0 } else x
  let p := pay bs 3
  let x := if servoOk bs 1 then { x with ca := s16 p 48, mon := s16 p 32, iFoc := s16 p 16, iTrk := s16 p 0 } else x
  let p := pay bs 4
  let x := if servoOk bs 2 then { x with iTilt := s16 p 48, stepPhase := bits p 41 32, temp := s16 p 16, tempNew := true } else x
  let p := pay bs 5
  if servoOk bs 3 then { x with feMax := bits p 63 48, teMax := bits p 47 32, sumMin := bits p 31 16, convSat := bits p 15 0 } else x

/-! ### Samples (R68) -/

/-- Slots that carry sample bits for `n` samples per spot. -/
def sampleSlots (n : Nat) : Nat := (7 * min (4 * n) 4004 + 63) / 64

/-- Sample group g is intact for `n` samples per spot: its slots past the last sample are idle blocks. A group without a sample
bit is ignored. -/
def groupOk (bs : List Block) (n g : Nat) : Bool :=
  if sampleSlots n ≤ 73 * g then true
  else
    match crcBlock bs 455 with
    | none => false
    | some v =>
      let ps := (List.range 73).map fun j =>
        match bs[9 + 73 * g + j]? with
        | some b => if b.sync = (if 73 * g + j < sampleSlots n then 1 else 2) then some b.payload.toNat else none
        | none => none
      ps.all Option.isSome && crc8 (ps.flatMap fun p => bitsBE 64 (p.getD 0)) == bits v (63 - 8 * g) (56 - 8 * g)

/-- The samples of the four spots with their erasures. -/
def frameSamples (bs : List Block) (n : Nat) : List (List (Int × Bool)) :=
  let area : Array Bool := ((List.range (sampleSlots n)).flatMap fun j => bitsBE 64 (match bs[9 + j]? with | some b => b.payload.toNat | none => 0)).toArray
  let bad : Array Bool := ((List.range 6).map fun g => !(startsWith bs 0xF1 && groupOk bs n g)).toArray
  let spill : Array Bool := (bitsBE 64 (pay bs 7)).toArray
  let value (a : Array Bool) (p : Nat) : Int := toSigned 7 (ofBitsBE ((List.range 7).map fun j => a.getD (p + j) false))
  let one (i : Nat) : Int × Bool :=
    if i < 4004 then
      let e := bad.getD (7 * i / 64 / 73) true || bad.getD ((7 * i + 6) / 64 / 73) true
      if e then (0, true) else (value area (7 * i), false)
    else if spillOk bs then (value spill (7 * (i - 4004)), false) else (0, true)
  (List.range 4).map fun s => (List.range n).map fun k => one (4 * k + s)

/-- The sample groups of a frame that hold a sample bit and are corrupt. -/
def badGroups (bs : List Block) (n : Nat) : Nat := ((List.range 6).filter fun g => !groupOk bs n g).length

/-- Samples of the four spots from place `at_` of SAMPLE_TOTAL on enter the sector under the head; those that went missing before
them are erasures. The sector ends with its last channel bit. -/
def Dev.facetFeed (d : Dev) (t : Nat) (h : HeadId) (at_ : Nat) (ss : List (List (Int × Bool))) : Dev :=
  let f := (d.head h).facet
  match f.start with
  | none => d
  | some s =>
    if !f.inSector then d
    else
      let got := f.lanes[0].xs.length
      let off := (at_ + 2 ^ 32 - s) % 2 ^ 32
      if off < got ∨ got + 4096 < off then d.facetVoid h
      else
        let new (k : SpotId) := (List.replicate (off - got) (0, true) ++ ss.getD k []).take (sectorLen - got)
        let d := allSpots.foldl (fun d k => d.facetSamples h k (new k)) d
        if sectorLen ≤ got + (new 0).length then (d.facetEnd h).capture t h else d

/-! ### Stripe starts (R190; the RV boundaries of R355 and R213) -/

/-- The number of a head to which instance `i` of a field belongs. -/
def headOfField (f : Fld) (i : Nat) : Nat := i / (((Reg.info f.info.reg).dims.drop 1).map (·.1)).foldl (· * ·) 1

/-- The RV fields that apply at a stripe start of their head: FC_ fields, HM_LANE_INIT, HM_TAPS and the S_d fields of HM_PLAN. -/
def stripeField (f : Fld) : Bool :=
  f.info.reg ∈ ([.FC_SYNC_CFG, .FC_EQ_CFG, .FC_TARGET, .FC_DEFECT_CFG, .FC_E2_CFG, .FC_RECOV, .FC_E4_PT, .FC_LANE, .FC_TAPS, .FC_WR_CFG,
    .FC_WS_LAYER, .FC_WS_ENTRY, .HM_LANE_INIT, .HM_TAPS] : List Reg)
    || (f == .HM_PLAN_S0 || f == .HM_PLAN_S1 || f == .HM_PLAN_S2 || f == .HM_PLAN_S3)

/-- Applying every pending value whose field passes. -/
def Dev.applyWhere (d : Dev) (p : Fld → Nat → Bool) : Dev :=
  (d.rvPend.filter fun x => p (fldOf x.1) (x.1 / 1024)).foldl (fun d x => applyPend d (fldOf x.1) (x.1 / 1024)) d

/-- The pending values of a head apply at its stripe start, whichever stripe it is (R207). -/
def Dev.applyStripe (d : Dev) (h : HeadId) : Dev := d.applyWhere fun f i => stripeField f && headOfField f i == h.val

/-- A stripe start of a head: pending values apply, and W_ARM of the stripe that starts has done its work. -/
def Dev.atStripe (d : Dev) (h : HeadId) (layer stripe : Nat) : Dev :=
  (d.applyStripe h).modDown h fun x => if x.wLayer = layer ∧ x.wStripe = stripe then { x with wArm := 0, armReq := 0 } else x

/-- The start of a stripe, which may not be known. -/
def Dev.stripeStart (d : Dev) (h : HeadId) (w : Nat × Nat × Bool) : Dev := if w.2.2 then d.applyStripe h else d.atStripe h w.1 w.2.1

/-- The stripe that starts in an interval, and its place (R190): where the timing field names one, with its address or, where ACRC is bad, as
the next of the last start; where it names none, at 668,000 channel bits after the last. -/
def Dev.stripePlace (d : Dev) (h : HeadId) (total n : Nat) (mark : Option (Nat × Option (Nat × Nat))) : Option (Nat × (Nat × Nat × Bool)) :=
  let f := (d.head h).facet
  let next := (f.layer, f.stripe + 1, f.blind)
  match mark, f.start with
  | some (k, some w), _ => some (k, w.1, w.2, false)
  | some (k, none), some _ => some (k, next)
  | some (k, none), none => some (k, (d.head h).motion.lastLayer, 0, true)
  | none, some s => let k := (s + 668000 + 2 ^ 32 - total) % 2 ^ 32; if k < n then some (k, next) else none
  | none, none => none

/-- The samples of an interval that began at `total`, with the stripe start its timing field shows: its place, and the layer and
stripe when ACRC is correct. Without one the stripe start is taken at 668,000 channel bits after the last (R190), also when that
place lies in a frame that was lost. A start that is reported is taken whatever its ACRC; where none came before it the stripe is not known. -/
def Dev.facetInterval (d : Dev) (t : Nat) (h : HeadId) (total n : Nat) (ss : List (List (Int × Bool)))
    (mark : Option (Nat × Option (Nat × Nat))) : Dev :=
  let f := (d.head h).facet
  let next := (f.layer, f.stripe + 1, f.blind)
  match d.stripePlace h total n mark with
  | none =>
    match f.start with
    | some s =>
      let past := (total + 2 ^ 32 - (s + 668000) % 2 ^ 32) % 2 ^ 32
      if mark.isNone ∧ 0 < past ∧ past ≤ 4096 then
        let d := (d.facetFeed t h total []).stripeStart h next
        (d.sectorStart h ((s + 668000) % 2 ^ 32) next.1 next.2.1 next.2.2).facetFeed t h total ss
      else d.facetFeed t h total ss
    | none => d
  | some (k, w) =>
    let d := (d.facetFeed t h total (ss.map (·.take k))).stripeStart h w
    (d.sectorStart h ((total + k) % 2 ^ 32) w.1 w.2.1 w.2.2).facetFeed t h (total + k) (ss.map (·.drop k))

/-! ### Address words (R40, R41, R134) -/

/-- An address word: its layer, band, stripe, and whether ACRC is correct. -/
structure AddrWord where
  layer : Nat
  band : Nat
  stripe : Nat
  ok : Bool
deriving DecidableEq, Repr

/-- The number whose Gray code over 15 bits is given. -/
def ungray (g : Nat) : Nat := (List.range 15).foldl (fun b _ => Nat.xor g (b / 2)) 0

/-- Reading the 48 bits of an address word. -/
def readAddr (a : Nat) : AddrWord where
  layer := bits a 47 44
  band := ungray (bits a 43 29)
  stripe := bits a 28 9
  ok := crc8 (bitsBE 4 (bits a 47 44) ++ bitsBE 21 (bits a 28 8)) == a % 256

/-- The address word of a frame with the place of the stripe start, when its timing blocks are intact and name one. -/
def frameAddr (bs : List Block) : Option (Nat × AddrWord) :=
  if timingOk bs then
    let v := pay bs 6 * 2 ^ 64 + pay bs 7
    let k := bits v 79 70
    if k = 1023 then none else some (k, readAddr (bits v 127 80))
  else none

/-- The place of a stripe start in a frame, with its layer and stripe where ACRC is correct. -/
def frameMark (bs : List Block) : Option (Nat × Option (Nat × Nat)) :=
  (frameAddr bs).map fun x => (x.1, if x.2.ok then some (x.2.layer, x.2.stripe) else none)

/-- The place of a stripe in the spiral direction of its layer, in stripe periods from the start of the spiral (R36, R50): on even layers
the system zone comes first, on odd layers the data zone; 0xF_FFFF names the run-out turns after the zone of its band, whose nominal
lengths stand between the zones. -/
def spiralPlace (layer stripe band : Nat) : Nat :=
  let sys (k : Nat) : Nat := if layer % 2 = 0 then k else 277770 + k
  let data (k : Nat) : Nat := if layer % 2 = 0 then 5267 + k else k
  if stripe = 0xFFFFF then (if band < 1000 then sys 5264 else data 277760)
  else if 0xF0000 ≤ stripe then sys (stripe - 0xF0000)
  else data stripe

/-- The further short seek of R143: the band of the turn of the target stripe when it already lies behind, or more than one turn
ahead. Whole turns are taken, rounded up for a word beyond the target and down for one before it: DESIGN CHOICE (log entry 76). -/
def againBand (w : AddrWord) (target : Nat) : Option Nat :=
  let spt := max 1 (stripesPerTurn w.band)
  let out := w.layer % 2 == 0
  let move (n : Nat) (fwd : Bool) : Nat := if out == fwd then w.band + n else w.band - n
  let here := spiralPlace w.layer w.stripe w.band
  let there := spiralPlace w.layer target w.band
  if there < here then some (move (ceilDiv (here - there) spt) false)
  else if spt < there - here then some (move ((there - here) / spt) true)
  else none

/-- What a word read in FOLLOW does to the seek (R143). -/
def Dev.seekWord (d : Dev) (h : HeadId) (w : AddrWord) : Dev :=
  match (d.head h).motion.seek with
  | some s =>
    if !w.ok then d
    else if w.layer = s.layer ∧ ((w.band : Int) - s.band).natAbs ≤ 1 then
      match againBand w s.stripe with
      | none => d.seekDone h
      | some b => d.modMotion h fun x => { x with seek := some { s with again := some b, wait := true } }
    else d.modMotion h fun x => { x with seek := some { s with wait := false, again := none } }
  | none => d

/-- BAND_AT_0 so that the prediction for the present position is a band, given in 1/256 (R135). -/
def Dev.setBandHere (d : Dev) (h : HeadId) (v : Int) : Dev := setI d .MO_BAND_AT_0_BAND_AT_0 h (v - d.pos h * 125)

/-- RELOCATE takes a band (R138): after the eighth the position is known again. -/
def Dev.relocWord (d : Dev) (t : Nat) (h : HeadId) (band : Nat) : Dev :=
  let m := (d.head h).motion
  if d.mode h ≠ 7 ∨ !m.collect ∨ 8 ≤ m.bands.length then d
  else
    let l := m.bands ++ [band]
    let d := d.modMotion h fun x => { x with bands := l }
    if l.length < 8 then d
    else
      let s := sortBy (fun a b => decide (a ≤ b)) l
      let d := d.setBandHere h (((s.getD 3 0 + s.getD 4 0) * 128 : Nat) : Int)
      ((setF d .MO_MODE_POS_VALID h 1).event t .MO_RELOCATED h).modMotion h fun x => { x with next := some 3, lostPos := false }

/-- A band read in FOLLOW (R134): more than 32 bands from the prediction it is a slip of the sled. -/
def Dev.followWord (d : Dev) (t : Nat) (h : HeadId) (band : Nat) : Dev :=
  let d := d.modMotion h fun x => { x with lastBand := band }
  if 32 * 256 < ((band * 256 : Nat) - d.bandHere h).natAbs then
    (incF (d.event t .MO_POS_SLIP h) .MO_STAT_SLIPS h).setBandHere h ((band * 256 : Nat) : Int)
  else d

/-- An address word whose sync was found, with the laser on (R134). -/
def Dev.addrWord (d : Dev) (t : Nat) (h : HeadId) (w : AddrWord) : Dev :=
  let d := setF (setF d .MO_ADDR_BAND h w.band) .MO_ADDR_AGE h 0
  let d := if w.ok then setF (setF d .MO_ADDR_LAYER h w.layer) .MO_ADDR_STRIPE h w.stripe else d
  let d := d.modMotion h fun x => { x with
    short := x.short.map fun s => { s with count := (w.band : Int) * 2 ^ 24 } }
  let d := if !w.ok then d else d.modMotion h fun x => { x with
    pairs := (w.layer, w.stripe, w.band) :: x.pairs.filter fun p => !(p.1 == w.layer && p.2.1 == w.stripe)
    seek := x.seek.map fun s => { s with jumped := false }
    checkLayer := none
    wantJump := if x.checkLayer.any (· != w.layer) then x.checkLayer else x.wantJump
    lastLayer := if x.checkLayer.isSome then w.layer else x.lastLayer }
  let d := d.relocWord t h w.band
  if d.mode h = 3 then (d.followWord t h w.band).seekWord h w else d

/-! ### The frame (R73) -/

/-- A report of the pendant in HK4 to HK7, by its type (R75, R139, R216, R355). -/
def Dev.hkReport (d : Dev) (t : Nat) (h : HeadId) (p : Nat) : Dev :=
  match bits p 63 56 with
  | 0x31 => d.homeReport h (bits p 55 44) (bits p 43 33) (bit p 32)
  | 0x32 => d.bankReport t h (bits p 55 55) (bits p 54 47)
  | 0x33 => d.corrApplied h
  | _ => d

/-- An answer block: one of zeros answers no request, tags beginning at 1. -/
def Dev.hkAnswer (d : Dev) (t : Nat) (l : LinkId) (p : Nat) : Dev := d.mailAnswer t l (bits p 55 48) (bits p 47 32) (bits p 63 56)

/-- The counters, flags and held values of a frame; `true` when the same damage has come twice in a row. -/
def Dev.headInput (d : Dev) (h : HeadId) (bs : List Block) : Dev × Bool :=
  let x := (d.head h).link
  let badH := !hdrOk bs
  let badS := !(List.range 4).all (servoOk bs)
  let badT := !timingOk bs
  let d := if badS then incF d .HL_ERR_SERVO_BAD h else d
  let d := if badH || badT then incF d .HL_ERR_TIMING_BAD h else d
  let d := d.modLink h fun x => { x with
    badServo := badS, badTiming := badT, badHdr := badH
    held := x.held.take bs
    flags := if badH then x.flags else headFlags (pay bs 0) }
  let d := if badH then d
    else
      let d := setB d .HL_STATUS_PEND_SAFE h (bit (pay bs 0) 31)
      let d := if bits (pay bs 0) 43 40 = (d.head h).down.epoch then d.modDown h fun y => { y with epochAdv := false } else d
      let miss := (d.head h).down.switchIn == 0 && bits (pay bs 0) 39 38 != getF d .HL_STATUS_RATE h
      d.modLink h fun x => { x with rateMiss := miss }
  (d, (badS && x.badServo) || (badT && x.badTiming) || (badH && x.badHdr))

/-- The samples of a frame go to the lanes: those of a frame whose header was corrupt wait for the next one's SAMPLE_TOTAL. After a
frame with SAMPLE_DROP the place of the first of them is not known, and all become erasures; the dropped rest of an interval becomes
one when the next SAMPLE_TOTAL runs ahead (R69). -/
def Dev.headSamples (d : Dev) (t : Nat) (h : HeadId) (bs : List Block) : Dev :=
  let mark := frameMark
  let full := getF d .HL_STATUS_RATE h == 0
  let run := full && d.mode h == 3
  let count (d : Dev) (bs : List Block) (n : Nat) := if full then incF d .HL_ERR_SAMPLE_BAD h (badGroups bs n) else d
  if !hdrOk bs then d.modFacet h fun f => { f with waiting := if startsWith bs 0xF1 then some bs else none }
  else
    let total := bits (pay bs 1) 63 32
    let n := min 1003 (bits (pay bs 1) 31 22)
    let d := match (d.head h).facet.waiting with
      | none => d
      | some old =>
        let first := (d.head h).link.sampleNext
        let m := min 1003 ((total + 2 ^ 32 - first) % 2 ^ 32)
        let open_ := (d.head h).link.dropTail
        let d := (count d old m).modFacet h fun f => { f with waiting := none }
        if !run then d
        else if open_ then d.facetInterval t h first m (List.replicate 4 (List.replicate m (0, true))) none
        else d.facetInterval t h first m (frameSamples old m) (mark old)
    let d := d.modLink h fun x => { x with
      sampleTotal := total, sampleNext := (total + n) % 2 ^ 32, dropTail := bit (pay bs 0) 30 }
    let d := count d bs n
    if run then d.facetInterval t h total n (frameSamples bs n) (mark bs)
    else
      match mark bs with
      | some (_, some (layer, stripe)) => if (d.head h).link.flags.laserOn then d.atStripe h layer stripe else d
      | some (_, none) => if (d.head h).link.flags.laserOn then d.applyStripe h else d
      | none => d

/-- What a frame with an intact header shows of the gates of its head (R221). -/
def Dev.gates (d : Dev) (h : HeadId) (bs : List Block) : Dev :=
  let x := d.head h
  let total := bits (pay bs 1) 63 32
  let n := min 1003 (bits (pay bs 1) 31 22)
  let now := (d.stripePlace h total n (frameMark bs)).bind fun k => if k.2.2.2 then none else some (k.2.1, k.2.2.1)
  let on_ := match x.facet.start with
    | some s => if !x.facet.blind ∧ (total + n + 2 ^ 32 - s) % 2 ^ 32 < sectorLen then some (x.facet.layer, x.facet.stripe) else none
    | none => none
  d.gateFrame h x.link.flags now on_

/-- No block of a frame is corrupt. -/
def frameOk (bs : List Block) : Bool :=
  hdrOk bs && (List.range 4).all (servoOk bs) && timingOk bs && hkOk bs && badGroups bs (min 1003 (bits (pay bs 1) 31 22)) == 0

/-- A frame on a link in VERIFY: a corrupt block fails the step; an intact frame gives the values held (R73, R78). -/
def Dev.verifyFrame (d : Dev) (t : Nat) (h : HeadId) (bs : List Block) : Dev :=
  if frameOk bs then
    d.modLink h fun x => { x with frameSeen := true, held := x.held.take bs, flags := headFlags (pay bs 0) }
  else d.phaseFail t (.head h)

/-- HEAD_UPSTREAM_FRAME (R66, R73): the one frame of a Tick on a link that is UP. -/
def Dev.headFrame (d : Dev) (t : Nat) (h : HeadId) (bs : List Block) : Dev :=
  if d.linkState (.head h) = 5 then d.verifyFrame t h bs
  else if !d.linkUp h ∨ (d.head h).link.relock.isSome ∨ (d.head h).link.frameSeen then d
  else
    let r := (d.modLink h fun x => { x with frameSeen := true }).headInput h bs
    let d := r.1
    if r.2 then (d.linkFault t (.head h)).headWork t h
    else
      let d := if hdrOk bs then
          ((d.gates h bs).checkHead t h).checkDoor t (spinOf h)
        else d
      let d := match frameAddr bs with
        | some (_, w) => if (d.head h).link.flags.laserOn then d.addrWord t h w else d
        | none => d
      let d := d.headSamples t h bs
      let d := if getF d .HL_STATUS_RATE h ≠ 2 ∧ hkOk bs then
          let d := ((List.range 4).map fun k => pay bs (447 + k)).foldl (fun d p => d.hkAnswer t (.head h) p) d
          ((List.range 4).map fun k => pay bs (451 + k)).foldl (fun d p => d.hkReport t h p) d
        else d
      d.headWork t h

/-! ## The spindle link's upstream frame (R82, R84) -/

/-- A block of the frame is intact: slots 0 to 4 are H, I, V, M and IO; 5 stands for HK0 and HK1. -/
def spinOk (bs : List Block) (k : Nat) : Bool :=
  startsWith bs 0xF3 && intact bs (crcBlock bs 7) (56 - 8 * k) (if k = 5 then [5, 6] else [k])

/-- The values of a frame over those held. -/
def SpinIn.take (x : SpinIn) (bs : List Block) : SpinIn :=
  let p := pay bs 0
  let x := if spinOk bs 0 then { x with
      brake := bit p 30, bridgeOff := bit p 29, chopOn := bit p 28, shockTrip := bit p 27, overvolt := bit p 26, chopFault := bit p 25 } else x
  let p := pay bs 1
  let x := if spinOk bs 1 then { x with winSeq := bits p 15 8, winState := bits p 7 6 } else x
  let x := if spinOk bs 1 ∧ bits p 7 6 = 0 then { x with ia := s16 p 48, ib := s16 p 32, ic := s16 p 16 } else x
  let p := pay bs 2
  let x := if spinOk bs 2 then { x with va := bits p 63 48, vb := bits p 47 32, vc := bits p 31 16, vbus := bits p 15 0 } else x
  let p := pay bs 3
  let x := if spinOk bs 3 then { x with ichop := bits p 63 48, sx := s16 p 32, sy := s16 p 16, sz := s16 p 0 } else x
  let p := pay bs 4
  if spinOk bs 4 then { x with
      doorClosed := bit p 63, lockEngaged := bit p 62, trayIn := bit p 61, trayOut := bit p 60, cartPresent := bit p 59
      ejectNow := bit p 58, ejectMs := bits p 57 42, temp := s16 p 16, tempNew := true, speedRpm := bits p 15 0 } else x

/-- The flags and counters of a frame; `true` when V, M or IO has been corrupt twice in a row. An I block counts for the running window
only when it carries that window's WIN_SEQ (R84). -/
def Dev.spinInput (d : Dev) (s : SpinId) (bs : List Block) : Dev × Bool :=
  let x := (d.spin s).link
  let bad := ([0, 2, 3, 4].filter fun k => !spinOk bs k).length
  let d := if bad = 0 then d else incF d .SL_ERR_FRAME_BAD s bad
  let seq := bits (pay bs 1) 15 8
  -- windows between the last intact I block and this one: the running window's, or a late one's
  let ahead := x.winBase.map fun b => (seq + 256 - b) % 256
  let own := spinOk bs 1 && ahead.all fun (n : Nat) => decide (0 < n) && decide (x.winGap ≤ n)
  let new := own && bits (pay bs 1) 7 6 != 1
  let d := d.modSpinLink s fun x => { x with
    badV := !spinOk bs 2, badM := !spinOk bs 3, badIO := !spinOk bs 4
    sampled := x.sampled || new, narrow := x.narrow || (new && bits (pay bs 1) 7 6 == 2)
    winBase := if spinOk bs 1 then some seq else x.winBase
    winGap := if spinOk bs 1 then x.winGap - ahead.getD x.winGap else x.winGap
    held := x.held.take bs }
  let d := if spinOk bs 0 then setB d .SL_STATUS_BAIL_SAFE s (bit (pay bs 0) 31) else d
  (d, (!spinOk bs 2 && x.badV) || (!spinOk bs 3 && x.badM) || (!spinOk bs 4 && x.badIO))

/-- VBUS below 21.6 V (R173). -/
def Dev.busCheck (d : Dev) (t : Nat) (s : SpinId) : Dev :=
  if (d.spin s).link.held.vbus < 21600 then
    let d := d.eventIf (!(d.torc s).busWarn) t .TQ_BUS_WARN s
    (setF d .TQ_STAT_BUS_WARN s 1).modTorc s fun x => { x with busWarn := true, busOk := 0 }
  else d

/-- A shock above SHOCK_LIM trips the guard of the four heads (R145). -/
def Dev.shockCheck (d : Dev) (s : SpinId) : Dev :=
  let x := (d.spin s).link.held
  let lim := getF d .MO_SHOCK_SHOCK_LIM s
  if lim < x.sx.natAbs ∨ lim < x.sy.natAbs ∨ lim < x.sz.natAbs then
    (headsOf s).foldl (fun d h => (d.guardTrip h 4).showGuard h) (d.modTorc s fun y => { y with shockClear := 0, shockNow := true })
  else d

/-- SPINDLE_UPSTREAM_FRAME (R82, R84): the one frame of a Tick on a link that is UP. -/
def Dev.spinFrame (d : Dev) (t : Nat) (s : SpinId) (bs : List Block) : Dev :=
  if d.linkState (.spin s) = 5 then
    if (List.range 6).all (spinOk bs) then d.modSpinLink s fun x => { x with frameSeen := true, held := x.held.take bs }
    else d.phaseFail t (.spin s)
  else if !d.spinUp s ∨ (d.spin s).link.frameSeen then d
  else
    let r := (d.modSpinLink s fun x => { x with frameSeen := true }).spinInput s bs
    let d := r.1
    if r.2 then d.linkFault t (.spin s)
    else
      let d := if spinOk bs 2 then ((d.busCheck t s).busDip t s).checkBridge t s else d
      let d := if spinOk bs 3 then d.shockCheck s else d
      let d := if spinOk bs 4 then ((d.doorFrame t s (d.spin s).link.held).checkDoor t s).showPermit s else d
      if spinOk bs 5 then ([5, 6].map (pay bs)).foldl (fun d p => d.hkAnswer t (.spin s) p) d else d

/-- HEAD_UPSTREAM_FRAME. -/
def execHeadUpstreamFrame (h : HeadId) (blocks : List Block) (s : State) : Out := run s fun d => d.headFrame s.dtime h blocks
/-- SPINDLE_UPSTREAM_FRAME. -/
def execSpindleUpstreamFrame (sp : SpinId) (blocks : List Block) (s : State) : Out := run s fun d => d.spinFrame s.dtime sp blocks

end Sys2Proof.Machine
end

