-- ==== Sys2Proof/Machine/Hallmark.lean ====
section
/-! DEFINITION. Hallmark (R340 to R362): the release of a head and the inhibit path test, the ends of the calibration runs and
the corrections they give, the write headroom, the saving and loading of calibration. -/

namespace Sys2Proof.Machine

/-- Hallmark writes no correction of the head (R344). -/
def Dev.calHold (d : Dev) (h : HeadId) : Bool := getB d .HM_CTL_HOLD h

/-! ## The course of a calibration (R342 to R344) -/

/-- The calibration of a head is at a kind that may run in the present power state. -/
def Dev.calCan (d : Dev) (h : HeadId) (k : CalKind) : Bool :=
  let deep := match k with | .converter | .trial | .focus => 0 | .laser | .scale | .link => 1
  (d.head h).hallmark.kinds.head? == some k && decide (d.pState ≤ deep) && d.linkUp h

/-- It is the head's turn: with one Hallmark core failed, calibration runs one head at a time (R400), the lowest number first
(log entry 63). -/
def Dev.calTurn (d : Dev) (h : HeadId) : Bool :=
  getF d .KP_CORES_HALLMARK 0 == 0
    || !allHeads.any fun (o : HeadId) => decide (o.val < h.val) && (d.head o).hallmark.kinds.head?.any (d.calCan o)

/-- The calibration is at a kind that may run now. -/
def Dev.calAt (d : Dev) (h : HeadId) (k : CalKind) : Bool := !d.hallmarkDead && d.calCan h k && d.calTurn h

/-- Layers that still have a trial to make and a stripe to make it on (R351). -/
def Dev.trialLeft (d : Dev) (h : HeadId) : List Nat :=
  (d.head h).hallmark.trialTodo.filter fun l => decide ((d.surf (surfOf h)).pcaUsed.getD l 0 < 1264)

/-- A kind has nothing to do. -/
def Dev.kindEmpty (d : Dev) (h : HeadId) (k : CalKind) : Bool :=
  match k with
  | .trial => (d.trialLeft h).isEmpty
  | .focus => (d.head h).hallmark.focusTodo.isEmpty
  | _ => false

/-- The link kind scans the head's link and, through HM_0, its spindle's (R342). -/
def Dev.linkRun (d : Dev) (h : HeadId) : Dev :=
  if (d.head h).hallmark.kinds.head? = some .link then (d.marginStart (.head h)).marginStart (.spin (spinOf h)) else d

/-- The present kind is over: the next with work begins, or the calibration ends and the queued one begins. -/
def Dev.kindDone (d : Dev) (h : HeadId) : Dev :=
  let x := (d.head h).hallmark
  let left := (x.kinds.drop 1).dropWhile (d.kindEmpty h)
  if left.isEmpty then
    let d := d.modCal h fun x => { x with
      kinds := [], sinceCal := if x.isFull then 0 else x.sinceCal, isFull := false, queued := [], queuedFull := false }
    d.beginCal h x.queued x.queuedFull
  else (d.modCal h fun x => { x with kinds := left }).linkRun h

/-- IDLE_REVOLUTION (R345): the head has been in FOLLOW with no medium work for IDLE_MIN. -/
def Dev.idleRevolution (d : Dev) (h : HeadId) : Dev :=
  if d.mode h = 3 ∧ !d.headBusy h ∧ getF d .HM_CFG_IDLE_MIN 0 * 40 ≤ (d.head h).hallmark.idle then
    d.modCal h fun x => { x with idleRev := true }
  else d

/-- CAL_PERIOD_EXPIRY (R343): CAL_PERIOD hours since the last full calibration ended. -/
def Dev.calPeriod (d : Dev) (h : HeadId) : Dev :=
  if d.populated (.head h) ∧ getF d .HM_CFG_CAL_PERIOD 0 * 1440000 ≤ (d.head h).hallmark.sinceCal then d.startCal h fullCal true else d

/-- A trial or a scan may run on the head (R346): the surface's other head follows and no local parking holds it, or, where it is
not in service, the mount of the surface is not yet reported; the throttle step admits the duty. -/
def Dev.mayTry (d : Dev) (h : HeadId) : Bool :=
  let o := otherHead h
  (d.head h).hallmark.idleRev && d.mode h == 3 && d.mayWritePlace h
    && (if d.inService o then d.mode o == 3 && !d.localHold o else (d.surf (surfOf h)).mount != .mounted)

/-! ## The write headroom (R352) -/

/-- P_B of a layer in µW, from the last laser points: the power at I_B stands for the P_B that held it. A free value when that P_B
was 0. -/
def Dev.powerOf (d : Dev) (fit : Nat × Nat) (pb : Nat) : Nat × Dev :=
  if fit.2 = 0 then d.drawNat else (divRound (pb * fit.1) fit.2, d)

/-- The largest write current of a layer over its spots, in 10 µA: I_TH + P_W / ETA with P_W = P_B × PW_RATIO × S_d (R214). A free
value with ETA 0. -/
def Dev.layerCurrent (d : Dev) (h : HeadId) (fit : Nat × Nat) (layer : Nat) : Nat × Dev :=
  let i := h.val * 16 + layer
  let s := ((([.HM_PLAN_S0, .HM_PLAN_S1, .HM_PLAN_S2, .HM_PLAN_S3] : List Fld).map fun f => fieldHeld d f i)).foldl max 0
  let p := d.powerOf fit (fieldHeld d .HM_PLAN_P_B i)
  let eta := getF p.2 .HM_LASER_ETA h
  if eta = 0 then p.2.drawNat
  else (getF p.2 .HM_LASER_I_TH h + divRound (p.1 * getF p.2 .FC_WS_LAYER_PW_RATIO i * s * 1000) (eta * 2 ^ 26), p.2)

/-- HEADROOM, I_W and WRITE_LIMITED after a fit or a trial; HM_HEADROOM_LOW once per episode. -/
def Dev.headroom (d : Dev) (t : Nat) (h : HeadId) : Dev :=
  match (d.head h).hallmark.fit with
  | none => d
  | some fit =>
    let r := (List.range 16).foldl (fun (a : List Nat × Dev) l =>
      let c := a.2.layerCurrent h fit l
      (a.1 ++ [min 65535 c.1], c.2)) ([], d)
    let iw := r.1.foldl max 0
    let full := 100 * getF d .HM_LASER_I_MAX h
    let room := if full ≤ iw then 0 else 100 * (full - iw) / full
    let d := setF (setF (r.2.modCal h fun x => { x with iw := r.1 }) .HM_LASER_I_W h iw) .HM_STAT_HEADROOM h room
    let low := decide (100 * full < getF d .HM_CFG_HR_WARN 0 * full + 100 * iw) || decide (full ≤ iw)
    let d := d.eventIf (low && !(d.head h).hallmark.lowEpisode) t .HM_HEADROOM_LOW h
    let d := d.modCal h fun x => { x with lowEpisode := low }
    let d := setF d .HM_STAT_WRITE_LIMITED h (b2n ((List.range 16).any fun l => d.layerLimited h l))
    d.sample t (.head h) 1 (if full = 0 then 0 else Int.fdiv (10000 * ((full : Int) - iw)) full)

/-- The layer that a staged write would be armed on. -/
def Dev.writeLayer (d : Dev) (w : WriteJob) : Nat :=
  if w.reason = 0 then psaLayer w.target else psaLayer ((d.surf w.surf).frontierAt (w.home % 4))

/-- Writes that their head may not make move to the other head of the surface; where neither may, they end with 0x2005 (R352). -/
def Dev.limitWrites (d : Dev) (t : Nat) (h : HeadId) : Dev :=
  if !getB d .HM_STAT_WRITE_LIMITED h then d
  else
    (d.data.writes.filter fun w => w.head == h && w.state == .staged && d.layerLimited h (d.writeLayer w)).foldl (fun d w =>
      let o := otherHead h
      if d.inService o ∧ !d.layerLimited o (d.writeLayer w) then d.modWrite w.id fun w => { w with head := o }
      else d.failWaits t w.id 0x2005) d

/-! ## The converter bank (R347 to R349) -/

/-- The eight roles, D0 even first, and the sub-ADC in each. -/
def Dev.adcRoles (d : Dev) (h : HeadId) : List Nat := (selFields h).reverse.map fun x => getF d x.1 x.2

/-- A sub-ADC with its trims at their best: the goal of each trim and what is left. -/
structure AdcBest where
  goal : Int × Int × Int
  rest : Int × Int × Int
  noise : Nat
  missing : Nat
deriving DecidableEq, Repr

/-- The best trims for the errors measured, and the residuals with them; a reference check measures no skew. -/
def Dev.adcBest (d : Dev) (h : HeadId) (skew : Bool) (i : Nat) (a : AdcResult) : AdcBest :=
  let k := h.val * 10 + i
  let one (now err lo hi : Int) : Int × Int :=
    let g := clampInt lo hi (now - err)
    (g, err + (g - now))
  let o := one (getI d .HM_ADC_TRIM_OFFSET k) a.offset (-128) 127
  let g := one (getI d .HM_ADC_TRIM_GAIN k) a.gain (-125) 125
  let now := getI d .HM_ADC_TRIM_SKEW k
  let s := if skew then one now a.skew (-100) 100 else (now, (d.head h).hallmark.skews.getD i 0)
  ⟨(o.1, g.1, s.1), (o.2, g.2, s.2), a.noise, a.missing⟩

/-- A sub-ADC is bad (R348). -/
def AdcBest.bad (x : AdcBest) : Bool :=
  decide (8 < x.rest.1.natAbs) || decide (30 < x.rest.2.1.natAbs) || decide (20 < x.rest.2.2.natAbs) || decide (60 < x.noise)
    || decide (0 < x.missing)

/-- Forty times the score of R348. -/
def AdcBest.score (x : AdcBest) : Nat := 5 * x.rest.1.natAbs + 4 * x.rest.2.1.natAbs + 8 * x.rest.2.2.natAbs + 4 * x.noise

/-- The first element with the largest value. -/
def argMax {α : Type} (f : α → Nat) (l : List α) : Option α :=
  l.foldl (fun b x => match b with | none => some x | some y => if f y < f x then some x else some y) none

/-- A change of the selection (R348): the role and the spare that takes it. -/
def adcSwap (roles : List Nat) (best : List AdcBest) : Option (Nat × Nat) :=
  let at_ (i : Nat) : AdcBest := best.getD i ⟨(0, 0, 0), (0, 0, 0), 0, 0⟩
  let used := roles.zipIdx
  let spares := (List.range 10).filter fun i => !roles.contains i && !(at_ i).bad
  let bads := used.filter fun x => (at_ x.1).bad
  match argMax (fun i => 100000000 - (at_ i).score) spares, argMax (fun x : Nat × Nat => (at_ x.1).score) (if bads.isEmpty then used else bads) with
  | some sp, some x => if !bads.isEmpty ∨ (at_ sp).score + 80 < (at_ x.1).score then some (x.2, sp) else none
  | _, _ => none

/-- The trims at which a spare matches the sub-ADC that it is to replace (R349): its residual offset and gain are then those of the
other. `none` where its trims do not bring them within 1/4 LSB and 0.5 % of them. -/
def matchTrims (spare old : AdcBest) : Option (Int × Int × Int) :=
  let o := spare.goal.1 + (old.rest.1 - spare.rest.1)
  let g := spare.goal.2.1 + (old.rest.2.1 - spare.rest.2.1)
  let o' := clampInt (-128) 127 o
  let g' := clampInt (-125) 125 g
  if (o - o').natAbs ≤ 2 ∧ (g - g').natAbs ≤ 5 then some (o', g', spare.goal.2.2) else none

/-- The end of a converter run or of a reference check: the results, the baseline of R343, the corrections. -/
def Dev.adcDone (d : Dev) (t : Nat) (h : HeadId) (skew : Bool) (adc : List AdcResult) : Dev :=
  let best := adc.zipIdx.map fun x => d.adcBest h skew x.2 x.1
  let good := (best.filter fun x => !x.bad).length
  let d := best.zipIdx.foldl (fun d x =>
    setF (setB d .HM_ADC_TRIM_BAD (h.val * 10 + x.2) x.1.bad) .HM_ADC_TRIM_NOISE (h.val * 10 + x.2) (min 127 x.1.noise)) d
  let d := setF (setF d .HM_STAT_ADC_GOOD h good) .HM_STAT_RUN_AGE h 0
  let swap := adcSwap (d.adcRoles h) best
  let d := d.modCal h fun x => { x with
    baseTemp := getI d .TH_ZONE_TEMP (16 + h.val), baseTime := t, hasBase := true, sinceRun := some 0
    skews := if skew then best.map fun b => b.rest.2.2 else x.skews }
  let roles := d.adcRoles h
  let span := (best.zipIdx.filter fun x => roles.contains x.2).map fun (x : AdcBest × Nat) =>
    max (100 * x.1.goal.1.natAbs / 128) (max (100 * x.1.goal.2.1.natAbs / 125) (x.1.goal.2.2.natAbs))
  let d := d.sample t (.head h) 2 ((span.foldl max 0 : Nat) : Int)
  if d.calHold h then d
  else
    let at_ (i : Nat) : AdcBest := best.getD i ⟨(0, 0, 0), (0, 0, 0), 0, 0⟩
    let sw := ((d.head h).hallmark.swap.or swap).bind fun x => (matchTrims (at_ x.2) (at_ (roles.getD x.1 0))).map fun m => (x, m)
    let d := d.modCal h fun x => { x with
      goals := best.zipIdx.map fun y => (y.2, match sw with | some (z, m) => if z.2 = y.2 then m else y.1.goal | none => y.1.goal)
      swap := sw.map (·.1), swapGoal := match sw with | some (z, _) => (at_ z.2).goal | none => x.swapGoal }
    d.sendCorrections h

/-- Fewer than 8 good sub-ADCs: no release, or its withdrawal (R340, R341). -/
def Dev.adcShort (d : Dev) (t : Nat) (h : HeadId) : Dev :=
  let d := (setF d .HM_STAT_RELEASED h 0).event t .HM_ADC_SHORT h
  (d.modCal h fun x => { x with relStep := min 2 x.relStep }).modKeepHead h fun k => { k with laserHalf := false, writeHalf := false }

/-- Release steps 3 and 4 by a measurement of the bank. -/
def Dev.adcRelease (d : Dev) (t : Nat) (h : HeadId) : Dev :=
  if getF d .HM_STAT_ADC_GOOD h < 8 then d.adcShort t h
  else d.modCal h fun x => { x with relStep := if x.relStep < 2 ∨ x.relStep = 5 then x.relStep else 4 }

/-- REFERENCE_CHECK_DONE (R347): with the laser off, after the settings of step 2. -/
def Dev.refCheckDone (d : Dev) (t : Nat) (h : HeadId) (adc : List AdcResult) : Dev :=
  if !d.linkUp h ∨ d.hallmarkDead ∨ (d.head h).hallmark.relStep < 2 ∨ (d.head h).link.flags.laserOn ∨ adc.length ≠ 10 then d
  else (d.adcDone t h false adc).adcRelease t h

/-- CONVERTER_RUN_DONE (R347, R348): the laser is on, or it were a reference check. -/
def Dev.converterDone (d : Dev) (t : Nat) (h : HeadId) (adc : List AdcResult) : Dev :=
  if !d.calAt h .converter ∨ !(d.head h).link.flags.laserOn ∨ adc.length ≠ 10 then d
  else ((d.adcDone t h true adc).adcRelease t h).kindDone h

/-! ## The inhibit path test (R340, R399) -/

/-- A head is released (R340). -/
def Dev.releaseHead (d : Dev) (h : HeadId) : Dev :=
  let d := setF (d.modCal h fun x => { x with relStep := 5 }) .HM_STAT_RELEASED h 1
  d.guardMail h

/-- Row 5 of R399 has failed: H on the head. -/
def Dev.inhibitFail (d : Dev) (t : Nat) (h : HeadId) : Dev :=
  (setF (incF (d.diagFault t 5 h) .KP_DIAG_INHIBIT_FAIL 0) .HM_STAT_RELEASED h 0).levelH h

/-- A condition of the strict profile has been met by the head's test (R402). -/
def Dev.testPassed (d : Dev) (h : HeadId) : Dev :=
  let s := spinOf h
  if (d.spin s).keep.clearing then
    (d.modKeepSpin s fun k => { k with needTests := if bit k.needTests (h.val % 4) then k.needTests - 2 ^ (h.val % 4) else k.needTests }).strictCleared s
  else d

/-- The head may make its laser half: all before it in R340 is done, the lens is unfocused and the laser off, and Keeper permits the
laser; or the latch of its spindle is being cleared under the strict profile. -/
def Dev.mayTestLaser (d : Dev) (h : HeadId) : Bool :=
  let s := spinOf h
  let rest := d.mode h == 0 || d.mode h == 1 || d.mode h == 10
  !d.keeper.failed && d.linkUp h && rest
    && (((d.head h).hallmark.relStep == 4 && d.permit s && !d.headLatch h) || (d.spinLatch s && (d.spin s).keep.clearing))

/-- INHIBIT_TEST_LASER_HALF (R399, row 5): the laser must come on within 4 Ticks, and go off under LASER_INHIBIT. -/
def Dev.laserHalf (d : Dev) (t : Nat) (h : HeadId) (onSeen offSeen : Bool) : Dev :=
  if !d.mayTestLaser h then d
  else if !(onSeen && offSeen) then d.inhibitFail t h
  else
    let d := d.modKeepHead h fun k => { k with laserHalf := true, writeHalf := false, day := 0 }
    let d := if (d.head h).hallmark.relStep = 4 then d.releaseHead h else d
    d.testPassed h

/-- The head may make its write half: released, in FOLLOW, the laser half passed. -/
def Dev.mayTestWrite (d : Dev) (h : HeadId) : Bool :=
  !d.keeper.failed && d.linkUp h && getB d .HM_STAT_RELEASED h && d.mode h == 3 && (d.head h).keep.laserHalf

/-- INHIBIT_TEST_WRITE_HALF (R399, row 5): no gate may open under WRITE_INHIBIT. -/
def Dev.writeHalf (d : Dev) (t : Nat) (h : HeadId) (opened : Bool) : Dev :=
  if !d.mayTestWrite h then d
  else if opened then d.inhibitFail t h
  else d.modKeepHead h fun k => { k with writeHalf := true }

/-- INHIBIT_TEST_DAILY (R399, R402): both halves in an idle revolution, every 24 h under the strict profile. -/
def Dev.dailyTest (d : Dev) (t : Nat) (h : HeadId) (onSeen offSeen opened : Bool) : Dev :=
  if !d.strict ∨ (d.head h).keep.day < dayM ∨ !d.mayTestWrite h ∨ !(d.head h).hallmark.idleRev then d
  else if !(onSeen && offSeen) || opened then d.inhibitFail t h
  else d.modKeepHead h fun k => { k with laserHalf := true, writeHalf := true, day := 0 }

/-! ## Laser drive and the power plan (R350, R351) -/

/-- A value that a 16-bit field can hold, else a free one. -/
def Dev.fit16 (d : Dev) (v : Int) : Nat × Dev :=
  if 0 ≤ v ∧ v ≤ 65535 then (v.toNat, d)
  else
    let x := d.drawNat
    (x.1 % 65536, x.2)

/-- LASER_POINTS_DONE (R350): I_B in 10 µA and the powers at 0.6, 0.8 and 1.0 of it in µW; the line through them, whose middle
point may lie 3 % from it. -/
def Dev.laserPoints (d : Dev) (t : Nat) (h : HeadId) (ib p1 p2 p3 : Nat) : Dev :=
  if !d.calAt h .laser ∨ !(d.head h).link.flags.laserOn then d
  else
    let sum := p1 + p2 + p3
    let off := if 3 * p2 ≤ sum then sum - 3 * p2 else 3 * p2 - sum
    if 3 * sum < 100 * off then (d.event t .HM_LASER_FIT h).kindDone h
    else
      let rise : Int := (p3 : Int) - p1
      let eta := if ib = 0 then d.drawNat else d.fit16 (Int.fdiv (2 * rise * 2500 + ib) (2 * ib))
      let ith := if rise = 0 then eta.2.drawNat else eta.2.fit16 ((ib : Int) - Int.fdiv (4 * p3 * ib + 5 * rise) (10 * rise))
      let d := setF (setF ith.2 .HM_LASER_ETA h (eta.1 % 65536)) .HM_LASER_I_TH h (ith.1 % 65536)
      let pb := getF d .HM_PLAN_P_B (h.val * 16 + (d.head h).motion.lastLayer)
      let d := d.modCal h fun x => { x with fit := some (p3, pb) }
      let d := if d.calHold h then d else d.mail (.head h) .laser
      ((d.headroom t h).limitWrites t h).kindDone h

/-- The vertex of the parabola through three points, as a fraction with a positive denominator: `none` without a minimum. -/
def vertex3 (a b c : Int × Int) : Option (Int × Int) :=
  let n := a.2 * (b.1 * b.1 - c.1 * c.1) + b.2 * (c.1 * c.1 - a.1 * a.1) + c.2 * (a.1 * a.1 - b.1 * b.1)
  let q := 2 * (a.2 * (b.1 - c.1) + b.2 * (c.1 - a.1) + c.2 * (a.1 - b.1))
  if q < 0 then some (-n, -q) else none

/-- The three lowest of eight parts, in rising order of their place: place and value. -/
def lowest3 (l : List Nat) : List (Int × Int) :=
  let three := (sortBy (fun a b => decide (a.1 ≤ b.1)) l.zipIdx).take 3
  (sortBy (fun a b => decide (a.2 ≤ b.2)) three).map fun x => ((17 + x.2 : Nat), (x.1 : Int))

/-- The new S_d of a spot by its trial (R351), in Q2.14: a change of at most 0.05, within the range of the field; a free change
where the parts have no minimum. -/
def Dev.trialScale (d : Dev) (now : Nat) (l : List Nat) : Nat × Dev :=
  let pts := lowest3 l
  let r : Int × Dev := match pts with
    | [a, b, c] =>
      match vertex3 a b c with
      | some (n, q) => (Int.fdiv (2 * (now : Int) * n + 20 * q) (40 * q) - now, d)
      | none => d.drawInt
    | _ => d.drawInt
  ((clampInt 8192 24576 ((now : Int) + clampInt (-819) 819 r.1)).toNat, r.2)

/-- S_0 to S_3 of a plan. -/
def planS (s : SpotId) : Fld := match s with | 0 => .HM_PLAN_S0 | 1 => .HM_PLAN_S1 | 2 => .HM_PLAN_S2 | 3 => .HM_PLAN_S3

/-- WRITE_POWER_TRIAL_DONE (R351): a trial that WRITE_INHIBIT stops leaves no result (R433); else the next stripe of the power calibration area is used, and S_d of the four spots moves. -/
def Dev.trialDone (d : Dev) (t : Nat) (h : HeadId) (layer : Nat) (err : List (List Nat)) : Dev :=
  if !d.calAt h .trial ∨ !d.mayTry h ∨ (d.head h).down.writeInhibit ∨ !(d.trialLeft h).contains layer then d
  else
    let used := (d.surf (surfOf h)).pcaUsed.getD layer 0 + 1
    let d := d.modSurf (surfOf h) fun s => { s with pcaUsed := s.pcaUsed.set layer used }
    let d := d.eventIf (used == 1264) t .HM_PCA_FULL h
    let i := h.val * 16 + layer
    let d := if d.calHold h then d
      else allSpots.foldl (fun d s =>
        let r := d.trialScale (fieldHeld d (planS s) i) (err.getD s [])
        setHm r.2 (planS s) i r.1) d
    let d := d.modCal h fun x => { x with trialTodo := x.trialTodo.filter (· != layer) }
    let d := (d.headroom t h).limitWrites t h
    if (d.trialLeft h).isEmpty then d.kindDone h else d

/-! ## Servo scales and read margin (R353, R354) -/

/-- A gain brought toward its target by at most 2 %, within its range; 0 is an amplitude not measured. -/
def newGain (now measured target : Nat) : Nat :=
  if measured = 0 then now
  else min 65372 (max 4096 (min (now + now / 50) (max (now - now / 50) (divRound (now * target) measured))))

/-- SERVO_SCALE_UPDATE (R353). -/
def Dev.scaleUpdate (d : Dev) (h : HeadId) (te fe tilt : Nat) : Dev :=
  if !d.calAt h .scale then d
  else
    let put (d : Dev) (f : Fld) (m target : Nat) : Dev :=
      if m = 0 then d else setHm d f h (newGain (fieldHeld d f h) m target)
    let d := if d.calHold h then d
      else (put (put (put d .HM_SCALE_TE_GAIN te 20860) .HM_SCALE_FE_GAIN fe Config.fePpTgt) .HM_SCALE_TILT_GAIN tilt Config.tiltPpTgt)
    let d := if d.scalePend h ∧ !d.calHold h then d.scaleMail h else d
    d.kindDone h

/-- The least-squares parabola through five points at −2 to 2: `step` times the place of its minimum, rounded; `none` without
one. -/
def vertex5 (step : Int) (y : List Int) : Option Int :=
  let at_ (k : Nat) : Int := y.getD k 0
  let sy := at_ 0 + at_ 1 + at_ 2 + at_ 3 + at_ 4
  let sxy := -2 * at_ 0 - at_ 1 + at_ 3 + 2 * at_ 4
  let sxxy := 4 * at_ 0 + at_ 1 + at_ 3 + 4 * at_ 4
  let q := 10 * (sxxy - 2 * sy)
  if q ≤ 0 then none else some (Int.fdiv (2 * (-7 * sxy * step) + q) (2 * q))

/-- FOCUS_MARGIN_SCAN_DONE (R354): FOC_OFS, or TILT_OFS, of the layer moves to the minimum. -/
def Dev.focusScanDone (d : Dev) (h : HeadId) (layer : Nat) (tilt : Bool) (err : List Nat) : Dev :=
  if !d.calAt h .focus ∨ !d.mayTry h ∨ (d.head h).hallmark.focusTodo.head? ≠ some (layer, tilt) then d
  else
    let i := h.val * 16 + layer
    let f : Fld := if tilt then .HM_PLAN_TILT_OFS else .HM_PLAN_FOC_OFS
    let step : Int := if tilt then 256 else 328
    let r : Int × Dev := match vertex5 step (err.map fun (e : Nat) => (e : Int)) with
      | some v => (v, d)
      | none => d.drawInt
    let now := toSigned 16 (fieldHeld d f i)
    let d := if d.calHold h then d else setHm r.2 f i (ofSigned 16 (satSigned 16 (now + clampInt (-step) step r.1)))
    let d := d.modCal h fun x => { x with focusTodo := x.focusTodo.drop 1 }
    if (d.head h).hallmark.focusTodo.isEmpty then d.kindDone h else d

/-- MARGIN_SCAN_DONE (R80, R342): the results; in a link run the receiver's coefficients are corrected, to values that the manual
does not give. -/
def Dev.scanEnd (d : Dev) (l : LinkId) (eyeW eyeH compW compH : Nat) : Dev :=
  let ran := d.linkState l = 6 ∧ (d.port l).margin.any fun (n : Nat) => decide (81920 ≤ n)
  let d := d.marginDone l eyeW eyeH compW compH
  let coeffs (d : Dev) : Dev :=
    let x := d.drawNat
    x.2.modPort l fun p => { p with stored := some (p.serial, x.1) }
  if !ran then d
  else
    match l with
    | .head h =>
      if d.calAt h .link then
        let d := if d.calHold h then d else coeffs d
        (d.modCal h fun x => { x with sinceLink := 0 }).kindDone h
      else d
    | .spin s => if (headsOf s).any fun h => d.calAt h .link && !d.calHold h then coeffs d else d

/-! ## Saving and loading (R356 to R358) -/

/-- Bytes of the registers of one array of a head's window, in the order of their offsets. -/
def Dev.heldBytes (d : Dev) (r : Reg) (first n : Nat) : List Byte :=
  (List.range n).flatMap fun k => bytesLE (r.info.width / 8) (regHeld d r (first + k))

/-- The 8 KiB window of a head in the layout of R362; its unnamed bytes are 0. -/
def Dev.calWindow (d : Dev) (h : Nat) : List Byte :=
  d.heldBytes .HM_CTL h 1 ++ d.heldBytes .HM_STAT h 1 ++ d.heldBytes .HM_ADC_SEL h 1 ++ zeros 4
    ++ d.heldBytes .HM_ADC_TRIM (h * 10) 10 ++ zeros 8 ++ d.heldBytes .HM_SCALE h 1 ++ zeros 8 ++ d.heldBytes .HM_LASER h 1
    ++ d.heldBytes .HM_LIFE h 1 ++ zeros 164 ++ d.heldBytes .HM_PLAN (h * 16) 16 ++ d.heldBytes .HM_LANE_INIT (h * 4) 4 ++ zeros 496
    ++ d.heldBytes .HM_TAPS (h * 1152) 1152 ++ zeros 2560

/-- The record of a head (R357). -/
def Dev.calRecord (d : Dev) (h : HeadId) : List Byte :=
  let x := (d.head h).hallmark
  [BitVec.ofNat 8 h, 0] ++ bytesLE 2 (getF d .HL_STATUS_PEND_REV h) ++ bytesLE 8 (d.head h).link.port.serial
    ++ bytesLE 2 (ofSigned 16 x.baseTemp) ++ zeros 2 ++ bytesLE 8 x.baseTime ++ zeros 8 ++ d.calWindow h

/-- The heads that ARG of CAL_SAVE or CAL_LOAD names. -/
def Entry.calHeads (e : Entry) : List HeadId := if bit e.arg 8 then allHeads else [⟨bits e.arg 6 0 % 128, by omega⟩]

/-- The CRC of an image: over every byte of it but bytes 60 to 63. -/
def calCrc (bs : List Byte) : Nat := crc32c (bs.take 60 ++ bs.drop 64)

/-- The calibration image (R357). -/
def Dev.calImage (d : Dev) (t : Nat) (hs : List HeadId) : List Byte :=
  let head := bytesLE 4 0x4C434D48 ++ bytesLE 2 1 ++ [0x21, 0] ++ bytesLE 2 d.node ++ bytesLE 2 hs.length ++ bytesLE 8 t ++ zeros 40
  let recs := hs.flatMap fun h => d.calRecord h
  head ++ bytesLE 4 (crc32c (head ++ recs)) ++ recs

/-- CAL_SAVE (R356). -/
def Dev.calSave1 (d : Dev) (t tag : Nat) : Dev :=
  match d.admin? tag 0x18 with
  | none => d
  | some c =>
    let n := 64 + c.e.calHeads.length * 8224
    if d.hallmarkDead then d.complete t c 0x7002 0
    else if c.e.len < n then d.complete t c 0x1002 0
    else if !c.listReady n then d
    else d.adminOut t c (d.calImage t c.e.calHeads) 0

/-- An RV field of a window in the layout of R362, read from its bytes; the byte of the window and the field. -/
def windowField (w : List Byte) (h : Nat) (x : Fld × Nat) : Nat :=
  let r := x.1.info.reg
  fieldOf x.1 (leAt w (r.offset x.2 - (0xE00000 + 0x2000 * h)) (r.info.width / 8))

/-- Every RV field of the record lies in its range (R358). -/
def calRangesOk (w : List Byte) (h : Nat) : Bool :=
  (hmWindow h).all (fun x => rangeOk x.1 (windowField w h x)) && adcSelOk (((hmWindow h).take 8).map fun x => windowField w h x)

/-- One record of an image is loaded or skipped (R358); the run in progress is abandoned, and the one queued behind it begins. -/
def Dev.loadRecord (d : Dev) (t : Nat) (rec_ : List Byte) : Dev :=
  let h : HeadId := ⟨leAt rec_ 0 1 % 128, by omega⟩
  let w := rec_.drop 32
  let st := getF d .HL_STATUS_STATE h
  if leAt rec_ 4 8 ≠ (d.head h).link.port.serial ∨ st < 2 ∨ 7 ≤ st ∨ 128 ≤ leAt rec_ 0 1 ∨ !calRangesOk w h then
    (setF d .HM_STAT_LOAD_SKIP h 1).event t .HM_CAL_SKIP h
  else
    let d := (hmWindow h).foldl (fun d x => if reservedTap x.1 x.2 then d else setPend d x.1 x.2 (windowField w h x)) d
    let x := (d.head h).hallmark
    let d := d.modCal h fun x => { x with
      queued := [], queuedFull := false, goals := [], swap := none, corrPend := true, recSerial := some (leAt rec_ 4 8)
      baseTemp := toSigned 16 (leAt rec_ 12 2), baseTime := leAt rec_ 16 8, hasBase := true }
    let d := (d.beginCal h x.queued x.queuedFull).modPort (.head h) fun p => { p with mbox := p.mbox.filter fun r => r.purpose != .correction }
    let d := if d.linkState (.head h) = 6 then d.mail (.head h) .correction else d
    d.scaleMail h

/-- An image that CAL_LOAD accepts (R358): MAGIC, VERSION, REV_ID, CRC, and a length that its records fit. -/
def calImageOk (bs : List Byte) (n : Nat) : Bool :=
  leAt bs 0 4 == 0x4C434D48 && leAt bs 4 2 == 1 && leAt bs 6 1 == 0x21 && leAt bs 60 4 == calCrc bs
    && decide (bs.length = 64 + 8224 * leAt bs 10 2) && decide (leAt bs 10 2 ≤ n)

/-- CAL_LOAD (R356, R358): of the records of the image, those of the heads that ARG names. -/
def Dev.calLoad1 (d : Dev) (t tag : Nat) (host : List Byte) : Dev :=
  match d.admin? tag 0x19 with
  | none => d
  | some c =>
    let hs := c.e.calHeads
    let n := 64 + leAt host 10 2 * 8224
    let image := host.take n
    if d.hallmarkDead then d.complete t c 0x7002 0
    else if c.e.len < 64 + hs.length * 8224 then d.complete t c 0x1002 0
    else if !calImageOk image 128 then d.complete t c 0x1002 0
    else
      let recs := (List.range (leAt image 10 2)).map fun i => (image.drop (64 + 8224 * i)).take 8224
      let d := (recs.filter fun r => hs.any fun h => h.val == leAt r 0 1).foldl (fun d r => d.loadRecord t r) d
      d.complete t c 0 0

/-! ## Ageing samples (R359) -/

/-- Relocation stripes that the furthest spot of a surface has passed, over all layers (R222). -/
def Surface.relocPassed (s : Surface) : Nat :=
  ((List.range 4).map fun k =>
    let f := s.frontierAt k
    if frontierEnd f then 124160 else psaLayer f * 7760 + (psaStripe f - 270000)).foldl max 0

/-- The two surfaces of a spindle. -/
def surfsOf (s : SpinId) : List SurfId := [⟨2 * s.val, by omega⟩, ⟨2 * s.val + 1, by omega⟩]

/-- The eye width of a link: the narrower of its two receivers' at the last margin scan, once one has ended (R80). -/
def Dev.eyeOf (d : Dev) (l : LinkId) : Option Int :=
  let i := linkIx l
  if getB d (linkFld l .HL_STATUS_MARGIN_DONE .SL_STATUS_MARGIN_DONE) i then
    some (min (getF d (linkFld l .HL_MARGIN_EYE_W .SL_MARGIN_EYE_W) i) (getF d (linkFld l .HL_MARGIN_PEND_EYE_W .SL_MARGIN_PEND_EYE_W) i) : Nat)
  else none

/-- The value of a metric, where it can be sampled (R359): what the device holds is its own measure, the friction is taken at steady
speed in RUN; the rest comes with the sample. -/
def Dev.metricValue (d : Dev) (u : LifeUnit) (code : Nat) (v : Int) : Option Int :=
  match u, code with
  | .head h, 3 => d.eyeOf (.head h)
  | .head h, 4 =>
    let x := (d.head h).hallmark
    if x.e0Count = 0 then none else some (100 * x.e0Sum / x.e0Count : Nat)
  | .spindle s, 1 => if d.torcState s = 5 ∧ getB d .TQ_STAT_AT_SPEED s then some v else none
  | .spindle s, 3 => some (((surfsOf s).map fun x => d.blocksUsed x).foldl max 0 : Nat)
  | .spindle s, 4 => some (((surfsOf s).map fun x => (d.surf x).relocPassed).foldl max 0 : Nat)
  | .spindle s, 5 => d.eyeOf (.spin s)
  | .device, 1 => some d.mem.wearMax
  | .device, 2 => some d.mem.sparePages.length
  | .device, 3 => some d.mem.sparesMax
  | _, _ => some v

/-- AGEING_SAMPLE (R359): a metric that has nothing to sample gives no sample; the mean of E0 iterations begins again. -/
def Dev.ageingSample (d : Dev) (t : Nat) (u : LifeUnit) (code : Nat) (v : Int) : Dev :=
  match d.metricValue u code v with
  | none => d
  | some v =>
    let d := d.sample t u code v
    match u, code with
    | .head h, 4 => if d.hallmarkDead then d else d.modCal h fun x => { x with e0Sum := 0, e0Count := 0 }
    | _, _ => d

/-! ## The M-tick of Hallmark -/

/-- A head's counts of an M-tick, its temperature trigger (R343), its idle time, and writes that its layer limits. A head alone in service
on a surface calibrates before the mount is reported (R346). -/
def Dev.calTick (d : Dev) (t : Nat) (h : HeadId) : Dev :=
  let idle := d.mode h == 3 && !d.headBusy h
  let d := d.modCal h fun x => { x with
    sinceCal := x.sinceCal + 1, sinceLink := x.sinceLink + 1, sinceRun := x.sinceRun.map (· + 1)
    idle := if idle then x.idle + 1 else 0, idleRev := idle && x.idleRev }
  let d := match (d.head h).hallmark.sinceRun with
    | some n => setF d .HM_STAT_RUN_AGE h (min 65535 (n / 24000))
    | none => d
  let x := (d.head h).hallmark
  let moved := x.hasBase && decide (getF d .HM_CFG_DELTA_T 0 * 128 < (getI d .TH_ZONE_TEMP (16 + h.val) - x.baseTemp).natAbs)
  let d := if moved && !x.kinds.contains .converter && !x.queued.contains .converter then
      d.startCal h ([.converter, .laser, .trial] ++ if dayM ≤ x.sinceLink then [.link] else []) false
    else d
  let mount := (d.surf (surfOf h)).mount
  let d := if mount != .unmounted then d.modCal h fun x => { x with soleCal := false }
    else if !(d.head h).hallmark.soleCal && getB d .TQ_STAT_AT_SPEED (spinOf h) && d.inService h && !d.inService (otherHead h) then
      (d.startCal h fullCal true).modCal h fun x => { x with soleCal := true }
    else d
  let d := d.limitWrites t h
  if d.calAt h .link ∧ (d.port (.head h)).margin.isNone then d.linkRun h else d

/-- AGEING_SAMPLE. -/
def execAgeingSample (unit : LifeUnit) (code : Nat) (value : Int) (s : State) : Out :=
  run s fun d => d.ageingSample s.dtime unit code value
/-- REFERENCE_CHECK_DONE. -/
def execReferenceCheckDone (h : HeadId) (adc : List AdcResult) (s : State) : Out := run s fun d => d.refCheckDone s.dtime h adc
/-- INHIBIT_TEST_LASER_HALF. -/
def execInhibitTestLaserHalf (h : HeadId) (onSeen offSeen : Bool) (s : State) : Out := run s fun d => d.laserHalf s.dtime h onSeen offSeen
/-- INHIBIT_TEST_WRITE_HALF. -/
def execInhibitTestWriteHalf (h : HeadId) (opened : Bool) (s : State) : Out := run s fun d => d.writeHalf s.dtime h opened
/-- INHIBIT_TEST_DAILY. -/
def execInhibitTestDaily (h : HeadId) (onSeen offSeen opened : Bool) (s : State) : Out :=
  run s fun d => d.dailyTest s.dtime h onSeen offSeen opened
/-- CAL_PERIOD_EXPIRY. -/
def execCalPeriodExpiry (h : HeadId) (s : State) : Out := run s fun d => d.calPeriod h
/-- HM_CTL_RUN. -/
def execHmCtlRun (h : HeadId) (s : State) : Out := run s fun d => d.startCal h fullCal true
/-- CONVERTER_RUN_DONE. -/
def execConverterRunDone (h : HeadId) (adc : List AdcResult) (s : State) : Out := run s fun d => d.converterDone s.dtime h adc
/-- LASER_POINTS_DONE. -/
def execLaserPointsDone (h : HeadId) (ib p1 p2 p3 : Nat) (s : State) : Out := run s fun d => d.laserPoints s.dtime h ib p1 p2 p3
/-- WRITE_POWER_TRIAL_DONE. -/
def execWritePowerTrialDone (h : HeadId) (layer : Fin 16) (err : List (List Nat)) (s : State) : Out :=
  run s fun d => d.trialDone s.dtime h layer err
/-- SERVO_SCALE_UPDATE. -/
def execServoScaleUpdate (h : HeadId) (te fe tilt : Nat) (s : State) : Out := run s fun d => d.scaleUpdate h te fe tilt
/-- FOCUS_MARGIN_SCAN_DONE. -/
def execFocusMarginScanDone (h : HeadId) (layer : Fin 16) (tilt : Bool) (err : List Nat) (s : State) : Out :=
  run s fun d => d.focusScanDone h layer tilt err
/-- MARGIN_SCAN_DONE. -/
def execMarginScanDone (link : LinkId) (eyeW eyeH compW compH : Nat) (s : State) : Out :=
  run s fun d => d.scanEnd link eyeW eyeH compW compH
/-- IDLE_REVOLUTION. -/
def execIdleRevolution (h : HeadId) (s : State) : Out := run s fun d => d.idleRevolution h
/-- CAL_SAVE. -/
def execCalSave (tag : Nat) (s : State) : Out := run s fun d => d.calSave1 s.dtime tag
/-- CAL_LOAD. -/
def execCalLoad (tag : Nat) (host : List Byte) (s : State) : Out := run s fun d => d.calLoad1 s.dtime tag host

end Sys2Proof.Machine
end

