-- ==== Sys2Proof/Machine/Recorder.lean ====
section
/-! DEFINITION. Cameo's own commands: its M-tick, the report of suppressed events, the drain of the stage (R440 to R446). -/

namespace Sys2Proof.Machine

/-- DEPTH and REFILL of a code: the first entry of CM_RATE_OVR in use that names it, else CM_CFG (R440). -/
def Dev.rateOf (d : Dev) (code : Nat) : Nat × Nat :=
  match (List.range 16).find? fun i => getF d .CM_RATE_OVR_CODE i == code && getF d .CM_RATE_OVR_DEPTH i != 0 with
  | some i => (getF d .CM_RATE_OVR_DEPTH i, getF d .CM_RATE_OVR_REFILL i)
  | none => (getF d .CM_CFG_DEPTH 0, getF d .CM_CFG_REFILL 0)

/-- Every bucket full, as after a reset that clears CM_CFG (R440). -/
def Dev.fillBuckets (d : Dev) : Dev :=
  { d with cameo := { d.cameo with buckets := Event.limited.map fun c => (c, (d.rateOf c).1) } }

/-- The M-tick boundary of M-tick `m`: tokens (R440), the waits of suppressed counts (R441), a new message allowed (R446). -/
def Dev.cameoTick (d : Dev) (m : Nat) : Dev :=
  let c := d.cameo
  { d with cameo := { c with
      buckets := c.buckets.map fun b : Nat × Nat =>
        let r := d.rateOf b.1
        if m % r.2 = 0 ∧ b.2 + 1 ≤ r.1 then (b.1, b.2 + 1) else b
      suppressed := c.suppressed.map fun x => { x with age := x.age + 1 }
      sent := false } }

/-- SUPPRESSED_TIMEOUT (R441): a count that has waited 400 M-ticks is reported without an admission. -/
def Dev.suppressedTimeout (d : Dev) (t code : Nat) : Dev :=
  if d.cameo.suppressed.any (fun x => x.code == code && decide (400 ≤ x.age)) && !d.crownDead && !d.cameo.stopped then
    { d with cameo := d.cameo.report (getF d .CM_CFG_NOTIFY_SEV 0) t code }
  else d

/-- STAGE_DRAIN (R443): the oldest `n` records of the stage are in the journal; the highest SEQ it has recorded rises (R442). -/
def Dev.stageDrain (d : Dev) (n : Nat) : Dev :=
  let c := d.cameo
  let moved := c.stage.take n
  { d with cameo := { c with
      stage := c.stage.drop n
      journal := c.journal ++ moved
      seqJournal := moved.foldl (fun a r => max a r.seq) c.seqJournal } }

/-- The 32 bytes of a record (R438). -/
def EventRec.bytes (r : EventRec) : List Byte :=
  bytesLE 4 r.seq ++ bytesLE 2 r.code ++ bytesLE 2 (r.severity * 4096 + r.source) ++ bytesLE 8 r.dtime
    ++ (List.range 4).flatMap fun k => bytesLE 4 (r.params.getD k 0)

/-- The held records in the order of SEQ. -/
def Cameo.log (c : Cameo) : List EventRec := c.journal ++ c.stage

/-- Freeing every held record up to SEQ `last` (R444, R445): OLDEST moves past it, and a clear that leaves room resumes
recording with CM_LOG_RESUMED. -/
def Cameo.free (sev t last : Nat) (c : Cameo) : Cameo :=
  let c' := { c with
    journal := c.journal.filter (decide <| last < ·.seq)
    stage := c.stage.filter (decide <| last < ·.seq)
    oldest := max c.oldest (last + 1) }
  if c'.stopped && decide (c'.held < 262142) then
    { c' with stopped := false, stopDrops := 0 }.put sev (Cameo.own .CM_LOG_RESUMED t [c'.stopDrops])
  else c'

/-- The loading of CM_SEQ from the journal after a cold power-on or RESET_N (R442, R444, R451): the stage is lost, SEQ goes
on from the highest that the journal has recorded. The stop is a state of the log: a log that was stopped stays stopped, one
whose last record is CM_LOG_FULL is stopped. -/
def Cameo.loadSeq (c : Cameo) : Cameo :=
  { c with
    stage := [], raised := [], suppressed := [], lost := 0
    seqNext := c.seqJournal + 1
    oldest := match c.journal with | [] => 0 | r :: _ => r.seq
    stopped := c.stopped || (c.journal.getLast?.map (·.code)) == some Event.CM_LOG_FULL.code }

/-- SUPPRESSED_TIMEOUT. -/
def execSuppressedTimeout (code : Nat) (s : State) : Out := run s fun d => d.suppressedTimeout s.dtime code
/-- STAGE_DRAIN. -/
def execStageDrain (n : Nat) (s : State) : Out := run s fun d => d.stageDrain n

end Sys2Proof.Machine
end

