-- ==== Sys2Proof/Machine/Thermal.lean ====
section
/-! DEFINITION. The thermal model and the throttle (R363 to R375): zones, demands, the throttle step and what it allows. -/

namespace Sys2Proof.Machine

/-- The kind of a zone as TH_LIMIT numbers it: 0 die, 1 head, 2 bail, 3 ambient (R363). -/
def zoneKind (z : Nat) : Nat := if z < 16 then 0 else if z < 144 then 1 else if z < 176 then 2 else 3

/-- The reading of a zone's sensor (R363, R366, R385): of a die zone from the command, of a head or a bail the latest that came in
the M-tick while its link is up and the device above P3, of the ambient zone its own value. -/
def Dev.zoneReading (d : Dev) (die : List Nat) (z : Nat) : Option Nat :=
  if z < 16 then die[z]?.map (· % 65536)
  else if h : z < 144 then
    let i : HeadId := ⟨z - 16, by omega⟩
    if d.linkUp i ∧ d.pState < 3 ∧ (d.head i).link.held.tempNew then some (ofSigned 16 (d.head i).link.held.temp) else none
  else if h : z < 176 then
    let i : SpinId := ⟨z - 144, by omega⟩
    if d.spinUp i ∧ d.pState < 3 ∧ (d.spin i).link.held.tempNew then some (ofSigned 16 (d.spin i).link.held.temp) else none
  else none

/-- The advance of a zone over an M-tick in 1/128 °C (R364), to the nearest: power in mW, temperatures in 1/128 °C. -/
def Dev.zoneAdvance (d : Dev) (power z : Nat) : Int :=
  let t := getI d .TH_ZONE_TEMP z
  let flow := ((List.range 177).map fun j => (Config.conductance z j : Int) * (t - getI d .TH_ZONE_TEMP j)).sum
  let den : Int := 400 * Config.heatCap z
  Int.fdiv (2 * (128 * (power : Int) - flow) + den) (2 * den)

/-- A bit of TH_BROKEN and its copy in TH_ZONE. -/
def Dev.setBroken (d : Dev) (z : Nat) (b : Bool) : Dev :=
  setB (d.putBit .TH_BROKEN_BITS (z / 32) (z % 32) b) .TH_ZONE_BROKEN z b

/-- A sensor is found broken (R366). -/
def Dev.sensorBroken (d : Dev) (t z : Nat) : Dev :=
  let first := !d.thermal.brokenRaised.contains z
  let d := (d.setBroken z true).eventIf first t .TH_SENSOR_BROKEN 0 [z]
  { d with thermal := { d.thermal with
      mismatch := d.thermal.mismatch.filter (·.1 != z), brokenRaised := if first then z :: d.thermal.brokenRaised else d.thermal.brokenRaised } }

/-- The correction of a zone by its sensor (R365, R366): `v` is the model's value after the advance. -/
def Dev.zoneCorrect (d : Dev) (t z : Nat) (v : Int) (reading : Option Nat) : Dev :=
  let d := setB d .TH_ZONE_HAS_SENSOR z reading.isSome
  match reading with
  | none => setI { d with thermal := { d.thermal with mismatch := d.thermal.mismatch.filter (·.1 != z) } } .TH_ZONE_TEMP z (satSigned 16 v)
  | some r =>
    if getB d .TH_ZONE_BROKEN z then setI d .TH_ZONE_TEMP z (satSigned 16 v)
    else if deadCode r then setI (d.sensorBroken t z) .TH_ZONE_TEMP z (satSigned 16 v)
    else
      let s := toSigned 16 r
      let fresh := d.thermal.await.contains z
      let d := { d with thermal := { d.thermal with await := d.thermal.await.filter (· != z) } }
      if fresh then setI d .TH_ZONE_TEMP z s
      else
      let far := decide (1024 < (s - v).natAbs)
      let n := match d.thermal.mismatch.find? (·.1 == z) with | some p => p.2 | none => 0
      let keep := d.thermal.mismatch.filter (·.1 != z)
      let d := { d with thermal := { d.thermal with mismatch := if far then (z, n + 1) :: keep else keep } }
      if far ∧ 4 ≤ n + 1 then setI (d.sensorBroken t z) .TH_ZONE_TEMP z (satSigned 16 v)
      else setI d .TH_ZONE_TEMP z (satSigned 16 (v + rndShift (s - v) (getF d .TH_CTL_SENSOR_K 0)))

/-- The temperature demand of a zone (R368), from the last one, in a temperature of 1/128 °C. -/
def tempDemand (base step hyst : Nat) (old : Nat) (t : Int) : Nat :=
  let raw := if t < 128 * (base : Int) then 0 else min 7 (1 + ((t - 128 * (base : Int)).toNat / (128 * step)))
  if old ≤ raw then raw
  else iter (fun e => if raw < e ∧ t < 128 * ((base : Int) + ((e : Int) - 1) * step - hyst) then e - 1 else e) 7 old

/-- The rate of a zone in 1/128 °C per second (R369): over 400 M-ticks, 0 before so many have passed. -/
def Thermal.rate (x : Thermal) (z : Nat) (now : Int) : Int :=
  match x.history[399]? with
  | some l => now - l.getD z now
  | none => 0

/-- The demand of a zone (R368, R369): DEMAND, RATE, and the temperature part. -/
def Dev.zoneDemand (d : Dev) (z : Nat) : Dev × Nat :=
  let k := zoneKind z
  let seen := d.zoneSeen z
  let old := d.thermal.demand.getD z 0
  let e := tempDemand (getF d .TH_LIMIT_BASE k) (getF d .TH_LIMIT_STEP_W k) (getF d .TH_LIMIT_HYST k) old seen
  let rate := d.thermal.rate z seen
  let lim : Int := 128 * (getF d .TH_LIMIT_RATE_LIM k : Nat)
  let more := if lim = 0 then 0 else if 2 * lim < 10 * rate then 2 else if lim < 10 * rate then 1 else 0
  let full := if getB d .TH_ZONE_BROKEN z ∧ z < 16 then 7 else min 7 (e + more)
  (setI (setF d .TH_ZONE_DEMAND z full) .TH_ZONE_RATE z (clampInt (-512) 511 (rndShift (100 * rate) 7)), e)

/-- The demand a zone makes of the device: heads and bails at most TS2 (R371). -/
def Dev.deviceDemand (d : Dev) (z : Nat) : Nat :=
  let v := getF d .TH_ZONE_DEMAND z
  if 16 ≤ z ∧ z < 176 then min 2 v else v

/-- Why a zone demands what it does: 4 broken sensor, 2 rate, 1 temperature, 0 nothing. -/
def Dev.zoneReason (d : Dev) (z : Nat) : Nat :=
  let v := getF d .TH_ZONE_DEMAND z
  if v = 0 then 0 else if getB d .TH_ZONE_BROKEN z then 4 else if d.thermal.demand.getD z 0 < v then 2 else 1

/-- The highest demand: its value, its source (0xFF for power) and its reason (R372); of equals the lowest zone. -/
def Dev.demandMax (d : Dev) : Nat × Nat × Nat :=
  let z := (List.range 177).foldl (fun (b : Nat × Nat) z => if b.1 < d.deviceDemand z then (d.deviceDemand z, z) else b) (0, 0)
  if z.1 < d.thermal.powerDemand then (d.thermal.powerDemand, 0xFF, 3) else (z.1, z.2, if z.1 = 0 then 0 else d.zoneReason z.2)

/-- LD_POOL.ACTIVE at a step, and the budget in 10 mW (R373). -/
def poolActive (step : Nat) : Nat := [48, 48, 48, 40, 32, 24, 12, 0].getD step 0
/-- See `poolActive`. -/
def stepBudget (step : Nat) : Nat := [8500, 7500, 7000, 6200, 5000, 4000, 3000, 1500].getD step 1500

/-- Starts that the throttle held go on once it allows them (R373). -/
def Dev.heldStarts (d : Dev) (t : Nat) : Dev :=
  if 6 ≤ getF d .TH_STAT_STEP 0 then d
  else allSpins.foldl (fun d s =>
    if d.torcState s = 0 ∧ (d.torc s).startPend ∧ getB d .TQ_CTL_RUN s ∧ !d.torcDead s then d.torcStart t s else d) d

/-- At TS7 every head in FOLLOW receives PARK, once it has finished its sector in progress (R374, R433). -/
def Dev.parkFollow (d : Dev) : Dev :=
  if getF d .TH_STAT_STEP 0 = 7 then
    allHeads.foldl (fun d h => if d.mode h = 3 ∧ !d.midSector h then d.modMotion h fun m => { m with wantPark := true } else d) d
  else d

/-- A new throttle step (R372 to R374): TH_STAT, TH_STEP, the LDPC pool; at TS7 every head in FOLLOW receives PARK. -/
def Dev.setStep (d : Dev) (t n src reason : Nat) : Dev :=
  let up := decide (getF d .TH_STAT_STEP 0 < n)
  let d := setF (setF (setF d .TH_STAT_STEP 0 n) .TH_STAT_SRC 0 src) .TH_STAT_REASON 0 reason
  let d := if up then incF d .TH_STAT_STEP_UPS 0 else d
  let d := (setF d .LD_POOL_ACTIVE 0 (poolActive n)).event t .TH_STEP 0 [n, src, reason]
  let d := { d with thermal := { d.thermal with dwell := 0, ovr := 0, under := 0 } }
  (d.heldStarts t).parkFollow

/-- THROTTLE_DWELL_EXPIRY (R372): DWELL M-ticks at a step above the demand; it falls by one. -/
def Dev.dwellExpiry (d : Dev) (t : Nat) : Dev :=
  let m := d.demandMax
  let n := getF d .TH_STAT_STEP 0
  if m.1 < n ∧ getF d .TH_CTL_DWELL 0 ≤ d.thermal.dwell then d.setStep t (n - 1) m.2.1 m.2.2 else d

/-- The power demand of an M-tick (R370). -/
def Dev.powerTick (d : Dev) (power : Nat) : Dev :=
  let d := setF (setF d .PM_POWER_POWER 0 (min 65535 power)) .PM_POWER_PEAK 0 (max (getF d .PM_POWER_PEAK 0) (min 65535 power))
  let n := getF d .TH_STAT_STEP 0
  let b := stepBudget n
  let x := d.thermal
  let ovr := if b < power then x.ovr + 1 else 0
  let under := if 10 * power < 9 * b then x.under + 1 else 0
  let up := decide (4 ≤ ovr)
  let down := decide (getF d .TH_CTL_DWELL 0 ≤ under) && decide (0 < x.powerDemand)
  { d with thermal := { x with
      ovr := if up then 0 else ovr
      under := if down then 0 else under
      powerDemand := if up then min 7 (n + 1) else if down then x.powerDemand - 1 else x.powerDemand } }

/-- Local actions of head and bail zones (R371): PARK, work moved to the other head; RUN at 0 for a bail at TS7. -/
def Dev.localActs (d : Dev) (t : Nat) (held : List Bool) : Dev :=
  let d := allHeads.foldl (fun d (h : HeadId) =>
    if !d.localHold h then d
    else
      let d := if held.getD h false then d else d.modMotion h fun m => { m with wantPark := true }
      let d := d.heldReads h
      if d.inService (otherHead h) ∧ !d.localHold (otherHead h) then
        d.modData fun x => { x with writes := x.writes.map fun w =>
          if w.head = h ∧ w.state = .staged then { w with head := otherHead h } else w }
      else d) d
  allSpins.foldl (fun d (s : SpinId) =>
    if 7 ≤ getF d .TH_ZONE_DEMAND (144 + s.val) ∧ getB d .TQ_CTL_RUN s then d.writeRun t s false else d) d

/-- An M-tick of the thermal model and the throttle; in P4 the model stops (R385). -/
def Dev.thermalTick (d : Dev) (t power : Nat) (zones die : List Nat) : Dev :=
  if 4 ≤ d.pState then d
  else
    let held := allHeads.map d.localHold
    let next := (List.range 176).map fun z =>
      let p := if 16 ≤ z ∧ 3 ≤ d.pState then 0 else zones.getD z 0
      (z, getI d .TH_ZONE_TEMP z + d.zoneAdvance p z, d.zoneReading die z)
    let d := next.foldl (fun d x => d.zoneCorrect t x.1 x.2.1 x.2.2) d
    let r := (List.range 177).foldl (fun (a : Dev × List Nat) z =>
      let y := a.1.zoneDemand z
      (y.1, a.2 ++ [y.2])) (d, [])
    let seen := (List.range 177).map r.1.zoneSeen
    let d := { r.1 with thermal := { r.1.thermal with
      demand := r.2, history := (seen :: r.1.thermal.history).take 400, ambAge := r.1.thermal.ambAge + 1, dwell := r.1.thermal.dwell + 1 } }
    let d := allHeads.foldl (fun d h => d.modLink h fun x => { x with held := { x.held with tempNew := false } }) d
    let d := allSpins.foldl (fun d s => d.modSpinLink s fun x => { x with held := { x.held with tempNew := false } }) d
    let d := (d.powerTick power).localActs t held
    let m := d.demandMax
    if getF d .TH_STAT_STEP 0 < m.1 then d.setStep t m.1 m.2.1 m.2.2 else d.parkFollow

/-- On the exit from P4 every zone with a sensor takes its first reading, every other the ambient value, and the step starts at the
demand of those values (R385). -/
def Dev.thermalRestart (d : Dev) : Dev :=
  let amb := getI d .TH_ZONE_TEMP 176
  let d := { d with thermal := { d.thermal with history := [], mismatch := [], demand := [], ovr := 0, under := 0, powerDemand := 0, await := List.range 176 } }
  (List.range 176).foldl (fun d z => setI d .TH_ZONE_TEMP z amb) d

/-- SENSOR_BROKEN_CLEAR (R366): ones clear bits of a word of TH_BROKEN, and the sensors are checked afresh. -/
def Dev.brokenClear (d : Dev) (word mask : Nat) : Dev :=
  (List.range 32).foldl (fun d k =>
    let z := word * 32 + k
    if bit mask k ∧ z < 177 then
      let d := d.setBroken z false
      { d with thermal := { d.thermal with
          mismatch := d.thermal.mismatch.filter (·.1 != z), brokenRaised := d.thermal.brokenRaised.filter (· != z) } }
    else d) d

/-- A write of TH_AMBIENT (R367): the ambient zone takes it, the timeout starts again, AMB_STALE clears. -/
def Dev.ambientSet (d : Dev) (temp : Nat) : Dev :=
  let d := setF (setF (setF d .TH_AMBIENT_TEMP 0 temp) .TH_ZONE_TEMP 176 temp) .TH_STAT_AMB_STALE 0 0
  { d with thermal := { d.thermal with ambAge := 0 } }

/-- AMBIENT_TIMEOUT (R367): no write for AMB_TIMEOUT; the event once. -/
def Dev.ambientTimeout (d : Dev) (t : Nat) : Dev :=
  if d.thermal.ambAge < 400 * getF d .TH_CTL_AMB_TIMEOUT 0 then d
  else
    let d := d.eventIf (!getB d .TH_STAT_AMB_STALE 0) t .TH_AMBIENT_STALE 0
    setI (setF d .TH_STAT_AMB_STALE 0 1) .TH_ZONE_TEMP 176 (128 * (getF d .TH_CTL_AMB_DEFAULT 0 : Nat))

/-- SENSOR_BROKEN_CLEAR. -/
def execSensorBrokenClear (word : Fin 6) (mask : Nat) (s : State) : Out := run s fun d => d.brokenClear word mask
/-- TH_AMBIENT. -/
def execThAmbient (temp : Nat) (s : State) : Out := run s fun d => d.ambientSet temp
/-- AMBIENT_TIMEOUT. -/
def execAmbientTimeout (s : State) : Out := run s fun d => d.ambientTimeout s.dtime
/-- THROTTLE_DWELL_EXPIRY. -/
def execThrottleDwellExpiry (s : State) : Out := run s fun d => d.dwellExpiry s.dtime

end Sys2Proof.Machine
end

