-- ==== Sys2Proof/Machine/Power.lean ====
section
/-! DEFINITION. The power ladder (R376 to R385): the steps down and their conditions, the exits, wake events, the states of the
PCI Express function. -/

namespace Sys2Proof.Machine

/-! ## What the conditions of R379 look at -/

/-- A staged sector of a chain row that is still being gathered: it waits for PAD_AFTER and is no queued work (R379). -/
def Dev.inPartialRow (d : Dev) (w : WriteJob) : Bool := w.state == .staged && (d.rowOf w).any fun r => !r.closed

/-- Write data are staged and not yet written. -/
def Dev.stagedData (d : Dev) : Bool :=
  (d.data.writes.any fun w => w.state == .staged || w.live) || d.clasp.volumes.any fun v => !v.tail.isEmpty

/-- Medium work of the device itself or of commands, queued or running. -/
def Dev.mediumWork (d : Dev) : Bool :=
  !d.data.reads.isEmpty || (d.data.writes.any fun w => w.state != .verified && !d.inPartialRow w)
    || (List.finRange 16).any fun c => (d.chain c).rebuilding.isSome

/-- A kind that runs in P0 alone (R342). -/
def needsP0 (k : CalKind) : Bool := match k with | .converter => true | .trial => true | .focus => true | _ => false

/-- A Hallmark kind that needs P0 is queued or running on a head. -/
def Dev.calNeedsP0 (d : Dev) : Bool :=
  !d.hallmarkDead && allHeads.any fun h =>
    ((d.head h).hallmark.kinds.any fun k => needsP0 k && !d.kindEmpty h k) || (d.head h).hallmark.queued.any needsP0

/-- A Hallmark kind is running: one that may run in the present state. -/
def Dev.calRuns (d : Dev) : Bool :=
  allHeads.any fun h => match (d.head h).hallmark.kinds.head? with | some k => d.calAt h k | none => false

/-- The conditions of the step from P0 to P1. -/
def Dev.idleNow (d : Dev) : Bool := d.clasp.cmds.isEmpty && !d.mediumWork && !d.calNeedsP0

/-- The ladder acts: no level X (R437), no exit or step under way, and the step is not past MAX_STATE. -/
def Dev.ladderMay (d : Dev) (n : Nat) : Bool :=
  getF d .KP_STAT_DEV 0 != 2 && !d.power.exiting && d.power.downTo.isNone && decide (n ≤ getF d .PM_CFG_MAX_STATE 0)

/-- Every spindle is OFF at standstill; one in FAULT with LOW30 counts as such (R379, R437). -/
def Dev.spinsStopped (d : Dev) : Bool :=
  allSpins.all fun s => getB d .TQ_STAT_LOW30 s && (d.torcState s == 0 || d.torcState s == 10)

/-! ## Entering a state -/

/-- A new power state: fields that its Retention column does not list are lost (R15), and the waits of the ladder start again. -/
def Dev.setState (d : Dev) (n : Nat) : Dev :=
  let d := incF (setF d .PM_STAT_STATE 0 n) .PM_STAT_TRANSITIONS 0
  let d := d.modPower fun p => { p with idle := 0, inP1 := 0, inP2 := 0, deepest := n, spunDown := p.spunDown && n == 2 }
  if n = 0 then d else d.retainFields n

/-- A link goes down without a fault: the device holds it down (R376). -/
def Dev.linkRest (d : Dev) (l : LinkId) : Dev :=
  let d := (d.setLink l 0).modPort l fun p => { p with mbox := [], margin := none, retryWait := false, hk := [] }
  match l with
  | .head h =>
    let d := (setF ((d.facetVoid h).setSignal l false) .HM_STAT_RELEASED h 0).modCal h fun x => { x with relStep := 0, relMail := 0 }
    d.modHead h fun x => { x with
      motion := { lastLayer := x.motion.lastLayer }, loops := Vector.replicate 5 {}, before := Vector.replicate 5 {}
      down := { x.down with laserSet := 0, laserEn := false, wArm := 0, armReq := 0, stepN := 0, coil := 0, focDrv := 0, trkDrv := 0, tiltDrv := 0 } }
  | .spin _ => d.setSignal l false

/-- Every link is down. -/
def Dev.allLinksRest (d : Dev) : Dev :=
  let d := allHeads.foldl (fun d h => d.linkRest (.head h)) d
  allSpins.foldl (fun d s => d.linkRest (.spin s)) d

/-- Entry to P3 (R376, R379): Casket has drained, the accounts and the stage go to the journal (R361, R443), the links go down. -/
def Dev.enterP3 (d : Dev) : Dev :=
  let d := d.saveAccounts.stageDrain d.cameo.stage.length
  (d.modPower fun p => { p with downTo := none }).allLinksRest.setState 3

/-- What of a surface outlasts the loss of DRAM: the disc, what is written on it, and the accounts (R382). -/
def Surface.lostDram (s : Surface) : Surface :=
  { mount := if s.mount = .noDisc then .noDisc else .unmounted, discId := s.discId, generation := s.generation, genNext := s.genNext,
    written := s.written, pcaUsed := s.pcaUsed }

/-- The definition of a volume as the journal gives it, after its staged tail has been lost: the append position is the first sector
of the home sequence not yet written (R300). -/
def Dev.volumeAgain (d : Dev) (v : Volume) : Volume :=
  if !v.stream then { v with obj := none, voided := [], tail := [], tailComp := false, tailAge := 0 }
  else
    let k := d.volK v
    let isFree (n : Nat) : Bool := match d.locate v n with
      | some p => !(d.surf p.surf).written.contains p.psa
      | none => true
    let first := (List.range (v.seqLen * k)).find? isFree
    { v with appSector := first.getD (v.seqLen * k), appByte := 0, obj := none, voided := [], tail := [], tailComp := false, tailAge := 0 }

/-- What goes with DRAM and the queue pairs: staged data, the remap mirror, commands, rows in the making (R325, R382). -/
def Dev.loseDram (d : Dev) : Dev :=
  let vols := d.clasp.volumes.map d.volumeAgain
  { d with
    mem := { d.mem with
      dram := [], array := [], plru := [], merge := [], evict := [], waiting := [], drainWait := [], drainSet := []
      disabling := false, invalidating := false, p3Drain := false, noAlloc := false }
    filigree := {}
    data := { nextId := d.data.nextId }
    clasp := { Clasp.empty with volumes := vols, nextOrder := d.clasp.nextOrder }
    chains := d.chains.map fun c => { c with rows := [], rebuilds := [] }
    surfaces := d.surfaces.map Surface.lostDram }

/-- Entry to P4 (R379, R382): DRAM is lost; queue pairs and every field not listed with P4 hold their reset values. -/
def Dev.enterP4 (d : Dev) : Dev :=
  let d := d.saveAccounts.loseDram
  let log := d.clasp
  let d := { d with clasp := { log with log := [], logNext := 1 }, pcie := { d.pcie with linkUp := false, d3cold := true } }
  let d := allHeads.foldl (fun d h => d.modCal h fun x => { accounts := x.accounts, recSerial := x.recSerial }) d
  d.setState 4

/-- The steps below P2 at an M-tick boundary: from P2 the drain for P3 begins, and P3 is entered when it has ended; from P3, P4 once
the function is in D3hot with the PME_Turn_Off handshake done and MAX_STATE is 4. -/
def Dev.deepSteps (d : Dev) : Dev :=
  if d.power.downTo = some 3 then (if d.mem.p3Drain then d else if d.pState = 2 then d.enterP3 else d)
  else if d.pState = 2 ∧ d.ladderMay 3 ∧ d.spinsStopped ∧ !d.stagedData then
    (d.modPower fun p => { p with downTo := some 3 }).casketRest
  else if d.pState = 3 ∧ d.ladderMay 4 ∧ d.pcie.d3 ∧ d.pcie.turnedOff then d.enterP4
  else d

/-- P1_IDLE_EXPIRY (R379, R384): zero in D3hot. -/
def Dev.p1Idle (d : Dev) : Dev :=
  if d.pState = 0 ∧ d.ladderMay 1 ∧ d.idleNow ∧ (d.pcie.d3 ∨ getF d .PM_CFG_P1_IDLE 0 ≤ d.power.idle) then d.setState 1 else d

/-- P2_IDLE_EXPIRY (R379, R384): the heads go through SAFE_PARK to PARKED. -/
def Dev.p2Idle (d : Dev) : Dev :=
  if d.pState = 1 ∧ d.ladderMay 2 ∧ !d.calRuns ∧ (d.pcie.d3 ∨ 400 * getF d .PM_CFG_P2_IDLE 0 ≤ d.power.inP1) then
    (allHeads.foldl (fun d h => if opticalMode (d.mode h) ∨ d.mode h = 8 then d.modMotion h fun m => { m with wantSafe := true } else d) d).setState 2
  else d

/-- Rows and tails are padded as a FLUSH with ALL = 1 would (R284). -/
def Dev.padAll (d : Dev) (t : Nat) : Dev :=
  let d := (d.clasp.volumes.map (·.id)).foldl (fun d v => (d.padTail none false d.clasp.nextOrder (d.libNow t) v).1) d
  (List.finRange 16).foldl (fun d c => d.modChain c fun x => { x with rows := x.rows.map fun r => { r with needed := true } }) d

/-- SPINDOWN_EXPIRY (R379, R384): staged data are first written, in P0; then RUN goes to 0 for every spindle. -/
def Dev.spindown (d : Dev) (t : Nat) : Dev :=
  let wait := 24000 * (if d.pcie.d3 then getF d .PM_CFG_SPINDOWN_D3 0 else getF d .PM_CFG_SPINDOWN 0)
  if d.pState ≠ 2 ∨ !d.ladderMay 2 ∨ d.power.spunDown ∨ (!d.pcie.d3 ∧ wait = 0) ∨ d.power.inP2 < wait then d
  else if d.stagedData then (d.wake 6).padAll t
  else (allSpins.foldl (fun d s => d.writeRun t s false) d).modPower fun p => { p with spunDown := true }

/-- The M-tick of the ladder: the waits, device work that wakes (R380), the deep steps. -/
def Dev.ladderTick (d : Dev) : Dev :=
  let n := d.pState
  let idle := d.idleNow
  let d := d.modPower fun p => { p with
    idle := if n = 0 ∧ idle then p.idle + 1 else 0, inP1 := if n = 1 then p.inP1 + 1 else 0, inP2 := if n = 2 then p.inP2 + 1 else 0 }
  if 0 < n ∧ !d.power.exiting ∧ d.mediumWork then d.wake 6 else d.deepSteps

/-! ## Exits and the function's states (R380 to R384) -/

/-- On the exit from a state that its Retention column does not list a field holds its Reset value (R15), whatever the host wrote to it
in that state. What the device shows of itself it has kept since (log entry 73). -/
def Dev.leaveState (d : Dev) : Dev :=
  d.dropFields fun f => f.info.retention.through d.pState || !(f.info.access == .RW || f.info.access == .RWL || f.info.access == .RV)

/-- POWER_EXIT_DONE (R376, R381): the device is in P0, or in P2 after a bay event. -/
def Dev.exitDone (d : Dev) : Dev :=
  if !d.power.exiting then d
  else
    let n := if d.power.onlyP2 ∧ 3 ≤ d.pState then 2 else 0
    let d := if 4 ≤ d.pState then d.thermalRestart else d
    let d := d.modPower fun p => { p with exiting := false, onlyP2 := false, downTo := none }
    (d.leaveState.casketResume.setState n).ptmResume

/-- D3HOT_ENTRY (R384): the ladder then uses no idle times; commands run on. -/
def Dev.d3hot (d : Dev) : Dev :=
  if !d.pcie.linkUp ∨ d.pcie.d3 then d else setF { d with pcie := { d.pcie with d3 := true } } .PM_STAT_D3 0 1

/-- D0_RETURN (R384): the power state stays. -/
def Dev.d0Return (d : Dev) : Dev :=
  if !d.pcie.d3 then d
  else setF { d with pcie := { d.pcie with d3 := false, turnedOff := false, d3cold := false } } .PM_STAT_D3 0 0

/-- PME_TURN_OFF (R379): the handshake has completed in D3hot; in P3 with MAX_STATE 4 the device enters P4. -/
def Dev.pmeTurnOff (d : Dev) : Dev :=
  if !d.pcie.d3 then d else { d with pcie := { d.pcie with turnedOff := true } }.deepSteps

/-- A bay event in P3 or P4 (R380): the exit to P2, and the host's notification by MSI-X 1,024 in D0, by PM_PME in D3hot, by WAKE# in
D3cold. -/
def Dev.bayWake (d : Dev) : Dev :=
  if d.pState < 3 then d
  else
    let d := d.wakeBay
    if d.pcie.d3cold ∨ d.pcie.turnedOff then d.send .wakePin
    else if d.pcie.d3 then d.send .pme
    else { d with cameo := { d.cameo with notify := true, owed := true } }

/-- PERST_DEASSERT (R380, R421): a wake from P4; the function is then in D0 again. -/
def Dev.perstRise (d : Dev) : Dev :=
  if d.pState = 4 then
    (setF { d with pcie := { d.pcie with d3 := false, turnedOff := false, d3cold := false } } .PM_STAT_D3 0 0).wake 5
  else d

/-- P1_IDLE_EXPIRY. -/
def execP1IdleExpiry (s : State) : Out := run s fun d => d.p1Idle
/-- P2_IDLE_EXPIRY. -/
def execP2IdleExpiry (s : State) : Out := run s fun d => d.p2Idle
/-- SPINDOWN_EXPIRY. -/
def execSpindownExpiry (s : State) : Out := run s fun d => d.spindown s.dtime
/-- D3HOT_ENTRY. -/
def execD3hotEntry (s : State) : Out := run s fun d => d.d3hot
/-- PME_TURN_OFF. -/
def execPmeTurnOff (s : State) : Out := run s fun d => d.pmeTurnOff
/-- PM_CTL_WAKE. -/
def execPmCtlWake (s : State) : Out := run s fun d => d.wake 2
/-- POWER_EXIT_DONE. -/
def execPowerExitDone (s : State) : Out := run s fun d => d.exitDone
/-- D0_RETURN. -/
def execD0Return (s : State) : Out := run s fun d => d.d0Return
/-- BAY_WAKE. -/
def execBayWake (_sp : SpinId) (s : State) : Out := run s fun d => d.bayWake
/-- PERST_DEASSERT. -/
def execPerstDeassert (s : State) : Out := run s fun d => d.perstRise

end Sys2Proof.Machine
end

