-- ==== Sys2Proof/Machine/Image.lean ====
section
/-! DEFINITION. The image in NOR flash: the checks of the boot ROM (R406 to R411), its configuration records (R412, R413), the
fuses (R415, R416), the identity and the debug token (R417 to R420). -/

namespace Sys2Proof.Machine

/-! ## NOR (R407) -/

/-- Bytes of the NOR device; an erased byte reads 0xFF (log entry 5). -/
def Locket.read (l : Locket) (off n : Nat) : List Byte := (List.range n).map fun i => Sparse.get (fun _ => (0xFF : Byte)) l.nor (off + i)

/-- The first NOR offset of a slot. -/
def slotBase (slot : Nat) : Nat := slot * 0x4000000

/-- Bytes of a list from an offset. -/
def cut (bs : List Byte) (off n : Nat) : List Byte := (bs.drop off).take n

/-! ## Fuses (R415) -/

/-- An owner slot, 1 to 4, is spoiled: its hash area has a blown bit while OWNER_VALID is not blown. -/
def Locket.spoiled (l : Locket) (n : Nat) : Bool := !bit l.ownerValid (n - 1) && (l.ownerHash.getD (n - 1) []).any (· != 0)

/-- A key slot may be used (row 3 of R410). -/
def Locket.keyOk (l : Locket) (n : Nat) : Bool :=
  n == 0 || (decide (n ≤ 4) && bit l.ownerValid (n - 1) && !bit l.ownerRevoked (n - 1) && !l.spoiled n)

/-- The fused hash of a key slot. -/
def Locket.keyHash (l : Locket) (n : Nat) : List Byte := if n = 0 then l.rootHash else l.ownerHash.getD (n - 1) []

/-- LK_FUSE_STAT and LK_BOOT_STAT.ROLLBACK show the fuses. -/
def Dev.showFuses (d : Dev) : Dev :=
  let l := d.locket
  let bad := ((List.range 4).filter fun k => l.spoiled (k + 1)).foldl (fun a k => a + 2 ^ k) 0
  let d := setF (setB (setF d .LK_FUSE_STAT_LIFECYCLE 0 l.lifecycle) .LK_FUSE_STAT_DEBUG_DISABLE 0 l.debugDisable) .LK_FUSE_STAT_OWNER_VALID 0 l.ownerValid
  setF (setF (setF d .LK_FUSE_STAT_OWNER_REVOKED 0 l.ownerRevoked) .LK_FUSE_STAT_OWNER_SPOILED 0 bad) .LK_BOOT_STAT_ROLLBACK 0 l.rollback

/-- A FUSE record (R416): its operation, its slot or count, the hash to enrol. The image was signed with `key` at version `svn`. -/
def Locket.fuse (l : Locket) (key svn op n : Nat) (hash : List Byte) : Locket × Bool :=
  match op with
  | 1 =>
    if n = 0 ∨ 4 < n ∨ bit l.ownerValid (n - 1) ∨ l.spoiled n then (l, true)
    else ({ l with ownerHash := l.ownerHash.set (n - 1) hash, ownerValid := Nat.lor l.ownerValid (2 ^ (n - 1)) }, false)
  | 2 =>
    if n = 0 ∨ 4 < n ∨ n = key then (l, true) else ({ l with ownerRevoked := Nat.lor l.ownerRevoked (2 ^ (n - 1)) }, false)
  | 3 => if svn < n ∨ n ≤ l.rollback then (l, true) else ({ l with rollback := n }, false)
  | _ => ({ l with lifecycle := 1 }, false)

/-! ## The module table (R409) -/

/-- An entry of the module table. -/
structure ModEntry where
  type : Nat
  off : Nat
  len : Nat
  hash : List Byte
  /-- Its zero bytes are zero. -/
  clean : Bool
  /-- All its bytes are zero. -/
  empty : Bool
deriving DecidableEq, Repr

/-- Entry `i` of a header. -/
def modEntry (h : List Byte) (i : Nat) : ModEntry :=
  let b := cut h (1376 + 48 * i) 48
  ⟨leAt b 0 1, leAt b 4 4, leAt b 8 4, cut b 16 32, leAt b 1 3 == 0 && leAt b 12 4 == 0, b.all (· == 0)⟩

/-- The types of the firmware modules and of the records, each of which appears exactly once. -/
def neededTypes : List Nat := [1, 2, 3, 4, 5, 6, 0x10]

/-- The module table obeys R409. -/
def tableOk (h : List Byte) : Bool :=
  let n := leAt h 6 2
  let len := leAt h 8 4
  let es := (List.range n).map (modEntry h)
  decide (7 ≤ n) && decide (n ≤ 16) && decide (8192 ≤ len) && decide (len ≤ 0x4000000)
    && es.all (fun e => e.clean && e.off % 4096 == 0 && decide (8192 ≤ e.off) && decide (e.off + e.len ≤ len)
      && (neededTypes.contains e.type || (decide (0x30 ≤ e.type) && decide (e.type ≤ 0x3F))))
    && neededTypes.all (fun k => (es.filter (·.type == k)).length == 1)
    && (List.range n).all (fun i => (List.range i).all fun j =>
      let a := modEntry h i
      let b := modEntry h j
      decide (a.off + a.len ≤ b.off) || decide (b.off + b.len ≤ a.off))
    && ((List.range (16 - n)).all fun i => (modEntry h (n + i)).empty)

/-! ## Configuration records (R412, R413) -/

/-- The records of a module: TYPE and data; `none` when they do not end with TYPE 0xFFFF. -/
def parseRecords : Nat → List Byte → Option (List (Nat × List Byte))
  | 0, _ => none
  | fuel + 1, bs =>
    if bs.length < 2 then none
    else if leAt bs 0 2 = 0xFFFF then some []
    else
      let n := leAt bs 2 2
      if bs.length < 4 + n then none
      else (parseRecords fuel (bs.drop (4 + (n + 3) / 4 * 4))).map fun l => (leAt bs 0 2, cut bs 4 n) :: l

/-- Fields of a register that lie whole in bits [start + width − 1 : start] of it and take a value from the image. -/
def imageFields (r : Reg) (start width : Nat) : List Fld :=
  r.fields.filter fun f => decide (start ≤ f.info.lo) && decide (f.info.lo + f.info.width ≤ start + width) && (f.info.image || f.info.access == .RWL)

/-- An entry of a REGISTER record: keys and values, `none` when it fails. -/
def regEntry (bs : List Byte) : Option (List (Nat × Nat)) :=
  let wide := bit (leAt bs 0 4) 31
  let width := if wide then 64 else 32
  match regAt (leAt bs 0 4 % 2 ^ 31) with
  | none => none
  | some (r, i, k) =>
    let fs := imageFields r (8 * k) width
    let value (f : Fld) : Nat := leAt bs 4 8 / 2 ^ (f.info.lo - 8 * k) % 2 ^ f.info.width
    if fs.isEmpty ∨ k % (width / 8) ≠ 0 ∨ r.info.width < 8 * k + width ∨ (r == .FC_DEFECT_CFG && !recOk (leAt bs 4 8))
        ∨ !fs.all fun f => rangeOk f (value f) then none
    else some (fs.map fun f => (regKey f i, value f))

/-- Every element, or nothing. -/
def allSome {α : Type} (l : List (Option α)) : Option (List α) := l.foldr (fun x acc => match x, acc with | some a, some as => some (a :: as) | _, _ => none) (some [])

/-- What a register record sets. -/
def regRecord (data : List Byte) : Option (List (Nat × Nat)) :=
  if data.length % 12 ≠ 0 then none else (allSome ((chunks 12 data).map regEntry)).map List.flatten

/-- The LEN of a record fits its type, and a REGISTER record is well formed (R413). -/
def recordOk (r : Nat × List Byte) : Bool :=
  let n := r.2.length
  match r.1 with
  | 1 => n == 1
  | 2 => n == 20
  | 3 => n == 4
  | 4 => decide (2 ≤ n)
  | 5 => true
  | 0x10 => (regRecord r.2).isSome
  | 0x11 => n == 593 && decide (leAt r.2 16 1 < 12)
  | 0x20 =>
    let op := leAt r.2 0 1
    if op = 1 then n == 34 else decide (2 ≤ op) && decide (op ≤ 4) && n == 2
  | _ => false

/-- Keys and values entering the copy of the records; a later record wins. -/
def Locket.keep (l : Locket) (kv : List (Nat × Nat)) : Locket :=
  { l with image := kv.foldl (fun m p => Sparse.insert m p.1 p.2) l.image }

/-- Values of the image enter the copy, and the register file but for the fields that the reset which started the boot ROM has left
as they were (R13, R14). -/
def Dev.applyImage (d : Dev) (kv : List (Nat × Nat)) : Dev :=
  let kind : ResetKind := if getF d .SY_RESET_LAST 0 = 2 then .b else .c
  (kv.filter fun p => !(fldOf p.1).info.survives.through kind).foldl (fun d p => setF d (fldOf p.1) (p.1 / 1024) p.2)
    { d with locket := d.locket.keep kv }

/-- The writable fields of a law slot from its 576 bytes (R90). -/
def lawFields (h : HeadId) (slot : Nat) (bs : List Byte) : List (Nat × Nat) :=
  let n := slotIx h slot
  let regs : List (Reg × List Nat) :=
    [(.BZ_LAW_H0, [n]), (.BZ_LAW_H1, [n]), (.BZ_LAW_STRUCT, (List.range 16).map fun k => n * 16 + k),
      (.BZ_LAW_COEF, (List.range 80).map fun k => n * 80 + k)]
  let base := Reg.offset .BZ_LAW_H0 n
  regs.flatMap fun x => x.2.flatMap fun i =>
    (x.1.fields.filter fun f => f.info.access == .RW || f.info.access == .RV).map fun f =>
      (regKey f i, fieldOf f (leAt bs (x.1.offset i - base) (x.1.info.width / 8)))

/-- A LAW record (R413): the slot of every head in its map, committed under R108. -/
def Dev.lawRecord (d : Dev) (t : Nat) (data : List Byte) : Dev :=
  let slot := leAt data 16 1
  (allHeads.filter fun (h : HeadId) => bit (leAt data 0 16) h.val).foldl (fun d (h : HeadId) =>
    let d := (d.applyImage (lawFields h slot (cut data 17 576))).commit t h slot
    let i := slotIx h slot
    let shown := ([.BZ_LAW_H0_VALID, .BZ_LAW_H0_COST, .BZ_LAW_H0_NSTAGES] : List Fld).map fun f => (regKey f i, getF d f i)
    { d with locket := d.locket.keep shown }) d

/-- Applying a record (R413). The timing set of DRAM and the thermal record give no state of their own (log entry 48). -/
def Dev.applyRecord (d : Dev) (t : Nat) (r : Nat × List Byte) : Dev :=
  match r.1 with
  | 1 => d.applyImage [(regKey .SY_NODE_NODE_HI 0, leAt r.2 0 1 % 64)]
  | 2 =>
    d.applyImage ((List.range 4).map (fun w => (regKey .SY_POP_HEAD w, leAt r.2 (4 * w) 4)) ++ [(regKey .SY_POP_SPIN 0, leAt r.2 16 4)])
  | 3 => { d with pcie := { d.pcie with subVendor := leAt r.2 0 2, subsystem := leAt r.2 2 2 } }
  | 4 =>
    let w := leAt r.2 0 2 % 1024 * 2 ^ 22
    d.applyImage ((imageFields .MI_DRAM_CFG 22 10).map fun f => (regKey f 0, fieldOf f w))
  | 0x10 => d.applyImage ((regRecord r.2).getD [])
  | 0x11 => d.lawRecord t r.2
  | _ => d

/-! ## The checks of a slot (R410) -/

/-- The records of a slot's image. -/
def Locket.records (l : Locket) (slot : Nat) : Option (List (Nat × List Byte)) :=
  let b := slotBase slot
  let h := l.read b 4564
  match ((List.range (leAt h 6 2)).map (modEntry h)).find? (·.type == 0x10) with
  | none => none
  | some e => parseRecords (e.len + 1) (l.read (b + e.off) e.len)

/-- The first failing check of a slot, 0 when all nine pass. -/
def Locket.check (l : Locket) (slot : Nat) : Nat :=
  let b := slotBase slot
  let h := l.read b 4564
  let key := leAt h 14 1
  let es := (List.range (leAt h 6 2)).map (modEntry h)
  if leAt h 0 4 ≠ 0x4158494D ∨ leAt h 4 2 ≠ 1 then 1
  else if leAt h 15 1 ≠ 0xFF ∧ leAt h 15 1 ≠ 0x21 then 2
  else if !l.keyOk key then 3
  else if Config.sha3 (cut h 64 1312) ≠ l.keyHash key then 4
  else if leAt h 12 2 < l.rollback then 5
  else if !Config.mldsaVerify (cut h 64 1312) (h.take 2144) (cut h 2144 2420) then 6
  else if !tableOk h then 7
  else if !es.all fun e => Config.sha3 (l.read (b + e.off) e.len) == e.hash then 8
  else if !((l.records slot).any fun rs => rs.all recordOk) then 9
  else 0

/-- The FUSE records of an image, in order (R416); skipped ones are counted. -/
def Dev.runFuses (d : Dev) (key svn : Nat) (rs : List (Nat × List Byte)) : Dev :=
  let r := (rs.filter (·.1 == 0x20)).foldl (fun (a : Locket × Nat) x =>
    let y := a.1.fuse key svn (leAt x.2 0 1) (leAt x.2 1 1) (cut x.2 2 32)
    (y.1, if y.2 then a.2 + 1 else a.2)) (d.locket, 0)
  setF { d with locket := r.1 } .LK_FUSE_STAT_SKIPPED 0 (min 15 r.2)

/-- A slot has passed (R410, R421 step 7): fuses, records, journal; DRAM trains next. -/
def Dev.bootPassed (d : Dev) (t slot : Nat) : Dev :=
  let l := d.locket
  let h := l.read (slotBase slot) 4564
  let rs := (l.records slot).getD []
  let d := { d with locket := { l with
    stage := .dram, header := h, modules := ((List.range (leAt h 6 2)).map (modEntry h)).map fun e => ⟨e.type, e.hash⟩ } }
  let d := setF (setF (setF d .LK_BOOT_STAT_SLOT 0 slot) .LK_BOOT_STAT_KEY_SLOT 0 (leAt h 14 1)) .LK_BOOT_STAT_SVN 0 (leAt h 12 2)
  let d := (d.runFuses (leAt h 14 1) (leAt h 12 2) rs).showFuses
  let d := (rs.foldl (fun d r => d.applyRecord t r) d).fillBuckets
  { d with cameo := d.cameo.loadSeq, mem := { d.mem with noAlloc := getB d .CK_CTL_DISABLE 0 } }

/-- The FAIL field of a slot. -/
def failField (slot : Nat) : Fld := if slot = 0 then .LK_BOOT_STAT_FAIL0 else .LK_BOOT_STAT_FAIL1

/-- An access to the NOR may fail, for want of a response or by a bad xSPI CRC: whether it does is a free value (R410, R447; log entry
61). -/
def Dev.norFails (d : Dev) : Bool := (d.drawNat).1 % 2 == 1

/-- The code that the boot ROM records for a slot: 10 for a read error, or that of the first failing check. -/
def Dev.bootCode (d : Dev) (slot : Nat) : Nat := if d.norFails then 10 else d.locket.check slot

/-- The level of NV_RESET_N (R462). -/
def Dev.nvResetN (d : Dev) (t : Nat) : Bool := !(d.locket.nvLow || decide (t < d.locket.nvPulse))

/-- The boot ROM reads the NOR: NV_RESET_N rises (R462). -/
def Dev.nvRead (d : Dev) : Dev := d.modLocket fun l => { l with nvLow := false }

/-- BOOT_IMAGE_VERIFIED (R410, R411): slot 0, then slot 1, then recovery. -/
def Dev.bootSlot (d : Dev) (t : Nat) : Dev :=
  if d.locket.stage ≠ .rom then d
  else
    let d := d.nvRead
    let slot := if getF d .LK_BOOT_STAT_FAIL0 0 = 0 then 0 else 1
    let code := d.bootCode slot
    let d := (d.drawNat).2
    if code = 0 then d.bootPassed t slot
    else
      let d := setF d (failField slot) 0 code
      if slot = 0 then d else d.modLocket fun l => { l with stage := .recovery }

/-! ## Identity, attestation, debug (R417 to R420) -/

/-- DEVICE_ID. -/
def Locket.deviceId (l : Locket) : List Byte := Config.sha3 (Config.mldsaPublic l.idSeed)

/-- The attestation message (R419). -/
def Dev.attestation (d : Dev) (t : Nat) (nonce : List Byte) : List Byte :=
  let l := d.locket
  let boot := getF d .LK_BOOT_STAT_KEY_SLOT 0 % 8 + getF d .LK_BOOT_STAT_SLOT 0 * 8 + getF d .LK_BOOT_STAT_DEBUG 0 * 16
    + getF d .KP_STAT_PROFILE 0 * 32 + l.lifecycle % 4 * 64
  let mods := (List.range 16).flatMap fun i => match l.modules[i]? with
    | some m => BitVec.ofNat 8 m.type :: zeros 3 ++ (m.hash ++ zeros 32).take 32
    | none => zeros 36
  let owners := (List.range 4).flatMap fun k => ((l.ownerHash.getD k []) ++ zeros 32).take 32
  let flags := (List.range 4).map fun k => BitVec.ofNat 8 (b2n (bit l.ownerValid k) + 2 * b2n (bit l.ownerRevoked k))
  let body := bytesLE 4 0x54535441 ++ bytesLE 2 1 ++ bytesLE 2 3156 ++ (nonce ++ zeros 32).take 32 ++ bytesLE 8 t ++ bytesLE 2 d.node
    ++ [0x21, BitVec.ofNat 8 boot] ++ bytesLE 2 (getF d .LK_BOOT_STAT_SVN 0) ++ [BitVec.ofNat 8 l.rollback] ++ zeros 9
    ++ l.deviceId ++ Config.sha3 l.header ++ mods
    ++ Config.sha3 ((l.rootHash ++ zeros 32).take 32 ++ owners ++ flags)
  body ++ Config.mldsaSign l.idSeed body

/-- ATTEST (R418): page 0 the message of the nonce at DPTR, page 1 the identity area. -/
def Dev.attest1 (d : Dev) (t tag : Nat) (host : List Byte) : Dev :=
  match d.admin? tag 0x1A with
  | none => d
  | some c =>
    let page := bits c.e.arg 7 0
    let area := d.locket.read 0x8000000 (4 + leAt (d.locket.read 0x8000000 4) 0 4)
    let need := if page = 0 then 3156 else area.length
    if 1 < page ∨ c.e.len < need then d.complete t c 0x1002 0
    else if !c.listReady need then d
    else d.adminOut t c (if page = 0 then d.attestation t (host.take 32) else area) 0

/-- DEBUG_TOKEN (R420). -/
def Dev.debugToken (d : Dev) (tok : List Byte) : Dev :=
  let l := d.locket
  let key := leAt tok 4 1
  let ok := !l.debugDisable && tok.length == 3804 && leAt tok 0 4 == 0x4B4F5444 && leAt tok 6 2 == 0
    && cut tok 8 32 == l.deviceId && cut tok 40 32 == l.challenge && l.keyOk key
    && Config.sha3 (cut tok 72 1312) == l.keyHash key && Config.mldsaVerify (cut tok 72 1312) (tok.take 1384) (cut tok 1384 2420)
  let p := leAt tok 5 1 % 4
  if ok then setF (d.modLocket fun l => { l with perms := Nat.lor l.perms (if d.strict then p / 2 * 2 else p) }) .LK_BOOT_STAT_DEBUG 0 1 else d

/-- LOCK (R406, R414): in factory mode, once the cores have been released. -/
def Dev.lockWrite (d : Dev) : Dev :=
  if d.locket.factory ∧ (d.locket.stage = .cores ∨ d.locket.stage = .links ∨ d.locket.stage = .done) then setF d .LK_BOOT_STAT_LOCKED 0 1 else d

/-- BOOT_IMAGE_VERIFIED. -/
def execBootImageVerified (s : State) : Out := run s fun d => d.bootSlot s.dtime
/-- ATTEST. -/
def execAttest (tag : Nat) (host : List Byte) (s : State) : Out := run s fun d => d.attest1 s.dtime tag host
/-- DEBUG_TOKEN. -/
def execDebugToken (token : List Byte) (s : State) : Out := run s fun d => d.debugToken token
/-- LOCK. -/
def execLock (s : State) : Out := run s fun d => d.lockWrite

end Sys2Proof.Machine
end

