-- ==== Sys2Proof/Machine/MemErr.lean ====
section
/-! DEFINITION. What the check of a line finds (R329 to R336): correction by the class of the data, what cannot be corrected, the
scrubber, hard faults and the remap tables. -/

namespace Sys2Proof.Machine

/-! ## Check bits (R326, R328, R329) -/

/-- The odd parity of a byte: 1 when an even number of its bits are 1. -/
def oddParity (b : Byte) : Bool := ((List.range 8).filter fun i => b.getLsbD i).length % 2 == 0

/-- PARITY of the bytes of a line, bit i that of byte i (R328). -/
def parityWord : List Byte → Nat
  | [] => 0
  | b :: l => b2n (oddParity b) + 2 * parityWord l

/-- The 256 check bits of a DRAM line (R328): PARITY, LCRC, LTAG, and Reserved bits of 0. The array holds the first two (R326). -/
def lineCheckBits (line : Nat) (bs : List Byte) : Nat :=
  parityWord bs + crc32c bs * 2 ^ 128 + line % 2 ^ 31 * 2 ^ 160

/-- The data bytes read when bits of a line are flipped: bit b of byte n is number 8 × n + b, check bit n is number 1,024 + n. -/
def flipData (flips : List Nat) (bs : List Byte) : List Byte :=
  (List.range 128).map fun i => flips.foldl (fun b n => if n / 8 = i then b ^^^ BitVec.twoPow 8 (n % 8) else b) (bs.getD i 0)

/-- The check bits read. -/
def flipCheck (flips : List Nat) (c : Nat) : Nat := flips.foldl (fun c n => if 1024 ≤ n then Nat.xor c (2 ^ (n - 1024)) else c) c

/-- The bytes whose parity fails. -/
def badParity (bs : List Byte) (c : Nat) : List Nat := (List.range 128).filter fun i => oddParity (bs.getD i 0) != bit c i

/-- The check that a line fails, as MI_LAST_ERR.CHECK names it: LTAG, the reserved bits, PARITY, then LCRC (R329); 0 when all pass. -/
def lineVerdict (line : Nat) (bs : List Byte) (c : Nat) : Nat :=
  if bits c 190 160 ≠ line % 2 ^ 31 then 1
  else if bits c 255 191 ≠ 0 then 2
  else if !(badParity bs c).isEmpty then 3
  else if bits c 159 128 ≠ crc32c bs then 4
  else 0

/-- The check that a line read from a memory fails when bits of it are flipped. The array and the other SRAM have parity and a CRC
alone (R326). -/
def flipVerdict (dram : Bool) (line : Nat) (bs : List Byte) (flips : List Nat) : Nat :=
  let l := if dram then flips else flips.filter fun n => decide (n < 1184)
  lineVerdict line (flipData l bs) (flipCheck l (lineCheckBits line bs))

/-! ## Correction by class (R330 to R333) -/

/-- A read begins again from its first read (R204, R330). -/
def Dev.readAfresh (d : Dev) (id : Nat) : Dev :=
  let d := match d.read? id with
    | some r => match d.rebuildOf r with
      | some b => d.dropRebuild r.chain b
      | none => d
    | none => d
  let d := d.modData fun x => { x with
    queue := x.queue.filter (·.1 != id), hold := x.hold.filter (·.1 != id), onRecovery := x.onRecovery.filter (·.1 != id) }
  (setF d .LD_POOL_HOLD_USED 0 d.holdUsed).modRead id fun r => { r with
    step := 0, point := 0, wantRead := true, age := none, cap := [], found := none, frame := none, ambig := false
    words := List.replicate 17 none, open_ := [], soft := [], stored := [], bads := [], convF := [], convP := [], blankOnce := false
    blank := false, psaMiss := 0, slow := false, held := false }

/-- The step that made soft values is repeated (R330): the sector is read again at that step. -/
def Dev.softAgain (d : Dev) (id : Nat) : Dev :=
  let d := d.modData fun x => { x with
    queue := x.queue.filter (·.1 != id), hold := x.hold.filter (·.1 != id), onRecovery := x.onRecovery.filter (·.1 != id) }
  (setF d .LD_POOL_HOLD_USED 0 d.holdUsed).modRead id fun r => { r with
    step := min 4 r.step, wantRead := true, cap := [], open_ := [], soft := [], bads := [] }

/-- The lost-sector list takes a sector (R333); with 16,384 entries held, its volume's reads are all lost. -/
def Dev.addLost (d : Dev) (t vol pos : Nat) : Dev :=
  if d.mem.lost.contains (vol, pos) then d
  else if 16384 ≤ d.mem.lost.length then
    (d.modMem fun m => { m with lostOver := if m.lostOver.contains vol then m.lostOver else m.lostOver ++ [vol] }).event t .MI_LOST_FULL 0 []
  else d.modMem fun m => { m with lost := m.lost ++ [(vol, pos)] }

/-- The sector's staging is freed: an open row's position becomes free for a filler, a closed one's is written as filler (R332). -/
def Dev.freeStaging (d : Dev) (w : WriteJob) : Dev :=
  match d.rowOf w with
  | some r =>
    if r.closed ∧ !r.ovr then
      d.modWrite w.id fun w => { w with kind := 0x20, flags := 0, epoch := 1, data := zeros sectorBytes, owner := none }
    else (d.leaveRow w).dropWrite w.id
  | none =>
    if w.live then (d.stopSpots w.head fun x => x.id == w.id).modWrite w.id fun w => { w with cancelled := true }
    else d.dropWrite w.id

/-- Staged data of a completed command are lost (R332). -/
def Dev.loseSector (d : Dev) (t : Nat) (w : WriteJob) : Dev :=
  let d := d.event t .MI_STAGED_LOST 0 [w.volume, w.logical % 2 ^ 32, w.logical / 2 ^ 32]
  let e : LogEntry := ⟨d.clasp.logNext, 0xFFFF, 0xFFFF, 0x3010, w.opc, w.volume, 0, t, Event.MI_STAGED_LOST.code,
    [⟨w.logical, 0x3010, 0⟩], false⟩
  ((d.addLog [e]).addLost t w.volume w.logical).freeStaging w

/-- The part of a list of descriptors from byte `off` on. -/
def sliceDesc : List (Nat × Nat) → Nat → List (Nat × Nat)
  | [], _ => []
  | (a, n) :: l, off => if n ≤ off then sliceDesc l (off - n) else (a + off, n - off) :: l

/-- The refetch of a sector of a WRITE from the host's buffer (R330). -/
def Dev.refetch (d : Dev) (c : Cmd) (w : WriteJob) : Dev :=
  if c.e.opc ≠ 0x21 then d
  else
    let desc := if c.e.sgl then c.list.desc else [(c.e.dptr, c.total * sectorBytes)]
    (readReqs (sliceDesc desc ((w.logical - c.e.addr) * sectorBytes)) sectorBytes).foldl Dev.send d

/-- The core of a local memory traps (R331): its unit's own failure follows. -/
def Dev.coreTrap (d : Dev) (t core : Nat) : Dev :=
  if core < 32 then d.bezelFail t (Fin.ofNat 32 core)
  else if core < 36 then d.torcFail t (Fin.ofNat 4 (core - 32))
  else if core < 42 then d.coreLost t (.clasp (Fin.ofNat 6 (core - 36)))
  else if core < 44 then d.coreLost t (.hallmark (Fin.ofNat 2 (core - 42)))
  else if core < 46 then d.coreLost t (.crown (Fin.ofNat 2 (core - 44)))
  else d.keeperFail t

/-- Correction by the class of the data (R330): OUTCOME, whether the line was corrected, the device. `line`: a line of DRAM or of the
array; `good`: the second copy, the refetch or the recomputation was good. -/
def Dev.restoreClass (d : Dev) (t : Nat) (line : Option Nat) (region : Region) (good : Bool) : Nat × Bool × Dev :=
  match region with
  | .coreMemory core => if good then (0, true, d) else (3, false, d.coreTrap t core)
  | .metadata cmds =>
    if good then (0, true, d)
    else
      let d := d.event t .MI_UNCORRECTABLE 0 []
      let d := cmds.foldl (fun d x => d.finish t x.1 x.2 0x7003 Event.MI_UNCORRECTABLE.code) d
      ((d.drawNat).1 % 256, false, (d.drawNat).2)
  | .readStaging job => (2, true, d.readAfresh job)
  | .softStore job => (1, true, d.softAgain job)
  | .parity _ _ => (1, true, d)
  | .free =>
    match line with
    | some l => (6, true, d.modMem fun m => m.write t ⟨l, fullMask, zeros 128, true⟩)
    | none => (6, true, d)
  | .trace =>
    let d := d.event t .MI_UNCORRECTABLE 0 []
    ((d.drawNat).1 % 256, false, (d.drawNat).2)
  | .writeStaging id =>
    match d.write? id with
    | none => (6, true, d)
    | some w =>
      match w.owner.bind fun x => d.cmd? x.1 x.2 with
      | some c => if good then (0, true, d.refetch c w) else (4, false, d.finish t c.qid c.e.tag 0x3003)
      | none =>
        if w.state = .verified then (6, true, d)
        else if (d.rowOf w).any (·.made) ∧ good then (1, true, d)
        else (5, false, d.loseSector t w)

/-! ## Hard faults (R335, R336) -/

/-- The location went bad before, within HARD_WINDOW. -/
def Dev.badBefore (d : Dev) (t memory loc : Nat) : Bool :=
  d.mem.past.any fun p => p.memory == memory && p.loc == loc
    && decide (t - p.dtime ≤ 3600000000000 * getF d .MI_SCRUB_CFG_HARD_WINDOW 0)

/-- A place for a spare is left: 8 lines of a group, 64 pages of DRAM. -/
def Mem.spareLeft (m : Mem) (memory group : Nat) : Bool :=
  if memory = 2 then decide (m.sparePages.length < 64) else decide ((m.spareLines.filter (·.1 == group)).length < 8)

/-- A hard fault (R335, R336); each remap is an ageing sample (R359). `loc` names the way of an array line as 16 × set + way, the line of another SRAM group, a DRAM
page; a location that a spare replaces has no past. -/
def Dev.hardFault (d : Dev) (t memory group loc : Nat) (staging : Bool) : Dev :=
  let d := d.event t .MI_HARD_FAULT 0 []
  if d.mem.spareLeft memory group then
    let d := d.modMem fun m =>
      let m : Mem := { m with past := m.past.filter fun p => !(p.memory == memory && p.loc == loc) }
      if memory = 2 then { m with sparePages := m.sparePages ++ [loc] } else { m with spareLines := m.spareLines ++ [(group, loc)] }
    if memory = 2 then d.sample t .device 2 d.mem.sparePages.length else d.sample t .device 3 d.mem.sparesMax
  else
    let d := d.event t .MI_REMAP_FULL 0 []
    if memory = 0 then d.modMem fun m => { m with
      deadWays := m.deadWays ++ [(loc / 16, loc % 16)], array := m.array.filter fun a => !(a.set == loc / 16 && a.way == loc % 16) }
    else if memory = 2 ∧ staging then d.modMem fun m => { m with withdrawn := if m.withdrawn.contains loc then m.withdrawn else m.withdrawn ++ [loc] }
    else d

/-- What is not corrected is a trap, a DMA halt or a loss (R339). -/
def countsUncorr (r : Region) : Bool := match r with | .coreMemory _ => true | .writeStaging _ => true | _ => false

/-- Staging: a withdrawn page, rather than an uncorrectable error (R336). -/
def stagingData (r : Region) : Bool := match r with | .readStaging _ => true | .writeStaging _ => true | .parity _ _ => true | _ => false

/-- A bad line (R329 to R336). `check`: the check that failed; `held`: a source of the first list of R330 holds it whole and good;
`good` and `again` as found. It answers whether the line was corrected. -/
def Dev.badLine (d : Dev) (t memory group loc addr : Nat) (region : Region) (check : Nat) (held good again : Bool) : Bool × Dev :=
  let before := d.badBefore t memory loc
  let hard := again || before
  let spoilt := hard && !d.mem.spareLeft memory group && memory != 0 && !(memory == 2 && stagingData region)
  let r : Nat × Bool × Dev := if held && !spoilt then (0, true, d) else d.restoreClass t (if memory = 1 then none else some (addr / 128)) region (good && !spoilt)
  let d := r.2.2
  let d := if r.2.1 then incF d (if memory = 0 then .MI_ERR_ARRAY_FIX else if memory = 1 then .MI_ERR_SRAM_FIX else .MI_ERR_DRAM_FIX) 0 else d
  let d := if countsUncorr region ∧ !r.2.1 then incF d .MI_ERR_UNCORR 0 else d
  let d := setF (setF (setF d .MI_LAST_ERR_MEMORY 0 memory) .MI_LAST_ERR_CHECK 0 check) .MI_LAST_ERR_GROUP 0 (if memory = 2 then 0 else group)
  let d := setF (setF d .MI_LAST_ERR_OUTCOME 0 r.1) .MI_LAST_ERR_ADDR 0 addr
  let d := d.modMem fun m => { m with past := (m.past.filter fun p => !(p.memory == memory && p.loc == loc)) ++ [⟨memory, loc, t⟩] }
  (r.2.1, if before || (again && (r.2.1 || spoilt)) then d.hardFault t memory group loc (stagingData region) else d)

/-! ## Reads and the scrubber (R318, R334) -/

/-- The buffers hold a whole line. -/
def Mem.buffered (m : Mem) (line : Nat) : Bool := (m.evict? line).isSome || (m.merge? line).any fun e => e.mask.all id

/-- A bad array line: restored from the buffers or from DRAM when its copy there is good, or invalidated and left to its class. -/
def Dev.badArray (d : Dev) (t : Nat) (a : ArrLine) (region : Region) (check : Nat) (copy good again : Bool) : Dev :=
  let held := d.mem.buffered a.line || copy
  let bytes := d.mem.overMerge a.line (d.mem.fill a.line)
  let d := d.modMem fun m => { m with
    array := if held then m.array.map fun x => if x.line = a.line then { x with bytes } else x else m.array.filter (·.line != a.line) }
  (d.badLine t 0 (Config.arrayGroup a.set a.way % 64) (a.set * 16 + a.way) (a.line * 128) region check held good again).2

/-- CASKET_READ: the line is served from the newest sources and checked where it is read from. A bad line is never used as data. -/
def Dev.casketRead (d : Dev) (t line : Nat) (region : Region) (ecc : LineCheck) : Dev :=
  if (d.mem.evict? line).isSome then d.modMem fun m => m.readLine line
  else
    match ecc, d.mem.hit? line with
    | .good, _ => d.modMem fun m => m.readLine line
    | .bad flips copy good again, some a =>
      let check := flipVerdict false line a.bytes flips
      let d := d.modMem fun m => m.readLine line
      if check = 0 then d.modMem fun m => { m with
        array := m.array.map fun x => if x.line = line then { x with bytes := flipData flips x.bytes } else x }
      else d.badArray t a region check copy good again
    | .bad flips _ good again, none =>
      let check := flipVerdict true line (d.mem.dramLine line) flips
      if check = 0 then d.modMem fun m => m.readLineAs line (flipData flips (m.dramLine line))
      else
        let r := d.badLine t 2 0 (line / 32) (line * 128) region check (d.mem.buffered line) good again
        if r.1 then r.2.modMem fun m => m.readLine line else r.2

/-- A cause of R320 lets an entry of the merging buffer drain: its mask is full, it has been held for MB_AGE, it is the oldest that
does not wait already while the buffer holds more than MB_HIGH, or a disable or an entry to P3 drains it. -/
def Dev.drainDue (d : Dev) (t : Nat) (e : BufLine) : Bool :=
  e.mask.all id || !tooSoon t e.since (100 * getF d .CK_CTL_MB_AGE 0)
    || (decide (getF d .CK_CTL_MB_HIGH 0 < d.mem.merge.length)
      && (d.mem.merge.find? fun x => !d.mem.drainWait.contains x.line).any fun x => x.line == e.line)
    || d.mem.drainSet.contains e.line || d.mem.drainWait.contains e.line

/-- The drain of an entry, and the acceptance of what waited for its room (R319). -/
def Dev.drainMb (d : Dev) (t line : Nat) (fill : List Byte) : Dev :=
  d.modMem fun m => let n := m.drainOver line fill; Mem.admitWaiting t n.waiting.length n

/-- MB_DRAIN (R320, R329): an entry that no cause lets drain stays. A partial entry that neither the array nor the eviction buffer
completes takes a fill of DRAM, checked for the unmasked bytes alone: bad bytes under the mask are replaced; a line that cannot
be corrected is not used, and the entry stays. -/
def Dev.mbDrain (d : Dev) (t line : Nat) (region : Region) (ecc : LineCheck) : Dev :=
  match d.mem.merge? line with
  | none => d
  | some e =>
    if !d.drainDue t e then d
    else
      match ecc with
      | .good => d.drainMb t line (d.mem.fill line)
      | .bad flips _ good again =>
        if e.mask.all id || (d.mem.hit? line).isSome || (d.mem.evict? line).isSome then d.drainMb t line (d.mem.fill line)
        else
          let old := d.mem.dramLine line
          let new := flipData flips old
          let check := flipVerdict true line old flips
          if check = 0 ∨ (check = 3 ∧ (badParity new (flipCheck flips (lineCheckBits line old))).all fun i => e.mask.getD i false) then
            d.drainMb t line new
          else
            let r := d.badLine t 2 0 (line / 32) (line * 128) region check false good again
            if r.1 then r.2.drainMb t line (r.2.mem.fill line) else r.2

/-- A bad line that the scrubber found; what a memory other than Casket's array holds does not change the check that flipped bits
fail. -/
def Dev.scrubLine (d : Dev) (t : Nat) (memory : Fin 3) (b : BadLine) : Dev :=
  match memory with
  | 0 =>
    match d.mem.array.find? fun a => a.set * 16 + a.way == b.loc with
    | some a =>
      let check := flipVerdict false a.line a.bytes b.flips
      if check = 0 then d else d.badArray t a b.region check b.copy b.restored b.again
    | none => d
  | 1 =>
    let check := flipVerdict false 0 (zeros 128) b.flips
    if check = 0 then d
    else (d.badLine t 1 b.group (b.group * 2 ^ 32 + b.loc) (b.loc * 128) b.region check false b.restored b.again).2
  | 2 =>
    let check := flipVerdict true b.loc (d.mem.dramLine b.loc) b.flips
    if (d.mem.evict? b.loc).isSome ∨ check = 0 then d
    else (d.badLine t 2 0 (b.loc / 32) (b.loc * 128) b.region check ((d.mem.buffered b.loc) || (d.mem.hit? b.loc).isSome) b.restored b.again).2

/-- SCRUB_PASS: one pass of a memory. -/
def Dev.scrubPass (d : Dev) (t : Nat) (memory : Fin 3) (bad : List BadLine) : Dev :=
  let d := bad.foldl (fun d b => d.scrubLine t memory b) d
  match memory with
  | 0 => incF d .MI_SCRUB_STAT_CK_PASSES 0
  | 1 => incF d .MI_SCRUB_STAT_SRAM_PASSES 0
  | 2 => incF d .MI_SCRUB_STAT_DRAM_PASSES 0

/-- CASKET_READ. -/
def execCasketRead (line : Nat) (region : Region) (ecc : LineCheck) (s : State) : Out :=
  onLine s line fun d => d.casketRead s.dtime line region ecc
/-- MB_DRAIN. -/
def execMbDrain (line : Nat) (region : Region) (ecc : LineCheck) (s : State) : Out :=
  onLine s line fun d => d.mbDrain s.dtime line region ecc
/-- SCRUB_PASS. -/
def execScrubPass (memory : Fin 3) (bad : List BadLine) (s : State) : Out := run s fun d => d.scrubPass s.dtime memory bad

end Sys2Proof.Machine
end

