-- ==== Sys2Proof/Machine/Resets.lean ====
section
/-! DEFINITION. The reset kinds and the rest of start-up (R405, R421 to R428): power on, RESET_N, host resets, SOFT_RESET,
configuration requests. -/

namespace Sys2Proof.Machine

/-! ## Kinds C and B (R423 to R425) -/

/-- The boot ROM starts under the straps (R405, R406, R411). -/
def Dev.bootStart (d : Dev) : Dev :=
  let l := d.locket
  if l.strapBoot = 2 then d.modLocket fun l => { l with stage := .recovery }
  else if l.strapBoot = 3 ∧ l.lifecycle = 1 then
    (setF (setF d .LK_BOOT_STAT_FAIL0 0 11) .LK_BOOT_STAT_FAIL1 0 11).modLocket fun l => { l with stage := .recovery }
  else d.modLocket fun l => { l with stage := .rom, factory := l.strapBoot == 3 }

/-- The straps as registers show them (R19, R402). -/
def Dev.showStraps (d : Dev) : Dev :=
  setF (setF d .SY_NODE_NODE_LO 0 d.locket.strapNode) .KP_STAT_PROFILE 0 (b2n d.locket.strapSafe)

/-- A 32-byte challenge, a free value of each C and B (R420). -/
def Dev.newChallenge (d : Dev) : Dev :=
  let a := d.drawNat
  a.2.modLocket fun l => { l with challenge := bytesLE 32 a.1 }

/-- A reset of kind C or B: what the journal, the fuses, NOR and the straps hold stays, with the discs and what is written on them;
all else is as after power on (R424, R428). -/
def Dev.boardReset (d : Dev) (kind : ResetKind) : Dev :=
  let d := d.loseDram.modLocket fun l => { l with
    stage := .off, image := [], header := [], modules := [], perms := 0, factory := false, nvLow := true, nvPulse := 0 }
  let d := d.resetFields kind
  let chains : Vector Chain 16 := d.chains.map fun c => { complete := c.complete, degraded := c.degraded, epochs := c.epochs }
  let heads : Vector Head 128 := d.heads.map fun h =>
    { link := { port := { stored := h.link.port.stored } } }
  let spindles : Vector Spindle 32 := d.spindles.map fun s =>
    { link := { port := { stored := s.link.port.stored } } }
  let mem : Mem := { d.mem with past := [], deadWays := [], withdrawn := [] }
  let cameo : Cameo := 
    { journal := d.cameo.journal, seqJournal := d.cameo.seqJournal, stopped := d.cameo.stopped, stopDrops := d.cameo.stopDrops }
  let clasp := { Clasp.empty with volumes := d.clasp.volumes }
  let d : Dev := {
    freeIdx := d.freeIdx, regs := d.regs, lifeClock := d.lifeClock, mLast := if kind = .c then none else d.mLast, hostOut := d.hostOut, locket := d.locket, surfaces := d.surfaces
    cameo := cameo.loadSeq, mem, clasp, chains, heads, spindles }
  (setF d.loadAccounts .SY_RESET_LAST 0 (if kind = .c then 1 else 2)).newChallenge.showStraps.showFuses.bootStart

/-- COLD_POWER_ON (R405, R455): the straps are sampled. -/
def Dev.coldOn (d : Dev) (x : Straps) : Dev :=
  (d.modLocket fun l => { l with
    strapBoot := x.boot, strapWidth := b2n x.width, strapNode := x.node, strapSafe := x.safe }).boardReset .c

/-- A board reset of kind B: by the pin, or by the core supply supervisor (R397, R424). -/
def Dev.boardAgain (d : Dev) (supply : Bool) : Dev :=
  if d.locket.stage = .off then d else setB (d.boardReset .b) .SY_RESET_SUPPLY 0 supply

/-! ## Start-up after the image (R421, R422) -/

/-- DRAM_TRAINING_DONE: the cores are released and the start-up lock is set, unless factory mode waits for LOCK (R406, R414). -/
def Dev.dramTrained (d : Dev) : Dev :=
  if d.locket.stage ≠ .dram then d
  else
    let d := d.modLocket fun l => { l with stage := .cores }
    if d.locket.factory then d else setF d .LK_BOOT_STAT_LOCKED 0 1

/-- Every link whose companion is seen begins its bring-up (R78). -/
def Dev.startLinks (d : Dev) : Dev :=
  let start (d : Dev) (l : LinkId) : Dev := if d.signal? l ∧ d.mayBringUp l then d.startBringUp l else d
  let d := allHeads.foldl (fun d h => start d (.head h)) d
  allSpins.foldl (fun d s => start d (.spin s)) d

/-- CORE_SELF_TEST_DONE: the Bezels that failed are failed (R252), links come up; a device booted after recovery says so. -/
def Dev.selfTested (d : Dev) (t : Nat) (failed : List BezelId) : Dev :=
  if d.locket.stage ≠ .cores then d
  else
    let d := (failed.foldl (fun d b => d.bezelFail t b) d).modLocket fun l => { l with stage := .links }
    let d := match d.mgmt.slot with
      | some slot => if getB d .LK_BOOT_STAT_RECOVERY 0 then d.event t .MG_RECOVERY_WRITE 0 [slot, getF d .LK_BOOT_STAT_SVN 0] else d
      | none => d
    d.startLinks

/-- STARTUP_COMPLETE. -/
def Dev.startupDone (d : Dev) : Dev := if d.locket.stage = .links then d.modLocket fun l => { l with stage := .done } else d

/-- PCIE_LINK_UP: L0. -/
def Dev.pcieUp (d : Dev) (t : Nat) : Dev :=
  if d.locket.stage = .off then d else { d with pcie := { d.pcie with linkUp := true, l0 := d.pcie.l0.or (some t) } }.ptmResume

/-- Configuration requests complete normally: start-up has ended and the link has been in L0 for 1 ms (R422), or 5 ms after a reset of
kind H (R425). -/
def Dev.configReady (d : Dev) (t : Nat) : Bool :=
  d.locket.stage == .done && d.pcie.l0.any fun (n : Nat) => decide (n + (if d.pcie.afterH then 5000000 else 1000000) ≤ t)

/-- What R257 and R258 state of a doubleword of a capability: the bits stated, and their values. The places of the fields are those of PCI
Express (PRESUMED, log entry 51): no D1 or D2, PME from D3hot and D3cold; 1,025 MSI-X vectors at 0x30_0000 and the pending bits at 0x31_0000
of BAR0; an endpoint of 512 B payloads with function-level reset, 32 GT/s, STRAP_WIDTH and ASPM L1 alone, 10-bit tags and no TPH; a PTM
requester alone; L1.1 and L1.2. -/
def Dev.capStated (d : Dev) (k off : Nat) : Nat × Nat :=
  match k, off with
  | 0, 0 => (0xFE0000FF, 0xC0000001)
  | 1, 0 => (0x07FF00FF, 1024 * 2 ^ 16 + 0x11)
  | 1, 1 => (2 ^ 32 - 1, 0x300000)
  | 1, 2 => (2 ^ 32 - 1, 0x310000)
  | 2, 0 => (0x00F000FF, 0x10)
  | 2, 1 => (0x10000007, 0x10000002)
  | 2, 3 => (0xFFF, 5 + (if d.locket.strapWidth = 0 then 16 else 8) * 2 ^ 4 + 2 * 2 ^ 10)
  | 2, 9 => (0x33000, 0x30000)
  | 2, 11 => (0xFE, 0x3E)
  | 3, 0 => (0xFFFF, 0x1)
  | 4, 0 => (0xFFFF, 0x1F)
  | 4, 1 => (0x7, 0x1)
  | 5, 0 => (0xFFFF, 0x1E)
  | 5, 1 => (0x1C, 0x1C)
  | _, _ => (0, 0)

/-- What R3 and R257 state of a doubleword of configuration space: vendor and device; capabilities are listed; class and revision; a
single-function endpoint's header; BAR0 of 64 bits and 64 MiB, not prefetchable; BAR2 of 64 bits and 64 GiB, prefetchable; no BAR4, BAR5 or
expansion ROM; the subsystem; Interrupt Pin 0; the capabilities. -/
def Dev.configStated (d : Dev) (reg : Nat) : Nat × Nat :=
  match reg with
  | 0 => (2 ^ 32 - 1, 0xA1281F3D)
  | 1 => (2 ^ 20, 2 ^ 20)
  | 2 => (2 ^ 32 - 1, 0x01800021)
  | 3 => (0x00FF0000, 0)
  | 4 => (0x03FFFFFF, 0x4)
  | 6 => (2 ^ 32 - 1, 0xC)
  | 7 => (0xF, 0)
  | 8 | 9 | 12 => (2 ^ 32 - 1, 0)
  | 11 => (2 ^ 32 - 1, d.pcie.subVendor + d.pcie.subsystem * 65536)
  | 15 => (0x0000FF00, 0)
  | _ =>
    let at_ (k : Nat) : Option (Nat × Nat) :=
      let p := Config.capPlace k
      if 16 ≤ p ∧ p ≤ reg ∧ (d.capStated k (reg - p)).1 ≠ 0 then some (d.capStated k (reg - p)) else none
    ((List.range 6).findSome? at_).getD (0, 0)

/-- A doubleword of configuration space: the bits that the manual states; every other bit is a free value. -/
def Dev.configWord (d : Dev) (reg : Nat) : Nat × Dev :=
  let x := d.configStated reg
  let w := (d.drawNat).1 % 2 ^ 32
  (Nat.lor x.2 (w - Nat.land w x.1), (d.drawNat).2)

/-- CONFIG_REQUEST. -/
def Dev.configRead (d : Dev) (t reg : Nat) : Dev :=
  if !d.pcie.linkUp then d
  else if d.configReady t then
    let r := d.configWord reg
    r.2.send (.config (some r.1))
  else d.send (.config none)

/-! ## Host resets and SOFT_RESET (R425 to R427) -/

/-- What a reset of kind H, F or S does to the medium work of all heads: armed spots receive W_STOP, optical heads go to SAFE_PARK. -/
def Dev.restHeads (d : Dev) : Dev :=
  allHeads.foldl (fun d h =>
    let d := (d.stopSpots h fun w => w.state == .armed).modCal h fun x => { x with idleRev := false }
    if opticalMode (d.mode h) ∨ d.mode h = 8 then d.modMotion h fun m => { m with wantSafe := true } else d) d

/-- Commands end without a completion: their staged sectors are settled as an abort does, and nothing of them stays (R425). -/
def Dev.endSilent (d : Dev) (cs : List Cmd) : Dev :=
  cs.foldl (fun d c =>
    let d := (d.data.writes.filter fun w => w.owner == some (c.qid, c.e.tag)).foldl Dev.cutWrite d
    d.dropCmd c.qid c.e.tag) d

/-- Every queue pair, lock, receive slot and open object is gone; volumes and the error log stay. -/
def Dev.noQueues (d : Dev) : Dev :=
  d.modClasp fun k => { k with
    queues := [], cmds := [], locks := [], slots := [], disabling := false, adminTurn := false, lastIo := 0
    volumes := k.volumes.map fun v => { v with obj := none, voided := [] } }

/-- A reset of the PCI Express function: kind H, or kind F when `flr` (R425). In level X and before the boot ROM it has no effect; a
PERST# or hot reset during start-up restarts the link only (R427). -/
def Dev.hostReset (d : Dev) (t : Nat) (flr : Bool) : Dev :=
  if getF d .KP_STAT_DEV 0 = 2 ∨ d.locket.stage = .off then d
  else
    let down (d : Dev) : Dev := if flr then d else { d with pcie := { d.pcie with linkUp := false, l0 := none, afterH := true } }
    if d.locket.stage ≠ .done then (if flr then d else { d with pcie := { d.pcie with linkUp := false, l0 := none } })
    else
      let n := d.clasp.cmds.length
      let d := (d.endSilent d.clasp.cmds).restHeads.noQueues
      let d := (d.resetFields (if flr then .f else .h)).casketReset
      let d := incF (setF d .SY_RESET_LAST 0 (if flr then 4 else 3)) .SY_RESET_HOST_RESETS 0
      let d := setF { d with
        latches := [], hostRead := none
        pcie := { d.pcie with d3 := false, turnedOff := false, d3cold := false } } .PM_STAT_D3 0 0
      (down d).event t .SY_HOST_RESET 0 [if flr then 4 else 3, n]

/-- SOFT_RESET (R426). -/
def Dev.softReset (d : Dev) (t tag : Nat) : Dev :=
  match d.admin? tag 0x1D with
  | none => d
  | some c =>
    if getF d .KP_STAT_DEV 0 = 2 then d
    else
      let d := ((d.clasp.queues.filter (·.qid != 0)).map (·.qid)).foldl
        (fun d q => d.fence t q ((getF d .CL_QFENCE_FENCE q + 1) % 2 ^ 16)) d
      let d := d.complete t c 0 0
      let d := (d.endSilent d.clasp.cmds).restHeads.noQueues
      let d := (d.resetFields .s).casketReset
      (setF (setF d .SY_RESET_LAST 0 5) .CL_STAT_RDY 0 0).leaveD

/-- COLD_POWER_ON: DTIME is cleared (R20). -/
def execColdPowerOn (straps : Straps) (s : State) : Out := .next { s.onDev (fun d => d.coldOn straps) with dtime := 0 }
/-- RESET_N. -/
def execResetN (s : State) : Out := run s fun d => d.boardAgain false
/-- SUPERVISOR_RELEASE. -/
def execSupervisorRelease (s : State) : Out := run s fun d => d.boardAgain true
/-- DRAM_TRAINING_DONE. -/
def execDramTrainingDone (s : State) : Out := run s fun d => d.dramTrained
/-- CORE_SELF_TEST_DONE. -/
def execCoreSelfTestDone (failed : List BezelId) (s : State) : Out := run s fun d => d.selfTested s.dtime failed
/-- STARTUP_COMPLETE. -/
def execStartupComplete (s : State) : Out := run s fun d => d.startupDone
/-- PCIE_LINK_UP. -/
def execPcieLinkUp (s : State) : Out := run s fun d => d.pcieUp s.dtime
/-- CONFIG_REQUEST. -/
def execConfigRequest (reg : Nat) (s : State) : Out := run s fun d => d.configRead s.dtime reg
/-- HOST_RESET. -/
def execHostReset (s : State) : Out := run s fun d => d.hostReset s.dtime false
/-- FUNCTION_LEVEL_RESET. -/
def execFunctionLevelReset (s : State) : Out := run s fun d => d.hostReset s.dtime true
/-- SOFT_RESET. -/
def execSoftReset (tag : Nat) (s : State) : Out := run s fun d => d.softReset s.dtime tag

end Sys2Proof.Machine
end

