-- ==== Sys2Proof/Machine/Mgmt.lean ====
section
/-! DEFINITION. EVENT_READ (R445) and the management port (R447 to R449). -/

namespace Sys2Proof.Machine

/-- The held record of a SEQ. -/
def Cameo.find (c : Cameo) (seq : Nat) : Option EventRec := c.log.find? (·.seq == seq)

/-- CM_SEQ.NEWEST: the newest held record; with none held, the one below OLDEST. -/
def Cameo.newest (c : Cameo) : Nat := match c.log.getLast? with | some r => r.seq | none => c.oldest - 1

/-- EVENT_READ (R445): LEN records from the named SEQ; those not held read as zero; CLEAR frees up to the last copied. -/
def Dev.eventRead (d : Dev) (t tag : Nat) : Dev :=
  match d.admin? tag 0x1B with
  | none => d
  | some c =>
    if d.crownDead then d.complete t c 0x7002 0
    else if !c.listReady (32 * c.e.len) then d
    else
      let found := (List.range c.e.len).map fun i => d.cameo.find (bits c.e.arg 31 0 + i)
      let held := (found.take (c.entriesFit 32)).filterMap id
      let d := if bit c.e.arg 63 ∧ !held.isEmpty then
          { d with cameo := d.cameo.free (getF d .CM_CFG_NOTIFY_SEV 0) t ((held.map (·.seq)).foldl max 0) }
        else d
      d.adminOut t c (found.flatMap fun x => match x with | some r => r.bytes | none => zeros 32) held.length

/-! ## Serving a message (R447) -/

/-- The boot ROM serves the port in recovery, a Crown core once the cores are released. -/
def Dev.portServed (d : Dev) : Bool :=
  d.locket.stage == .recovery
    || ((d.locket.stage == .cores || d.locket.stage == .links || d.locket.stage == .done) && !d.crownDead && !d.keeper.pllStopped)

/-- The device is in recovery (R411). -/
def Dev.inRecovery (d : Dev) : Bool := d.locket.stage == .recovery

/-- A response: opcode, STATUS and data; it replaces one that waits. -/
def Dev.respond (d : Dev) (op status : Nat) (data : List Byte) : Dev :=
  let d := setF (incF d .MG_STAT_MSGS 0) .MG_STAT_LAST_OP 0 op
  { d with mgmt := { d.mgmt with resp := BitVec.ofNat 8 op :: BitVec.ofNat 8 status :: data, pending := true } }

/-- A message that is answered with data outside recovery only. -/
def Dev.answer (d : Dev) (op : Nat) (data : List Byte) : Dev :=
  if !d.portServed then d else if d.inRecovery then d.respond op 3 [] else d.respond op 0 data

/-- IDENT (R448): in recovery, bits [9:4] of the node are 0. -/
def Dev.mgIdent (d : Dev) : Dev :=
  if !d.portServed then d
  else
    let node := if d.inRecovery then d.node % 16 else d.node
    d.respond 1 0 (bytesLE 2 node ++ [0x21] ++ bytesLE 4 (regHeld d .LK_BOOT_STAT 0) ++ d.locket.deviceId)

/-- The highest temperature of the die zones. -/
def Dev.hottestDie (d : Dev) : Int := (List.range 16).foldl (fun a z => max a (getI d .TH_ZONE_TEMP z)) (getI d .TH_ZONE_TEMP 0)

/-- STATUS (R448): in recovery all 0 but NEWEST. -/
def Dev.mgStatus (d : Dev) : Dev :=
  if !d.portServed then d
  else
    let one (f : Fld) : Byte := BitVec.ofNat 8 (getF d f 0)
    let seen := [one .PM_STAT_STATE, one .TH_STAT_STEP, one .TH_STAT_SRC, one .KP_STAT_DEV, one .KP_STAT_LAST_SF, one .CL_STAT_RDY]
      ++ bytesLE 2 (ofSigned 16 d.hottestDie)
    d.respond 2 0 ((if d.inRecovery then zeros 8 else seen) ++ bytesLE 4 d.cameo.newest)

/-- HEALTH (R448). The zone of the whole device is not named: its TEMP is a free value. A kind or index that names no unit is answered
with STATUS 2. -/
def Dev.mgHealth (d : Dev) (kind index : Nat) : Dev :=
  if !d.portServed then d
  else if d.inRecovery then d.respond 3 3 []
  else
    match kind with
    | 0 =>
      let a := d.drawNat
      if index = 0 then a.2.respond 3 0 (bytesLE 2 (getF d .HM_DEV_LIFE_DAYS 0) ++ bytesLE 1 (getF d .HM_DEV_LIFE_LIMIT 0) ++ bytesLE 2 a.1)
      else d.respond 3 2 []
    | 1 =>
      if index < 32 then
        d.respond 3 0 (bytesLE 2 (getF d .HM_SPIN_LIFE_DAYS index) ++ bytesLE 1 (getF d .HM_SPIN_LIFE_LIMIT index)
          ++ bytesLE 2 (getF d .HM_SPIN_LIFE_FRICTION index) ++ bytesLE 2 (getF d .TH_ZONE_TEMP (144 + index)))
      else d.respond 3 2 []
    | 2 =>
      if index < 128 then
        d.respond 3 0 (bytesLE 2 (getF d .HM_LIFE_DAYS index) ++ bytesLE 1 (getF d .HM_LIFE_LIMIT index)
          ++ bytesLE 2 (getF d .TH_ZONE_TEMP (16 + index)))
      else d.respond 3 2 []
    | _ => d.respond 3 2 []

/-- EVENTS (R448): up to 7 held records from a SEQ; nothing is freed. -/
def Dev.mgEvents (d : Dev) (first : Nat) : Dev :=
  d.answer 4 (((d.cameo.log.filter fun r => decide (first ≤ r.seq)).take 7).flatMap EventRec.bytes)

/-- WAKE (R380, R448). -/
def Dev.mgWake (d : Dev) : Dev :=
  let e := d.answer 5 []
  if d.portServed ∧ !d.inRecovery then e.wake 4 else e

/-- AMBIENT (R448): as a write of TH_AMBIENT. -/
def Dev.mgAmbient (d : Dev) (temp : Nat) : Dev :=
  let e := d.answer 6 []
  if d.portServed ∧ !d.inRecovery then e.ambientSet (temp % 65536) else e

/-! ## The image in recovery (R411, R449) -/

/-- A message of the image: only in recovery. -/
def Dev.imgOnly (d : Dev) (op : Nat) (f : Dev → Dev) : Dev :=
  if !d.portServed then d else if d.inRecovery then f d else d.respond op 3 []

/-- IMG_BEGIN: the slot is erased, unless the NOR fails (log entry 61). -/
def Dev.imgBegin (d : Dev) (slot : Nat) : Dev :=
  d.imgOnly 0x10 fun d =>
    if 2 ≤ slot then d.respond 0x10 2 []
    else if d.norFails then (d.drawNat).2.respond 0x10 4 []
    else
      let d := (d.drawNat).2
      let d := d.modLocket fun l => { l with
        nor := l.nor.filter fun c => !(decide (slotBase slot ≤ c.1) && decide (c.1 < slotBase slot + 0x4000000)) }
      { d with mgmt := { d.mgmt with slot := some slot, next := 0 } }.respond 0x10 0 []

/-- Bytes written into NOR. -/
def Locket.writeNor (l : Locket) (off : Nat) (bs : List Byte) : Locket :=
  { l with nor := bs.zipIdx.foldl (fun m x => Sparse.set (fun _ => (0xFF : Byte)) m (off + x.2) x.1) l.nor }

/-- NV_RESET_N is low for the 10 µs before a recovery write, and high from then on (R462; the write itself is shown at once, log entry 79). -/
def Locket.nvWrite (l : Locket) (t : Nat) : Locket := { l with nvLow := false, nvPulse := t + 10000 }

/-- IMG_DATA: 1 to 240 bytes at an offset at or past the end of the previous write; nothing is written when the NOR fails. -/
def Dev.imgData (d : Dev) (t off : Nat) (data : List Byte) : Dev :=
  d.imgOnly 0x11 fun d =>
    match d.mgmt.slot with
    | none => d.respond 0x11 3 []
    | some slot =>
      if data.isEmpty ∨ 240 < data.length ∨ off < d.mgmt.next ∨ 0x4000000 < off + data.length then d.respond 0x11 2 []
      else if d.norFails then (d.drawNat).2.respond 0x11 4 []
      else
        let d := (d.drawNat).2
        let d := d.modLocket fun l => (l.writeNor (slotBase slot + off) data).nvWrite t
        { d with mgmt := { d.mgmt with next := off + data.length } }.respond 0x11 0 []

/-- IMG_END: the slot is checked; when it passes, start-up goes on. -/
def Dev.imgEnd (d : Dev) (t : Nat) : Dev :=
  d.imgOnly 0x12 fun d =>
    match d.mgmt.slot with
    | none => d.respond 0x12 3 []
    | some slot =>
      let d := d.nvRead
      let code := d.bootCode slot
      let d := (d.drawNat).2
      let d := (setF d (failField slot) 0 code).respond 0x12 0 [BitVec.ofNat 8 code]
      if code = 0 then (setF d .LK_BOOT_STAT_RECOVERY 0 1).bootPassed t slot else d

/-- RESPONSE_READ (R447): the pending response; STATUS 1 when none is ready. -/
def Dev.responseRead (d : Dev) : Dev :=
  let m := d.mgmt
  if m.pending then { d with mgmt := { m with out := m.resp, pending := false } }
  else { d with mgmt := { m with out := [BitVec.ofNat 8 (getF d .MG_STAT_LAST_OP 0), 1] } }

/-- MANAGEMENT_REQUEST_BAD (R447, R449). -/
def Dev.mgBad (d : Dev) (t : Nat) (k : BadRequest) : Dev :=
  if !d.portServed then d
  else
    match k with
    | .pec => incF d .MG_STAT_PEC_ERR 0
    | .badLength op => (d.eventIf (!d.inRecovery) t .MG_BAD_MESSAGE 0).respond (op % 256) 2 []
    | .unknown op => d.respond (op % 256) 2 []
    | .notNow op => d.respond (op % 256) 3 []

/-- EVENT_READ. -/
def execEventRead (tag : Nat) (s : State) : Out := run s fun d => d.eventRead s.dtime tag
/-- IDENT. -/
def execIdent (s : State) : Out := run s fun d => d.mgIdent
/-- STATUS. -/
def execStatus (s : State) : Out := run s fun d => d.mgStatus
/-- HEALTH. -/
def execHealth (kind index : Nat) (s : State) : Out := run s fun d => d.mgHealth kind index
/-- EVENTS. -/
def execEvents (first : Nat) (s : State) : Out := run s fun d => d.mgEvents first
/-- MG_WAKE. -/
def execMgWake (s : State) : Out := run s fun d => d.mgWake
/-- AMBIENT. -/
def execAmbient (temp : Nat) (s : State) : Out := run s fun d => d.mgAmbient temp
/-- IMG_BEGIN. -/
def execImgBegin (slot : Nat) (s : State) : Out := run s fun d => d.imgBegin slot
/-- IMG_DATA. -/
def execImgData (offset : Nat) (data : List Byte) (s : State) : Out := run s fun d => d.imgData s.dtime offset data
/-- IMG_END. -/
def execImgEnd (s : State) : Out := run s fun d => d.imgEnd s.dtime
/-- RESPONSE_READ. -/
def execResponseRead (s : State) : Out := run s fun d => d.responseRead
/-- MANAGEMENT_REQUEST_BAD. -/
def execManagementRequestBad (kind : BadRequest) (s : State) : Out := run s fun d => d.mgBad s.dtime kind

end Sys2Proof.Machine
end

