-- ==== Sys2Proof/Machine/RegAccess.lean ====
section
/-! DEFINITION. The host's accesses to BAR0 (R7 to R12, R466): what a register reads as, what a read clears and latches, what a write
sets and starts. -/

namespace Sys2Proof.Machine

/-! ## What a register reads as -/

/-- Bit k of the GPIO pins (R450): an output shows its own level; an input shows the level that is held. -/
def Dev.gpioPin (d : Dev) (k : Nat) : Bool :=
  match getF d .MG_CFG_GPIO_FN 0 / 4 ^ k % 4 with
  | 1 => bit (getF d .MG_GPIO_OUT 0) k
  | 2 => !d.cameo.notify
  | 3 => getF d .KP_STAT_DEV 0 == 0
  | _ => bit (getF d .MG_GPIO_IN 0) k

/-- An open object that the pair owns. -/
def Dev.objOpen (d : Dev) (q : Nat) : Bool :=
  d.ownsObj q

/-- A pass of a learning table is pending or running (R102). -/
def Dev.learnBusy (d : Dev) (h : HeadId) (trk : Bool) : Bool := ((d.head h).learn trk).running || getF d (learnMode trk) h != 0

/-- The value of a field as it stands at DTIME `t`. -/
def Dev.fieldSeen (d : Dev) (t : Nat) (f : Fld) (i : Nat) : Nat :=
  let h : HeadId := Fin.ofNat 128 i
  let k := d.clasp
  match f with
  | .SY_DTIME_DTIME => t % 2 ^ 64
  | .SY_LIBTIME_OFS_OFFSET => d.libTime.written (getF d f i)
  | .BZ_LEARN_FOC_BUSY => b2n (d.learnBusy h false)
  | .BZ_LEARN_TRK_BUSY => b2n (d.learnBusy h true)
  | .MO_MODE_HEAD_BUSY => b2n (d.headBusy h)
  -- with XT_EN 0 the neighbour taps, halfwords 17 to 34, read 0 (R180)
  | .FC_TAPS_LO => if !getB d .FC_EQ_CFG_XT_EN (i / 72) ∧ 17 ≤ 2 * (i % 18) then 0 else fieldHeld d f i
  | .FC_TAPS_HI => if !getB d .FC_EQ_CFG_XT_EN (i / 72) ∧ 17 ≤ 2 * (i % 18) + 1 then 0 else fieldHeld d f i
  -- a head or spindle that is not fitted has LINK_EN at 0 (R413)
  | .HL_CTL_LINK_EN => if bit (getF d .SY_POP_HEAD (i / 32)) (i % 32) then fieldHeld d f i else 0
  | .SL_CTL_LINK_EN => if bit (getF d .SY_POP_SPIN 0) i then fieldHeld d f i else 0
  | .CL_STAT_STALL_TAGS => b2n (decide (65536 ≤ k.cmds.length))
  | .CL_STAT_STALL_LOCKS => b2n (decide (4096 ≤ k.locks.length) && d.turn.isSome)
  | .CL_STAT_OUTSTANDING => k.cmds.length
  | .CL_LOG_STAT_NEWEST => k.logNext - 1
  | .CL_LOG_STAT_HELD => k.log.length
  | .CL_LOCK_STAT_IN_USE => k.locks.length
  | .CL_QFENCE_FENCE_BUSY => b2n (k.cmds.any fun c => c.qid == i && c.fence != getF d .CL_QFENCE_FENCE i)
  | .CL_QSTAT_EXISTS => b2n (d.pair? i).isSome
  | .CL_QSTAT_FROZEN => b2n ((d.pair? i).any (·.frozen))
  | .CL_QSTAT_PRIV => b2n ((d.pair? i).any (·.priv))
  | .CL_QSTAT_OBJ_OPEN => b2n (d.objOpen i)
  | .CL_QSTAT_OUTSTANDING => d.outstanding i
  | .FG_STAT_STD_BUSY => d.stdBusy
  | .FG_STAT_FULL_BUSY => ((List.finRange 16).filter fun e => !stdEngine e && (d.filigree.engines[e]).isSome).length
  | .FG_STAT_WAITING => d.filigree.waiting.length
  | .CK_STAT_DRAINING => b2n (d.mem.disabling || d.mem.p3Drain)
  | .CK_STAT_MB_USED => d.mem.merge.length
  | .CK_STAT_EB_USED => d.mem.evict.length
  | .MI_REMAP_STAT_DRAM_USED => d.mem.sparePages.length
  | .MI_REMAP_STAT_SRAM_MAX => d.mem.sparesMax
  | .MI_REMAP_STAT_DRAM_FULL => b2n (decide (64 ≤ d.mem.sparePages.length))
  | .MI_REMAP_STAT_SRAM_FULL => b2n (decide (8 ≤ d.mem.sparesMax))
  | .MI_REMAP_STAT_FUSE_ROWS => d.locket.fuseRows
  | .MI_LOST_STAT_FULL => b2n (decide (16384 ≤ d.mem.lost.length))
  | .MI_LOST_STAT_USED => d.mem.lost.length
  | .CM_STAT_STOPPED => b2n d.cameo.stopped
  | .CM_STAT_NOTIFY => b2n d.cameo.notify
  | .CM_STAT_STAGE_USED => d.cameo.stage.length
  | .CM_STAT_DROPPED => d.cameo.dropped
  | .CM_SEQ_NEWEST => d.cameo.newest
  | .CM_SEQ_OLDEST => d.cameo.oldest
  | .MG_GPIO_IN => ((List.range 4).map fun p => b2n (d.gpioPin p) * 2 ^ p).sum
  | f => if f.info.access = .WO then 0 else fieldHeld d f i

/-- The word of an instance of a register. -/
def Dev.regSeen (d : Dev) (t : Nat) (r : Reg) (i : Nat) : Nat := wordOf (fun f => d.fieldSeen t f i) r.fields

/-! ## Reads (R7, R9, R11, R12) -/

/-- The RC fields of bits [lo + n − 1 : lo] of a register are cleared by the read that returned them. -/
def Dev.readClears (d : Dev) (r : Reg) (i lo n : Nat) : Dev :=
  (r.fields.filter fun f => f.info.access == .RC && decide (lo ≤ f.info.lo) && decide (f.info.lo + f.info.width ≤ lo + n)).foldl
    (fun d f => if f = .CM_STAT_DROPPED then { d with cameo := { d.cameo with dropped := 0 } } else setF d f i 0) d

/-- A latch of an upper half, by its offset. -/
def Dev.latch? (d : Dev) (off : Nat) : Option Nat := (d.latches.find? (·.1 == off)).map (·.2)

/-- A 4-byte read: the lower half of a 64-bit register latches the upper half, and the upper half returns what is latched. -/
def Dev.read4 (d : Dev) (t off : Nat) : Nat × Dev :=
  match regAt off with
  | none => (0xFFFFFFFF, d)
  | some (r, i, k) =>
    let word := d.regSeen t r i
    let part := word / 2 ^ (8 * k) % 2 ^ 32
    let d' := d.readClears r i (8 * k) 32
    if r.info.width = 64 ∧ k = 0 then
      (part, { d' with latches := d.latches.filter (·.1 != off + 4) ++ [(off + 4, word / 2 ^ 32 % 2 ^ 32)] })
    else if r.info.width = 64 then
      ((d.latch? off).getD part, { d' with latches := d.latches.filter (·.1 != off) })
    else (part, d')

/-- A 4-byte part of an 8-byte read, which takes both halves at one instant and no latch. -/
def Dev.readPart (d : Dev) (t off : Nat) : Nat :=
  match regAt off with
  | none => 0xFFFFFFFF
  | some (r, i, k) => d.regSeen t r i / 2 ^ (8 * k) % 2 ^ 32

/-- See `Dev.readPart`: what it clears. -/
def Dev.clearPart (d : Dev) (off : Nat) : Dev :=
  match regAt off with
  | none => d
  | some (r, i, k) => d.readClears r i (8 * k) 32

/-- A read of BAR0 and its answer: naturally aligned, of 4 or 8 bytes; any other reads as all ones. -/
def Dev.bar0Read (d : Dev) (t off size : Nat) : Dev :=
  let r : Nat × Dev :=
    if size = 4 ∧ off % 4 = 0 then d.read4 t off
    else if size = 8 ∧ off % 8 = 0 then (d.readPart t off + d.readPart t (off + 4) * 2 ^ 32, (d.clearPart off).clearPart (off + 4))
    else (2 ^ (8 * size) - 1, d)
  { r.2 with hostRead := some (off, size, r.1) }

/-- The block answers: a supply, and a system clock. -/
def Dev.answers (d : Dev) : Bool := d.locket.stage != .off && !d.keeper.pllStopped

/-! ## Writes (R7, R8, R10, R466) -/

/-- The value of a field after a write of bits [lo + n − 1 : lo] of its register, the other bits as held; `none` where the write
does not touch it. -/
def writtenF (held : Nat) (f : Fld) (lo n v : Nat) : Option Nat :=
  let a := max lo f.info.lo
  let b := min (lo + n) (f.info.lo + f.info.width)
  if a < b then some (putBits held (a - f.info.lo) (b - a) (v / 2 ^ (a - lo))) else none

/-- The effect of a write on one field by its Access column; out of its range it is ignored. -/
def Dev.putField (d : Dev) (f : Fld) (i lo n v : Nat) : Dev :=
  match writtenF (fieldHeld d f i) f lo n v with
  | none => d
  | some x =>
    match f.info.access with
    | .RW => if Sys2Proof.Machine.rangeOk f x then setF d f i x else d
    | .RWL => if Sys2Proof.Machine.rangeOk f x ∧ !getB d .LK_BOOT_STAT_LOCKED 0 then setF d f i x else d
    | .RV => if Sys2Proof.Machine.rangeOk f x ∧ !reservedTap f i then setPend d f i x else d
    | .W1C => (List.range f.info.width).foldl (fun d k =>
        if bit ((writtenF 0 f lo n v).getD 0) k then setF d f i (putBits (getF d f i) k 1 0) else d) d
    | _ => d

/-- The fields of a register without an action of its own. -/
def Dev.putFields (d : Dev) (fs : List Fld) (i lo n v : Nat) : Dev := fs.foldl (fun d f => d.putField f i lo n v) d

/-- The actions of HL_CTL and SL_CTL (R78, R80): a link allowed now begins its bring-up when its companion is seen. -/
def Dev.linkWrite (d : Dev) (l : LinkId) (word : Nat) : Dev :=
  let d := if d.linkState l = 0 ∧ d.signal? l ∧ d.mayBringUp l then d.startBringUp l else d
  let d := if bit word 1 then d.retrain l true else if bit word 0 then d.retrain l false else d
  if bit word 2 then d.marginStart l else d

/-- A write of MO_CTL (R147). -/
def Dev.moWrite (d : Dev) (h : HeadId) (word : Nat) : Dev :=
  d.request h true fun m => { m with
    wantStop := m.wantStop || bit word 0, wantPark := m.wantPark || bit word 1, wantHome := m.wantHome || bit word 2
    wantReloc := m.wantReloc || bit word 3 }

/-- A write of TQ_CTL (R161, R163, R171): SPEED_CMD, DIR, CLEAR, CHOP_TEST, RUN. -/
def Dev.torcWrite (d : Dev) (t : Nat) (s : SpinId) (word : Nat) : Dev :=
  d.hostTorc s fun d =>
    let speed := bits word 27 16
    let d := if speed = getF d .TQ_CTL_SPEED_CMD s then d else d.writeSpeed t s speed
    let d := d.writeDir s (bits word 30 30)
    let d := if bit word 1 then d.clearWrite s else d
    let d := if bit word 2 then d.chopTest s else d
    if bit word 31 ∨ getB d .TQ_CTL_RUN s then d.writeRun t s (bit word 31) else d

/-- A write of TQ_DOOR_CTL (R175). -/
def Dev.doorWrite (d : Dev) (s : SpinId) (word : Nat) : Dev :=
  d.hostTorc s fun d =>
    let d := if bit word 31 then d.ejectWrite s else d
    if bit word 30 then d.startLoad s else d

/-- A write of converter settings goes to the pendant's shadow bank (R355). -/
def Dev.adcWritten (d : Dev) (h : HeadId) : Dev :=
  if (adcFields h).any fun x => (pendF d x.1 x.2).isSome then
    let d := (d.modCal h fun x => { x with corrPend := true }).modPort (.head h) fun p =>
      { p with mbox := p.mbox.filter fun r => r.purpose != .correction }
    if d.linkState (.head h) = 6 then d.mail (.head h) .correction else d
  else d

/-- A write of FC_WS_ENTRY (R213): the checks of an entry lie in its upper half. -/
def Dev.entryWrite (d : Dev) (t i lo n v : Nat) : Dev :=
  if lo = 0 ∧ n = 32 then setPend d .FC_WS_ENTRY_T_COOL i (bits v 31 24)
  else
    let cool := if lo = 0 then bits v 31 24 else fieldHeld d .FC_WS_ENTRY_T_COOL i
    d.wsWrite t (Fin.ofNat 128 (i / 128)) (i % 128 / 8) (i % 8) (v * 2 ^ lo / 2 ^ 32 * 2 ^ 32 + cool * 2 ^ 24)

/-- After a write of a vector's table entry: a pending message of a vector no longer masked is sent (log entry 6). -/
def Dev.vectorWrite (d : Dev) (v : Nat) : Dev :=
  if !d.masked v ∧ bit (getF d .MSIX_PBA_BITS (v / 64)) (v % 64) then
    (setF d .MSIX_PBA_BITS (v / 64) (putBits (getF d .MSIX_PBA_BITS (v / 64)) (v % 64) 1 0)).msix v
  else d

/-- A write of CL_CTL (R259, R268): EN, when the write changes it. -/
def Dev.enWrite (d : Dev) (t word : Nat) : Dev :=
  if bit word 31 = getB d .CL_CTL_EN 0 then d else if bit word 31 then d.clEnable else d.clDisable t

/-- A write of CK_CTL (R324): DISABLE, when the write changes it. -/
def Dev.disableWrite (d : Dev) (word : Nat) : Dev :=
  if bit word 31 = getB d .CK_CTL_DISABLE 0 then d else if bit word 31 then d.casketDisable else d.casketEnable

/-- A write of `n` bits, from bit `lo` on, of an instance of a register. -/
def Dev.writeReg (d : Dev) (t : Nat) (r : Reg) (i lo n v : Nat) : Dev :=
  let h : HeadId := Fin.ofNat 128 i
  let s : SpinId := Fin.ofNat 32 i
  let plain (d : Dev) : Dev := d.putFields r.fields i lo n v
  match r with
  | .SY_LIBTIME_OFS => d.libWrite (if n = 64 then .both else if lo = 0 then .lower else .upper) v
  | .SY_TIME_CTL => if bit v 0 then (plain d).ptmNow else plain d
  | .HL_CTL => (plain d).linkWrite (.head h) v
  | .SL_CTL => (plain d).linkWrite (.spin s) v
  | .BZ_LAW_H0 => d.writeH0 t (Fin.ofNat 128 (i / 12)) (i % 12) v
  | .BZ_LAW_STRUCT => d.writeStruct (Fin.ofNat 128 (i / 192)) (i / 16 % 12) (i % 16) v
  | .BZ_TRACE_CTL => d.traceWrite s v
  | .BZ_TRACE_NODE => d.nodeWrite i v
  | .MO_CTL => d.moWrite h v
  | .MO_GUARD => d.guardWrite h v
  | .TQ_CTL => d.torcWrite t s v
  | .TQ_STAT => if bit v (Fld.info .TQ_STAT_ABNORMAL).lo then (plain d).abnormalClear s else plain d
  | .TQ_DOOR_CTL => d.doorWrite s v
  | .FC_DEFECT_CFG => d.putFields (r.fields.filter fun f => f != .FC_DEFECT_CFG_REC_TH || recOk v) i lo n v
  | .FC_WS_ENTRY => d.entryWrite t i lo n v
  | .CL_CTL => (d.putFields [.CL_CTL_RECV_TIMEOUT, .CL_CTL_OPEN_MAX] i lo n v).enWrite t v
  | .CL_AQ_SQ_BASE => if getB d .CL_CTL_EN 0 then d else plain d
  | .CL_AQ_CQ_BASE => if getB d .CL_CTL_EN 0 then d else plain d
  | .CL_AQ_SIZE => if getB d .CL_CTL_EN 0 then d else plain d
  | .CL_QFENCE => d.qfence t i (v % 2 ^ 16)
  | .CL_DOORBELL => d.doorbell t i (n / 8) (lo != 0) v
  | .MSIX_TABLE => (plain d).vectorWrite i
  | .CK_CTL => (d.putFields [.CK_CTL_MB_HIGH, .CK_CTL_MB_AGE] i lo n v).disableWrite v
  | .HM_CTL => if bit v 31 then (plain d).startCal h fullCal true else plain d
  | .HM_ADC_SEL => if adcSelOk ((r.fields).map fun f => fieldOf f v) then (plain d).adcWritten h else d
  | .HM_ADC_TRIM => (plain d).adcWritten (Fin.ofNat 128 (i / 10))
  | .HM_SCALE => if (plain d).scalePend h then (plain d).scaleMail h else d
  | .TH_AMBIENT => d.ambientSet (fieldOf .TH_AMBIENT_TEMP v)
  | .TH_BROKEN => d.brokenClear i v
  | .PM_CTL => if bit v 31 then d.wake 2 else d
  | .LK_CTL => if bit v 31 then d.lockWrite else d
  | .CM_STAT => if bit v 30 then { d with cameo := { d.cameo with notify := false } } else d
  | _ => plain d

/-- A 4-byte part of a write. -/
def Dev.writePart (d : Dev) (t off v : Nat) : Dev :=
  match regAt off with
  | none => d
  | some (r, i, k) => d.writeReg t r i (8 * k) 32 (v % 2 ^ 32)

/-- A write of BAR0: naturally aligned, of 4 or 8 bytes; any other is discarded. An 8-byte write of two registers acts on the lower
first; of one register, or of an aligned half of a 128-bit one, on the whole at once. -/
def Dev.bar0Write (d : Dev) (t off size v : Nat) : Dev :=
  if !d.answers then d
  else if size = 4 ∧ off % 4 = 0 then d.writePart t off v
  else if size = 8 ∧ off % 8 = 0 then
    match regAt off with
    | some (r, i, k) => if 64 ≤ r.info.width then d.writeReg t r i (8 * k) 64 (v % 2 ^ 64) else (d.writePart t off v).writePart t (off + 4) (v / 2 ^ 32)
    | none => d.writePart t (off + 4) (v / 2 ^ 32)
  else d

/-- A 4-byte read of the lower half of a 64-bit register. -/
def lowerHalf (off : Nat) : Bool := off % 4 == 0 && (regAt off).any fun x => x.1.info.width == 64 && x.2.2 == 0

/-- REGISTER_WRITE. -/
def execRegisterWrite (addr size value : Nat) (s : State) : Out := run s fun d => d.bar0Write s.dtime addr size value
/-- READ_CLEAR. -/
def execReadClear (addr size : Nat) (s : State) : Out := run s fun d => if d.answers then d.bar0Read s.dtime addr size else d
/-- LOWER_HALF_READ. -/
def execLowerHalfRead (addr : Nat) (s : State) : Out :=
  run s fun d => if d.answers ∧ lowerHalf addr then d.bar0Read s.dtime addr 4 else d

end Sys2Proof.Machine
end

