-- ==== Sys2Proof/Machine/Wire.lean ====
section
/-! DEFINITION. The downstream frames of the head and spindle links: their blocks (R63 to R65, R70, R83), write data and arming
(R210, R211), the strategy slice and the loading of a pendant's banks (R214 to R216), and what a Tick boundary sends. -/

namespace Sys2Proof.Machine

/-! ## Blocks (R63 to R65) -/

/-- A data block. -/
def dataBlock (p : Nat) : Block := ⟨1, BitVec.ofNat 64 p⟩
/-- A control block of a type; the type byte is bits [63:56] of its payload. -/
def ctlBlock (ty p : Nat) : Block := ⟨2, BitVec.ofNat 64 (ty * 2 ^ 56 + p % 2 ^ 56)⟩
/-- The idle block. -/
def idleBlock : Block := ctlBlock 0x1E 0
/-- The CRC-8 over the payloads of blocks (R65). -/
def blocksCrc (bs : List Block) : Nat := crc8 (bs.flatMap fun b => bitsBE 64 b.payload.toNat)
/-- A CRC block: its CRC-8 bytes from bit 63 down, zeros, and its self byte. -/
def crcOf (bytes : List Nat) : Block :=
  let v := (bytes.zipIdx.map fun x => x.1 % 256 * 2 ^ (48 - 8 * x.2)).sum
  dataBlock (v * 256 + crc8 (bitsBE 56 v))
/-- A frame of `n` blocks: the blocks given, then idle blocks. -/
def padFrame (n : Nat) (bs : List Block) : List Block := bs ++ List.replicate (n - bs.length) idleBlock

/-! ## The head link's downstream frame (R70, R215) -/

/-- Slots 0 to 4. -/
def HeadDown.front (x : HeadDown) : List Block :=
  let cnt (k : Nat) := x.wCnt.getD k 0
  [ctlBlock 0xF0 (x.seq * 2 ^ 44 + x.epoch * 2 ^ 40 + b2n x.epochAdv * 2 ^ 39 + x.rateNext * 2 ^ 37 + x.switchIn * 2 ^ 33
      + x.beat * 2 ^ 20 + x.beatChk * 2 ^ 12 + b2n x.laserInhibit * 2 ^ 11 + b2n x.writeInhibit * 2 ^ 10),
    dataBlock (ofSigned 16 x.focDrv * 2 ^ 48 + ofSigned 16 x.trkDrv * 2 ^ 32 + ofSigned 16 x.tiltDrv * 2 ^ 16 + x.laserSet % 65536),
    dataBlock (ofSigned 16 x.stepN * 2 ^ 48 + x.coil % 4 * 2 ^ 46 + b2n x.laserEn * 2 ^ 45),
    dataBlock (x.wLayer * 2 ^ 60 + x.wStripe * 2 ^ 40 + x.wArm * 2 ^ 36 + x.wStop * 2 ^ 32),
    dataBlock (cnt 0 * 2 ^ 53 + cnt 1 * 2 ^ 42 + cnt 2 * 2 ^ 31 + cnt 3 * 2 ^ 20)]

/-- Block j of the write data: channel bits 16j to 16j + 15 of each spot, D0 first. -/
def HeadDown.writeBlock (x : HeadDown) (j : Nat) : Block :=
  dataBlock (ofBitsBE ((List.range 4).flatMap fun s =>
    (List.range 16).map fun k => ((x.wData.getD s []).getD (16 * j + k) false)))

/-- The blocks of a frame at a rate: 0 full, 1 servo-only (write slots idle, R77), 2 keep-alive. -/
def HeadDown.blocks (x : HeadDown) (hk : List Nat) (rate : Nat) : List Block :=
  let f := x.front
  let a := f ++ [crcOf (f.map fun b => blocksCrc [b])]
  if rate = 2 then padFrame 50 a
  else
    let wd := (List.range 63).map fun j => if rate = 0 then x.writeBlock j else idleBlock
    let ws := (List.range 4).map fun j => if rate = 0 then dataBlock (x.ws.getD j 0) else idleBlock
    let hk := (List.range 4).map fun j => dataBlock (hk.getD j 0)
    padFrame 600 (a ++ wd ++ ws ++ hk ++
      [crcOf [blocksCrc (wd.take 31), blocksCrc (wd.drop 31), blocksCrc ws, blocksCrc hk]])

/-! ## The spindle link's downstream frame (R83) -/

/-- The blocks of a frame. -/
def SpinDown.blocks (x : SpinDown) (hk : List Nat) : List Block :=
  let f := [ctlBlock 0xF2 (x.seq * 2 ^ 44 + x.beat * 2 ^ 32 + x.beatChk * 2 ^ 24 + b2n x.bridgeInhibit * 2 ^ 23 + b2n x.lockHold * 2 ^ 22),
    dataBlock (x.dutyA % 65536 * 2 ^ 48 + x.dutyB % 65536 * 2 ^ 32 + x.dutyC % 65536 * 2 ^ 16 + b2n x.bridgeEn * 2 ^ 15
      + b2n x.shortBrake * 2 ^ 14),
    dataBlock (x.winAt % 65536 * 2 ^ 48 + b2n x.winEn * 2 ^ 47 + x.chopMode % 4 * 2 ^ 45 + x.brakeIlim % 8192 * 2 ^ 32),
    dataBlock (b2n x.unlockReq * 2 ^ 63 + x.trayCmd % 4 * 2 ^ 61 + x.led % 16 * 2 ^ 57)]
  let k := (List.range 2).map fun j => dataBlock (hk.getD j 0)
  padFrame 50 (f ++ k ++ [crcOf ((f.map fun b => blocksCrc [b]) ++ [blocksCrc k])])

/-! ## Write data and arming (R210, R211) -/

/-- Channel bits of a job that the medium has taken, as far as the device has seen: the samples since the start of its stripe. -/
def Dev.bitsTaken (d : Dev) (w : WriteJob) : Nat :=
  let f := (d.head w.head).facet
  match f.start with
  | some s =>
    if w.state = .writing ∧ !f.blind ∧ f.layer = psaLayer w.target ∧ f.stripe = psaStripe w.target then
      min w.sent (((d.head w.head).link.sampleNext + 2 ^ 32 - s) % 2 ^ 32)
    else 0
  | none => 0

/-- The write data of a spot's job in a frame: at most 1,008 bits, no more than the pendant's FIFO of 8,192 bits has room for, and
enough to hold 4,096 bits in it beyond the draws that the device has not seen, of up to 1,003 bits in each of the Tick that ends, that in
which the frame arrives and that before the next one; between these bounds the count is free (R210; log entry 52). -/
def Dev.sendBits (d : Dev) (w : WriteJob) : Dev × Nat :=
  let fill := w.sent - d.bitsTaken w
  let hi := min 1008 (min (666544 - w.sent) (8192 - fill))
  let lo := min hi (4096 + 3 * 1003 - fill)
  let r := d.drawNat
  (r.2, lo + r.1 % (hi - lo + 1))

/-- Samples until the start of the stripe armed for. -/
def Dev.untilArmed (d : Dev) (h : HeadId) : Option Int := d.untilStripe h (d.head h).down.wLayer (d.head h).down.wStripe

/-- W_ARM of the frame being formed (R211): an arming ends after the frame of the Tick that contains the predicted stripe start; it
begins no later than 2 Ticks before the end of the address field. -/
def Dev.armFrame (d : Dev) (h : HeadId) (ready : Nat) : Dev :=
  let left := d.untilArmed h
  let n := d.perTick h
  let ovr := left.any fun (k : Int) => decide (k < n)
  let late := left.any fun (k : Int) => decide (k < 3 * (n : Int))
  d.modDown h fun x =>
    if ovr then { x with wArm := 0, armReq := 0 }
    else { x with wArm := if late then x.wArm else Nat.lor x.wArm (Nat.land x.armReq ready) }

/-- The write data of the four spots, and the arming of those whose FIFO holds 4,096 bits. -/
def Dev.writeData (d : Dev) (h : HeadId) : Dev :=
  let d := d.modDown h fun x => { x with wCnt := [0, 0, 0, 0], wData := [[], [], [], []] }
  let r := allSpots.foldl (fun (a : Dev × Nat) s =>
    match a.1.jobAt h s with
    | none => a
    | some w =>
      let x := a.1.sendBits w
      let got := ((x.1.channelBits w).drop w.sent).take x.2
      let d := (x.1.modWrite w.id fun w => { w with sent := w.sent + x.2 }).modDown h fun y => { y with
        wCnt := y.wCnt.set s x.2, wData := y.wData.set s got }
      (d, if 4096 ≤ w.sent + x.2 - a.1.bitsTaken w ∨ 666544 ≤ w.sent + x.2 then a.2 + 2 ^ s.val else a.2)) (d, 0)
  r.1.armFrame h r.2

/-! ## The strategy slice and the banks (R214 to R216) -/

/-- WS0 and WS1 for the layer armed last. -/
def Dev.sliceFront (d : Dev) (h : HeadId) : List Nat :=
  let x := (d.head h).down
  let i := h.val * 16 + x.wLayer
  [getF d .FC_WS_LAYER_PW_RATIO i * 2 ^ 48 + getF d .FC_WS_LAYER_PM_RATIO i * 2 ^ 32 + getF d .FC_WS_LAYER_PC_RATIO i * 2 ^ 16
      + x.bank % 2 * 2 ^ 15,
    getF d .HM_PLAN_S0 i * 2 ^ 48 + getF d .HM_PLAN_S1 i * 2 ^ 32 + getF d .HM_PLAN_S2 i * 2 ^ 16 + getF d .HM_PLAN_S3 i]

/-- The layer whose bank the head needs: that of its first staged sector (log entry 52). -/
def Dev.bankLayer (d : Dev) (h : HeadId) : Option Nat :=
  (d.data.writes.find? fun w => w.head == h && w.state == .staged).map fun w =>
    let s : SpotId := ⟨w.home % 4, Nat.mod_lt _ (by decide)⟩
    psaLayer ((d.targetFor h s w).getD w.home)

/-- A bank that entries may be written into (R216): no armed or writing spot has been given it. -/
def Dev.bankFree (d : Dev) (h : HeadId) (b : Fin 2) : Bool :=
  !d.data.writes.any fun w => w.head == h && w.live && w.bank == b.val

/-- The bank that a load goes on in or begins in: one already begun for the layer, else that which WS0 does not name, else the other. -/
def Dev.bankPick (d : Dev) (h : HeadId) (layer : Nat) : Option (Fin 2) :=
  let free := ([0, 1] : List (Fin 2)).filter fun b => d.bankFree h b
  ((free.find? fun b => (d.head h).banks[b].layer == some layer).or (free.find? fun b => b.val != (d.head h).down.bank)).or free.head?

/-- WS2 of the frame: the next entry of a bank that is being loaded. -/
def Dev.bankLoad (d : Dev) (h : HeadId) : Dev × Nat :=
  match d.bankLayer h with
  | none => (d, 0)
  | some layer =>
    if (d.bankFor h layer).isSome ∨ (d.head h).noWrite then (d, 0)
    else
      match d.bankPick h layer with
      | none => (d, 0)
      | some b =>
        let k := (d.head h).banks[b]
        let k := if k.layer = some layer then k else { layer := some layer, next := 0 }
        let put (k : WsBank) (d : Dev) : Dev := d.modHead h fun x => { x with banks := x.banks.set b k }
        if 8 ≤ k.next then (put k d, 0)
        else (put { k with next := k.next + 1 } d,
          2 ^ 63 + b.val * 2 ^ 62 + k.next * 2 ^ 59 + d.wsEntry h layer k.next * 2 ^ 16)

/-- WS0 to WS3 of a full-rate frame. -/
def Dev.slice (d : Dev) (h : HeadId) : Dev :=
  let r := d.bankLoad h
  r.1.modDown h fun x => { x with ws := r.1.sliceFront h ++ [r.2, 0] }

/-! ## What a Tick boundary sends (R65, R70, R72, R76, R77, R83) -/

/-- A link sends frames: UP, in VERIFY, or in the Tick after it was faulted (R73, R78). -/
def Dev.sends (d : Dev) (l : LinkId) (faulted : Bool) : Bool :=
  let st := d.linkState l
  st == 5 || st == 6 || (faulted && (d.port l).age == 0 && (st == 0 || st == 7))

/-- The head's frame of Tick `n`. A faulted head, and one whose bail is not there, has LASER_SET 0; W_STOP is sent once. -/
def Dev.sendHead (d : Dev) (n : Nat) (h : HeadId) : Dev :=
  let up := d.linkState (.head h) == 6
  let faulted := (d.head h).link.faulted
  if !d.sends (.head h) faulted then d.modHead h fun x => { x with wire := [] }
  else
    let rate := if d.linkState (.head h) = 5 then 0 else getF d .HL_STATUS_RATE h
    let d := if up then (d.dropStale h).rateCount h else d
    let d := if up && rate == 0 && !faulted then (d.writeData h).slice h
      else d.modDown h fun x => { x with wCnt := [0, 0, 0, 0], wData := [[], [], [], []], ws := [0, 0, 0, 0], wArm := 0, armReq := 0 }
    let d := d.modPort (.head h) fun p =>
      p.mailTick (if up && rate != 2 && !faulted && (d.head h).link.relock.isNone then 4 else 0)
    let dark := faulted || !d.spinUp (spinOf h)
    let d := d.modDown h fun x => { x with
      seq := n % 4096, laserSet := if dark then 0 else x.laserSet, wStop := if faulted then 15 else x.wStop }
    d.modHead h fun x => { x with
      wire := x.down.blocks x.link.port.hk rate, down := { x.down with wStop := 0 } }

/-- The spindle's frame of Tick `n`. -/
def Dev.sendSpin (d : Dev) (n : Nat) (s : SpinId) : Dev :=
  if !d.sends (.spin s) false then d.modSpin s fun x => { x with wire := [] }
  else
    let up := d.linkState (.spin s) == 6
    let d := (d.modPort (.spin s) fun p => p.mailTick (if up then 2 else 0)).modSpinDown s fun x => { x with seq := n % 4096 }
    d.modSpin s fun x => { x with wire := x.down.blocks x.link.port.hk }

end Sys2Proof.Machine
end

