-- ==== Sys2Proof/Machine/Tick.lean ====
section
/-! DEFINITION. The boundaries of the two planes (R21): TICK ends a Tick and begins the next, M_TICK begins an M-tick (log entry
36). -/

namespace Sys2Proof.Machine

/-! ## RV fields (R8, R104, R113, R355) -/

/-- The servo fields of the register maps: they apply at the next Tick. No RV field is left for the M-tick: the others belong to
the channels (R190), or wait for the pendant (R355). -/
def tickField (f : Fld) : Bool :=
  f ∈ ([.BZ_LOOP_REF_REF, .BZ_LAW_COEF_C, .BZ_RUN_FOC_T, .BZ_RUN_TRK_T, .HM_PLAN_P_B, .HM_PLAN_FOC_OFS, .HM_PLAN_TILT_OFS] : List Fld)

/-- Pending coefficients wait while COEF_HOLD of their slot is 1 (R113). -/
def Dev.coefHeld (d : Dev) (f : Fld) (i : Nat) : Bool := f == .BZ_LAW_COEF_C && getB d .BZ_LAW_H1_COEF_HOLD (i / 80)

/-- A P_B that waits for a head on LASER_WRITE reaches REF of LPWR with it (R88, R217). -/
def Dev.laserServo (d : Dev) (h : HeadId) : Dev :=
  let m := (d.head h).motion
  if m.laserWrite then
    match pendF d .HM_PLAN_P_B (h * 16 + m.lastLayer) with
    | some p => setPend d .BZ_LOOP_REF_REF (h * 5 + 4) (p * 2 ^ 15)
    | none => d
  else d

/-- The servo values that wait apply. -/
def Dev.applyServo (d : Dev) : Dev :=
  (allHeads.foldl (fun d h => d.laserServo h) d).applyWhere fun f i => tickField f && !d.coefHeld f i

/-! ## The end of a Tick (R30, R73, R84, R105, R155) -/

/-- A spindle link that is UP or in VERIFY and has shown no frame in the Tick: every block of it counts as corrupt (R78, R84). -/
def Dev.spinMissing (d : Dev) (t : Nat) (s : SpinId) : Dev :=
  if (d.spinUp s ∨ d.linkState (.spin s) = 5) ∧ !(d.spin s).link.frameSeen ∧ 1 ≤ (d.port (.spin s)).age then d.spinFrame t s [] else d

/-- A head whose frame has not come in the Tick: on a link that is UP every block counts as corrupt (R73); in VERIFY the
step fails (R78); without a link, or while the receivers relock, its mode control and loops work on the values held. -/
def Dev.headMissing (d : Dev) (t : Nat) (h : HeadId) : Dev :=
  let x := (d.head h).link
  if d.linkUp h ∧ x.relock.isNone then
    if x.frameSeen then d else if 1 ≤ x.port.age then d.headFrame t h [] else d.headWork t h
  else
    let d := if d.linkState (.head h) = 5 ∧ !x.frameSeen ∧ 1 ≤ x.port.age then d.verifyFrame t h [] else d
    d.headWork t h

/-- The following-error faults of the Tick that have not been dealt with yet: W_STOP goes into the frame that carries its results (R99). -/
def Dev.faultsDue (d : Dev) (t : Nat) (h : HeadId) : Dev :=
  if d.atRest then d else allLoops.foldl (fun d l => d.followFault t h l) d

/-- Two requested windows in a row without an intact I block fault the link (R84). -/
def Dev.windowFault (d : Dev) (t : Nat) (s : SpinId) : Dev :=
  if d.spinUp s ∧ 2 ≤ (d.spin s).link.missWin then (d.modSpinLink s fun x => { x with missWin := 0 }).linkFault t (.spin s) else d

/-- A Bezel's Tick ends, unless it is halted: in P2 and below (R116, R376). -/
def Dev.bezelRuns (d : Dev) (t : Nat) (b : BezelId) : Dev := if 2 ≤ d.pState ∨ d.power.rested then d else d.bezelEnd t b

/-- Torc's work for every spindle in the Tick that began at `t`. -/
def Dev.torcRuns (d : Dev) (t : Nat) (s : SpinId) : Dev := if d.atRest then d else (d.torcTick t (tickOf t) s).windowFault t s

/-- What is left of the Tick that began at `t`. A Tick that began in P3 or P4 carries no servo work (R22). -/
def Dev.tickEnd (d : Dev) (t : Nat) : Dev :=
  let d := allSpins.foldl (fun d s => d.spinMissing t s) d
  let d := allHeads.foldl (fun d h => d.headMissing t h) d
  let d := allHeads.foldl (fun d h => (d.faultsDue t h).guardReport t h) d
  let d := (List.finRange 32).foldl (fun d b => d.bezelRuns t b) d
  allSpins.foldl (fun d s => d.torcRuns t s) d

/-! ## The beginning of a Tick (R8, R76, R77, R118, R251, R387) -/

/-- A boundary of mode control: a Bezel that has failed does none for its heads until they are adopted. -/
def Dev.modeRuns (d : Dev) (t : Nat) (h : HeadId) : Dev :=
  if 3 ≤ d.pState ∨ getB d .BZ_FAULT_FAILED (d.owner h) then d else d.modeTick t h

/-- A link's counts of a Tick (R77, R78, R80). -/
def Port.tick (p : Port) : Port := { p with age := p.age + 1, margin := p.margin.map (· + 1) }

/-- The loops of a head at a boundary: none has run, and INV applies (R106, R117). -/
def Dev.latchLoops (d : Dev) (h : HeadId) : Dev :=
  allLoops.foldl (fun d l => d.modLoop h l fun x => { x with cost := none, inv := getB d .BZ_LOOP_CFG_INV (h * 5 + l) }) d

/-- The counts of a head's links and of its frame, and its loops. -/
def Dev.ageHead (d : Dev) (h : HeadId) : Dev :=
  ((d.latchLoops h).modMotion h fun x => { x with unsent := false }).modLink h fun x =>
    { x with port := x.port.tick, relock := x.relock.map (· + 1), frameSeen := false }
/-- See `ageHead`. -/
def Dev.ageSpin (d : Dev) (s : SpinId) : Dev := d.modSpinLink s fun x => { x with port := x.port.tick, frameSeen := false }

/-- A PWM period begins, and with it a window (R84). -/
def Dev.windowTick (d : Dev) (s : SpinId) : Dev :=
  d.modSpinLink s fun x => { x with sampled := false, narrow := false, winGap := min 255 (x.winGap + 1) }

/-- A FORCE of the last Tick fires the trigger of the one that begins (R115). -/
def Dev.forceTick (d : Dev) (b : BezelId) : Dev := d.modBezel b fun x => { x with force := false, forceNow := x.force }

/-- A revolution of a head ends: when it is writing, a reallocation of its surface has its turn (R226); of the revolutions that follow, rebuild
work may use at most REBUILD_SHARE percent (R249). -/
def Dev.revTick (d : Dev) (h : HeadId) : Dev :=
  if d.wrapped h then
    let d := (d.givePlaces h).modMotion h fun m =>
      let n := m.share + getF d .CH_CFG_REBUILD_SHARE 0
      { m with share := n % 100, shareTurn := decide (100 ≤ n) }
    if (d.head h).motion.laserWrite then d.modSurf (surfOf h) fun x => { x with reallocTurn := true } else d
  else d

/-- The boundary at which the Tick that begins at `t` starts: adoption, angles, Keeper, mode control, servo values, frames. -/
def Dev.tickBegin (d : Dev) (t : Nat) : Dev :=
  let d := (List.finRange 32).foldl (fun d b => (d.adoptTick t b).forceTick b) (d.modPower fun p => { p with rested := decide (3 ≤ d.pState) })
  let d := if 3 ≤ d.pState then d else allHeads.foldl (fun d h => d.revTick h) (allSpins.foldl (fun d s => d.angleTick s) d)
  let d := allHeads.foldl (fun d h => d.rateSwitch h) d.keepTick
  let d := allHeads.foldl (fun d h => d.modeRuns t h) d
  let d := allHeads.foldl (fun d h => d.sendHead (tickOf t) h) d.applyServo
  let d := allSpins.foldl (fun d s => d.sendSpin (tickOf t) s) d
  let d := allHeads.foldl (fun d h => d.ageHead h) d
  let d := allSpins.foldl (fun d s => if tickOf t % 8 = 0 then (d.ageSpin s).windowTick s else d.ageSpin s) d
  d.ageReads

/-- TICK (R21): the Tick that began at the last boundary ends, and the next begins. Once the PLL has stopped Keeper alone runs on
(R20, R32, R390). -/
def Dev.tick (d : Dev) (t : Nat) : Dev :=
  if d.keeper.pllStopped then d.keepTick else (d.tickEnd t).tickBegin (t / 2500 * 2500 + 2500)

/-- DTIME of the next Tick boundary. -/
def nextTick (t : Nat) : Nat := t / 2500 * 2500 + 2500

/-- TICK: with the supplies off DTIME stands, which starts only after COLD_POWER_ON (R20). -/
def execTick (s : State) : Out :=
  if s.dev.locket.stage == .off then run s id
  else .next { s.onDev (fun d => d.tick s.dtime) with dtime := nextTick s.dtime }

/-! ## An M-tick (R21, R24, R343, R361, R364, R371, R372, R379, R440, R446) -/

/-- The bus of a spindle at a boundary (R173): an M-tick at or above 21.6 V. -/
def Dev.busCount (d : Dev) (s : SpinId) : Dev :=
  d.modTorc s fun x => { x with busOk := if (d.spin s).link.held.vbus < 21600 then 0 else x.busOk + 1 }

/-- The cores of the device run. -/
def Dev.coresRun (d : Dev) : Bool := d.locket.stage == .cores || d.locket.stage == .links || d.locket.stage == .done

/-- What the Crown cores do at a boundary: Cameo's tokens, the thermal model and the throttle, the power ladder. With both failed
none of it is done (R400). -/
def Dev.crownTick (d : Dev) (t power : Nat) (zones die : List Nat) : Dev :=
  if d.crownDead then d else ((d.cameoTick (t / 2500000)).thermalTick t power zones die).ladderTick

/-- The ages of what waits by M-ticks: writes, chain rows, the tails of streams, the day's tests; the accounts' clock. -/
def Dev.ageAll (d : Dev) (t : Nat) : Dev :=
  let d := (d.ageWrites.ageRows).ageTails t
  let d := allSpins.foldl (fun d s => d.busCount s) d
  d.modData fun x => { x with holdFullRaised := false }

/-- The boundary that `t` shows is one of an M-tick whose work has not been done (R21). -/
def Dev.mDue (d : Dev) (t : Nat) : Bool := t % 2500000 == 0 && d.mLast != some (t / 2500000)

/-- The units whose cores stop in P3 (R376): Keeper, Hallmark, and what waits for the medium or the host. -/
def Dev.coreTick (d : Dev) (t : Nat) : Dev :=
  if 3 ≤ d.pState then d else (d.ageAll t).keepMTick

/-- M_TICK (R21), at the boundary DTIME shows, once. In P3 CR_0 alone works, in P4 nothing does (R376); Keeper runs on without the
PLL (R32). -/
def Dev.mTick (d : Dev) (t power : Nat) (zones die : List Nat) : Dev :=
  if !d.mDue t || !d.coresRun then d
  else
    let d := { d with mLast := some (t / 2500000), lifeClock := d.lifeClock + 1 }
    if d.keeper.pllStopped then d.keepMTick
    else if 4 ≤ d.pState then d
    else
      let d := ((d.libTick).coreTick t).crownTick t power zones die
      if d.hallmarkDead ∨ 3 ≤ d.pState then d else (allHeads.foldl (fun d h => d.calTick t h) d).lifeTick

/-- M_TICK. -/
def execMTick (power : Nat) (zones die : List Nat) (s : State) : Out := run s fun d => d.mTick s.dtime power zones die

end Sys2Proof.Machine
end

