-- ==== Sys2Proof/Machine/Dispatch.lean ====
section
/-! DEFINITION. The meaning of every command of the table: one arm per constructor of Instr. -/

namespace Sys2Proof.Machine

/-- The effect of a command on everything but the queue. -/
def exec (i : Instr) (s : State) : Host.Outcome State Fault Refusal :=
  match i with
  | .tick => Sys2Proof.Machine.execTick s
  | .mTick power zones die => Sys2Proof.Machine.execMTick power zones die s
  | .ptmPeriodExpiry => Sys2Proof.Machine.execPtmPeriodExpiry s
  | .ptmNow => Sys2Proof.Machine.execPtmNow s
  | .ptmResponse tm tl => Sys2Proof.Machine.execPtmResponse tm tl s
  | .ptmTimeout => Sys2Proof.Machine.execPtmTimeout s
  | .libtimeOfsWrite half value => Sys2Proof.Machine.execLibtimeOfsWrite half value s
  | .registerWrite addr size value => Sys2Proof.Machine.execRegisterWrite addr size value s
  | .readClear addr size => Sys2Proof.Machine.execReadClear addr size s
  | .lowerHalfRead addr => Sys2Proof.Machine.execLowerHalfRead addr s
  | .fifoOverflow fifo => Sys2Proof.Machine.execFifoOverflow fifo s
  | .servoHeartbeatLoss => Sys2Proof.Machine.execServoHeartbeatLoss s
  | .headUpstreamFrame h blocks => Sys2Proof.Machine.execHeadUpstreamFrame h blocks s
  | .mailboxAnswer link tag addr status data => Sys2Proof.Machine.execMailboxAnswer link tag addr status data s
  | .mailboxTimeout link tag => Sys2Proof.Machine.execMailboxTimeout link tag s
  | .mailboxBusyReissue link tag => Sys2Proof.Machine.execMailboxBusyReissue link tag s
  | .mailboxRetry link tag => Sys2Proof.Machine.execMailboxRetry link tag s
  | .homeSwitchReport h seq steps closing => Sys2Proof.Machine.execHomeSwitchReport h seq steps closing s
  | .bankReport h bank crc => Sys2Proof.Machine.execBankReport h bank crc s
  | .correctionAppliedReport h stripe => Sys2Proof.Machine.execCorrectionAppliedReport h stripe s
  | .rateSwitch h rate => Sys2Proof.Machine.execRateSwitch h rate s
  | .rateRelockDone h ok => Sys2Proof.Machine.execRateRelockDone h ok s
  | .signalDetect link => Sys2Proof.Machine.execSignalDetect link s
  | .linkPhaseDone link info => Sys2Proof.Machine.execLinkPhaseDone link info s
  | .linkPhaseFail link => Sys2Proof.Machine.execLinkPhaseFail link s
  | .linkRetryDelay link => Sys2Proof.Machine.execLinkRetryDelay link s
  | .retrain link => Sys2Proof.Machine.execRetrain link s
  | .fullTrain link => Sys2Proof.Machine.execFullTrain link s
  | .marginStart link => Sys2Proof.Machine.execMarginStart link s
  | .marginScanDone link eyeW eyeH compW compH => Sys2Proof.Machine.execMarginScanDone link eyeW eyeH compW compH s
  | .signalLoss link => Sys2Proof.Machine.execSignalLoss link s
  | .spindleUpstreamFrame sp blocks => Sys2Proof.Machine.execSpindleUpstreamFrame sp blocks s
  | .bayWake sp => Sys2Proof.Machine.execBayWake sp s
  | .bezelOverrun b late cycles => Sys2Proof.Machine.execBezelOverrun b late cycles s
  | .followingErrorFault h l => Sys2Proof.Machine.execFollowingErrorFault h l s
  | .learnPassStart h trk => Sys2Proof.Machine.execLearnPassStart h trk s
  | .learnPassEnd h trk => Sys2Proof.Machine.execLearnPassEnd h trk s
  | .lawCommit h slot word => Sys2Proof.Machine.execLawCommit h slot word s
  | .lawStructureWrite h slot stage word => Sys2Proof.Machine.execLawStructureWrite h slot stage word s
  | .traceArm b word => Sys2Proof.Machine.execTraceArm b word s
  | .traceForce b => Sys2Proof.Machine.execTraceForce b s
  | .traceCaptureDone b => Sys2Proof.Machine.execTraceCaptureDone b s
  | .handoverRetry h l => Sys2Proof.Machine.execHandoverRetry h l s
  | .lensCentreEnd h => Sys2Proof.Machine.execLensCentreEnd h s
  | .rampToZeroEnd h => Sys2Proof.Machine.execRampToZeroEnd h s
  | .acquireLaserWaitEnd h => Sys2Proof.Machine.execAcquireLaserWaitEnd h s
  | .focusSettled h => Sys2Proof.Machine.execFocusSettled h s
  | .sweepEnd h => Sys2Proof.Machine.execSweepEnd h s
  | .focusLost h => Sys2Proof.Machine.execFocusLost h s
  | .jumpKickEnd h => Sys2Proof.Machine.execJumpKickEnd h s
  | .jumpBrakeEnd h => Sys2Proof.Machine.execJumpBrakeEnd h s
  | .jumpCoastTimeout h => Sys2Proof.Machine.execJumpCoastTimeout h s
  | .jumpSettled h => Sys2Proof.Machine.execJumpSettled h s
  | .sledProfileEnd h => Sys2Proof.Machine.execSledProfileEnd h s
  | .coilHold h => Sys2Proof.Machine.execCoilHold h s
  | .relocateTimeout h => Sys2Proof.Machine.execRelocateTimeout h s
  | .homeTimeout h => Sys2Proof.Machine.execHomeTimeout h s
  | .homingParkDone h => Sys2Proof.Machine.execHomingParkDone h s
  | .seekRequest h layer stripe => Sys2Proof.Machine.execSeekRequest h layer stripe s
  | .sledSettleEnd h => Sys2Proof.Machine.execSledSettleEnd h s
  | .shortSeekCapture h => Sys2Proof.Machine.execShortSeekCapture h s
  | .shortSeekTimeout h => Sys2Proof.Machine.execShortSeekTimeout h s
  | .guardSettled h => Sys2Proof.Machine.execGuardSettled h s
  | .shockSettled sp => Sys2Proof.Machine.execShockSettled sp s
  | .moGuardWrite h word => Sys2Proof.Machine.execMoGuardWrite h word s
  | .stop h byHost => Sys2Proof.Machine.execStop h byHost s
  | .park h byHost => Sys2Proof.Machine.execPark h byHost s
  | .home h byHost => Sys2Proof.Machine.execHome h byHost s
  | .relocate h byHost => Sys2Proof.Machine.execRelocate h byHost s
  | .torcOverrun t late => Sys2Proof.Machine.execTorcOverrun t late s
  | .tqCtlRun sp run byHost => Sys2Proof.Machine.execTqCtlRun sp run byHost s
  | .speedCmd sp rpm => Sys2Proof.Machine.execSpeedCmd sp rpm s
  | .clear sp => Sys2Proof.Machine.execClear sp s
  | .chopTest sp => Sys2Proof.Machine.execChopTest sp s
  | .chopTestDone sp => Sys2Proof.Machine.execChopTestDone sp s
  | .startDoorWaitEnd sp => Sys2Proof.Machine.execStartDoorWaitEnd sp s
  | .listenEnd sp speed reverse => Sys2Proof.Machine.execListenEnd sp speed reverse s
  | .testPulsesDone sp peaks => Sys2Proof.Machine.execTestPulsesDone sp peaks s
  | .alignEnd sp => Sys2Proof.Machine.execAlignEnd sp s
  | .rampHandover sp => Sys2Proof.Machine.execRampHandover sp s
  | .rampAgreeTimeout sp => Sys2Proof.Machine.execRampAgreeTimeout sp s
  | .atSpeed sp => Sys2Proof.Machine.execAtSpeed sp s
  | .decelEnd sp => Sys2Proof.Machine.execDecelEnd sp s
  | .standstill sp => Sys2Proof.Machine.execStandstill sp s
  | .chopperFault sp => Sys2Proof.Machine.execChopperFault sp s
  | .keWindowEnd sp ke => Sys2Proof.Machine.execKeWindowEnd sp ke s
  | .abnormalClear sp => Sys2Proof.Machine.execAbnormalClear sp s
  | .busRecovery sp => Sys2Proof.Machine.execBusRecovery sp s
  | .eject sp => Sys2Proof.Machine.execEject sp s
  | .load sp => Sys2Proof.Machine.execLoad sp s
  | .trayTimeout sp => Sys2Proof.Machine.execTrayTimeout sp s
  | .codewordReady job word => Sys2Proof.Machine.execCodewordReady job word s
  | .codewordDecoded job word => Sys2Proof.Machine.execCodewordDecoded job word s
  | .softHoldDispatch => Sys2Proof.Machine.execSoftHoldDispatch s
  | .ladderStep job => Sys2Proof.Machine.execLadderStep job s
  | .writeArm h jobs => Sys2Proof.Machine.execWriteArm h jobs s
  | .writeSectorEnd h spot => Sys2Proof.Machine.execWriteSectorEnd h spot s
  | .laserWriteHandover h => Sys2Proof.Machine.execLaserWriteHandover h s
  | .wsEntryWrite h layer cls value => Sys2Proof.Machine.execWsEntryWrite h layer cls value s
  | .verifyRead write => Sys2Proof.Machine.execVerifyRead write s
  | .wtempWaitExpiry write => Sys2Proof.Machine.execWtempWaitExpiry write s
  | .reallocationWrite job => Sys2Proof.Machine.execReallocationWrite job s
  | .writeStuckRetry write => Sys2Proof.Machine.execWriteStuckRetry write s
  | .remapSectorWrite surf => Sys2Proof.Machine.execRemapSectorWrite surf s
  | .chainRowWrite chain row => Sys2Proof.Machine.execChainRowWrite chain row s
  | .padAfterExpiry chain row => Sys2Proof.Machine.execPadAfterExpiry chain row s
  | .chainEngineDone chain row => Sys2Proof.Machine.execChainEngineDone chain row s
  | .rebuildRewrite chain row => Sys2Proof.Machine.execRebuildRewrite chain row s
  | .memberResync chain member => Sys2Proof.Machine.execMemberResync chain member s
  | .rebuildDone chain => Sys2Proof.Machine.execRebuildDone chain s
  | .peerWrite source addr data => Sys2Proof.Machine.execPeerWrite source addr data s
  | .peerReadDone qid tag ok => Sys2Proof.Machine.execPeerReadDone qid tag ok s
  | .clEnable => Sys2Proof.Machine.execClEnable s
  | .clDisable => Sys2Proof.Machine.execClDisable s
  | .doorbell qid size upper value => Sys2Proof.Machine.execDoorbell qid size upper value s
  | .sqFetch qid entry => Sys2Proof.Machine.execSqFetch qid entry s
  | .lockGrant qid tag => Sys2Proof.Machine.execLockGrant qid tag s
  | .createQueue tag => Sys2Proof.Machine.execCreateQueue tag s
  | .deleteQueue tag => Sys2Proof.Machine.execDeleteQueue tag s
  | .queueRestart tag => Sys2Proof.Machine.execQueueRestart tag s
  | .abort tag => Sys2Proof.Machine.execAbort tag s
  | .getLog tag => Sys2Proof.Machine.execGetLog tag s
  | .identify tag => Sys2Proof.Machine.execIdentify tag s
  | .volumeCreate tag host => Sys2Proof.Machine.execVolumeCreate tag host s
  | .volumeDelete tag => Sys2Proof.Machine.execVolumeDelete tag s
  | .formatSurface tag => Sys2Proof.Machine.execFormatSurface tag s
  | .chainCreate tag host => Sys2Proof.Machine.execChainCreate tag host s
  | .chainDelete tag => Sys2Proof.Machine.execChainDelete tag s
  | .chainReplace tag => Sys2Proof.Machine.execChainReplace tag s
  | .calSave tag => Sys2Proof.Machine.execCalSave tag s
  | .calLoad tag host => Sys2Proof.Machine.execCalLoad tag host s
  | .attest tag host => Sys2Proof.Machine.execAttest tag host s
  | .eventRead tag => Sys2Proof.Machine.execEventRead tag s
  | .softReset tag => Sys2Proof.Machine.execSoftReset tag s
  | .read qid tag => Sys2Proof.Machine.execRead qid tag s
  | .write qid tag => Sys2Proof.Machine.execWrite qid tag s
  | .flush qid tag => Sys2Proof.Machine.execFlush qid tag s
  | .verify qid tag => Sys2Proof.Machine.execVerify qid tag s
  | .append qid tag => Sys2Proof.Machine.execAppend qid tag s
  | .readExtent qid tag => Sys2Proof.Machine.execReadExtent qid tag s
  | .streamFlush qid tag => Sys2Proof.Machine.execStreamFlush qid tag s
  | .copy qid tag => Sys2Proof.Machine.execCopy qid tag s
  | .receive qid tag => Sys2Proof.Machine.execReceive qid tag s
  | .qfenceWrite qid value => Sys2Proof.Machine.execQfenceWrite qid value s
  | .hostDmaError qid tag => Sys2Proof.Machine.execHostDmaError qid tag s
  | .openMaxExpiry volume => Sys2Proof.Machine.execOpenMaxExpiry volume s
  | .recvTimeout slot => Sys2Proof.Machine.execRecvTimeout slot s
  | .coalesceTimeout qid => Sys2Proof.Machine.execCoalesceTimeout qid s
  | .engineDispatch engine => Sys2Proof.Machine.execEngineDispatch engine s
  | .compressionDone engine => Sys2Proof.Machine.execCompressionDone engine s
  | .decodeError engine => Sys2Proof.Machine.execDecodeError engine s
  | .casketRead line region ecc => Sys2Proof.Machine.execCasketRead line region ecc s
  | .casketWrite line mask data => Sys2Proof.Machine.execCasketWrite line mask data s
  | .mbDrain line region ecc => Sys2Proof.Machine.execMbDrain line region ecc s
  | .evictionWriteDone line => Sys2Proof.Machine.execEvictionWriteDone line s
  | .zline line => Sys2Proof.Machine.execZline line s
  | .casketDisable => Sys2Proof.Machine.execCasketDisable s
  | .casketEnable => Sys2Proof.Machine.execCasketEnable s
  | .invalidateDone => Sys2Proof.Machine.execInvalidateDone s
  | .scrubPass memory bad => Sys2Proof.Machine.execScrubPass memory bad s
  | .journalUpdate unit good => Sys2Proof.Machine.execJournalUpdate unit good s
  | .referenceCheckDone h adc => Sys2Proof.Machine.execReferenceCheckDone h adc s
  | .inhibitTestLaserHalf h onSeen offSeen => Sys2Proof.Machine.execInhibitTestLaserHalf h onSeen offSeen s
  | .inhibitTestWriteHalf h opened => Sys2Proof.Machine.execInhibitTestWriteHalf h opened s
  | .inhibitTestDaily h onSeen offSeen opened => Sys2Proof.Machine.execInhibitTestDaily h onSeen offSeen opened s
  | .calPeriodExpiry h => Sys2Proof.Machine.execCalPeriodExpiry h s
  | .hmCtlRun h => Sys2Proof.Machine.execHmCtlRun h s
  | .converterRunDone h adc => Sys2Proof.Machine.execConverterRunDone h adc s
  | .laserPointsDone h ib p1 p2 p3 => Sys2Proof.Machine.execLaserPointsDone h ib p1 p2 p3 s
  | .writePowerTrialDone h layer err => Sys2Proof.Machine.execWritePowerTrialDone h layer err s
  | .servoScaleUpdate h te fe tilt => Sys2Proof.Machine.execServoScaleUpdate h te fe tilt s
  | .focusMarginScanDone h layer tilt err => Sys2Proof.Machine.execFocusMarginScanDone h layer tilt err s
  | .ageingSample unit code value => Sys2Proof.Machine.execAgeingSample unit code value s
  | .sensorBrokenClear word mask => Sys2Proof.Machine.execSensorBrokenClear word mask s
  | .thAmbient temp => Sys2Proof.Machine.execThAmbient temp s
  | .ambientTimeout => Sys2Proof.Machine.execAmbientTimeout s
  | .throttleDwellExpiry => Sys2Proof.Machine.execThrottleDwellExpiry s
  | .p1IdleExpiry => Sys2Proof.Machine.execP1IdleExpiry s
  | .p2IdleExpiry => Sys2Proof.Machine.execP2IdleExpiry s
  | .spindownExpiry => Sys2Proof.Machine.execSpindownExpiry s
  | .d3hotEntry => Sys2Proof.Machine.execD3hotEntry s
  | .pmeTurnOff => Sys2Proof.Machine.execPmeTurnOff s
  | .pmCtlWake => Sys2Proof.Machine.execPmCtlWake s
  | .powerExitDone => Sys2Proof.Machine.execPowerExitDone s
  | .d0Return => Sys2Proof.Machine.execD0Return s
  | .surfaceMount surf spot0 spot1 spot2 spot3 sectors => Sys2Proof.Machine.execSurfaceMount surf spot0 spot1 spot2 spot3 sectors s
  | .remapScanDone surf found => Sys2Proof.Machine.execRemapScanDone surf found s
  | .speedWindow sp => Sys2Proof.Machine.execSpeedWindow sp s
  | .dieSensorSample temps => Sys2Proof.Machine.execDieSensorSample temps s
  | .shutdownPllStop => Sys2Proof.Machine.execShutdownPllStop s
  | .coreDip => Sys2Proof.Machine.execCoreDip s
  | .dipSettleEnd bus => Sys2Proof.Machine.execDipSettleEnd bus s
  | .releaseHoldExpiry sp => Sys2Proof.Machine.execReleaseHoldExpiry sp s
  | .coreHeartbeatLoss core => Sys2Proof.Machine.execCoreHeartbeatLoss core s
  | .keeperFailure => Sys2Proof.Machine.execKeeperFailure s
  | .coldPowerOn straps => Sys2Proof.Machine.execColdPowerOn straps s
  | .resetN => Sys2Proof.Machine.execResetN s
  | .hostReset => Sys2Proof.Machine.execHostReset s
  | .functionLevelReset => Sys2Proof.Machine.execFunctionLevelReset s
  | .bootImageVerified => Sys2Proof.Machine.execBootImageVerified s
  | .dramTrainingDone => Sys2Proof.Machine.execDramTrainingDone s
  | .coreSelfTestDone failed => Sys2Proof.Machine.execCoreSelfTestDone failed s
  | .configRequest reg => Sys2Proof.Machine.execConfigRequest reg s
  | .lock => Sys2Proof.Machine.execLock s
  | .debugToken token => Sys2Proof.Machine.execDebugToken token s
  | .suppressedTimeout code => Sys2Proof.Machine.execSuppressedTimeout code s
  | .stageDrain n => Sys2Proof.Machine.execStageDrain n s
  | .ident => Sys2Proof.Machine.execIdent s
  | .status => Sys2Proof.Machine.execStatus s
  | .health kind index => Sys2Proof.Machine.execHealth kind index s
  | .events first => Sys2Proof.Machine.execEvents first s
  | .mgWake => Sys2Proof.Machine.execMgWake s
  | .ambient temp => Sys2Proof.Machine.execAmbient temp s
  | .imgBegin slot => Sys2Proof.Machine.execImgBegin slot s
  | .imgData offset data => Sys2Proof.Machine.execImgData offset data s
  | .imgEnd => Sys2Proof.Machine.execImgEnd s
  | .responseRead => Sys2Proof.Machine.execResponseRead s
  | .sweepReturnEnd h => Sys2Proof.Machine.execSweepReturnEnd h s
  | .hostReadCompletion qid tag data => Sys2Proof.Machine.execHostReadCompletion qid tag data s
  | .pcieLinkUp => Sys2Proof.Machine.execPcieLinkUp s
  | .perstDeassert => Sys2Proof.Machine.execPerstDeassert s
  | .decompressionDone engine => Sys2Proof.Machine.execDecompressionDone engine s
  | .idleRevolution h => Sys2Proof.Machine.execIdleRevolution h s
  | .ref25Failure => Sys2Proof.Machine.execRef25Failure s
  | .supervisorRelease => Sys2Proof.Machine.execSupervisorRelease s
  | .startupComplete => Sys2Proof.Machine.execStartupComplete s
  | .managementRequestBad kind => Sys2Proof.Machine.execManagementRequestBad kind s

end Sys2Proof.Machine
end

