-- ==== Sys2Proof/Safety.lean ====
section
/-! DEFINITION. What counts as a well-kept state, and what a command leaves unchanged, in the terms the statements use. -/

namespace Sys2Proof.Machine

/-- The register file, the pending values and the byte memories are in canonical form. -/
def Dev.wf (d : Dev) : Bool :=
  Sparse.ok keyDefault d.regs && Sparse.ok (fun _ => (0 : Byte)) d.mem.dram
    && Sparse.ok (fun _ => (0xFF : Byte)) d.locket.nor

/-- The parts of the device beside its registers, its heads and its spindles. Cameo, the pending bits of MSI-X and what has been
sent are no part: the end of every command may change them (R440 to R446). -/
inductive Part where
  | freeIdx | rvPend | hmPend | lifeClock | mLast | latches | hostRead | libTime | pcie | locket | mgmt | keeper | thermal | power | mem
  | filigree | clasp | data | accounts | chains | surfaces | cores | bezels
deriving DecidableEq, Repr

/-- A part is the same in two devices. -/
def Part.same (a b : Dev) : Part → Prop
  | .freeIdx => b.freeIdx = a.freeIdx
  | .rvPend => b.rvPend = a.rvPend
  | .hmPend => b.hmPend = a.hmPend
  | .lifeClock => b.lifeClock = a.lifeClock
  | .mLast => b.mLast = a.mLast
  | .latches => b.latches = a.latches
  | .hostRead => b.hostRead = a.hostRead
  | .libTime => b.libTime = a.libTime
  | .pcie => b.pcie = a.pcie
  | .locket => b.locket = a.locket
  | .mgmt => b.mgmt = a.mgmt
  | .keeper => b.keeper = a.keeper
  | .thermal => b.thermal = a.thermal
  | .power => b.power = a.power
  | .mem => b.mem = a.mem
  | .filigree => b.filigree = a.filigree
  | .clasp => b.clasp = a.clasp
  | .data => b.data = a.data
  | .accounts => b.accounts = a.accounts
  | .chains => b.chains = a.chains
  | .surfaces => b.surfaces = a.surfaces
  | .cores => b.cores = a.cores
  | .bezels => b.bezels = a.bezels

/-- What may change from `s` to `t`: the registers that `regs` names, the parts, the heads and the spindles listed. Everything
else is as it was: DTIME, the queue, every other register, part, head and spindle. Cameo, the pending bits of MSI-X and what has
been sent follow the end of the command. -/
structure Frame (regs : Fld → Nat → Prop) (parts : List Part) (heads : List HeadId) (spins : List SpinId) (s t : State) : Prop where
  dtime : t.dtime = s.dtime
  pending : t.pending = s.pending
  registers : ∀ f i, ¬regs f i → f ≠ .MSIX_PBA_BITS → getF t.dev f i = getF s.dev f i
  others : ∀ p, p ∉ parts → p.same s.dev t.dev
  headsKept : ∀ h, h ∉ heads → t.dev.head h = s.dev.head h
  spinsKept : ∀ h, h ∉ spins → t.dev.spin h = s.dev.spin h

/-- No register. -/
def noRegs : Fld → Nat → Prop := fun _ _ => False

/-- The listed fields, each at the instance beside it. -/
def theRegs (l : List (Fld × Nat)) : Fld → Nat → Prop := fun f i => (f, i) ∈ l

/-- The head of a head link, and none for a spindle link. -/
def linkHeads (l : LinkId) : List HeadId := match l with | .head h => [h] | .spin _ => []
/-- The spindle of a spindle link, and none for a head link. -/
def linkSpins (l : LinkId) : List SpinId := match l with | .head _ => [] | .spin s => [s]

/-- Cameo records an event raised now without a detour (R440 to R444): a Crown core runs, the device is above P4, nothing else is being judged, recording is
not stopped, the stage and the log have room, and the bucket of a rate-limited code holds a token. -/
structure Dev.Hears (d : Dev) (e : Event) : Prop where
  alive : d.crownDead = false
  awake : getF d .PM_STAT_STATE 0 ≠ 4
  none : d.cameo.raised = []
  running : d.cameo.stopped = false
  room : d.cameo.stage.length < 4095
  unlost : d.cameo.lost = 0
  held : d.cameo.held < 262142
  token : Event.limited.contains e.code = true → 0 < d.cameo.tokens e.code

/-- The event has been recorded at the command from `s` to `t`, with its instance and its parameters (R438, R439). -/
def Recorded (e : Event) (inst : Nat) (params : List Nat) (s t : State) : Prop :=
  ∃ x ∈ t.dev.cameo.stage, x.code = e.code ∧ x.severity = e.severity ∧ x.source = e.block * 128 + inst % 128
    ∧ x.dtime = s.dtime ∧ x.params = params.map (· % 2 ^ 32)

/-- The outstanding command of a pair and tag has been completed with a status and count (R281): it is no longer outstanding, and
its completion entry has been written at the pair's completion tail, with the pair's phase. -/
def Completed (q tag status count : Nat) (s t : State) : Prop :=
  t.dev.cmd? q tag = none ∧ ∃ p c idx logged, s.dev.pair? q = some p ∧ s.dev.cmd? q tag = some c
    ∧ HostMsg.write (p.cqBase + 16 * p.cqTail) (cqEntry tag status count c.sqHead idx logged p.phase) ∈ t.dev.hostOut

/-- Casket is coherent (R318 to R323): each line has at most one entry in each buffer, an eviction entry is a whole line, a line of
the array is what the buffers and DRAM give, and a ZLINE that waits covers its whole line. -/
structure Mem.Coherent (m : Mem) : Prop where
  mergeOnce : (m.merge.map (·.line)).Nodup
  evictOnce : (m.evict.map (·.line)).Nodup
  whole : ∀ e ∈ m.evict, e.bytes.length = 128
  array : ∀ a ∈ m.array, a.bytes = m.overMerge a.line (m.fill a.line)
  zeroed : ∀ w ∈ m.waiting, w.zero = true → w.mask = fullMask

/-- Level S has been taken on a spindle (R390, R404): both latches, the permit gone, RUN at 0, the bridges held off, Torc in FAULT
where its core runs, the four heads inhibited, and the cause with its time. -/
structure LevelS (code unit : Nat) (x : SpinId) (s t : State) : Prop where
  latched : t.dev.spinLatch x = true ∧ t.dev.spinLatchS x = true
  permit : bit (getF t.dev .KP_PERMIT_BITS 0) x = false
  run : getF t.dev .TQ_CTL_RUN x = 0
  bridge : (t.dev.spin x).down.bridgeInhibit = true
  torc : s.dev.torcDead x = false → t.dev.torcState x = 10
  heads : ∀ h ∈ headsOf x, (t.dev.head h).down.laserInhibit = true ∧ (t.dev.head h).down.writeInhibit = true
    ∧ (t.dev.head h).motion.wantFault = true
  cause : getF t.dev .KP_CAUSE_CODE 0 = code ∧ getF t.dev .KP_CAUSE_UNIT 0 = unit ∧ getF t.dev .KP_STAT_LAST_SF 0 = code
    ∧ getF t.dev .KP_CAUSE_TIME 0 = s.dtime % 2 ^ 48

/-- The level of KP_STAT.DEV, 1 for D and 2 for X, has been taken (R390, R404): every spindle at S, every permit gone, every head
inhibited, the alarm, reset kind K, the cause with its time. RUN of a spindle is 0, unless the stored records set it. -/
structure LevelD (level code unit : Nat) (s t : State) : Prop where
  dev : getF t.dev .KP_STAT_DEV 0 = level ∧ getF t.dev .KP_STAT_ALARM 0 = 1 ∧ getF t.dev .SY_RESET_LAST 0 = 6
  latched : ∀ x, t.dev.spinLatch x = true ∧ t.dev.spinLatchS x = true
  permit : ∀ x : SpinId, bit (getF t.dev .KP_PERMIT_BITS 0) x = false
  heads : ∀ h, (t.dev.head h).down.laserInhibit = true ∧ (t.dev.head h).down.writeInhibit = true
  spins : ∀ x, s.dev.spinLatchS x = false → (t.dev.spin x).down.bridgeInhibit = true
    ∧ ((∀ p ∈ s.dev.locket.image, fldOf p.1 ≠ .TQ_CTL_RUN) → getF t.dev .TQ_CTL_RUN x = 0)
  cause : getF t.dev .KP_CAUSE_CODE 0 = code ∧ getF t.dev .KP_CAUSE_UNIT 0 = unit ∧ getF t.dev .KP_STAT_LAST_SF 0 = code
    ∧ getF t.dev .KP_CAUSE_TIME 0 = s.dtime % 2 ^ 48

/-- The management port has answered (R447): opcode, STATUS and data wait as the response, and MG_STAT counts and names it. -/
structure Answered (op status : Nat) (data : List Byte) (s t : State) : Prop where
  resp : t.dev.mgmt.resp = BitVec.ofNat 8 op :: BitVec.ofNat 8 status :: data
  ready : t.dev.mgmt.pending = true
  last : getF t.dev .MG_STAT_LAST_OP 0 = op
  count : getF t.dev .MG_STAT_MSGS 0 = min 255 (getF s.dev .MG_STAT_MSGS 0 + 1)

/-- The registers whose write is nothing but the setting of their fields (R7, R466): every one but those with an action of their
own. -/
def Reg.plain (r : Reg) : Bool :=
  !([.SY_LIBTIME_OFS, .SY_TIME_CTL, .HL_CTL, .SL_CTL, .BZ_LAW_H0, .BZ_LAW_STRUCT, .BZ_TRACE_CTL, .MO_CTL, .MO_GUARD, .TQ_CTL,
    .TQ_STAT, .TQ_DOOR_CTL, .FC_DEFECT_CFG, .BZ_TRACE_NODE, .FC_WS_ENTRY, .CL_CTL, .CL_AQ_SQ_BASE, .CL_AQ_CQ_BASE, .CL_AQ_SIZE, .CL_QFENCE, .CL_DOORBELL,
    .MSIX_TABLE, .CK_CTL, .HM_CTL, .HM_ADC_SEL, .HM_ADC_TRIM, .HM_SCALE, .TH_AMBIENT, .TH_BROKEN, .PM_CTL, .LK_CTL,
    .CM_STAT] : List Reg).contains r

end Sys2Proof.Machine
end

