-- ==== Sys2Proof/Certificates/Slice0/Obligations.lean ====
section
/-! DEFINITION. The statements about the machine, for the provers. -/

open Sys2Proof Sys2Proof.Machine

/-- A step with command c at the front of the queue is exec of c on the state with the queue's rest; with nothing waiting
it answers the same state (the idle step is the model's choice, log entry 9). (What each step holds) -/
def Obligations.StepRunsTheFrontCommand : Prop :=
  (∀ (c : Instr) (rest : List Instr) (s : State),
    step { s with pending := c :: rest } = exec c { s with pending := rest })
  ∧ (∀ s : State, s.pending = [] → step s = .next s)

/-- Whatever command answers a next state: the queue stays as it was; DTIME stays unless the command is TICK, which never
moves it back, or COLD_POWER_ON, which clears it. (Time bases, What each step holds) -/
def Obligations.OnlyTickAndPowerOnMoveTime : Prop :=
  ∀ (c : Instr) (s t : State), exec c s = .next t →
    t.pending = s.pending
    ∧ ((∀ x, c ≠ .coldPowerOn x) → s.dtime ≤ t.dtime)
    ∧ ((∀ x, c ≠ .coldPowerOn x) → c ≠ .tick → t.dtime = s.dtime)
    ∧ (∀ x, c = .coldPowerOn x → t.dtime = 0)

/-- If DTIME stands on a Tick boundary, a multiple of 2,500 ns, then after any step that answers a next state it stands on
one again, and one TICK with the supplies on moves it by exactly one Tick. Whatever the state, with the supplies on
TICK completes and takes DTIME to the next boundary; with the PLL stopped Keeper alone goes on, its BEAT one further,
and the discs, the host's queues and memory stand still; with the supplies off TICK changes nothing. That DTIME stands
only on boundaries between commands is the model's choice (log entry 36). (Time bases) -/
def Obligations.TickBoundaryInvariant : Prop :=
  (∀ s t : State, s.dtime % 2500 = 0 → step s = .next t → t.dtime % 2500 = 0)
  ∧ (∀ s t : State, s.dtime % 2500 = 0 → s.dev.locket.stage ≠ .off → exec .tick s = .next t → t.dtime = s.dtime + 2500)
  ∧ (∀ s : State, s.dev.locket.stage ≠ .off → ∃ t, exec .tick s = .next t ∧ t.dtime = s.dtime / 2500 * 2500 + 2500
      ∧ t.pending = s.pending)
  ∧ (∀ s : State, s.dev.locket.stage ≠ .off → s.dev.keeper.pllStopped = true → s.dev.keeper.failed = false →
      ∃ t, exec .tick s = .next t ∧ t.dtime = s.dtime / 2500 * 2500 + 2500
        ∧ t.dev.keeper.beat = (s.dev.keeper.beat + 1) % 4096 ∧ t.dev.surfaces = s.dev.surfaces
        ∧ t.dev.clasp = s.dev.clasp ∧ t.dev.mem = s.dev.mem)
  ∧ (∀ s : State, s.dev.locket.stage = .off → ∃ t, exec .tick s = .next t ∧ Frame noRegs [] [] [] s t)

/-- After reset DTIME is 0 and so on a Tick boundary, the queue is empty, the memories and the register file are in
canonical form, and every field of every register holds its reset value. (Time bases, Register maps) -/
def Obligations.ResetMeetsTheInvariants : Prop :=
  State.reset.dtime = 0 ∧ State.reset.pending = [] ∧ State.reset.dev.wf = true
  ∧ ∀ f i, getF State.reset.dev f i = f.resetVal i

/-- PTM_PERIOD_EXPIRY with PTM_EN 1 and a nonzero period, and PTM_NOW with PTM_EN 1, start a dialogue and send its request
when none runs, the device is above P3 and the PCIe link is in L0; a response lets the offset t_m − t_l modulo 2^64
wait for the next M-tick and changes no register; a dialogue that times out counts in PTM_FAILS, saturating at 255,
and only the third in a row clears LT_VALID. In each case nothing else changes. (Library time, Time registers) -/
def Obligations.PtmDialogues : Prop :=
  (∀ s : State, getF s.dev .SY_TIME_CTL_PTM_EN 0 = 1 → getF s.dev .SY_TIME_CTL_PTM_PERIOD 0 ≠ 0 →
      getF s.dev .PM_STAT_STATE 0 < 3 → s.dev.pcie.linkUp = true → s.dev.libTime.run = false →
      ∃ t, exec .ptmPeriodExpiry s = .next t ∧ t.dev.libTime = { s.dev.libTime with run := true, due := false }
        ∧ HostMsg.ptmRequest ∈ t.dev.hostOut ∧ Frame noRegs [.libTime] [] [] s t)
  ∧ (∀ s : State, getF s.dev .SY_TIME_CTL_PTM_EN 0 = 1 → getF s.dev .PM_STAT_STATE 0 < 3 → s.dev.pcie.linkUp = true →
      s.dev.libTime.run = false →
      ∃ t, exec .ptmNow s = .next t ∧ t.dev.libTime = { s.dev.libTime with run := true, due := false }
        ∧ HostMsg.ptmRequest ∈ t.dev.hostOut ∧ Frame noRegs [.libTime] [] [] s t)
  ∧ (∀ (tm tl : Nat) (s : State), s.dev.libTime.run = true →
      ∃ t, exec (.ptmResponse tm tl) s = .next t ∧ t.dev.libTime.run = false ∧ t.dev.libTime.fails = 0
        ∧ t.dev.libTime.ptm = some (((tm : Int) - (tl : Int)) % 2 ^ 64).toNat ∧ Frame noRegs [.libTime] [] [] s t)
  ∧ (∀ s : State, s.dev.libTime.run = true → getF s.dev .SY_TIME_CTL_PTM_FAILS 0 ≤ 255 →
      ∃ t, exec .ptmTimeout s = .next t ∧ t.dev.libTime.run = false ∧ t.dev.libTime.fails = s.dev.libTime.fails + 1
        ∧ getF t.dev .SY_TIME_CTL_PTM_FAILS 0 = min 255 (getF s.dev .SY_TIME_CTL_PTM_FAILS 0 + 1)
        ∧ getF t.dev .SY_TIME_CTL_LT_VALID 0 = (if 2 ≤ s.dev.libTime.fails then 0 else getF s.dev .SY_TIME_CTL_LT_VALID 0)
        ∧ Frame (theRegs [(.SY_TIME_CTL_PTM_FAILS, 0), (.SY_TIME_CTL_LT_VALID, 0)]) [.libTime] [] [] s t)

/-- LIBTIME_OFS_WRITE of a lower half only waits; an upper half with a lower half waiting commits both, and a write of
both halves commits at once; none of them changes a register. At an M-tick boundary with the host's offset due that
offset is applied and a PTM result due with it is discarded, LT_VALID is set, and the M-tick counts; with a PTM result
alone due that one is applied. The M-tick clause is of a device whose Crown and Hallmark cores have failed, where
nothing else works at the boundary but the ages of what waits; that M_TICK leaves DTIME alone holds in every state,
and away from an M-tick boundary, or a second time at one, it does nothing. (Library time, Time bases) -/
def Obligations.LibraryTimeOffset : Prop :=
  (∀ (v : Nat) (s : State), v < 2 ^ 32 →
      ∃ t, exec (.libtimeOfsWrite .lower v) s = .next t ∧ t.dev.libTime = { s.dev.libTime with lower := some v }
        ∧ Frame noRegs [.libTime] [] [] s t)
  ∧ (∀ (v w : Nat) (s : State), v < 2 ^ 32 → w < 2 ^ 32 → s.dev.libTime.lower = some w →
      ∃ t, exec (.libtimeOfsWrite .upper v) s = .next t
        ∧ t.dev.libTime = { s.dev.libTime with lower := none, host := some (v * 2 ^ 32 + w) } ∧ Frame noRegs [.libTime] [] [] s t)
  ∧ (∀ (v : Nat) (s : State), v < 2 ^ 64 →
      ∃ t, exec (.libtimeOfsWrite .both v) s = .next t
        ∧ t.dev.libTime = { s.dev.libTime with lower := none, host := some v } ∧ Frame noRegs [.libTime] [] [] s t)
  ∧ (∀ (v : Nat) (d : Dev), v < 2 ^ 64 → (d.libTime.host = some v ∨ d.libTime.host = none ∧ d.libTime.ptm = some v) →
      getF d.libTick .SY_LIBTIME_OFS_OFFSET 0 = v ∧ getF d.libTick .SY_TIME_CTL_LT_VALID 0 = 1
        ∧ d.libTick.libTime = { d.libTime with host := none, ptm := none }
        ∧ ∀ n, d.libTick.libNow n = (n + v) % 2 ^ 64)
  ∧ (∀ (power : Nat) (zones die : List Nat) (s : State),
      ∃ t, exec (.mTick power zones die) s = .next t ∧ t.dtime = s.dtime ∧ t.pending = s.pending)
  ∧ (∀ (power v : Nat) (zones die : List Nat) (s : State), v < 2 ^ 64 → s.dev.coresRun = true → s.dev.keeper.pllStopped = false →
      s.dtime % 2500000 = 0 → s.dev.mLast ≠ some (s.dtime / 2500000) → s.dev.pState < 3 → s.dev.crownDead = true → s.dev.hallmarkDead = true → s.dev.libTime.host = some v →
      ∃ t, exec (.mTick power zones die) s = .next t ∧ getF t.dev .SY_LIBTIME_OFS_OFFSET 0 = v
        ∧ getF t.dev .SY_TIME_CTL_LT_VALID 0 = 1 ∧ t.dev.libTime.ptm = none ∧ t.dev.lifeClock = s.dev.lifeClock + 1
        ∧ t.dev.mLast = some (s.dtime / 2500000))
  ∧ (∀ (power : Nat) (zones die : List Nat) (s : State), (s.dtime % 2500000 ≠ 0 ∨ s.dev.mLast = some (s.dtime / 2500000)) →
      ∃ t, exec (.mTick power zones die) s = .next t ∧ Frame noRegs [] [] [] s t)

/-- A 4-byte write of a 32-bit register without an action of its own sets every RW field to its bits of the value when
these lie in the field's range and leaves the field when they do not; RO fields stay; nothing outside the register
changes, but for the waiting values of RV fields; a write to an offset that no map names changes nothing. The premise
on the widths of the fields held rules out states that no run reaches. (Register maps) -/
def Obligations.RegisterWriteSetsFields : Prop :=
  (∀ (addr v : Nat) (r : Reg) (i : Nat) (s : State), s.dev.answers = true → addr % 4 = 0 → v < 2 ^ 32 →
      regAt addr = some (r, i, 0) → r.info.width = 32 → r.plain = true →
      (∀ f ∈ r.fields, fieldHeld s.dev f i < 2 ^ f.info.width) →
      ∃ t, exec (.registerWrite addr 4 v) s = .next t
        ∧ (∀ f ∈ r.fields, f.info.access = .RW →
            getF t.dev f i = if Sys2Proof.Machine.rangeOk f (fieldOf f v) then fieldOf f v else getF s.dev f i)
        ∧ (∀ f ∈ r.fields, f.info.access = .RO → f ≠ .MSIX_PBA_BITS → getF t.dev f i = getF s.dev f i)
        ∧ Frame (fun g j => g ∈ r.fields ∧ j = i) [.rvPend, .hmPend] [] [] s t)
  ∧ (∀ (addr v : Nat) (s : State), addr % 4 = 0 → regAt addr = none →
      ∃ t, exec (.registerWrite addr 4 v) s = .next t ∧ Frame noRegs [] [] [] s t)

/-- A 4-byte read of a 32-bit register returns its word and clears its RC fields and nothing else; the DROPPED counter of
CM_STAT returns to 0 as well; a read at an offset that no map names, or one that is not naturally aligned, returns all
ones and changes nothing else. (Register maps) -/
def Obligations.ReadClearsItsRcFields : Prop :=
  (∀ (addr : Nat) (r : Reg) (i : Nat) (s : State), s.dev.answers = true → addr % 4 = 0 →
      regAt addr = some (r, i, 0) → r.info.width = 32 →
      ∃ t, exec (.readClear addr 4) s = .next t
        ∧ t.dev.hostRead = some (addr, 4, s.dev.regSeen s.dtime r i % 2 ^ 32)
        ∧ (∀ f ∈ r.fields, f.info.access = .RC → f ≠ .CM_STAT_DROPPED → getF t.dev f i = 0)
        ∧ Frame (fun g j => g ∈ r.fields ∧ g.info.access = .RC ∧ j = i) [.hostRead] [] [] s t)
  ∧ (∀ (addr i : Nat) (s : State), s.dev.answers = true → addr % 4 = 0 → regAt addr = some (.CM_STAT, i, 0) →
      s.dev.cameo.raised = [] →
      ∃ t, exec (.readClear addr 4) s = .next t ∧ t.dev.cameo.dropped = 0)
  ∧ (∀ (addr : Nat) (s : State), s.dev.answers = true → (addr % 4 ≠ 0 ∨ regAt addr = none) →
      ∃ t, exec (.readClear addr 4) s = .next t ∧ t.dev.hostRead = some (addr, 4, 2 ^ 32 - 1) ∧ Frame noRegs [.hostRead] [] [] s t)

/-- For every 64-bit register: an 8-byte read returns both halves at one instant; a 4-byte read of the lower half returns
it and latches the upper half at the same instant, whatever RC fields that read clears; the next 4-byte read of the
upper half returns the latched value and consumes the latch; an upper-half read with no unconsumed latch returns the
upper half as it stands. (R12) -/
def Obligations.HalvesOfA64BitRegister : Prop :=
  (∀ (addr : Nat) (r : Reg) (i : Nat) (s : State), s.dev.answers = true → addr % 8 = 0 →
      regAt addr = some (r, i, 0) → regAt (addr + 4) = some (r, i, 4) → r.info.width = 64 →
      ∃ t, exec (.readClear addr 8) s = .next t ∧ t.dev.hostRead = some (addr, 8, s.dev.regSeen s.dtime r i % 2 ^ 64)
        ∧ t.dev.latches = s.dev.latches)
  ∧ (∀ (addr : Nat) (r : Reg) (i : Nat) (s : State), s.dev.answers = true → addr % 4 = 0 →
      regAt addr = some (r, i, 0) → r.info.width = 64 →
      ∃ t, exec (.lowerHalfRead addr) s = .next t
        ∧ t.dev.hostRead = some (addr, 4, s.dev.regSeen s.dtime r i % 2 ^ 32)
        ∧ t.dev.latch? (addr + 4) = some (s.dev.regSeen s.dtime r i / 2 ^ 32 % 2 ^ 32)
        ∧ Frame (fun g j => g ∈ r.fields ∧ g.info.access = .RC ∧ j = i) [.hostRead, .latches] [] [] s t)
  ∧ (∀ (addr v : Nat) (r : Reg) (i : Nat) (s : State), s.dev.answers = true → addr % 4 = 0 →
      regAt addr = some (r, i, 4) → r.info.width = 64 → s.dev.latch? addr = some v →
      ∃ t, exec (.readClear addr 4) s = .next t ∧ t.dev.hostRead = some (addr, 4, v) ∧ t.dev.latch? addr = none)
  ∧ (∀ (addr : Nat) (r : Reg) (i : Nat) (s : State), s.dev.answers = true → addr % 4 = 0 →
      regAt addr = some (r, i, 4) → r.info.width = 64 → s.dev.latch? addr = none →
      ∃ t, exec (.readClear addr 4) s = .next t
        ∧ t.dev.hostRead = some (addr, 4, s.dev.regSeen s.dtime r i / 2 ^ 32 % 2 ^ 32))

/-- An answer with the TAG and ADDR of an issued request: STATUS 0 takes the request out of the mailbox; STATUS 2 leaves
it, busy, for a re-issue 4 Ticks later; STATUS 1 ends it at once, and HL_MAILBOX_FAIL names the link, the address and
the status. An answer whose address is another one changes nothing. (Ownership epochs) -/
def Obligations.MailboxAnswers : Prop :=
  (∀ (l : LinkId) (tag addr data : Nat) (s : State) (r : MboxReq), s.dev.issued? l tag = some r → r.addr = addr →
      ∃ t, exec (.mailboxAnswer l tag addr 0 data) s = .next t
        ∧ (t.dev.port l).mbox = (s.dev.port l).mbox.filter (·.tag != tag))
  ∧ (∀ (l : LinkId) (tag addr data : Nat) (s : State) (r : MboxReq), s.dev.issued? l tag = some r → r.addr = addr →
      ∃ t, exec (.mailboxAnswer l tag addr 2 data) s = .next t
        ∧ (t.dev.port l).mbox = ((s.dev.port l).mbox.map fun r => if r.tag = tag then { r with busy := true, status := 2, age := 0 } else r)
        ∧ Frame noRegs [] (linkHeads l) (linkSpins l) s t)
  ∧ (∀ (l : LinkId) (tag addr data : Nat) (s : State) (r : MboxReq), s.dev.issued? l tag = some r → r.addr = addr →
      ∃ t, exec (.mailboxAnswer l tag addr 1 data) s = .next t
        ∧ (t.dev.port l).mbox = ((s.dev.port l).mbox.map fun r => if r.tag = tag then { r with failed := true, raised := true, age := 0 } else r)
        ∧ (r.raised = false → s.dev.Hears .HL_MAILBOX_FAIL →
            Recorded .HL_MAILBOX_FAIL (linkIx l) [linkName l, addr, 1] s t)
        ∧ Frame noRegs [] (linkHeads l) (linkSpins l) s t)
  ∧ (∀ (l : LinkId) (tag addr st data : Nat) (s : State), (∀ r, s.dev.issued? l tag = some r → r.addr ≠ addr) →
      ∃ t, exec (.mailboxAnswer l tag addr st data) s = .next t ∧ Frame noRegs [] [] [] s t)

/-- Four Ticks after a request was issued without an answer, or after a busy answer, it is queued again; when it has been
re-issued three times it ends in HL_MAILBOX_FAIL, which names the status of its last answer (0xFF for none). 400 Ticks
after a failure, while the link is UP, the request is made again from the start. (Ownership epochs) -/
def Obligations.MailboxRetries : Prop :=
  (∀ (l : LinkId) (tag : Nat) (s : State) (r : MboxReq), s.dev.issued? l tag = some r → r.busy = false → 4 ≤ r.age → r.reissues < 3 →
      ∃ t, exec (.mailboxTimeout l tag) s = .next t
        ∧ (t.dev.port l).mbox = ((s.dev.port l).mbox.map fun x => if x.tag = tag then { x with queued := true, busy := false, age := 0, reissues := x.reissues + 1 } else x)
        ∧ Frame noRegs [] (linkHeads l) (linkSpins l) s t)
  ∧ (∀ (l : LinkId) (tag : Nat) (s : State) (r : MboxReq), s.dev.issued? l tag = some r → r.busy = false → 4 ≤ r.age → 3 ≤ r.reissues →
      ∃ t, exec (.mailboxTimeout l tag) s = .next t
        ∧ (t.dev.port l).mbox = ((s.dev.port l).mbox.map fun x => if x.tag = tag then { x with failed := true, raised := true, age := 0 } else x)
        ∧ (r.raised = false → s.dev.Hears .HL_MAILBOX_FAIL →
            Recorded .HL_MAILBOX_FAIL (linkIx l) [linkName l, r.addr, r.status] s t)
        ∧ Frame noRegs [] (linkHeads l) (linkSpins l) s t)
  ∧ (∀ (l : LinkId) (tag : Nat) (s : State) (r : MboxReq), s.dev.issued? l tag = some r → r.busy = true → 4 ≤ r.age → r.reissues < 3 →
      ∃ t, exec (.mailboxBusyReissue l tag) s = .next t
        ∧ (t.dev.port l).mbox = ((s.dev.port l).mbox.map fun x => if x.tag = tag then { x with queued := true, busy := false, age := 0, reissues := x.reissues + 1 } else x)
        ∧ Frame noRegs [] (linkHeads l) (linkSpins l) s t)
  ∧ (∀ (l : LinkId) (tag : Nat) (s : State), s.dev.linkState l = 6 →
      ∃ t, exec (.mailboxRetry l tag) s = .next t
        ∧ (t.dev.port l).mbox = ((s.dev.port l).mbox.map fun x => if x.tag = tag ∧ x.failed = true ∧ 400 ≤ x.age
            then { x with failed := false, queued := true, busy := false, reissues := 0, status := 255, age := 0 } else x)
        ∧ Frame noRegs [] (linkHeads l) (linkSpins l) s t)

/-- The signal of a companion begins DETECT on a link that is down and may come up; each step done leads to the next, RATE
for head links only, with a latency of at most 80 ns; VERIFY ends in UP after its 400 Ticks when all four eyes are
wide and high enough. A failed step counts; below RETRY_MAX the link waits in FAULT and begins again 40 Ticks later
when the signal is there; at RETRY_MAX it is locked out, with the link's lockout event. RETRAIN and FULL_TRAIN begin
again from DETECT with the failures forgotten. (Bring-up, retraining and margins) -/
def Obligations.LinkBringUpSteps : Prop :=
  (∀ (l : LinkId) (s : State), s.dev.linkState l = 0 → s.dev.mayBringUp l = true →
      ∃ t, exec (.signalDetect l) s = .next t ∧ t.dev.linkState l = 1 ∧ t.dev.signal? l = true
        ∧ Frame (theRegs [(linkFld l .HL_STATUS_STATE .SL_STATUS_STATE, linkIx l), (linkFld l .HL_STATUS_PRESENT .SL_STATUS_PRESENT, linkIx l)])
            [] (linkHeads l) (linkSpins l) s t)
  ∧ (∀ (l : LinkId) (i : PhaseInfo) (s : State), s.dev.linkState l = 1 →
      ∃ t, exec (.linkPhaseDone l i) s = .next t ∧ t.dev.linkState l = 2)
  ∧ (∀ (l : LinkId) (i : PhaseInfo) (s : State), s.dev.linkState l = 2 → i.latency ≤ 80 →
      ∃ t, exec (.linkPhaseDone l i) s = .next t ∧ t.dev.linkState l = (match l with | .head _ => 3 | .spin _ => 4)
        ∧ getF t.dev (linkFld l .HL_STATUS_LATENCY .SL_STATUS_LATENCY) (linkIx l) = i.latency
        ∧ getF t.dev (linkFld l .HL_STATUS_PEND_REV .SL_STATUS_BAIL_REV) (linkIx l) = i.rev % 256
        ∧ (t.dev.port l).serial = i.serial)
  ∧ (∀ (l : LinkId) (i : PhaseInfo) (s : State), s.dev.linkState l = 3 →
      ∃ t, exec (.linkPhaseDone l i) s = .next t ∧ t.dev.linkState l = 4)
  ∧ (∀ (l : LinkId) (i : PhaseInfo) (s : State), s.dev.linkState l = 4 →
      ∃ t, exec (.linkPhaseDone l i) s = .next t ∧ t.dev.linkState l = 5
        ∧ (t.dev.port l).stored = if (s.dev.port l).full then some ((s.dev.port l).serial, i.coeffs) else (s.dev.port l).stored)
  ∧ (∀ (l : LinkId) (i : PhaseInfo) (s : State), s.dev.linkState l = 5 → eyesOk i = true → 400 ≤ (s.dev.port l).age →
      ∃ t, exec (.linkPhaseDone l i) s = .next t ∧ t.dev.linkState l = 6)
  ∧ (∀ (l : LinkId) (s : State), 1 ≤ s.dev.linkState l → s.dev.linkState l ≤ 5 →
      (s.dev.port l).fails + 1 < getF s.dev (linkFld l .HL_CTL_RETRY_MAX .SL_CTL_RETRY_MAX) (linkIx l) →
      ∃ t, exec (.linkPhaseFail l) s = .next t ∧ t.dev.linkState l = 7 ∧ (t.dev.port l).retryWait = true
        ∧ (t.dev.port l).fails = (s.dev.port l).fails + 1
        ∧ Frame (theRegs [(linkFld l .HL_STATUS_STATE .SL_STATUS_STATE, linkIx l)]) [] (linkHeads l) (linkSpins l) s t)
  ∧ (∀ (l : LinkId) (s : State), 1 ≤ s.dev.linkState l → s.dev.linkState l ≤ 5 →
      getF s.dev (linkFld l .HL_CTL_RETRY_MAX .SL_CTL_RETRY_MAX) (linkIx l) ≤ (s.dev.port l).fails + 1 →
      ∃ t, exec (.linkPhaseFail l) s = .next t ∧ t.dev.linkState l = 8
        ∧ (s.dev.Hears (linkEv l .HL_LINK_LOCKOUT .SL_LINK_LOCKOUT) →
            Recorded (linkEv l .HL_LINK_LOCKOUT .SL_LINK_LOCKOUT) (linkIx l) [] s t)
        ∧ Frame (theRegs [(linkFld l .HL_STATUS_STATE .SL_STATUS_STATE, linkIx l)]) [] (linkHeads l) (linkSpins l) s t)
  ∧ (∀ (l : LinkId) (s : State), s.dev.linkState l = 7 → (s.dev.port l).retryWait = true → 40 ≤ (s.dev.port l).age →
      s.dev.mayBringUp l = true → s.dev.signal? l = true →
      ∃ t, exec (.linkRetryDelay l) s = .next t ∧ t.dev.linkState l = 1 ∧ (t.dev.port l).fails = (s.dev.port l).fails
        ∧ Frame (theRegs [(linkFld l .HL_STATUS_STATE .SL_STATUS_STATE, linkIx l)]) [] (linkHeads l) (linkSpins l) s t)
  ∧ (∀ (l : LinkId) (s : State), s.dev.mayBringUp l = true → s.dev.signal? l = true → s.dev.linkState l ≠ 6 →
      (∃ t, exec (.retrain l) s = .next t ∧ t.dev.linkState l = 1 ∧ (t.dev.port l).fails = 0
        ∧ (t.dev.port l).full = (s.dev.port l).stored.isNone
        ∧ Frame (theRegs [(linkFld l .HL_STATUS_STATE .SL_STATUS_STATE, linkIx l)]) [] (linkHeads l) (linkSpins l) s t)
      ∧ (∃ t, exec (.fullTrain l) s = .next t ∧ t.dev.linkState l = 1 ∧ (t.dev.port l).fails = 0 ∧ (t.dev.port l).full = true
        ∧ Frame (theRegs [(linkFld l .HL_STATUS_STATE .SL_STATUS_STATE, linkIx l)]) [] (linkHeads l) (linkSpins l) s t))

/-- Loss of the signal of a pendant whose link is UP: the link is down, the head is marked faulted and its release
withdrawn, and its next downstream frame carries LASER_SET 0, W_STOP on every spot and no arming; HL_PENDANT_LOST is
recorded. Loss of a bail does the like for the frames of the spindle's four heads. On a link that is not UP or locked
out only PRESENT changes. (Damaged and missing blocks, Bring-up, retraining and margins) -/
def Obligations.LinkLossStopsLaserAndWrites : Prop :=
  (∀ (h : HeadId) (s : State), s.dev.linkState (.head h) = 6 →
      ∃ t, exec (.signalLoss (.head h)) s = .next t ∧ t.dev.linkState (.head h) = 0 ∧ t.dev.signal? (.head h) = false
        ∧ (t.dev.head h).link.faulted = true ∧ getF t.dev .HM_STAT_RELEASED h = 0
        ∧ (t.dev.head h).down.laserSet = 0 ∧ (t.dev.head h).down.wStop = 15 ∧ (t.dev.head h).down.wArm = 0
        ∧ (t.dev.head h).down.armReq = 0
        ∧ (s.dev.Hears .HL_PENDANT_LOST → Recorded .HL_PENDANT_LOST h [] s t))
  ∧ (∀ (p : SpinId) (s : State), s.dev.linkState (.spin p) = 6 →
      ∃ t, exec (.signalLoss (.spin p)) s = .next t ∧ t.dev.linkState (.spin p) = 0 ∧ t.dev.signal? (.spin p) = false
        ∧ ∀ h ∈ headsOf p, (t.dev.head h).down.laserSet = 0 ∧ (t.dev.head h).down.wStop = 15 ∧ (t.dev.head h).down.wArm = 0
            ∧ (t.dev.head h).down.armReq = 0)
  ∧ (∀ (l : LinkId) (s : State), s.dev.linkState l ≠ 6 → s.dev.linkState l ≠ 8 →
      ∃ t, exec (.signalLoss l) s = .next t ∧ t.dev.signal? l = false
        ∧ Frame (theRegs [(linkFld l .HL_STATUS_PRESENT .SL_STATUS_PRESENT, linkIx l)]) [] [] [] s t)

/-- At the switch boundary of a countdown HL_STATUS.RATE takes the rate asked for, and the receivers relock exactly when
the lane rate changes; a relock within its 16 Ticks ends with nothing else changed, and any other faults the head and
begins bring-up when the signal is there. MARGIN_START on a link that is UP clears MARGIN_DONE, and after its 81,920
Ticks the scan shows its results, here for a scan that no Hallmark link run made (log entry 77: MARGIN_DONE clears as
a scan starts, which the manual does not say). (Rates and power states, Bring-up, retraining and margins) -/
def Obligations.LinkRatesAndMargins : Prop :=
  (∀ (h : HeadId) (rate : Nat) (s : State), s.dev.linkState (.head h) = 6 → (s.dev.head h).down.switchIn = 1 →
      (s.dev.head h).down.rateNext = rate → rate < 3 →
      ∃ t, exec (.rateSwitch h rate) s = .next t ∧ getF t.dev .HL_STATUS_RATE h = rate ∧ t.dev.linkState (.head h) = 6
        ∧ (t.dev.head h).down.switchIn = 0
        ∧ (t.dev.head h).link.relock = (if getF s.dev .HL_STATUS_RATE h ≠ rate ∧ (getF s.dev .HL_STATUS_RATE h = 2 ∨ rate = 2)
            then some 0 else (s.dev.head h).link.relock)
        ∧ t.dev.data.reads = s.dev.data.reads ∧ Frame (theRegs [(.HL_STATUS_RATE, h)]) [.data] [h] [] s t)
  ∧ (∀ (h : HeadId) (n : Nat) (s : State), (s.dev.head h).link.relock = some n → n ≤ 16 →
      ∃ t, exec (.rateRelockDone h true) s = .next t
        ∧ t.dev.head h = { s.dev.head h with link := { (s.dev.head h).link with relock := none } } ∧ Frame noRegs [] [h] [] s t)
  ∧ (∀ (h : HeadId) (n : Nat) (s : State), (s.dev.head h).link.relock = some n →
      ∃ t, exec (.rateRelockDone h false) s = .next t ∧ (t.dev.head h).link.faulted = true ∧ (t.dev.head h).link.relock = none
        ∧ t.dev.linkState (.head h) = if s.dev.signal? (.head h) ∧ s.dev.mayBringUp (.head h) then 1 else 0)
  ∧ (∀ (l : LinkId) (s : State), s.dev.linkState l = 6 → (s.dev.port l).margin = none →
      ∃ t, exec (.marginStart l) s = .next t ∧ (t.dev.port l).margin = some 0
        ∧ getF t.dev (linkFld l .HL_STATUS_MARGIN_DONE .SL_STATUS_MARGIN_DONE) (linkIx l) = 0
        ∧ Frame (theRegs [(linkFld l .HL_STATUS_MARGIN_DONE .SL_STATUS_MARGIN_DONE, linkIx l)]) [] (linkHeads l) (linkSpins l) s t)
  ∧ (∀ (l : LinkId) (n w h cw ch : Nat) (s : State), s.dev.linkState l = 6 → (s.dev.port l).margin = some n → 81920 ≤ n →
      (∀ h, l = .head h → s.dev.calAt h .link = false) →
      w < 256 → h < 256 → cw < 256 → ch < 256 →
      ∃ t, exec (.marginScanDone l w h cw ch) s = .next t
        ∧ getF t.dev (linkFld l .HL_STATUS_MARGIN_DONE .SL_STATUS_MARGIN_DONE) (linkIx l) = 1
        ∧ getF t.dev (linkFld l .HL_MARGIN_EYE_W .SL_MARGIN_EYE_W) (linkIx l) = w
        ∧ getF t.dev (linkFld l .HL_MARGIN_EYE_H .SL_MARGIN_EYE_H) (linkIx l) = h
        ∧ getF t.dev (linkFld l .HL_MARGIN_PEND_EYE_W .SL_MARGIN_PEND_EYE_W) (linkIx l) = cw
        ∧ getF t.dev (linkFld l .HL_MARGIN_PEND_EYE_H .SL_MARGIN_PEND_EYE_H) (linkIx l) = ch)

/-- On a head link in VERIFY a frame with every block intact, housekeeping and sample groups included, sets the values and
flags held and nothing else. Of every frame on a link that is UP: a corrupt servo block counts in SERVO_BAD, a corrupt
header or timing block in TIMING_BAD, each at most once a Tick and saturating, and a corrupt block leaves the values
held from it. A spindle link in VERIFY takes an intact frame; one that is UP counts the four blocks of a frame that
did not come, and two such frames in a row fault the link, the lasers of the four heads going to 0. (Damaged and
missing blocks, Spindle link frames) -/
def Obligations.UpstreamFrames : Prop :=
  (∀ (h : HeadId) (bs : List Block) (s : State), s.dev.linkState (.head h) = 5 → frameOk bs = true →
      ∃ t, exec (.headUpstreamFrame h bs) s = .next t
        ∧ t.dev.head h = { s.dev.head h with link := { (s.dev.head h).link with frameSeen := true, held := (s.dev.head h).link.held.take bs, flags := headFlags (pay bs 0) } }
        ∧ Frame noRegs [] [h] [] s t)
  ∧ (∀ (h : HeadId) (bs : List Block) (d : Dev),
      getF (d.headInput h bs).1 .HL_ERR_SERVO_BAD h
          = (if (List.range 4).all (servoOk bs) then getF d .HL_ERR_SERVO_BAD h else min 255 (getF d .HL_ERR_SERVO_BAD h + 1))
        ∧ getF (d.headInput h bs).1 .HL_ERR_TIMING_BAD h
          = (if hdrOk bs && timingOk bs then getF d .HL_ERR_TIMING_BAD h else min 255 (getF d .HL_ERR_TIMING_BAD h + 1))
        ∧ (servoOk bs 0 = false → ((d.headInput h bs).1.head h).link.held.fe = (d.head h).link.held.fe)
        ∧ (servoOk bs 0 = true → ((d.headInput h bs).1.head h).link.held.fe = toSigned 16 (bits (pay bs 2) 63 48)))
  ∧ (∀ (p : SpinId) (bs : List Block) (s : State), s.dev.linkState (.spin p) = 5 → (List.range 6).all (spinOk bs) = true →
      ∃ t, exec (.spindleUpstreamFrame p bs) s = .next t
        ∧ t.dev.spin p = { s.dev.spin p with link := { (s.dev.spin p).link with frameSeen := true, held := (s.dev.spin p).link.held.take bs } }
        ∧ Frame noRegs [] [] [p] s t)
  ∧ (∀ (p : SpinId) (s : State), s.dev.spinUp p = true → (s.dev.spin p).link.frameSeen = false →
      (s.dev.spin p).link.badV = false → (s.dev.spin p).link.badM = false → (s.dev.spin p).link.badIO = false →
      ∃ t, exec (.spindleUpstreamFrame p []) s = .next t ∧ t.dev.linkState (.spin p) = 6
        ∧ (t.dev.spin p).link.badV = true ∧ (t.dev.spin p).link.held = (s.dev.spin p).link.held
        ∧ getF t.dev .SL_ERR_FRAME_BAD p = min 255 (getF s.dev .SL_ERR_FRAME_BAD p + 4)
        ∧ Frame (theRegs [(.SL_ERR_FRAME_BAD, p)]) [] [] [p] s t)
  ∧ (∀ (p : SpinId) (s : State), s.dev.spinUp p = true → (s.dev.spin p).link.frameSeen = false →
      (s.dev.spin p).link.badV = true →
      ∃ t, exec (.spindleUpstreamFrame p []) s = .next t ∧ t.dev.linkState (.spin p) = 7
        ∧ ∀ h ∈ headsOf p, (t.dev.head h).down.laserSet = 0 ∧ (t.dev.head h).down.wStop = 15)

/-- COMMIT on an inactive slot whose LOOP_KIND stays and whose stages pass the checks sets VALID, COST (16 cycles and
those of its stages) and NSTAGES; a failing check clears VALID and is reported with the slot and its number. A
structure-word write to an inactive slot stores the word above its four reserved bits and clears VALID. To an active
slot COMMIT does nothing, and a structure write only counts. The frames and the validating clause are of a Bezel that
has adopted no head; the additional check of an adopting Bezel is not stated here. (Law programs, Changing laws in
service) -/
def Obligations.LawSlotWrites : Prop :=
  (∀ (h : HeadId) (n : Fin 12) (word : Nat) (s : State), s.dev.slotActive h n = false →
      bits word 7 4 = getF s.dev .BZ_LAW_H0_LOOP_KIND (slotIx h n) →
      commitCheck (s.dev.slotWritten h n) (getF s.dev .BZ_LAW_H0_LOOP_KIND (slotIx h n)) = none →
      (s.dev.bezel (s.dev.owner h)).adopted = none →
      ∃ t, exec (.lawCommit h n word) s = .next t ∧ getF t.dev .BZ_LAW_H0_VALID (slotIx h n) = 1
        ∧ getF t.dev .BZ_LAW_H0_COST (slotIx h n) = 16 + ((s.dev.slotWritten h n).map Stage.cycles).sum
        ∧ getF t.dev .BZ_LAW_H0_NSTAGES (slotIx h n) = (s.dev.slotWritten h n).length
        ∧ Frame (theRegs [(.BZ_LAW_H0_VALID, slotIx h n), (.BZ_LAW_H0_COST, slotIx h n), (.BZ_LAW_H0_NSTAGES, slotIx h n)]) [] [] [] s t)
  ∧ (∀ (h : HeadId) (n : Fin 12) (word k : Nat) (s : State), s.dev.slotActive h n = false →
      bits word 7 4 = getF s.dev .BZ_LAW_H0_LOOP_KIND (slotIx h n) →
      commitCheck (s.dev.slotWritten h n) (getF s.dev .BZ_LAW_H0_LOOP_KIND (slotIx h n)) = some k →
      ∃ t, exec (.lawCommit h n word) s = .next t ∧ getF t.dev .BZ_LAW_H0_VALID (slotIx h n) = 0
        ∧ (s.dev.Hears .BZ_LAW_REJECT → Recorded .BZ_LAW_REJECT h [n, k] s t)
        ∧ ((s.dev.bezel (s.dev.owner h)).adopted = none → Frame (theRegs [(.BZ_LAW_H0_VALID, slotIx h n)]) [] [] [] s t))
  ∧ (∀ (h : HeadId) (n : Fin 12) (word : Nat) (s : State), s.dev.slotActive h n = true →
      ∃ t, exec (.lawCommit h n word) s = .next t ∧ Frame noRegs [] [] [] s t)
  ∧ (∀ (h : HeadId) (n : Fin 12) (k : Fin 16) (word : Nat) (s : State), s.dev.slotActive h n = false → word < 2 ^ 32 →
      ∃ t, exec (.lawStructureWrite h n k word) s = .next t
        ∧ getF t.dev .BZ_LAW_STRUCT_WORD (slotIx h n * 16 + k) = word / 16 ∧ getF t.dev .BZ_LAW_H0_VALID (slotIx h n) = 0
        ∧ ((s.dev.bezel (s.dev.owner h)).adopted = none →
            Frame (theRegs [(.BZ_LAW_STRUCT_WORD, slotIx h n * 16 + k), (.BZ_LAW_H0_VALID, slotIx h n)]) [] [] [] s t))
  ∧ (∀ (h : HeadId) (n : Fin 12) (k : Fin 16) (word : Nat) (s : State), s.dev.slotActive h n = true →
      ∃ t, exec (.lawStructureWrite h n k word) s = .next t
        ∧ getF t.dev .BZ_HEAD_STAT_LAW_WR_REJ h = min 255 (getF s.dev .BZ_HEAD_STAT_LAW_WR_REJ h + 1)
        ∧ Frame (theRegs [(.BZ_HEAD_STAT_LAW_WR_REJ, h)]) [] [] [] s t)

/-- When FE_COUNT of a loop has passed FE_TICKS (65,535 disables it) and the loop has not faulted yet, the fault sets
FE_FAULT, counts on the Bezel and is recorded with the loop number; no register beside those changes, but for a SLED
fault, which stops the sled at once, POS_VALID and the position of its last step. FOC asks for a new acquisition, TRK
and SLED for a relocation, LPWR for FAULT. HANDOVER_RETRY lets a hand-over whose hold-off has ended be asked for
again, and does nothing else. (Following error, Hand-over between laws) -/
def Obligations.FollowingErrorFaults : Prop :=
  (∀ (h : HeadId) (l : LoopId) (s : State), s.dev.followDue h l = true →
      ∃ t, exec (.followingErrorFault h l) s = .next t
        ∧ getF t.dev .BZ_LOOP_STAT_FE_FAULT (h.val * 5 + l.val) = 1 ∧ (t.dev.loop h l).faulted = true
        ∧ getF t.dev .BZ_FAULT_FOLLOW_FAULTS (s.dev.owner h) = min 255 (getF s.dev .BZ_FAULT_FOLLOW_FAULTS (s.dev.owner h) + 1)
        ∧ (l = 0 → (t.dev.head h).motion.wantAcquire = true)
        ∧ (l = 1 ∨ l = 3 → (t.dev.head h).motion.wantReloc = true)
        ∧ (l = 4 → (t.dev.head h).motion.wantFault = true)
        ∧ (s.dev.Hears .BZ_FOLLOW_FAULT → Recorded .BZ_FOLLOW_FAULT h [l] s t)
        ∧ Frame (theRegs ([(.BZ_LOOP_STAT_FE_FAULT, h.val * 5 + l.val), (.BZ_FAULT_FOLLOW_FAULTS, (s.dev.owner h).val)]
            ++ if l = 3 then [(.MO_MODE_POS_VALID, h.val), (.MO_POS_POS, h.val)] else []))
            [.data, .bezels] [h] [] s t)
  ∧ (∀ (h : HeadId) (l : LoopId) (s : State), s.dev.followDue h l = false →
      ∃ t, exec (.followingErrorFault h l) s = .next t ∧ Frame noRegs [] [] [] s t)
  ∧ (∀ (h : HeadId) (l : LoopId) (w : HandReq) (s : State), (s.dev.loop h l).want = some w → w.wait = some 0 →
      ∃ t, exec (.handoverRetry h l) s = .next t
        ∧ t.dev.loop h l = { s.dev.loop h l with want := some { w with wait := none } }
        ∧ (∀ k, k ≠ l → t.dev.loop h k = s.dev.loop h k) ∧ Frame noRegs [] [h] [] s t)

/-- A pass that is asked for starts at a clean wrap with the Tick's sample and nothing but its sums change. A pass that
has ended with an empty bin leaves the table and sets FAIL; one that has ended with every bin filled, none beyond
65,535 samples, sets each of the 256 entries to the bin's rounded mean less the rounded mean of all, saturated to
Q1.31, and counts in PASSES; a single pass ends the mode. TRACE_ARM of a trace not armed sets ARM, KIND, DIR and a PRE
in range, and clears DONE, TRIGGERED and PRE_VALID; TRACE_FORCE only asks for the trigger; TRACE_CAPTURE_DONE after
the last record sets DONE and clears ARM. (Runout tables, Trace) -/
def Obligations.LearningPassesAndTrace : Prop :=
  (∀ (h : HeadId) (trk : Bool) (s : State), getF s.dev (learnMode trk) h ≠ 0 → ((s.dev.head h).learn trk).clean = true →
      ((s.dev.head h).learn trk).running = false → ((s.dev.head h).learn trk).done = false → ((s.dev.head h).learn trk).bin < 256 →
      ∃ t, exec (.learnPassStart h trk) s = .next t ∧ ((t.dev.head h).learn trk).running = true
        ∧ ((t.dev.head h).learn trk).counts[((s.dev.head h).learn trk).bin]? = some 1
        ∧ ((t.dev.head h).learn trk).sums[((s.dev.head h).learn trk).bin]? = some (s.dev.loop h (learnLoop trk)).y
        ∧ ((t.dev.head h).learn trk).counts.sum = 1 ∧ Frame noRegs [] [h] [] s t)
  ∧ (∀ (h : HeadId) (trk : Bool) (s : State), ((s.dev.head h).learn trk).done = true → 0 ∈ ((s.dev.head h).learn trk).counts →
      getF s.dev (learnMode trk) h = 1 →
      ∃ t, exec (.learnPassEnd h trk) s = .next t ∧ getF t.dev (if trk then .BZ_LEARN_TRK_FAIL else .BZ_LEARN_FOC_FAIL) h = 1
        ∧ getF t.dev (learnMode trk) h = 0 ∧ (t.dev.head h).learn trk = {}
        ∧ Frame (theRegs [(if trk then .BZ_LEARN_TRK_FAIL else .BZ_LEARN_FOC_FAIL, h), (learnMode trk, h.val)]) [] [h] [] s t)
  ∧ (∀ (h : HeadId) (trk : Bool) (s : State), ((s.dev.head h).learn trk).done = true → getF s.dev (learnMode trk) h = 1 →
      ((s.dev.head h).learn trk).sums.length = 256 → ((s.dev.head h).learn trk).counts.length = 256 →
      (∀ c ∈ ((s.dev.head h).learn trk).counts, 1 ≤ c ∧ c ≤ 65535) →
      ∃ t, exec (.learnPassEnd h trk) s = .next t ∧ getF t.dev (learnMode trk) h = 0
        ∧ getF t.dev .BZ_LEARN_PASSES h = min 255 (getF s.dev .BZ_LEARN_PASSES h + 1)
        ∧ ∀ k < 256, getI t.dev (if trk then .BZ_RUN_TRK_T else .BZ_RUN_FOC_T) (h.val * 256 + k) = satSigned 32
            (divTie (((s.dev.head h).learn trk).sums.getD k 0) (((s.dev.head h).learn trk).counts.getD k 0)
              - divTie ((((s.dev.head h).learn trk).sums.zip ((s.dev.head h).learn trk).counts).map fun p => divTie p.1 p.2).sum 256))
  ∧ (∀ (b : BezelId) (word : Nat) (s : State), bits word 26 13 ≤ 8191 → getF s.dev .BZ_TRACE_CTL_ARM b = 0 →
      ∃ t, exec (.traceArm b word) s = .next t ∧ getF t.dev .BZ_TRACE_CTL_ARM b = 1
        ∧ getF t.dev .BZ_TRACE_CTL_KIND b = bits word 29 28 ∧ getF t.dev .BZ_TRACE_CTL_DIR b = bits word 27 27
        ∧ getF t.dev .BZ_TRACE_CTL_PRE b = bits word 26 13 ∧ getF t.dev .BZ_TRACE_STAT_DONE b = 0
        ∧ getF t.dev .BZ_TRACE_STAT_TRIGGERED b = 0 ∧ getF t.dev .BZ_TRACE_STAT_PRE_VALID b = 0 ∧ (t.dev.bezel b).post = 0
        ∧ Frame (theRegs [(.BZ_TRACE_CTL_ARM, b), (.BZ_TRACE_CTL_KIND, b), (.BZ_TRACE_CTL_DIR, b), (.BZ_TRACE_CTL_PRE, b),
            (.BZ_TRACE_STAT_DONE, b), (.BZ_TRACE_STAT_TRIGGERED, b), (.BZ_TRACE_STAT_PRE_VALID, b)]) [.bezels] [] [] s t)
  ∧ (∀ (b : BezelId) (s : State),
      ∃ t, exec (.traceForce b) s = .next t ∧ t.dev.bezel b = { s.dev.bezel b with force := true }
        ∧ (∀ c, c ≠ b → t.dev.bezel c = s.dev.bezel c) ∧ Frame noRegs [.bezels] [] [] s t)
  ∧ (∀ (b : BezelId) (s : State), getF s.dev .BZ_TRACE_CTL_ARM b = 1 → getF s.dev .BZ_TRACE_STAT_TRIGGERED b = 1 →
      (s.dev.bezel b).post = 0 →
      ∃ t, exec (.traceCaptureDone b) s = .next t ∧ getF t.dev .BZ_TRACE_STAT_DONE b = 1 ∧ getF t.dev .BZ_TRACE_CTL_ARM b = 0
        ∧ Frame (theRegs [(.BZ_TRACE_STAT_DONE, b), (.BZ_TRACE_CTL_ARM, b)]) [] [] [] s t)

/-- Loop results of a Bezel's heads that miss the Tick: OVERRUNS counts, LAST_SLOT and LAST_LOOP name the first, and the
Tick is remembered. With no overrun remembered within OVR_WINDOW Ticks the core goes on; with one it fails, its heads'
adoption being due two Tick boundaries later. A core that has failed already, and results of heads that are not the
Bezel's, change nothing. (Overruns) -/
def Obligations.BezelOverruns : Prop :=
  (∀ (b : BezelId) (late rest : List (HeadId × LoopId)) (h : HeadId) (l : LoopId) (cycles : Nat) (s : State),
      late.filter (fun x => s.dev.owner x.1 == b) = (h, l) :: rest → getF s.dev .BZ_FAULT_FAILED b = 0 →
      (s.dev.bezel b).lastOvr.any (fun n => decide (tickOf s.dtime ≤ n + getF s.dev .BZ_CTL_OVR_WINDOW b)) = false →
      ∃ t, exec (.bezelOverrun b late cycles) s = .next t
        ∧ getF t.dev .BZ_FAULT_OVERRUNS b = min 255 (getF s.dev .BZ_FAULT_OVERRUNS b + 1)
        ∧ getF t.dev .BZ_FAULT_LAST_SLOT b = getF s.dev .BZ_HEAD_STAT_SLOT h % 8 ∧ getF t.dev .BZ_FAULT_LAST_LOOP b = l
        ∧ getF t.dev .BZ_FAULT_FAILED b = 0 ∧ (t.dev.bezel b).lastOvr = some (tickOf s.dtime))
  ∧ (∀ (b : BezelId) (late rest : List (HeadId × LoopId)) (h : HeadId) (l : LoopId) (cycles : Nat) (s : State),
      late.filter (fun x => s.dev.owner x.1 == b) = (h, l) :: rest → getF s.dev .BZ_FAULT_FAILED b = 0 →
      (s.dev.bezel b).lastOvr.any (fun n => decide (tickOf s.dtime ≤ n + getF s.dev .BZ_CTL_OVR_WINDOW b)) = true →
      ∃ t, exec (.bezelOverrun b late cycles) s = .next t ∧ getF t.dev .BZ_FAULT_FAILED b = 1
        ∧ (t.dev.bezel b).adoptDue = some 2 ∧ bit (getF t.dev .KP_CORES_BEZEL 0) b = true)
  ∧ (∀ (b : BezelId) (late : List (HeadId × LoopId)) (cycles : Nat) (s : State),
      (getF s.dev .BZ_FAULT_FAILED b = 1 ∨ ∀ x ∈ late, s.dev.owner x.1 ≠ b) →
      ∃ t, exec (.bezelOverrun b late cycles) s = .next t ∧ Frame noRegs [] [] [] s t)

/-- In ACQUIRE, after LPWR has run for 200 Ticks the sweep starts with the drive at -0.75 of full scale. A sweep that
reaches +0.75 without capture counts as a try; below FOCUS_TRIES the drive goes back from where it stands, and 400
Ticks later the next sweep starts; at FOCUS_TRIES the head asks for FAULT and MO_FOCUS_FAIL is recorded. A captured
focus that has been quiet for SETTLE_TICKS, FOC running its law alone, asks for the FOCUS_FOLLOW law, which has been
reached at once where it is the one that runs. Focus lost in FOLLOW, a short or long seek or RELOCATE asks for a new
acquisition and puts a W_STOP to every armed or writing spot of the head, whose arming ends. Only the head, and for a
lost focus the sectors being written, change. (Focus acquisition, Following) -/
def Obligations.FocusAcquisitionSteps : Prop :=
  (∀ (h : HeadId) (s : State), s.dev.mode h = 2 → (s.dev.head h).motion.acq = .laserWait → 200 ≤ (s.dev.head h).motion.acqAge →
      ∃ t, exec (.acquireLaserWaitEnd h) s = .next t
        ∧ (t.dev.head h).motion = { (s.dev.head h).motion with acq := .sweep, acqAge := 0, sweep := -24576, sphase := 0, scount := 0 }
        ∧ (t.dev.loop h 0).drive = .open_ (-24576) ∧ Frame noRegs [] [h] [] s t)
  ∧ (∀ (h : HeadId) (s : State), s.dev.mode h = 2 → (s.dev.head h).motion.acq = .sweep → 24576 ≤ (s.dev.head h).motion.sweep →
      (s.dev.loop h 0).blend = none → (s.dev.head h).motion.tries + 1 < getF s.dev .MO_FOCUS_CFG_FOCUS_TRIES h →
      ∃ t, exec (.sweepEnd h) s = .next t ∧ (t.dev.head h).motion.tries = (s.dev.head h).motion.tries + 1
        ∧ (t.dev.head h).motion.acq = .sweepBack (s.dev.loop h 0).field ∧ (t.dev.head h).motion.acqAge = 0
        ∧ (t.dev.loop h 0).drive = .open_ (s.dev.loop h 0).field ∧ Frame noRegs [] [h] [] s t)
  ∧ (∀ (h : HeadId) (s : State), s.dev.mode h = 2 → (s.dev.head h).motion.acq = .sweep → 24576 ≤ (s.dev.head h).motion.sweep →
      (s.dev.loop h 0).blend = none → getF s.dev .MO_FOCUS_CFG_FOCUS_TRIES h ≤ (s.dev.head h).motion.tries + 1 →
      ∃ t, exec (.sweepEnd h) s = .next t ∧ (t.dev.head h).motion.wantFault = true
        ∧ (s.dev.Hears .MO_FOCUS_FAIL → Recorded .MO_FOCUS_FAIL h [(s.dev.head h).motion.tries + 1] s t)
        ∧ Frame noRegs [] [h] [] s t)
  ∧ (∀ (h : HeadId) (v : Int) (s : State), s.dev.mode h = 2 → (s.dev.head h).motion.acq = .sweepBack v → 400 ≤ (s.dev.head h).motion.acqAge →
      ∃ t, exec (.sweepReturnEnd h) s = .next t ∧ (t.dev.head h).motion.acq = .sweep ∧ (t.dev.head h).motion.sweep = -24576
        ∧ (t.dev.head h).motion.tries = (s.dev.head h).motion.tries ∧ (t.dev.loop h 0).drive = .open_ (-24576)
        ∧ Frame noRegs [] [h] [] s t)
  ∧ (∀ (h : HeadId) (r : LawRun) (s : State), s.dev.mode h = 2 → (s.dev.head h).motion.acq = .capture →
      getF s.dev .MO_SETTLE_CFG_SETTLE_TICKS h ≤ (s.dev.head h).motion.settled →
      (s.dev.loop h 0).drive = .law r → (s.dev.loop h 0).blend = none → (s.dev.loop h 0).want = none →
      ∃ t, exec (.focusSettled h) s = .next t ∧ (t.dev.head h).motion = { (s.dev.head h).motion with acq := .toFollow }
        ∧ (t.dev.loop h 0).want = (if r.slot = getF s.dev .MO_LAWSEL0_FOC_FOLLOW h then none else some { slot := getF s.dev .MO_LAWSEL0_FOC_FOLLOW h })
        ∧ (r.slot = getF s.dev .MO_LAWSEL0_FOC_FOLLOW h → (t.dev.loop h 0).completed = true) ∧ (t.dev.loop h 0).drive = .law r
        ∧ Frame noRegs [] [h] [] s t)
  ∧ (∀ (h : HeadId) (s : State), s.dev.mode h ∈ [3, 5, 6, 7] →
      getF s.dev .MO_FOCUS_CFG_LOSS_TICKS h ≤ (s.dev.head h).motion.loss →
      ∃ t, exec (.focusLost h) s = .next t ∧ (t.dev.head h).motion.wantAcquire = true ∧ (t.dev.head h).motion.loss = 0
        ∧ (∀ w ∈ s.dev.data.writes, w.live = true → w.head = h →
            bit (t.dev.head h).down.wStop w.spot = true ∧ bit (t.dev.head h).down.armReq w.spot = false ∧ bit (t.dev.head h).down.wArm w.spot = false)
        ∧ (s.dev.Hears .MO_FOCUS_LOST → Recorded .MO_FOCUS_LOST h [(s.dev.head h).motion.lastLayer] s t)
        ∧ Frame noRegs [.data] [h] [] s t)

/-- After KICK_TICKS a jump coasts; a coast longer than COAST_MAX fails the jump, records MO_JUMP_FAIL with the target
layer and asks for its acquisition; after BRAKE_TICKS the focus drive takes the output it had before the kick and the
LAYER_SETTLE law is asked for; once settled the layer counts as reached, and the next one-layer jump starts or, after
the last, the FOCUS_FOLLOW law is asked for (reached at once where it is the one that runs) with the laser reference
of the new layer. Only the head changes, but for the waiting laser reference. (Layer jumps) -/
def Obligations.LayerJumpSteps : Prop :=
  (∀ (h : HeadId) (j : Jump) (s : State), (s.dev.head h).motion.jump = some j → j.step = .kick →
      getF s.dev .MO_JUMP_CFG_KICK_TICKS h ≤ j.age →
      ∃ t, exec (.jumpKickEnd h) s = .next t
        ∧ (t.dev.head h).motion = { (s.dev.head h).motion with jump := some { j with step := .coast, age := 0 } } ∧ Frame noRegs [] [h] [] s t)
  ∧ (∀ (h : HeadId) (j : Jump) (s : State), (s.dev.head h).motion.jump = some j → j.step = .coast →
      getF s.dev .MO_JUMP_CFG_COAST_MAX h < j.age →
      ∃ t, exec (.jumpCoastTimeout h) s = .next t ∧ (t.dev.head h).motion.jump = none ∧ (t.dev.head h).motion.wantAcquire = true
        ∧ (t.dev.head h).motion.lastLayer = (if j.deeper then (s.dev.head h).motion.lastLayer + j.left else (s.dev.head h).motion.lastLayer - j.left)
        ∧ (s.dev.Hears .MO_JUMP_FAIL → Recorded .MO_JUMP_FAIL h [(t.dev.head h).motion.lastLayer] s t)
        ∧ Frame noRegs [] [h] [] s t)
  ∧ (∀ (h : HeadId) (j : Jump) (s : State), (s.dev.head h).motion.jump = some j → j.step = .brake →
      getF s.dev .MO_JUMP_CFG_BRAKE_TICKS h ≤ j.age →
      ∃ t, exec (.jumpBrakeEnd h) s = .next t
        ∧ (t.dev.head h).motion = { (s.dev.head h).motion with settled := 0, jump := some { j with step := .settle, age := 0 } }
        ∧ ((s.dev.loop h 0).blend = none →
            (t.dev.loop h 0).drive = .open_ j.h ∧ (t.dev.loop h 0).want = some { slot := getF s.dev .MO_LAWSEL0_FOC_SETTLE h })
        ∧ Frame noRegs [] [h] [] s t)
  ∧ (∀ (h : HeadId) (j : Jump) (r : LawRun) (s : State), (s.dev.head h).motion.jump = some j → j.step = .settle → 1 < j.left →
      getF s.dev .MO_SETTLE_CFG_SETTLE_TICKS h ≤ (s.dev.head h).motion.settled →
      (s.dev.loop h 0).drive = .law r → (s.dev.loop h 0).blend = none → (s.dev.loop h 0).want = none →
      ∃ t, exec (.jumpSettled h) s = .next t
        ∧ (t.dev.head h).motion.lastLayer = (if j.deeper then (s.dev.head h).motion.lastLayer + 1 else (s.dev.head h).motion.lastLayer - 1)
        ∧ (t.dev.head h).motion.jump = some { j with left := j.left - 1, step := .kick, age := 0, h := (s.dev.loop h 0).field, away := false, lobe := false }
        ∧ Frame noRegs [] [h] [] s t)
  ∧ (∀ (h : HeadId) (j : Jump) (r : LawRun) (s : State), (s.dev.head h).motion.jump = some j → j.step = .settle → j.left ≤ 1 →
      getF s.dev .MO_SETTLE_CFG_SETTLE_TICKS h ≤ (s.dev.head h).motion.settled →
      (s.dev.loop h 0).drive = .law r → (s.dev.loop h 0).blend = none → (s.dev.loop h 0).want = none →
      ∃ t, exec (.jumpSettled h) s = .next t
        ∧ (t.dev.head h).motion.lastLayer = (if j.deeper then (s.dev.head h).motion.lastLayer + 1 else (s.dev.head h).motion.lastLayer - 1)
        ∧ (t.dev.head h).motion.jump = some { j with left := 0, step := .toFollow }
        ∧ (t.dev.loop h 0).want = (if r.slot = getF s.dev .MO_LAWSEL0_FOC_FOLLOW h then none else some { slot := getF s.dev .MO_LAWSEL0_FOC_FOLLOW h })
        ∧ (r.slot = getF s.dev .MO_LAWSEL0_FOC_FOLLOW h → (t.dev.loop h 0).completed = true)
        ∧ pendF t.dev .BZ_LOOP_REF_REF (h.val * 5 + 4)
            = some (getF s.dev .HM_PLAN_P_B (h.val * 16 + (t.dev.head h).motion.lastLayer) * 2 ^ 15 % 2 ^ 32)
        ∧ Frame noRegs [.rvPend, .hmPend] [h] [] s t)

/-- When the lens is centred TRK stops; in RELOCATE the collection of bands begins, in SEEK_LONG a profile to the target
begins. When the drives of SAFE_PARK or FAULT have ramped to 0 every loop stops. A profile that has landed ends; in
SEEK_LONG the settle wait begins, in a park the head goes on to SAFE_PARK or PARKED; SLED_SETTLE times 100 Ticks later
RELOCATE is next. The coils go to hold after 400 Ticks without a step. A relocation that does not collect its eight
words within four revolutions asks for homing. No register changes. (Head modes, Sled position and motion, Seeks) -/
def Obligations.SledAndLensEnds : Prop :=
  (∀ (h : HeadId) (v : Int) (j n : Nat) (s : State), (s.dev.loop h 1).drive = .fall v j n → n ≤ j → s.dev.mode h = 7 →
      ∃ t, exec (.lensCentreEnd h) s = .next t ∧ (t.dev.loop h 1).drive = .stopped ∧ (t.dev.head h).motion.collect = true
        ∧ (t.dev.head h).motion.bands = [] ∧ Frame noRegs [] [h] [] s t)
  ∧ (∀ (h : HeadId) (v : Int) (j n : Nat) (s : State), (s.dev.loop h 1).drive = .fall v j n → n ≤ j → s.dev.mode h = 6 →
      ((s.dev.head h).motion.parking = true → (s.dev.head h).motion.profile = none) →
      ∃ t p, exec (.lensCentreEnd h) s = .next t ∧ (t.dev.loop h 1).drive = .stopped ∧ (t.dev.head h).motion.profile = some p
        ∧ ((s.dev.head h).motion.parking = true → p.dist = (if h.val % 2 = 0 then 1707 else 66560) - s.dev.pos h)
        ∧ (t.dev.head h).motion.coil = 2 ∧ Frame noRegs [] [h] [] s t)
  ∧ (∀ (h : HeadId) (v : Int) (j n : Nat) (s : State), (s.dev.loop h 0).drive = .fall v j n → n ≤ j → (s.dev.mode h = 9 ∨ s.dev.mode h = 10) →
      ∃ t, exec (.rampToZeroEnd h) s = .next t ∧ (∀ l, (t.dev.loop h l).drive = .stopped) ∧ Frame noRegs [] [h] [] s t)
  ∧ (∀ (h : HeadId) (p : Profile) (s : State), (s.dev.head h).motion.profile = some p → p.landed = true → (s.dev.head h).motion.homeEdge = false →
      (s.dev.head h).motion.parking = false → s.dev.mode h = 6 →
      ∃ t, exec (.sledProfileEnd h) s = .next t ∧ (t.dev.head h).motion = { (s.dev.head h).motion with profile := none, sledAge := some 0 }
        ∧ Frame noRegs [] [h] [] s t)
  ∧ (∀ (h : HeadId) (p : Profile) (s : State), (s.dev.head h).motion.profile = some p → p.landed = true → (s.dev.head h).motion.homeEdge = false →
      (s.dev.head h).motion.parking = true →
      ∃ t, exec (.sledProfileEnd h) s = .next t ∧ (t.dev.head h).motion.profile = none ∧ (t.dev.head h).motion.parking = false
        ∧ (t.dev.head h).motion.wantSafe = opticalMode (s.dev.mode h)
        ∧ (t.dev.head h).motion.next = (if opticalMode (s.dev.mode h) then none else some 1) ∧ Frame noRegs [] [h] [] s t)
  ∧ (∀ (h : HeadId) (s : State), 400 ≤ (s.dev.head h).motion.steps.length → (s.dev.head h).motion.steps.all (· == 0) = true →
      2 ≤ (s.dev.head h).motion.coil →
      ∃ t, exec (.coilHold h) s = .next t ∧ (t.dev.head h).motion = { (s.dev.head h).motion with coil := 1 } ∧ Frame noRegs [] [h] [] s t)
  ∧ (∀ (h : HeadId) (n : Nat) (s : State), (s.dev.head h).motion.sledAge = some n → s.dev.mode h = 6 →
      100 * getF s.dev .MO_SEEK_CFG_SLED_SETTLE h ≤ n →
      ∃ t, exec (.sledSettleEnd h) s = .next t ∧ (t.dev.head h).motion = { (s.dev.head h).motion with next := some 7 }
        ∧ Frame noRegs [] [h] [] s t)
  ∧ (∀ (h : HeadId) (s : State), s.dev.mode h = 7 → (s.dev.head h).motion.collect = true → (s.dev.head h).motion.bands.length < 8 →
      s.dev.fourTurns h ≤ (s.dev.head h).motion.age →
      ∃ t, exec (.relocateTimeout h) s = .next t ∧ (t.dev.head h).motion = { (s.dev.head h).motion with wantHome := true }
        ∧ Frame noRegs [] [h] [] s t)

/-- The closing edge of the home switch in HOMING latches the position held at the edge in MO_HOME and takes it off
MO_POS, and the sled goes to its park position; there HOMED and POS_VALID are set and PARKED is next; 512,000
microsteps without an edge ask for FAULT and record MO_HOME_FAIL. A seek request is taken when none is pending or
running and the head is not in FAULT, and shows its layer; else it changes nothing. A short seek captured for 16 Ticks
asks for TRACK_FOLLOW; one not captured within 4 × SHORT_MAX Ticks ends, and FOLLOW is next. (Sled position and
motion, Seeks) -/
def Obligations.HomingAndSeeks : Prop :=
  (∀ (h : HeadId) (seq steps : Nat) (s : State), s.dev.mode h = 8 → (s.dev.head h).motion.homeEdge = false →
      (s.dev.head h).down.seq = seq → seq < 4096 → (s.dev.head h).motion.steps.headD 0 = 0 → steps < 2 ^ 23 →
      -(2 ^ 22) ≤ s.dev.pos h → s.dev.pos h < 2 ^ 22 → (steps : Int) < 2 ^ 22 →
      ∃ t p, exec (.homeSwitchReport h seq steps true) s = .next t ∧ t.dev.pos h = steps
        ∧ getI t.dev .MO_HOME_LATCH h = s.dev.pos h - steps ∧ (t.dev.head h).motion.homeEdge = true
        ∧ (t.dev.head h).motion.profile = some p ∧ p.dist = (if h.val % 2 = 0 then 1707 else 66560) - steps
        ∧ Frame (theRegs [(.MO_POS_POS, h), (.MO_HOME_LATCH, h)]) [] [h] [] s t)
  ∧ (∀ (h : HeadId) (seq steps : Nat) (s : State), (s.dev.mode h ≠ 8 ∨ (s.dev.head h).motion.homeEdge = true) →
      ∃ t, exec (.homeSwitchReport h seq steps true) s = .next t ∧ Frame noRegs [] [] [] s t)
  ∧ (∀ (h : HeadId) (p : Profile) (s : State), s.dev.mode h = 8 → (s.dev.head h).motion.homeEdge = true →
      (s.dev.head h).motion.profile = some p → p.landed = true →
      ∃ t, exec (.homingParkDone h) s = .next t ∧ getF t.dev .MO_MODE_HOMED h = 1 ∧ getF t.dev .MO_MODE_POS_VALID h = 1
        ∧ (t.dev.head h).motion = { (s.dev.head h).motion with profile := none, homeEdge := false, coil := 1, next := some 1, lostPos := false }
        ∧ Frame (theRegs [(.MO_MODE_HOMED, h), (.MO_MODE_POS_VALID, h)]) [] [h] [] s t)
  ∧ (∀ (h : HeadId) (s : State), s.dev.mode h = 8 → (s.dev.head h).motion.homeEdge = false → 512000 ≤ (s.dev.head h).motion.travel →
      ∃ t, exec (.homeTimeout h) s = .next t ∧ (t.dev.head h).motion = { (s.dev.head h).motion with wantFault := true }
        ∧ (s.dev.Hears .MO_HOME_FAIL → Recorded .MO_HOME_FAIL h [] s t) ∧ Frame noRegs [] [h] [] s t)
  ∧ (∀ (h : HeadId) (layer : Fin 16) (stripe : Nat) (s : State), (s.dev.head h).motion.pendSeek = none → (s.dev.head h).motion.seek = none →
      s.dev.mode h ≠ 10 →
      ∃ t, exec (.seekRequest h layer stripe) s = .next t ∧ getF t.dev .MO_MODE_TARGET_LAYER h = layer
        ∧ (t.dev.head h).motion = { (s.dev.head h).motion with pendSeek := some (layer.val, stripe) }
        ∧ Frame (theRegs [(.MO_MODE_TARGET_LAYER, h)]) [] [h] [] s t)
  ∧ (∀ (h : HeadId) (layer : Fin 16) (stripe : Nat) (s : State), ((s.dev.head h).motion.pendSeek.isSome = true ∨ (s.dev.head h).motion.seek.isSome = true
        ∨ s.dev.mode h = 10) →
      ∃ t, exec (.seekRequest h layer stripe) s = .next t ∧ Frame noRegs [] [] [] s t)
  ∧ (∀ (h : HeadId) (x : ShortSeek) (r : LawRun) (s : State), s.dev.mode h = 5 → (s.dev.head h).motion.short = some x → 16 ≤ x.capture →
      x.ending = false → (s.dev.loop h 1).drive = .law r → (s.dev.loop h 1).blend = none → (s.dev.loop h 1).want = none →
      r.slot ≠ getF s.dev .MO_LAWSEL0_TRK_FOLLOW h →
      ∃ t, exec (.shortSeekCapture h) s = .next t ∧ (t.dev.head h).motion.short = some { x with ending := true }
        ∧ (t.dev.loop h 1).want = some { slot := getF s.dev .MO_LAWSEL0_TRK_FOLLOW h } ∧ Frame noRegs [] [h] [] s t)
  ∧ (∀ (h : HeadId) (x : ShortSeek) (s : State), s.dev.mode h = 5 → (s.dev.head h).motion.short = some x → x.ending = false →
      4 * getF s.dev .MO_SEEK_CFG_SHORT_MAX h ≤ x.late → (s.dev.head h).motion.failedSeek = none → x.back = false →
      ∃ t, exec (.shortSeekTimeout h) s = .next t ∧ (t.dev.head h).motion.next = some 3 ∧ (t.dev.head h).motion.seek = none
        ∧ Frame noRegs [] [h] [] s t)

/-- When the guard conditions and the shock condition have been clear for their settle times the episode ends and GUARD_OK
shows FOLLOW without a hand-over; before that the episode goes on. A write of MO_GUARD stores both limits, and the
pendant has not yet acknowledged them. A request of the firmware, or one of the host while HEAD_BUSY is 0, waits for
mode control; one of the host while HEAD_BUSY is 1 only counts in CTL_REJ. (Write guard, Requests and faults arriving
together) -/
def Obligations.WriteGuardAndRequests : Prop :=
  (∀ (h : HeadId) (s : State), s.dev.guardQuiet h = true →
      ∃ t, exec (.guardSettled h) s = .next t ∧ (t.dev.head h).motion = { (s.dev.head h).motion with episode := false }
        ∧ getF t.dev .MO_MODE_GUARD_OK h = (if s.dev.mode h = 3 ∧ s.dev.inHandover h = false then 1 else 0)
        ∧ Frame (theRegs [(.MO_MODE_GUARD_OK, h)]) [] [h] [] s t)
  ∧ (∀ (p : SpinId) (s : State), (∀ h ∈ headsOf p, s.dev.guardQuiet h = true) →
      ∃ t, exec (.shockSettled p) s = .next t
        ∧ (∀ h ∈ headsOf p, (t.dev.head h).motion = { (s.dev.head h).motion with episode := false }
            ∧ getF t.dev .MO_MODE_GUARD_OK h = (if s.dev.mode h = 3 ∧ s.dev.inHandover h = false then 1 else 0))
        ∧ Frame (fun f i => f = .MO_MODE_GUARD_OK ∧ i / 4 = p) [] (headsOf p) [] s t)
  ∧ (∀ (h : HeadId) (s : State), s.dev.guardQuiet h = false →
      ∃ t, exec (.guardSettled h) s = .next t ∧ t.dev.head h = s.dev.head h ∧ getF t.dev .MO_MODE_GUARD_OK h = 0
        ∧ Frame (theRegs [(.MO_MODE_GUARD_OK, h)]) [] [h] [] s t)
  ∧ (∀ (h : HeadId) (word : Nat) (s : State), word < 2 ^ 32 →
      ∃ t, exec (.moGuardWrite h word) s = .next t ∧ getF t.dev .MO_GUARD_WG_TE h = word / 65536
        ∧ getF t.dev .MO_GUARD_WG_FE h = word % 65536 ∧ (t.dev.head h).motion.guardAck = false
        ∧ Frame (theRegs [(.MO_GUARD_WG_TE, h), (.MO_GUARD_WG_FE, h)]) [] [h] [] s t)
  ∧ (∀ (h : HeadId) (byHost : Bool) (s : State), byHost = false ∨ s.dev.headBusy h = false →
      (∃ t, exec (.stop h byHost) s = .next t ∧ (t.dev.head h).motion = { (s.dev.head h).motion with wantStop := true } ∧ Frame noRegs [] [h] [] s t)
      ∧ (∃ t, exec (.park h byHost) s = .next t ∧ (t.dev.head h).motion = { (s.dev.head h).motion with wantPark := true } ∧ Frame noRegs [] [h] [] s t)
      ∧ (∃ t, exec (.home h byHost) s = .next t ∧ (t.dev.head h).motion = { (s.dev.head h).motion with wantHome := true } ∧ Frame noRegs [] [h] [] s t)
      ∧ (∃ t, exec (.relocate h byHost) s = .next t ∧ (t.dev.head h).motion = { (s.dev.head h).motion with wantReloc := true } ∧ Frame noRegs [] [h] [] s t))
  ∧ (∀ (h : HeadId) (s : State), s.dev.headBusy h = true →
      ∀ c ∈ [Instr.stop h true, Instr.park h true, Instr.home h true, Instr.relocate h true],
        ∃ t, exec c s = .next t ∧ getF t.dev .MO_STAT_CTL_REJ h = min 255 (getF s.dev .MO_STAT_CTL_REJ h + 1)
          ∧ Frame (theRegs [(.MO_STAT_CTL_REJ, h)]) [] [] [] s t)

/-- Once the four bay conditions have held for 200 ms and nothing refuses the start, the waiting spindle listens, or goes
on to TEST after a rest in BRAKE; the bus below warning refuses it with cause 4. LISTEN lasts 2,048 Ticks: below 10
rpm TEST begins; forward at CATCH_MIN or above the disc is caught: RUN with a new angle epoch, TQ_CATCH with the
speed, CATCHES counted; else BRAKE with the start pending. Only the spindle and its registers change. (Starting and
catching, Starting from rest) -/
def Obligations.SpindleStartSequence : Prop :=
  (∀ (p : SpinId) (s : State), s.dev.torcState p = 0 → (s.dev.torc p).doorWait = true → 80000 ≤ (s.dev.torc p).fourOk →
      getF s.dev .TH_STAT_STEP 0 < 6 → s.dev.fourIn p = true → getF s.dev .TQ_STAT_CHOP_FAULT p = 0 →
      3 * getF s.dev .TQ_MOTOR_KE_NOM p < 24000 → (s.dev.torc p).busWarn = false → (s.dev.torc p).barred = false → (s.dev.torc p).forced = false →
      ∃ t, exec (.startDoorWaitEnd p) s = .next t ∧ t.dev.torcState p = (if (s.dev.torc p).rested then 2 else 1)
        ∧ (t.dev.torc p).doorWait = false ∧ (t.dev.torc p).age = 0
        ∧ Frame (theRegs [(.TQ_STAT_STATE, p), (.TQ_STAT_AT_SPEED, p), (.TQ_STAT_DEPTH_LIM, p), (.TQ_STAT_SPEED, p)]) [] [] [p] s t)
  ∧ (∀ (p : SpinId) (s : State), s.dev.torcState p = 0 → (s.dev.torc p).doorWait = true → 80000 ≤ (s.dev.torc p).fourOk →
      getF s.dev .TH_STAT_STEP 0 < 6 → s.dev.fourIn p = true → getF s.dev .TQ_STAT_CHOP_FAULT p = 0 →
      3 * getF s.dev .TQ_MOTOR_KE_NOM p < 24000 → (s.dev.torc p).busWarn = true → (s.dev.torc p).barred = false → (s.dev.torc p).forced = false →
      ∃ t, exec (.startDoorWaitEnd p) s = .next t ∧ t.dev.torcState p = 0 ∧ (t.dev.torc p).doorWait = false
        ∧ (s.dev.Hears .TQ_START_REFUSED → Recorded .TQ_START_REFUSED p [4] s t) ∧ Frame noRegs [] [] [p] s t)
  ∧ (∀ (p : SpinId) (v : Nat) (rev : Bool) (s : State), s.dev.torcState p = 1 → 2048 ≤ (s.dev.torc p).age → v < 10 →
      ∃ t, exec (.listenEnd p v rev) s = .next t ∧ t.dev.torcState p = 2 ∧ getF t.dev .TQ_STAT_SPEED p = 0
        ∧ getF t.dev .TQ_STAT_REVERSE p = 0 ∧ (t.dev.torc p).testTwice = false ∧ (t.dev.spin p).down.bridgeEn = true
        ∧ Frame (theRegs [(.TQ_STAT_STATE, p), (.TQ_STAT_AT_SPEED, p), (.TQ_STAT_DEPTH_LIM, p), (.TQ_STAT_SPEED, p), (.TQ_STAT_REVERSE, p)]) [] [] [p] s t)
  ∧ (∀ (p : SpinId) (v : Nat) (s : State), s.dev.torcState p = 1 → 2048 ≤ (s.dev.torc p).age → 10 ≤ v → v < 4096 →
      10 * getF s.dev .TQ_START_CFG_CATCH_MIN p ≤ v →
      ∃ t, exec (.listenEnd p v false) s = .next t ∧ t.dev.torcState p = 5 ∧ getF t.dev .TQ_STAT_SPEED p = v
        ∧ (t.dev.torc p).newEpoch = true ∧ (t.dev.torc p).ref = v * 2000000 ∧ (t.dev.torc p).target = s.dev.torcTarget p
        ∧ getF t.dev .TQ_ERR_CATCHES p = min 255 (getF s.dev .TQ_ERR_CATCHES p + 1)
        ∧ (s.dev.Hears .TQ_CATCH → Recorded .TQ_CATCH p [v] s t)
        ∧ Frame (theRegs [(.TQ_STAT_STATE, p), (.TQ_STAT_AT_SPEED, p), (.TQ_STAT_DEPTH_LIM, p), (.TQ_STAT_SPEED, p), (.TQ_STAT_REVERSE, p), (.TQ_ERR_CATCHES, p)])
            [] [] [p] s t)
  ∧ (∀ (p : SpinId) (v : Nat) (rev : Bool) (s : State), s.dev.torcState p = 1 → 2048 ≤ (s.dev.torc p).age → 10 ≤ v → v < 4096 →
      (rev = true ∨ v < 10 * getF s.dev .TQ_START_CFG_CATCH_MIN p) →
      ∃ t, exec (.listenEnd p v rev) s = .next t ∧ t.dev.torcState p = 7 ∧ (t.dev.torc p).startPend = true
        ∧ getF t.dev .TQ_STAT_REVERSE p = (if rev then 1 else 0)
        ∧ (t.dev.spin p).down.bridgeEn = true ∧ (t.dev.spin p).down.shortBrake = true
        ∧ Frame (theRegs [(.TQ_STAT_STATE, p), (.TQ_STAT_AT_SPEED, p), (.TQ_STAT_DEPTH_LIM, p), (.TQ_STAT_SPEED, p), (.TQ_STAT_REVERSE, p)]) [] [] [p] s t)

/-- At the end of the 24 periods of TEST an accepted estimate leads to ALIGN with that estimate; peaks not accepted repeat
the pulses once at twice TP_WIDTH (at most 20,000 ns, the model's choice of log entry 34), and a second time raise
TQ_START_FAIL, count in START_FAILS and enter FAULT. ALIGN_MS later RAMP begins from speed 0; at OBS_HAND, 1.5 ×
OBS_MIN, RUN begins with a new angle epoch. Agreement missing for 256 periods counts and raises TQ_START_FAIL: BRAKE
with a pending start the first time, FAULT the second. An estimate lies on an axis whose peak no other exceeds, or 15°
beside it. (Starting from rest, Angle and speed) -/
def Obligations.RotorEstimateAndHandover : Prop :=
  (∀ (p : SpinId) (peaks : List Nat) (e : Nat) (s : State), s.dev.torcState p = 2 → 192 ≤ (s.dev.torc p).age →
      rotorEstimate peaks = some e →
      ∃ t, exec (.testPulsesDone p peaks) s = .next t ∧ t.dev.torcState p = 3 ∧ (t.dev.torc p).estimate = e
        ∧ Frame (theRegs [(.TQ_STAT_STATE, p), (.TQ_STAT_AT_SPEED, p), (.TQ_STAT_DEPTH_LIM, p), (.TQ_STAT_SPEED, p)]) [] [] [p] s t)
  ∧ (∀ (p : SpinId) (peaks : List Nat) (s : State), s.dev.torcState p = 2 → 192 ≤ (s.dev.torc p).age →
      rotorEstimate peaks = none → (s.dev.torc p).testTwice = false →
      ∃ t, exec (.testPulsesDone p peaks) s = .next t ∧ t.dev.torcState p = 2 ∧ (t.dev.torc p).testTwice = true ∧ (t.dev.torc p).age = 0
        ∧ (t.dev.torc p).tpWidth = min 20000 (2 * (s.dev.torc p).tpWidth)
        ∧ Frame (theRegs [(.TQ_STAT_STATE, p), (.TQ_STAT_AT_SPEED, p), (.TQ_STAT_DEPTH_LIM, p), (.TQ_STAT_SPEED, p)]) [] [] [p] s t)
  ∧ (∀ (p : SpinId) (peaks : List Nat) (s : State), s.dev.torcState p = 2 → 192 ≤ (s.dev.torc p).age →
      rotorEstimate peaks = none → (s.dev.torc p).testTwice = true →
      ∃ t, exec (.testPulsesDone p peaks) s = .next t ∧ t.dev.torcState p = 10
        ∧ getF t.dev .TQ_ERR_START_FAILS p = min 255 (getF s.dev .TQ_ERR_START_FAILS p + 1)
        ∧ (s.dev.Hears .TQ_START_FAIL → Recorded .TQ_START_FAIL p [] s t)
        ∧ Frame (theRegs [(.TQ_STAT_STATE, p), (.TQ_STAT_AT_SPEED, p), (.TQ_STAT_DEPTH_LIM, p), (.TQ_ERR_START_FAILS, p)]) [] [] [p] s t)
  ∧ (∀ (p : SpinId) (s : State), s.dev.torcState p = 3 → 800 * getF s.dev .TQ_START_CFG_ALIGN_MS p ≤ (s.dev.torc p).age →
      ∃ t, exec (.alignEnd p) s = .next t ∧ t.dev.torcState p = 4 ∧ (t.dev.torc p).ref = 0 ∧ (t.dev.torc p).estimate = (s.dev.torc p).estimate
        ∧ Frame (theRegs [(.TQ_STAT_STATE, p), (.TQ_STAT_AT_SPEED, p), (.TQ_STAT_DEPTH_LIM, p)]) [] [] [p] s t)
  ∧ (∀ (p : SpinId) (s : State), s.dev.torcState p = 4 → 3 * getF s.dev .TQ_START_CFG_OBS_MIN p * 2000000 ≤ (s.dev.torc p).ref →
      ∃ t, exec (.rampHandover p) s = .next t ∧ t.dev.torcState p = 5 ∧ (t.dev.torc p).newEpoch = true ∧ (t.dev.torc p).retry = false
        ∧ (t.dev.torc p).ref = 3 * getF s.dev .TQ_START_CFG_OBS_MIN p * 2000000
        ∧ Frame (theRegs [(.TQ_STAT_STATE, p), (.TQ_STAT_AT_SPEED, p)]) [] [] [p] s t)
  ∧ (∀ (p : SpinId) (s : State), s.dev.torcState p = 4 → 2048 ≤ (s.dev.torc p).handAge →
      ∃ t, exec (.rampAgreeTimeout p) s = .next t ∧ t.dev.torcState p = (if (s.dev.torc p).retry then 10 else 7)
        ∧ (t.dev.torc p).retry = !(s.dev.torc p).retry ∧ (t.dev.torc p).startPend = !(s.dev.torc p).retry
        ∧ getF t.dev .TQ_ERR_START_FAILS p = min 255 (getF s.dev .TQ_ERR_START_FAILS p + 1)
        ∧ (s.dev.Hears .TQ_START_FAIL → Recorded .TQ_START_FAIL p [] s t)
        ∧ Frame (theRegs [(.TQ_STAT_STATE, p), (.TQ_STAT_AT_SPEED, p), (.TQ_STAT_DEPTH_LIM, p), (.TQ_ERR_START_FAILS, p)]) [] [] [p] s t)
  ∧ (∀ (peaks : List Nat) (e : Nat), peaks.length = 6 → rotorEstimate peaks = some e →
      ∃ k < 6, (∀ j < 6, peaks.getD j 0 ≤ peaks.getD k 0) ∧ (e = 60 * k ∨ e = 60 * k + 15 ∨ e = (60 * k + 345) % 360)
        ∧ 3 * peaks.getD k 0 ≤ 100 * (peaks.getD k 0 - peaks.getD ((k + 3) % 6) 0))

/-- RUN at 0 puts LISTEN, TEST and ALIGN to OFF at once and RAMP to BRAKE, and leaves a spindle in RUN, DECEL, BRAKE,
COAST or FAULT in its state; RUN at 1 returns DECEL to RUN at the present speed. While a head of the spindle is busy a
host write only counts in CTL_REJ. A SPEED_CMD in 600 to 3,000 is stored, outside it ignored; with RUN at 0 it changes
nothing else, in OFF with RUN at 1 it begins a start, in RUN it becomes the target, limited to 1,000 while ABNORMAL.
RUN requests and SPEED_CMD act so while no forced eject runs. CLEAR in FAULT lets the next RUN request leave it. The
spindle counts as at speed after 400 Ticks within SPEED_TOL. (Spindle states, Angle and speed) -/
def Obligations.SpindleRequests : Prop :=
  (∀ (p : SpinId) (byHost : Bool) (s : State), (byHost = true → s.dev.spinFree p = true) → s.dev.torcDead p = false →
      ∃ t, exec (.tqCtlRun p false byHost) s = .next t ∧ getF t.dev .TQ_CTL_RUN p = 0 ∧ (t.dev.torc p).startPend = false
        ∧ t.dev.torcState p = (if s.dev.torcState p ∈ [1, 2, 3] then 0 else if s.dev.torcState p = 4 then 7 else s.dev.torcState p)
        ∧ Frame (theRegs [(.TQ_CTL_RUN, p), (.TQ_STAT_STATE, p), (.TQ_STAT_AT_SPEED, p), (.TQ_STAT_DEPTH_LIM, p), (.TQ_STAT_SPEED, p)]) [] [] [p] s t)
  ∧ (∀ (p : SpinId) (byHost : Bool) (s : State), (byHost = true → s.dev.spinFree p = true) → s.dev.torcDead p = false →
      s.dev.torcState p = 6 → (s.dev.torc p).redir = false → (s.dev.torc p).forced = false →
      ∃ t, exec (.tqCtlRun p true byHost) s = .next t ∧ getF t.dev .TQ_CTL_RUN p = 1 ∧ t.dev.torcState p = 5
        ∧ (t.dev.torc p).ref = (s.dev.torc p).speed * 2000000 ∧ (t.dev.torc p).target = s.dev.torcTarget p
        ∧ Frame (theRegs [(.TQ_CTL_RUN, p), (.TQ_STAT_STATE, p), (.TQ_STAT_AT_SPEED, p)]) [] [] [p] s t)
  ∧ (∀ (p : SpinId) (go : Bool) (s : State), s.dev.spinFree p = false →
      ∃ t, exec (.tqCtlRun p go true) s = .next t ∧ getF t.dev .TQ_ERR_CTL_REJ p = min 255 (getF s.dev .TQ_ERR_CTL_REJ p + 1)
        ∧ Frame (theRegs [(.TQ_ERR_CTL_REJ, p)]) [] [] [] s t)
  ∧ (∀ (p : SpinId) (rpm : Nat) (s : State), s.dev.spinFree p = true → 600 ≤ rpm → rpm ≤ 3000 → getF s.dev .TQ_CTL_RUN p = 0 →
      ∃ t, exec (.speedCmd p rpm) s = .next t ∧ getF t.dev .TQ_CTL_SPEED_CMD p = rpm ∧ Frame (theRegs [(.TQ_CTL_SPEED_CMD, p)]) [] [] [] s t)
  ∧ (∀ (p : SpinId) (rpm : Nat) (s : State), s.dev.spinFree p = true → 600 ≤ rpm → rpm ≤ 3000 → getF s.dev .TQ_CTL_RUN p = 1 →
      s.dev.torcDead p = false → s.dev.torcState p = 5 → (s.dev.torc p).forced = false →
      ∃ t, exec (.speedCmd p rpm) s = .next t ∧ getF t.dev .TQ_CTL_SPEED_CMD p = rpm
        ∧ (t.dev.torc p).target = (if getF s.dev .TQ_STAT_ABNORMAL p = 1 then min rpm 1000 else rpm)
        ∧ ((t.dev.torc p).target ≠ (s.dev.torc p).target → getF t.dev .TQ_STAT_AT_SPEED p = 0)
        ∧ Frame (theRegs [(.TQ_CTL_SPEED_CMD, p), (.TQ_STAT_AT_SPEED, p)]) [] [] [p] s t)
  ∧ (∀ (p : SpinId) (rpm : Nat) (s : State), s.dev.spinFree p = true → 600 ≤ rpm → rpm ≤ 3000 → getF s.dev .TQ_CTL_RUN p = 1 →
      s.dev.torcDead p = false → s.dev.torcState p = 0 → (s.dev.torc p).doorWait = false → (s.dev.torc p).forced = false →
      (s.dev.torc p).barred = false → getF s.dev .TH_STAT_STEP 0 < 6 → s.dev.fourIn p = true → getF s.dev .TQ_STAT_CHOP_FAULT p = 0 →
      3 * getF s.dev .TQ_MOTOR_KE_NOM p < 24000 → (s.dev.torc p).busWarn = false → (s.dev.torc p).fourOk < 80000 →
      ∃ t, exec (.speedCmd p rpm) s = .next t ∧ getF t.dev .TQ_CTL_SPEED_CMD p = rpm ∧ (t.dev.torc p).doorWait = true
        ∧ Frame (theRegs [(.TQ_CTL_SPEED_CMD, p)]) [] [] [p] s t)
  ∧ (∀ (p : SpinId) (rpm : Nat) (s : State), s.dev.spinFree p = true → (rpm < 600 ∨ 3000 < rpm) →
      ∃ t, exec (.speedCmd p rpm) s = .next t ∧ Frame noRegs [] [] [] s t)
  ∧ (∀ (p : SpinId) (s : State), s.dev.spinFree p = true → s.dev.torcState p = 10 → s.dev.spinLatch p = false →
      ∃ t, exec (.clear p) s = .next t ∧ t.dev.torc p = { s.dev.torc p with cleared := true } ∧ Frame noRegs [] [] [p] s t)
  ∧ (∀ (p : SpinId) (s : State), s.dev.torcState p = 5 → 400 ≤ (s.dev.torc p).inTol →
      ∃ t, exec (.atSpeed p) s = .next t ∧ getF t.dev .TQ_STAT_AT_SPEED p = 1 ∧ Frame (theRegs [(.TQ_STAT_AT_SPEED, p)]) [] [] [] s t)

/-- Below OBS_MIN DECEL gives way to BRAKE. In BRAKE standstill is declared when the current has stayed below STILL_I for
200 ms: the spindle enters OFF with LOW30 set and the bridge off; a spindle whose core has failed stays in BRAKE. Only
the spindle changes. (Stopping and braking, Spindle states) -/
def Obligations.StoppingASpindle : Prop :=
  (∀ (p : SpinId) (s : State), s.dev.torcState p = 6 → (s.dev.torc p).speed < 2 * getF s.dev .TQ_START_CFG_OBS_MIN p →
      ∃ t, exec (.decelEnd p) s = .next t ∧ t.dev.torcState p = 7 ∧ getF t.dev .TQ_STAT_AT_SPEED p = 0
        ∧ (t.dev.spin p).down.bridgeEn = true ∧ (t.dev.spin p).down.shortBrake = true
        ∧ Frame (theRegs [(.TQ_STAT_STATE, p), (.TQ_STAT_AT_SPEED, p), (.TQ_STAT_DEPTH_LIM, p)]) [] [] [p] s t)
  ∧ (∀ (p : SpinId) (s : State), s.dev.torcState p = 7 → 80000 ≤ (s.dev.torc p).still → s.dev.torcDead p = false →
      (s.dev.torc p).startPend = false →
      ∃ t, exec (.standstill p) s = .next t ∧ t.dev.torcState p = 0 ∧ getF t.dev .TQ_STAT_LOW30 p = 1 ∧ getF t.dev .TQ_STAT_SPEED p = 0
        ∧ (t.dev.torc p).rested = true ∧ (t.dev.spin p).down.bridgeEn = false ∧ (t.dev.spin p).down.shortBrake = false
        ∧ Frame (theRegs [(.TQ_STAT_STATE, p), (.TQ_STAT_AT_SPEED, p), (.TQ_STAT_DEPTH_LIM, p), (.TQ_STAT_SPEED, p), (.TQ_STAT_LOW30, p), (.TQ_STAT_REVERSE, p)])
            [] [] [p] s t)
  ∧ (∀ (p : SpinId) (s : State), s.dev.torcDead p = true →
      ∃ t, exec (.standstill p) s = .next t ∧ t.dev.torcState p = s.dev.torcState p ∧ Frame noRegs [] [] [] s t)
  ∧ (∀ (p : SpinId) (s : State), 6 ≤ getF s.dev .TH_STAT_STEP 0 → s.dev.torcState p = 7 → 80000 ≤ (s.dev.torc p).still →
      s.dev.torcDead p = false → (s.dev.torc p).startPend = true → (s.dev.torc p).barred = false → (s.dev.torc p).forced = false →
      ∃ t, exec (.standstill p) s = .next t ∧ t.dev.torcState p = 0
        ∧ (t.dev.torc p).startPend = decide (getF s.dev .TQ_CTL_RUN p = 1))

/-- CHOP_TEST from OFF at standstill enters CHOPTEST with CHOP_MODE 1; after 8 Ticks it passes when ICHOP lay in its band
in each of the last 4: CHOP_FAULT clears and the spindle is OFF; else it stays OFF and the start is refused with cause
2; a test made in a cleared FAULT ends there. A chopper fault is latched and reported once; from DECEL the spindle
brakes. A KE window outside KE_NOM ± 12 % stores KE_MEAS, sets ABNORMAL and limits the target to 1,000 rpm (its ageing
sample goes to the accounts while a Hallmark core runs); a write of 1 lifts the limit. The bus is recovered after 8
M-ticks. (Stopping and braking, Motor identity, Bus dips) -/
def Obligations.ChopperAndMotorChecks : Prop :=
  (∀ (p : SpinId) (s : State), s.dev.spinFree p = true → s.dev.torcDead p = false → getF s.dev .TQ_STAT_LOW30 p = 1 → s.dev.torcState p = 0 →
      ∃ t, exec (.chopTest p) s = .next t ∧ t.dev.torcState p = 9 ∧ (t.dev.spin p).down.chopMode = 1 ∧ (t.dev.spin p).down.bridgeEn = false
        ∧ Frame (theRegs [(.TQ_STAT_STATE, p), (.TQ_STAT_AT_SPEED, p), (.TQ_STAT_DEPTH_LIM, p), (.PM_STAT_LAST_WAKE, 0)]) [.power] [] [p] s t)
  ∧ (∀ (p : SpinId) (s : State), s.dev.torcState p = 9 → 8 ≤ (s.dev.torc p).age → 4 ≤ (s.dev.torc p).chopGood → (s.dev.torc p).startPend = false →
      (s.dev.torc p).inFault = false →
      ∃ t, exec (.chopTestDone p) s = .next t ∧ t.dev.torcState p = 0 ∧ getF t.dev .TQ_STAT_CHOP_FAULT p = 0 ∧ (t.dev.spin p).down.chopMode = 0
        ∧ Frame (theRegs [(.TQ_STAT_STATE, p), (.TQ_STAT_AT_SPEED, p), (.TQ_STAT_DEPTH_LIM, p), (.TQ_STAT_SPEED, p), (.TQ_STAT_CHOP_FAULT, p)]) [] [] [p] s t)
  ∧ (∀ (p : SpinId) (s : State), s.dev.torcState p = 9 → 8 ≤ (s.dev.torc p).age → (s.dev.torc p).chopGood < 4 →
      (s.dev.torc p).inFault = false →
      ∃ t, exec (.chopTestDone p) s = .next t ∧ t.dev.torcState p = 0 ∧ getF t.dev .TQ_STAT_CHOP_FAULT p = getF s.dev .TQ_STAT_CHOP_FAULT p
        ∧ (t.dev.torc p).startPend = false ∧ (s.dev.Hears .TQ_START_REFUSED → Recorded .TQ_START_REFUSED p [2] s t))
  ∧ (∀ (p : SpinId) (s : State), s.dev.torcState p = 9 → 8 ≤ (s.dev.torc p).age → (s.dev.torc p).startPend = false →
      (s.dev.torc p).inFault = true →
      ∃ t, exec (.chopTestDone p) s = .next t ∧ t.dev.torcState p = 10 ∧ (t.dev.torc p).cleared = true ∧ (t.dev.spin p).down.chopMode = 0)
  ∧ (∀ (p : SpinId) (s : State), getF s.dev .TQ_STAT_CHOP_FAULT p = 0 →
      (80 ≤ (s.dev.torc p).chopHigh ∨ 8 ≤ (s.dev.torc p).chopLow ∨ (s.dev.spin p).link.held.chopFault = true) →
      ∃ t, exec (.chopperFault p) s = .next t ∧ getF t.dev .TQ_STAT_CHOP_FAULT p = 1
        ∧ t.dev.torcState p = (if s.dev.torcState p = 6 then 7 else s.dev.torcState p)
        ∧ (s.dev.Hears .TQ_CHOP_FAULT → Recorded .TQ_CHOP_FAULT p [] s t)
        ∧ Frame (theRegs [(.TQ_STAT_CHOP_FAULT, p), (.TQ_STAT_STATE, p), (.TQ_STAT_AT_SPEED, p), (.TQ_STAT_DEPTH_LIM, p)]) [] [] [p] s t)
  ∧ (∀ (p : SpinId) (ke : Nat) (s : State), s.dev.torcState p = 5 → 64 ≤ (s.dev.torc p).keUpd → ke < 16384 →
      (100 * ke < 88 * getF s.dev .TQ_MOTOR_KE_NOM p ∨ 112 * getF s.dev .TQ_MOTOR_KE_NOM p < 100 * ke) →
      ∃ t, exec (.keWindowEnd p ke) s = .next t ∧ getF t.dev .TQ_MOTOR_KE_MEAS p = ke ∧ getF t.dev .TQ_STAT_ABNORMAL p = 1
        ∧ (t.dev.torc p).target = min (getF s.dev .TQ_CTL_SPEED_CMD p) 1000 ∧ (t.dev.torc p).keUpd = 0
        ∧ (s.dev.hallmarkDead = true →
            (getF s.dev .TQ_STAT_ABNORMAL p = 0 → s.dev.Hears .TQ_MOTOR_ABNORMAL → Recorded .TQ_MOTOR_ABNORMAL p [ke] s t)
            ∧ Frame (theRegs [(.TQ_MOTOR_KE_MEAS, p), (.TQ_STAT_ABNORMAL, p), (.TQ_STAT_AT_SPEED, p)]) [] [] [p] s t))
  ∧ (∀ (p : SpinId) (s : State),
      ∃ t, exec (.abnormalClear p) s = .next t ∧ getF t.dev .TQ_STAT_ABNORMAL p = 0
        ∧ (s.dev.torcState p = 5 → (t.dev.torc p).target = getF s.dev .TQ_CTL_SPEED_CMD p)
        ∧ Frame (theRegs [(.TQ_STAT_ABNORMAL, p), (.TQ_STAT_AT_SPEED, p)]) [] [] [p] s t)
  ∧ (∀ (p : SpinId) (s : State), (s.dev.torc p).busWarn = true → 8 ≤ (s.dev.torc p).busOk →
      ∃ t, exec (.busRecovery p) s = .next t ∧ getF t.dev .TQ_STAT_BUS_WARN p = 0 ∧ (t.dev.torc p).busWarn = false
        ∧ Frame (theRegs [(.TQ_STAT_BUS_WARN, p)]) [] [] [p] s t)

/-- With no head busy and no sequence running, EJECT clears RUN, shows LED pattern 3 and waits for the heads to park; LOAD
sends TRAY_CMD 1. A tray that has not reached its sensor within 4 s stops: TRAY_FAIL, TQ_TRAY_FAIL, pattern 5. A Tick
in which results of a core are late counts one overrun, reported with the mask at its lowest late spindle; a second
within 400 Ticks fails the core and short-brakes its eight spindles, but for one that coasts. (Door, tray and eject,
The PWM period and the Tick budget) -/
def Obligations.BayAndCoreFailures : Prop :=
  (∀ (p : SpinId) (s : State), s.dev.spinFree p = true → (s.dev.torc p).doorSeq = .idle →
      ∃ t, exec (.eject p) s = .next t ∧ getF t.dev .TQ_CTL_RUN p = 0 ∧ (t.dev.torc p).doorSeq = .parking ∧ (t.dev.torc p).forced = false
        ∧ getF t.dev .TQ_DOOR_LED p = 3 ∧ (t.dev.spin p).down.led = 3
        ∧ (∀ h ∈ headsOf p, s.dev.mode h ∉ [0, 1, 8, 10] → (s.dev.head h).motion.parking = false → (t.dev.head h).motion.wantPark = true)
        ∧ Frame (theRegs [(.TQ_CTL_RUN, p), (.TQ_STAT_STATE, p), (.TQ_STAT_AT_SPEED, p), (.TQ_STAT_DEPTH_LIM, p), (.TQ_STAT_SPEED, p), (.TQ_DOOR_LED, p)])
            [] (headsOf p) [p] s t)
  ∧ (∀ (p : SpinId) (s : State), s.dev.spinFree p = true → (s.dev.torc p).doorSeq = .idle →
      ∃ t, exec (.load p) s = .next t ∧ (t.dev.torc p).doorSeq = .trayIn ∧ (t.dev.torc p).trayAge = 0 ∧ (t.dev.spin p).down.trayCmd = 1
        ∧ Frame noRegs [] [] [p] s t)
  ∧ (∀ (p : SpinId) (s : State), s.dev.spinFree p = true → (s.dev.torc p).doorSeq ≠ .idle →
      (∃ t, exec (.eject p) s = .next t ∧ Frame noRegs [] [] [] s t) ∧ (∃ t, exec (.load p) s = .next t ∧ Frame noRegs [] [] [] s t))
  ∧ (∀ (p : SpinId) (s : State), ((s.dev.torc p).doorSeq = .trayIn ∨ (s.dev.torc p).doorSeq = .trayOut) → 1600000 ≤ (s.dev.torc p).trayAge →
      ∃ t, exec (.trayTimeout p) s = .next t ∧ getF t.dev .TQ_DOOR_TRAY_FAIL p = 1 ∧ getF t.dev .TQ_DOOR_LED p = 5
        ∧ (t.dev.spin p).down.trayCmd = 0 ∧ (t.dev.torc p).doorSeq = .idle
        ∧ (s.dev.Hears .TQ_TRAY_FAIL → Recorded .TQ_TRAY_FAIL p [] s t)
        ∧ Frame (theRegs [(.TQ_DOOR_TRAY_FAIL, p), (.TQ_DOOR_LED, p)]) [] [] [p] s t)
  ∧ (∀ (c : TorcId) (p : SpinId) (m : Nat) (s : State), m < 256 → torcOf p = c → bit m (p.val % 8) = true →
      (∀ q : SpinId, torcOf q = c → bit m (q.val % 8) = true → p ≤ q) → getF s.dev .TQ_CORE_FAILED c = 0 →
      ∃ t, exec (.torcOverrun c m) s = .next t
        ∧ getF t.dev .TQ_CORE_OVERRUNS c = min 255 (getF s.dev .TQ_CORE_OVERRUNS c + 1)
        ∧ (t.dev.cores[c]).lastOvr = some (tickOf s.dtime)
        ∧ ((∀ n, (s.dev.cores[c]).lastOvr = some n → n + 400 < tickOf s.dtime) →
            getF t.dev .TQ_CORE_FAILED c = 0 ∧ (s.dev.Hears .TQ_OVERRUN → Recorded .TQ_OVERRUN p [m] s t) ∧ (∀ q, torcOf q = c → bit m (q.val % 8) = true → (t.dev.torc q).late = true)
            ∧ Frame (theRegs [(.TQ_CORE_OVERRUNS, c)]) [.cores] [] (allSpins.filter fun q => torcOf q == c) s t)
        ∧ (∀ n, (s.dev.cores[c]).lastOvr = some n → tickOf s.dtime ≤ n + 400 →
            getF t.dev .TQ_CORE_FAILED c = 1
            ∧ ∀ q, torcOf q = c → if s.dev.torcState q = 8 then t.dev.torcState q = 8
                else t.dev.torcState q = 7 ∧ (t.dev.spin q).down.bridgeEn = true ∧ (t.dev.spin q).down.shortBrake = true))

/-- For any 4,096 information bytes, the 36,864 bits that the staircase of R194 makes of them begin with the information
bits and satisfy every one of the 4,096 parity checks of the table's circulants. (The LDPC code) -/
def Obligations.EncodedWordsPassEveryCheck : Prop :=
  ∀ info : List Byte, info.length = 4096 →
    (ldpcEncode info).length = 36864 ∧ (ldpcEncode info).take 32768 = bitsOfBytes info ∧ unsatisfied (ldpcEncode info).toArray = 0

/-- A codeword still open whose values have come joins the queue with the descriptor epoch of its read, behind every
codeword that came before its instant; the oldest codeword of the soft hold goes to a free recovery engine of the
eight, and to none while all work. A codeword decoded under an old descriptor epoch is dropped and counted. One that
fails E0 is counted and moves to the soft hold, taking its sector to step E1, or with 128 codewords of E1 held counts
in HOLD_FULL; a user codeword that converges is kept while others of its sector are open, and counts in its head's
decoder statistics. (The LDPC code, Sector header checks) -/
def Obligations.CodewordsInThePool : Prop :=
  (∀ (id : Nat) (w : Fin 17) (r : ReadJob) (s : State), s.dev.read? id = some r → w.val ∈ r.open_ →
      (id, w.val, r.desc) ∉ s.dev.data.queue ++ s.dev.data.hold ++ s.dev.data.onRecovery →
      (w = 0 ∨ r.frame.isSome = true) →
      ∃ t, exec (.codewordReady id w) s = .next t
        ∧ (∃ a b, s.dev.data.queue = a ++ b ∧ t.dev.data.queue = a ++ (id, w.val, r.desc) :: b)
        ∧ (s.dev.data.readyAt ≠ s.dtime → t.dev.data.queue = s.dev.data.queue ++ [(id, w.val, r.desc)])
        ∧ t.dev.data.hold = s.dev.data.hold ∧ Frame noRegs [.data] [] [] s t)
  ∧ (∀ (e : Nat × Nat × Nat) (l : List (Nat × Nat × Nat)) (s : State), s.dev.data.hold = e :: l → s.dev.holdUsed ≤ 128 →
      s.dev.data.onRecovery.length < 8 →
      ∃ t, exec .softHoldDispatch s = .next t ∧ t.dev.data = { s.dev.data with hold := l, onRecovery := s.dev.data.onRecovery ++ [e] }
        ∧ getF t.dev .LD_POOL_HOLD_USED 0 = t.dev.holdUsed ∧ Frame (theRegs [(.LD_POOL_HOLD_USED, 0)]) [.data] [] [] s t)
  ∧ (∀ s : State, 8 ≤ s.dev.data.onRecovery.length → ∃ t, exec .softHoldDispatch s = .next t ∧ Frame noRegs [] [] [] s t)
  ∧ (∀ (id : Nat) (w : Fin 17) (e : Nat × Nat × Nat) (r : ReadJob) (s : State), s.dev.read? id = some r →
      ((s.dev.data.queue.take (getF s.dev .LD_POOL_ACTIVE 0)).find? fun x => x.1 == id && x.2.1 == w.val) = some e → e.2.2 ≠ r.desc →
      ∃ t, exec (.codewordDecoded id w) s = .next t
        ∧ getF t.dev .CH_STAT_LATE_DROPS 0 = min 65535 (getF s.dev .CH_STAT_LATE_DROPS 0 + 1)
        ∧ t.dev.data.queue = s.dev.data.queue.filter (· != e) ∧ t.dev.data.reads = s.dev.data.reads
        ∧ Frame (theRegs [(.CH_STAT_LATE_DROPS, 0)]) [.data] [] [] s t)
  ∧ (∀ (id : Nat) (w : Fin 17) (e : Nat × Nat × Nat) (r : ReadJob) (v : List Int) (s : State), s.dev.read? id = some r →
      ((s.dev.data.queue.take (getF s.dev .LD_POOL_ACTIVE 0)).find? fun x => x.1 == id && x.2.1 == w.val) = some e → e.2.2 = r.desc →
      r.frame.isSome = true → r.ambig = false → r.step ≤ 1 → r.orphan = false → v = ((r.soft.find? (·.1 == w.val)).map (·.2)).getD [] →
      (ldpcDecode (if w = 0 then headerKnown v else v) (getF s.dev .LD_POOL_E0_ITER 0)).info = none →
      ∃ t, exec (.codewordDecoded id w) s = .next t
        ∧ getF t.dev .LD_CW_FAIL_COUNT 0 = (getF s.dev .LD_CW_FAIL_COUNT 0 + 1) % 2 ^ 32
        ∧ t.dev.data.queue = s.dev.data.queue.filter (· != e)
        ∧ (s.dev.holdUsed < 128 →
            t.dev.data.hold = s.dev.data.hold ++ [(id, w.val, r.desc)] ∧ getF t.dev .LD_POOL_HOLD_USED 0 = s.dev.holdUsed + 1
            ∧ ∃ r', t.dev.read? id = some r' ∧ r'.step = 1 ∧ r'.words = r.words)
        ∧ (128 ≤ s.dev.holdUsed →
            t.dev.data.hold = s.dev.data.hold
            ∧ getF t.dev .LD_STAT_HOLD_FULL 0 = min 65535 (getF s.dev .LD_STAT_HOLD_FULL 0 + 1)
            ∧ (s.dev.data.holdFullRaised = false → s.dev.Hears .LD_HOLD_FULL → Recorded .LD_HOLD_FULL 0 [] s t))
        ∧ Frame (theRegs [(.LD_CW_FAIL_COUNT, 0), (.LD_POOL_HOLD_USED, 0), (.LD_STAT_HOLD_FULL, 0)]) [.data] [] [] s t)
  ∧ (∀ (id : Nat) (w : Fin 17) (e : Nat × Nat × Nat) (r : ReadJob) (b : List Byte) (v : List Int) (s : State), s.dev.read? id = some r →
      ((s.dev.data.queue.take (getF s.dev .LD_POOL_ACTIVE 0)).find? fun x => x.1 == id && x.2.1 == w.val) = some e → e.2.2 = r.desc →
      r.frame.isSome = true → r.ambig = false → w ≠ 0 → v = ((r.soft.find? (·.1 == w.val)).map (·.2)).getD [] →
      (ldpcDecode v (getF s.dev .LD_POOL_E0_ITER 0)).info = some b → (r.words.set w.val (some b)).any (·.isNone) = true →
      ∃ t r', exec (.codewordDecoded id w) s = .next t ∧ t.dev.read? id = some r' ∧ r'.words = r.words.set w.val (some b)
        ∧ r'.open_ = r.open_.filter (· != w.val) ∧ r'.step = r.step
        ∧ t.dev.data.queue = s.dev.data.queue.filter (· != e)
        ∧ (t.dev.head r.head).hallmark.e0Count = (s.dev.head r.head).hallmark.e0Count + 1
        ∧ Frame noRegs [.data] [r.head] [] s t)

/-- A sector with failing codewords and nothing open first keeps the values of its read for E5, at most four reads of a
codeword; then the next step that applies begins, if LAST_STEP and TIME_LIMIT allow and the ladder has room (log entry
57): a medium step asks for a re-read at its E4 point, with a short seek to its band from FOLLOW, E5 sends the sums of
the reads kept to the recovery engines. When they do not allow it (0x2002), or no step is left while its head is in
service (0x2001), a command's sector is counted at E7, FC_UNREADABLE names head, PSA and last step, and the job goes;
it also goes where its head is out of service and no step is left. The steps left are later ones, or a later point of
E4. That a read out of service ends so is the model's reading of R204 (log entry 72). (The recovery ladder) -/
def Obligations.RecoveryLadderSteps : Prop :=
  ∀ (id : Nat) (r r' : ReadJob) (s : State), s.dev.read? id = some r → r.step ≠ 6 → r.realloc = false → r.held = false →
    r.orphan = false → r.wantRead = false → r.open_ = [] → r.failing ≠ [] →
    r' = (if r.step ≤ 4 ∧ r.cap ≠ [] then { r with cap := [], stored := r.kept.foldl storeRead r.stored } else r) →
    (∀ (step point : Nat) (l : List (Nat × Nat)), s.dev.laterSteps r' = (step, point) :: l → r'.allowed step = true → step ≤ 4 →
      s.dev.ladderRoom r = true →
      ∃ t, exec (.ladderStep id) s = .next t
        ∧ t.dev.read? id = some { r' with
            step := step, point := point, wantRead := true, entered := if r.step ≤ 1 then s.dev.data.nextId else r.entered }
        ∧ (s.dev.mode r.head = 3 → (s.dev.head r.head).motion.pendSeek = none → (s.dev.head r.head).motion.seek = none →
            (t.dev.head r.head).motion.pendSeek = some (psaLayer r.psa, psaStripe r.psa))
        ∧ Frame (theRegs [(.MO_MODE_TARGET_LAYER, r.head)]) [.data] [r.head] [] s t)
    ∧ (∀ (point : Nat) (l : List (Nat × Nat)), s.dev.laterSteps r' = (5, point) :: l → r'.allowed 5 = true →
      s.dev.ladderRoom r = true →
      ∃ t, exec (.ladderStep id) s = .next t
        ∧ t.dev.read? id = some { r' with
            step := 5, open_ := r'.failing, soft := r'.failing.map fun w => (w, softSum (r'.readsOf w)) }
        ∧ t.dev.data.hold = s.dev.data.hold ++ r'.failing.map (fun w => (id, w, r'.desc)) ∧ Frame noRegs [.data] [] [] s t)
    ∧ ((s.dev.laterSteps r' = [] ∧ r.brief = false ∧ s.dev.inService r.head = true
          ∨ ∃ x l, s.dev.laterSteps r' = x :: l ∧ r'.allowed x.1 = false) → (∃ q tag, r.why = .cmd q tag) →
      ∃ t, exec (.ladderStep id) s = .next t
        ∧ getF t.dev .LD_STEP_CNT_COUNT 7 = (getF s.dev .LD_STEP_CNT_COUNT 7 + 1) % 2 ^ 32
        ∧ (s.dev.Hears .FC_UNREADABLE → Recorded .FC_UNREADABLE r.head [r.psa, r.step] s t)
        ∧ t.dev.read? id = none ∧ t.dev.heads = s.dev.heads ∧ t.dev.spindles = s.dev.spindles)
    ∧ (s.dev.laterSteps r' = [] → s.dev.inService r.head = false → (∃ q tag, r.why = .cmd q tag) →
      ∃ t, exec (.ladderStep id) s = .next t ∧ t.dev.read? id = none ∧ t.dev.heads = s.dev.heads)
    ∧ (∀ x l, s.dev.laterSteps r' = x :: l → r.step < x.1 ∨ (r.step = 4 ∧ x.1 = 4 ∧ r.point < x.2))

/-- A valid write of a strategy entry sets the pending values of its five fields and nothing else; an invalid one changes
nothing and raises FC_WS_REJECT with layer and class; validity is R213's, with the shortest mark of the class.
LASER_WRITE_HANDOVER in FOLLOW with a sector that the head is to write within WRITE_LEAD Ticks asks for the
LASER_WRITE law, reached at once where it runs already, with the laser reference P_B of the layer. (Write strategy,
Laser power during a write) -/
def Obligations.StrategyEntriesAndLaserHandover : Prop :=
  (∀ (h : HeadId) (layer : Fin 16) (c : Fin 8) (v : Nat) (s : State), wsValid c v = true →
      ∃ t, exec (.wsEntryWrite h layer c v) s = .next t
        ∧ (∀ x ∈ [(Fld.FC_WS_ENTRY_T_START, bits v 63 56), (.FC_WS_ENTRY_T_TOP, bits v 55 48), (.FC_WS_ENTRY_T_LAST, bits v 47 40),
            (.FC_WS_ENTRY_T_END, bits v 39 32), (.FC_WS_ENTRY_T_COOL, bits v 31 24)],
            pendF t.dev x.1 (h.val * 128 + layer.val * 8 + c.val) = some x.2)
        ∧ Frame noRegs [.rvPend, .hmPend] [] [] s t)
  ∧ (∀ (h : HeadId) (layer : Fin 16) (c : Fin 8) (v : Nat) (s : State), wsValid c v = false →
      ∃ t, exec (.wsEntryWrite h layer c v) s = .next t
        ∧ (s.dev.Hears .FC_WS_REJECT → Recorded .FC_WS_REJECT h [layer.val, c.val] s t) ∧ Frame noRegs [] [] [] s t)
  ∧ (∀ v : Nat, ∀ x ∈ [(2, 3), (3, 4), (4, 5), (5, 7), (6, 10), (7, 14)],
      (wsValid x.1 v = true ↔ 1 ≤ bits v 55 48 ∧ 1 ≤ bits v 47 40
        ∧ toSigned 8 (bits v 63 56) + (bits v 55 48 : Nat) ≤ 16 * (x.2 : Nat) + toSigned 8 (bits v 39 32) - (bits v 47 40 : Nat)))
  ∧ (∀ (h : HeadId) (r : LawRun) (s : State), s.dev.mode h = 3 → (s.dev.head h).motion.laserWrite = false →
      (s.dev.loop h 4).drive = .law r → (s.dev.loop h 4).blend = none → (s.dev.loop h 4).want = none →
      (∃ w ∈ s.dev.data.writes, s.dev.writeDue h w = true) →
      ∃ t, exec (.laserWriteHandover h) s = .next t ∧ (t.dev.head h).motion = { (s.dev.head h).motion with laserWrite := true }
        ∧ (t.dev.loop h 4).want = (if r.slot = getF s.dev .MO_LAWSEL1_LPWR_WRITE h then none else some { slot := getF s.dev .MO_LAWSEL1_LPWR_WRITE h })
        ∧ pendF t.dev .BZ_LOOP_REF_REF (h.val * 5 + 4)
            = some (getF s.dev .HM_PLAN_P_B (h.val * 16 + (s.dev.head h).motion.lastLayer) * 2 ^ 15 % 2 ^ 32)
        ∧ Frame noRegs [.rvPend, .hmPend] [h] [] s t)

/-- A sector that may be armed on a spot of a head that may write, on a stripe whose bank matches and whose rate is
allowed, with the target never written or armed and its stripe not yet begun, is armed: its target is fixed, a rewrite
takes the surface's next SEQ, the request bit of the spot is set for its layer and stripe, and the target counts as
armed from then on. A head that may not write arms nothing, and one that may is in FOLLOW on LASER_WRITE, its guard
clear. (When a write may begin, Where data are placed, Encoding and write data) -/
def Obligations.ArmingASector : Prop :=
  (∀ (h : HeadId) (spot : SpotId) (id p bank k : Nat) (w : WriteJob) (s : State), s.dev.headMayWrite h = true → s.dev.write? id = some w →
      s.dev.mayArmJob h spot w = true → s.dev.targetFor h spot w = some p → s.dev.headTakes h w p = true → p % 4 = spot.val →
      s.dev.layerLimited h (psaLayer p) = false → (s.dev.head h).down.armReq = 0 →
      Sys2Proof.Machine.rateOk (stripeRadius (psaLayer p) (psaStripe p)) (getF s.dev .TQ_STAT_SPEED (spinOf h)) = true →
      (∀ n, s.dev.untilStripe h (psaLayer p) (psaStripe p) = some n → 0 ≤ n) →
      s.dev.bankFor h (psaLayer p) = some bank → p ∉ (s.dev.surf (surfOf h)).written →
      k < 4 → k ≠ spot.val → frontierEnd ((s.dev.surf (surfOf h)).frontierAt k) = false →
      ∃ t w', exec (.writeArm h [(spot, id)]) s = .next t ∧ t.dev.write? id = some w' ∧ w'.state = .armed ∧ w'.target = p
        ∧ w'.head = h ∧ w'.spot = spot ∧ w'.data = w.data
        ∧ w'.seq = (if w.reason = 0 then 0 else if w.seq = 0 then (s.dev.surf (surfOf h)).nextSeq else w.seq)
        ∧ (t.dev.surf (surfOf h)).nextSeq = (s.dev.surf (surfOf h)).nextSeq + (if w.reason ≠ 0 ∧ w.seq = 0 then 1 else 0)
        ∧ (t.dev.surf (surfOf h)).written = (s.dev.surf (surfOf h)).written ++ [p]
        ∧ (t.dev.head h).down.armReq = 2 ^ spot.val ∧ (t.dev.head h).down.wLayer = psaLayer p
        ∧ (t.dev.head h).down.wStripe = psaStripe p ∧ (t.dev.head h).down.bank = bank
        ∧ Frame (fun f i => (f = .FC_WR_STAT_SKIPPED ∧ i = h.val) ∨ (f = .FC_RELOC_NEXT_FRONTIER ∧ ∃ g ∈ surfHeads (surfOf h), i / 4 = g.val))
            [.data, .surfaces] [h] [] s t)
  ∧ (∀ (h : HeadId) (jobs : List (SpotId × Nat)) (k : Nat) (s : State), s.dev.headMayWrite h = false → k < 4 →
      frontierEnd ((s.dev.surf (surfOf h)).frontierAt k) = false →
      ∃ t, exec (.writeArm h jobs) s = .next t ∧ Frame noRegs [] [] [] s t)
  ∧ (∀ (h : HeadId) (s : State), s.dev.headMayWrite h = true →
      s.dev.mode h = 3 ∧ s.dev.laserWrites h = true ∧ getF s.dev .MO_MODE_GUARD_OK h = 1 ∧ s.dev.headWarm h = true ∧ s.dev.dieCool = true ∧ s.dev.keeper.dip = false
        ∧ (s.dev.head h).down.writeInhibit = false ∧ getF s.dev .PM_STAT_STATE 0 = 0 ∧ getF s.dev .HL_STATUS_RATE h = 0)

/-- A sector whose gate was never seen, without a fault, goes back to staged and its PSA to unwritten; one whose gate
stayed open without a fault is complete and waits for verification where that is due, for which the head goes back to
its stripe; every other is abandoned: counted, counted as an underrun when it was one, staged again without target or
SEQ, with reason 0x4 if it had none, a marker kept for a SEQ it carried. At ABANDON_MAX in a row FC_WRITE_STUCK is
raised. (Sectors other than remap sectors and format records, whose command still wants them.) (What closes a gate,
Where data are placed) -/
def Obligations.GatesDecideASector : Prop :=
  ∀ (h : HeadId) (spot : SpotId) (w : WriteJob) (s : State), s.dev.jobAt h spot = some w → s.dev.write? w.id = some w →
    w.kind ≠ 0x10 → w.kind ≠ 0x11 → w.cancelled = false →
    (w.gateSeen = false → w.bad = false →
      ∃ t, exec (.writeSectorEnd h spot) s = .next t ∧ t.dev.write? w.id = some { w with state := .staged }
        ∧ (∀ p, p ∈ (t.dev.surf w.surf).written ↔ p ∈ (s.dev.surf w.surf).written ∧ p ≠ w.target)
        ∧ Frame (theRegs [(.FC_WR_STAT_SKIPPED, h)]) [.data, .surfaces] [h] [] s t)
    ∧ (w.gateSeen = true → w.gateLost = false → w.bad = false → s.dev.verifyDue w = true →
      ∃ t, exec (.writeSectorEnd h spot) s = .next t ∧ t.dev.write? w.id = some { w with state := .complete, abandons := 0 }
        ∧ (∀ q tag c, w.owner = some (q, tag) → s.dev.cmd? q tag = some c →
            ∃ c', t.dev.cmd? q tag = some c' ∧ c'.committed = c.committed + 1)
        ∧ (s.dev.mode h = 3 → (s.dev.head h).motion.pendSeek = none → (s.dev.head h).motion.seek = none →
            (∀ x ∈ s.dev.data.writes, x.live = true → x.head = h → x.id = w.id) →
            (t.dev.head h).motion.pendSeek = some (psaLayer w.target, psaStripe w.target))
        ∧ Frame (theRegs [(.MO_MODE_TARGET_LAYER, h)]) [.data, .clasp, .mem] [h] [] s t)
    ∧ ((w.gateLost = true ∧ w.gateSeen = true ∨ w.bad = true) →
      w.abandons + 1 < getF s.dev .FC_WR_CFG_ABANDON_MAX h → (s.dev.surf w.surf).relocFull = false →
      ∃ t, exec (.writeSectorEnd h spot) s = .next t
        ∧ getF t.dev .FC_WR_STAT_ABANDONED h = min 255 (getF s.dev .FC_WR_STAT_ABANDONED h + 1)
        ∧ getF t.dev .FC_WR_STAT_UNDERRUN h
            = (if w.under then min 255 (getF s.dev .FC_WR_STAT_UNDERRUN h + 1) else getF s.dev .FC_WR_STAT_UNDERRUN h)
        ∧ t.dev.write? w.id = some { w with state := .staged, abandons := w.abandons + 1, seq := 0, target := 0, reason := if w.reason = 0 then 4 else w.reason, stuck := none }
        ∧ (t.dev.surf w.surf).markers
            = (s.dev.surf w.surf).markers ++ (if w.seq = 0 then [] else [{ w.record with reason := 4 }])
        ∧ (t.dev.surf w.surf).written = (s.dev.surf w.surf).written
        ∧ Frame (theRegs [(.FC_WR_STAT_ABANDONED, h), (.FC_WR_STAT_UNDERRUN, h)]) [.data, .surfaces] [h] [] s t)
    ∧ ((w.gateLost = true ∧ w.gateSeen = true ∨ w.bad = true) →
      getF s.dev .FC_WR_CFG_ABANDON_MAX h ≤ w.abandons + 1 →
      ∃ t w', exec (.writeSectorEnd h spot) s = .next t ∧ t.dev.write? w.id = some w' ∧ w'.stuck = some 0 ∧ w'.state = .staged
        ∧ w'.abandons = w.abandons + 1 ∧ w'.data = w.data
        ∧ (w.abandons < getF s.dev .FC_WR_CFG_ABANDON_MAX h → s.dev.Hears .FC_WRITE_STUCK → Recorded .FC_WRITE_STUCK h [] s t))

/-- A complete sector of an unchained volume whose read back passes at margin enters its record, where it has a SEQ, or
needs no more; one that fails is counted, reported with FC_VERIFY_FAIL and treated as abandoned; where it has not been
read back nothing changes. A sector kept waiting for WTEMP_WAIT ends each command that waits for it, with 0x5011 when
its head's zone is outside the window. A stuck sector may be armed again after 400 M-ticks. A recovered sector is
queued for a new place with reason 0x2, or refused with the remap area full. (Verification, What completion means,
Where data are placed) -/
def Obligations.VerificationAndRetries : Prop :=
  (∀ (id : Nat) (h : HeadId) (w : WriteJob) (s : State), s.dev.write? id = some w → w.state = .complete → w.kind ≠ 0x10 → w.kind ≠ 0x11 →
      w.chain = 0xFF → w.readBack = some h → (s.dev.head h).facet.past = some (psaLayer w.target, psaStripe w.target) →
      ∃ t, exec (.verifyRead id) s = .next t
        ∧ (s.dev.verifyPass w ((s.dev.head h).facet.lanes[psaSpot w.target]) = true →
            (w.seq = 0 → t.dev.write? id = none ∧ t.dev.surf w.surf = s.dev.surf w.surf)
            ∧ (w.seq ≠ 0 → (∃ w', t.dev.write? id = some w' ∧ w'.state = .verified)
                ∧ t.dev.surf w.surf = (s.dev.surf w.surf).addRecords [w.record])
            ∧ t.dev.heads = s.dev.heads ∧ t.dev.spindles = s.dev.spindles))
  ∧ (∀ (id : Nat) (h : HeadId) (w : WriteJob) (s : State), s.dev.write? id = some w → w.state = .complete → w.kind ≠ 0x10 → w.kind ≠ 0x11 →
      w.cancelled = false → w.readBack = some h → (s.dev.head h).facet.past = some (psaLayer w.target, psaStripe w.target) →
      (s.dev.surf w.surf).relocFull = false →
      s.dev.verifyPass w ((s.dev.head h).facet.lanes[psaSpot w.target]) = false →
      w.abandons + 1 < getF s.dev .FC_WR_CFG_ABANDON_MAX w.head → w.vfails + 1 < getF s.dev .FC_WR_CFG_FUA_TRIES h →
      ∃ t, exec (.verifyRead id) s = .next t
        ∧ getF t.dev .FC_WR_STAT_VFY_FAIL h = min 255 (getF s.dev .FC_WR_STAT_VFY_FAIL h + 1)
        ∧ t.dev.write? id = some { w with state := .staged, vfails := w.vfails + 1, abandons := w.abandons + 1, seq := 0, target := 0, reason := if w.reason = 0 then 4 else w.reason, stuck := none, pass := none, readBack := none }
        ∧ (s.dev.Hears .FC_VERIFY_FAIL → Recorded .FC_VERIFY_FAIL h [] s t)
        ∧ (∀ q tag c, w.owner = some (q, tag) → s.dev.cmd? q tag = some c →
            ∃ c', t.dev.cmd? q tag = some c' ∧ c'.committed = c.committed - 1)
        ∧ Frame (theRegs [(.FC_WR_STAT_VFY_FAIL, h)]) [.data, .surfaces, .clasp] [] [] s t)
  ∧ (∀ (id : Nat) (w : WriteJob) (s : State), s.dev.write? id = some w →
      (∀ h, w.readBack = some h → (s.dev.head h).facet.past ≠ some (psaLayer w.target, psaStripe w.target)) →
      ∃ t, exec (.verifyRead id) s = .next t ∧ Frame noRegs [] [] [] s t)
  ∧ (∀ (id : Nat) (w : WriteJob) (c : Cmd) (s : State), s.dev.write? id = some w → w.state = .staged →
      400 * getF s.dev .FC_WR_TEMP_WTEMP_WAIT 0 ≤ w.tempWait → s.dev.headWarm w.head = false →
      (s.dev.clasp.cmds.filter fun c => c.waiting && c.waits.contains id) = [c] → s.dev.cmd? c.qid c.e.tag = some c → c.e.opc ≠ 0x22 →
      (s.dev.pair? c.qid).isSome = true →
      ∃ t, exec (.wtempWaitExpiry id) s = .next t ∧ Completed c.qid c.e.tag 0x5011 (s.dev.countOf c 0x5011) s t)
  ∧ (∀ (id a : Nat) (w : WriteJob) (s : State), s.dev.write? id = some w → w.stuck = some a → 400 ≤ a →
      ∃ t, exec (.writeStuckRetry id) s = .next t ∧ t.dev.write? id = some { w with stuck := none } ∧ Frame noRegs [.data] [] [] s t)
  ∧ (∀ (id : Nat) (r : ReadJob) (s : State), s.dev.read? id = some r → r.realloc = true → (s.dev.surf r.surf).remapFull = false →
      ∃ t, exec (.reallocationWrite id) s = .next t ∧ t.dev.read? id = none
        ∧ (∃ w, t.dev.data.writes = s.dev.data.writes ++ [w] ∧ w.id = s.dev.data.nextId ∧ w.reason = 2 ∧ w.home = r.home ∧ w.surf = r.surf
            ∧ w.data = r.data ∧ w.state = .staged ∧ w.target = 0 ∧ bit w.flags 1 = true)
        ∧ Frame (theRegs [(.LD_POOL_HOLD_USED, 0)]) [.data] [] [] s t)
  ∧ (∀ (id : Nat) (r : ReadJob) (s : State), s.dev.read? id = some r → r.realloc = true → (s.dev.surf r.surf).remapFull = true →
      ∃ t, exec (.reallocationWrite id) s = .next t ∧ t.dev.read? id = none ∧ t.dev.data.writes = s.dev.data.writes
        ∧ (s.dev.Hears .FC_REALLOC_FAIL → Recorded .FC_REALLOC_FAIL r.head [r.psa] s t)
        ∧ Frame (theRegs [(.LD_POOL_HOLD_USED, 0)]) [.data] [] [] s t)

/-- A surface without a readable format record is unformatted; with one and no gap in the SEQ values of its remap records
it mounts under the readable generation with the highest GENERATION, read as far as its remap area goes (log entry
78), and each home resolves to the record of the highest SEQ; a record as R56 lays it out counts at mount; with a gap
it scans its headers and SY_REMAP_GAP names disc, side and the first missing SEQ. The end of the scan mounts it. A
full open remap sector of 2,048 records is queued as copy A in its block. FORMAT_SURFACE queues the four copies of the
format record of the next generation, and is refused with 0x1008 on a surface in use. (Format record, Remap records) -/
def Obligations.SurfacesMountAndFormat : Prop :=
  (∀ (sf : SurfId) (spot0 spot1 spot2 spot3 : List FormatRead) (sectors : List RemapSector) (s : State), (s.dev.surf sf).mount = .unmounted →
      newestFormat (spot0 ++ spot1 ++ spot2 ++ spot3) = none →
      ∃ t, exec (.surfaceMount sf spot0 spot1 spot2 spot3 sectors) s = .next t ∧ (t.dev.surf sf).mount = .unformatted ∧ (t.dev.surf sf).genNext = nextGen (spot0 ++ spot1 ++ spot2 ++ spot3)
        ∧ Frame noRegs [.surfaces] (surfHeads sf) [] s t)
  ∧ (∀ (sf : SurfId) (spot0 spot1 spot2 spot3 : List FormatRead) (sectors : List RemapSector) (gen id next : Nat) (r : RemapRec) (s : State),
      (s.dev.surf sf).mount = .unmounted → newestFormat (spot0 ++ spot1 ++ spot2 ++ spot3) = some (gen, id, next) →
      seqGap ((mountRecords next sectors).map (·.seq)) = none → r ∈ mountRecords next sectors →
      (∀ q ∈ mountRecords next sectors, q.home = r.home → q ≠ r → q.seq < r.seq) →
      ∃ t, exec (.surfaceMount sf spot0 spot1 spot2 spot3 sectors) s = .next t ∧ (t.dev.surf sf).mount = .mounted
        ∧ (t.dev.surf sf).discId = id ∧ (t.dev.surf sf).generation = gen
        ∧ (t.dev.surf sf).genNext = nextGen (spot0 ++ spot1 ++ spot2 ++ spot3)
        ∧ (∀ q ∈ mountRecords next sectors, q.seq < (t.dev.surf sf).nextSeq)
        ∧ (t.dev.surf sf).resolve r.home = (r.target, r.epoch, r.seq))
  ∧ (∀ (copies : List FormatRead) (gen id next : Nat), newestFormat copies = some (gen, id, next) →
      (∃ c ∈ copies, formatOk c = true ∧ leAt c.record 21 1 = gen ∧ leAt c.record 4 16 = id ∧ leAt c.record 36 4 = next)
        ∧ ∀ c ∈ copies, formatOk c = true → leAt c.record 21 1 ≤ gen)
  ∧ (∀ copies : List FormatRead, newestFormat copies = none ↔ ∀ c ∈ copies, formatOk c = false)
  ∧ (∀ r : RemapRec, r.home < 2 ^ 26 → 0 < r.reason → r.reason < 16 → r.target < 2 ^ 26 → r.volume < 2 ^ 8 → r.epoch < 2 ^ 32 →
      r.logical < 2 ^ 64 → r.seq < 2 ^ 32 → recordOf r.bytes = some r)
  ∧ (∀ (sf : SurfId) (spot0 spot1 spot2 spot3 : List FormatRead) (sectors : List RemapSector) (f : Nat × Nat × Nat) (n : Nat) (s : State),
      (s.dev.surf sf).mount = .unmounted → newestFormat (spot0 ++ spot1 ++ spot2 ++ spot3) = some f →
      seqGap ((mountRecords f.2.2 sectors).map (·.seq)) = some n → (remapPlace f.2.2 sectors).1 < 3984 →
      ∃ t, exec (.surfaceMount sf spot0 spot1 spot2 spot3 sectors) s = .next t ∧ (t.dev.surf sf).mount = .scanning
        ∧ (s.dev.Hears .SY_REMAP_GAP → Recorded .SY_REMAP_GAP 0 [(surfSpin sf).val, sf.val % 2, n] s t)
        ∧ Frame (fun f i => f = .FC_RELOC_NEXT_FRONTIER ∧ ∃ g ∈ surfHeads sf, i / 4 = g.val) [.surfaces] (surfHeads sf) [] s t)
  ∧ (∀ (l : List Nat) (n : Nat), seqGap l = some n → n ≠ 0 ∧ n ∉ l ∧ (∀ k, 0 < k → k < n → k ∈ l) ∧ ∃ m ∈ l, n < m)
  ∧ (∀ (sf : SurfId) (found : List RemapRead) (s : State), (s.dev.surf sf).mount = .scanning →
      ∃ t, exec (.remapScanDone sf found) s = .next t ∧ (t.dev.surf sf).mount = .mounted
        ∧ (∀ q ∈ found, q.seq < (t.dev.surf sf).nextSeq)
        ∧ (s.dev.Hears .SY_REMAP_SCAN_DONE → Recorded .SY_REMAP_SCAN_DONE 0 [(surfSpin sf).val, sf.val % 2] s t))
  ∧ (∀ (sf : SurfId) (s : State), (s.dev.surf sf).mount = .mounted → 2048 ≤ (s.dev.surf sf).openRecs.length →
      (∀ w ∈ s.dev.data.writes, w.surf = sf → w.kind ≠ 0x10) → (s.dev.surf sf).block < 3984 →
      ∃ t w, exec (.remapSectorWrite sf) s = .next t ∧ t.dev.data.writes = s.dev.data.writes ++ [w] ∧ w.kind = 0x10 ∧ w.surf = sf
        ∧ w.copyB = false ∧ w.target = remapPsa (s.dev.surf sf).block (s.dev.surf sf).sector false ∧ w.state = .staged
        ∧ w.data = ((s.dev.surf sf).openRecs.take 2048).flatMap RemapRec.bytes
        ∧ (t.dev.surf sf).openRecs = (s.dev.surf sf).openRecs.drop 2048)
  ∧ (∀ (tag : Nat) (c : Cmd) (sf : SurfId) (s : State), s.dev.admin? tag 0x0C = some c → c.started = false → sf = c.e.argSurf →
      s.dev.surfUsed sf = false → s.dev.kept (surfSpin sf) = false → (s.dev.surf sf).mount ≠ .noDisc →
      (s.dev.surf sf).mount ≠ .unmounted → (s.dev.surf sf).genNext < 16 →
      ∃ t, exec (.formatSurface tag) s = .next t ∧ t.dev.data.nextId = s.dev.data.nextId + 4
        ∧ ∀ spot < 4, ∃ w ∈ t.dev.data.writes, w.id = s.dev.data.nextId + spot ∧ w.kind = 0x11 ∧ w.surf = sf ∧ w.state = .staged
            ∧ w.target = psaOf 0 (0xF04F0 + (s.dev.surf sf).genNext) spot ∧ w.gen = (s.dev.surf sf).genNext)
  ∧ (∀ (tag : Nat) (c : Cmd) (s : State), s.dev.admin? tag 0x0C = some c → c.started = false → s.dev.surfUsed c.e.argSurf = true →
      (s.dev.surf c.e.argSurf).mount ≠ .unmounted →
      (s.dev.pair? 0).isSome = true → ∃ t, exec (.formatSurface tag) s = .next t ∧ Completed 0 tag 0x1008 0 s t)

/-- For k data members of 65,536 bytes, at every byte position P is the XOR of the data bytes, and Q the XOR of g^i times
the byte of member i. The product is that of GF(2^8) with the polynomial 0x11D and g = 0x02: it is below 256,
commutes, distributes over XOR, has 1 as its identity, and times g it is a doubling reduced by 0x11D; powers of g are
repeated products. The bytes 0x11, 0x22 and 0x44 have P = 0x77 and Q = 0x58. (R235) -/
def Obligations.ParityOfARow : Prop :=
  (∀ (k : Nat) (D : Nat → List Byte), 0 < k → k ≤ 15 → (∀ i < k, (D i).length = 65536) → ∀ j < 65536,
      (rowParity false k ((List.range k).map fun i => (i, D i)) []).1[j]?
          = some ((List.range k).foldl (fun a i => a ^^^ (D i).getD j 0) 0)
      ∧ (rowParity false k ((List.range k).map fun i => (i, D i)) []).2[j]?
          = some ((List.range k).foldl (fun a i => a ^^^ BitVec.ofNat 8 (gfMul (gfShift i 1) ((D i).getD j 0).toNat)) 0))
  ∧ (∀ a b c : Nat, a < 256 → b < 256 → c < 256 →
      gfMul a b < 256 ∧ gfMul a b = gfMul b a ∧ gfMul a (Nat.xor b c) = Nat.xor (gfMul a b) (gfMul a c) ∧ gfMul a 1 = a
      ∧ gfMul 2 a = (if a < 128 then 2 * a else Nat.xor (2 * a) 0x11D))
  ∧ (∀ i : Nat, gfShift 0 1 = 1 ∧ gfShift (i + 1) 1 = gfMul 2 (gfShift i 1))
  ∧ rowParity false 3 [(0, [0x11]), (1, [0x22]), (2, [0x44])] [] = ([0x77], [0x58])

/-- Take any k data members of one length, k + m at most 16, with their parity P, and Q when m is 2, and lose any set of
at most m members, data or parity: what is rebuilt from the members left is, for every member lost, exactly the bytes
lost. (Parity, Rebuild as recovery step E6) -/
def Obligations.LostMembersAreRecovered : Prop :=
  ∀ (k m len : Nat) (D : Nat → List Byte) (lost : List Nat), 0 < k → (m = 1 ∨ m = 2) → k + m ≤ 16 → (∀ i < k, (D i).length = len) →
    lost.Nodup → lost.length ≤ m → (∀ j ∈ lost, j < k + m) →
    let ds := (List.range k).map fun i => (i, D i)
    let row := ds ++ [(k, chainP ds)] ++ (if m = 2 then [(k + 1, chainQ ds)] else [])
    ∀ j ∈ lost, ((rebuildAll k m (row.filter fun x => !lost.contains x.1)).find? (·.1 == j)).map (·.2)
      = (row.find? (·.1 == j)).map (·.2)

/-- A row of a first write that may be closed, by its state or because it has been partial for PAD_AFTER, is closed at
epoch 1: every data position without a staged sector gets a filler of KIND 0x20 and 65,536 zero bytes at its home, and
PADDED counts the row if there was one; a row that may not is left alone. When the Chain engine has formed the parity
of a closed row, each parity member present is queued with KIND 3 or 4 and the parity bytes; with members missing the
row joins the degraded-row list under their mask. (Staging and padding, Parity, Heads and members out of service) -/
def Obligations.RowsOfAChain : Prop :=
  (∀ (c : Fin 16) (psa : Nat) (r : ChainRow) (i : Instr) (s : State),
      (s.dev.chain c).rows.find? (fun r => r.psa == psa && !r.closed) = some r → (∀ y ∈ (s.dev.chain c).complete, y.1 ≠ psa) →
      (i = .chainRowWrite c psa ∧ s.dev.rowReady c r = true
        ∨ i = .padAfterExpiry c psa ∧ 400 * getF s.dev .CH_CFG_PAD_AFTER 0 ≤ r.age ∧ (∀ y ∈ (s.dev.chain c).rows, y.psa = psa → y.closed = false)) →
      ∃ t r', exec i s = .next t ∧ r' ∈ (t.dev.chain c).rows ∧ r'.psa = psa ∧ r'.closed = true ∧ r'.epoch = 1
        ∧ (∀ j < s.dev.chainK c, (∀ id, (j, id) ∉ r.parts) →
            ∃ w ∈ t.dev.data.writes, (j, w.id) ∈ r'.parts ∧ w.kind = 0x20 ∧ w.data = zeros 65536 ∧ w.home = psa ∧ w.target = psa
              ∧ w.chain = c.val ∧ w.member = j ∧ w.volume = r.volume ∧ w.epoch = 1)
        ∧ (∀ x ∈ r.parts, x ∈ r'.parts)
        ∧ ((∃ j < s.dev.chainK c, ∀ id, (j, id) ∉ r.parts) → getF t.dev .CH_STAT_PADDED 0 = min 255 (getF s.dev .CH_STAT_PADDED 0 + 1))
        ∧ ((∀ j < s.dev.chainK c, ∃ id, (j, id) ∈ r.parts) → getF t.dev .CH_STAT_PADDED 0 = getF s.dev .CH_STAT_PADDED 0)
        ∧ Frame (theRegs [(.CH_STAT_PADDED, 0)]) [.data, .chains] [] [] s t)
  ∧ (∀ (c : Fin 16) (psa : Nat) (r : ChainRow) (s : State),
      (s.dev.chain c).rows.find? (fun r => r.psa == psa && !r.closed) = some r →
      (s.dev.rowReady c r = false → ∃ t, exec (.chainRowWrite c psa) s = .next t ∧ Frame noRegs [] [] [] s t)
      ∧ (r.age < 400 * getF s.dev .CH_CFG_PAD_AFTER 0 → ∃ t, exec (.padAfterExpiry c psa) s = .next t ∧ Frame noRegs [] [] [] s t))
  ∧ (∀ (c : Fin 16) (psa : Nat) (r : ChainRow) (s : State),
      (∀ b ∈ (s.dev.chain c).rebuilds, b.psa = psa → b.ready = false ∧ b.dead = false) →
      ((s.dev.chain c).rows.find? fun r => r.psa == psa && r.closed && !r.made && r.await.isEmpty) = some r →
      (∀ x ∈ r.parts, x.2 < s.dev.data.nextId) →
      ∃ t, exec (.chainEngineDone c psa) s = .next t
        ∧ (∀ i < s.dev.chainM c, s.dev.chainK c + i ∉ s.dev.missingOf c →
            ∃ w ∈ t.dev.data.writes, w.kind = 3 + i ∧ w.member = s.dev.chainK c + i ∧ w.chain = c.val ∧ w.home = psa ∧ w.epoch = r.epoch
              ∧ w.logical = r.row ∧ w.data = (if i = 0 then (rowParity r.ovr (s.dev.chainK c) (s.dev.rowData r) r.olds).1
                  else (rowParity r.ovr (s.dev.chainK c) (s.dev.rowData r) r.olds).2))
        ∧ (s.dev.missingOf c = [] → (t.dev.chain c).degraded = (s.dev.chain c).degraded)
        ∧ (s.dev.missingOf c ≠ [] → (∃ y ∈ (t.dev.chain c).degraded, y.1 = psa ∧ ∀ j ∈ s.dev.missingOf c, bit y.2 j = true)
            ∧ ((t.dev.chain c).degraded.length ≤ 65536 → getF t.dev .CH_CHAIN_W0_DEGRADED c = (t.dev.chain c).degraded.length)))

/-- A rebuild for resynchronization that has all it reads yields the bytes of its member; bytes rebuilt are then queued
for their member, to a relocation place with reason 0x3, or to its home on a member being replaced. A returning member
takes its next row: a rebuild of that row for it, shown in REB_MEMBER and REB_NEXT. With no row left and nothing of it
under way the member is ONLINE and CH_REBUILD_DONE names it. (Rebuild as recovery step E6, Heads and members out of
service) -/
def Obligations.RebuildAndResynchronization : Prop :=
  (∀ (c : Fin 16) (psa : Nat) (b : Rebuild) (s : State), ((s.dev.chain c).rebuilds.find? fun b => b.psa == psa && b.ready) = some b →
      (∀ x ∈ (s.dev.chain c).rebuilds, x.psa = psa → x.dead = false) → b.forOver = false → b.job = none → ∀ j, b.resync = some j →
      ∃ t b', exec (.chainEngineDone c psa) s = .next t ∧ b' ∈ (t.dev.chain c).rebuilds ∧ b'.psa = psa
        ∧ b'.made = [(j, (((rebuildAll (s.dev.chainK c) (s.dev.chainM c) b.got).find? (·.1 == j)).map (·.2)).getD (zeros 65536))]
        ∧ Frame noRegs [.chains] [] [] s t)
  ∧ (∀ (c : Fin 16) (psa j : Nat) (bs : List Byte) (b : Rebuild) (s : State),
      ((s.dev.chain c).rebuilds.find? fun b => b.psa == psa && !b.made.isEmpty) = some b → b.made = [(j, bs)] →
      (s.dev.surf (s.dev.memSurf c j)).remapFull = false →
      ∃ t w, exec (.rebuildRewrite c psa) s = .next t ∧ t.dev.data.writes = s.dev.data.writes ++ [w] ∧ w.data = bs ∧ w.home = psa
        ∧ w.surf = s.dev.memSurf c j ∧ w.chain = c.val ∧ w.member = j ∧ w.state = .staged
        ∧ w.reason = (if s.dev.memState c j = 2 then 0 else 3) ∧ w.flags = (if s.dev.memState c j = 2 then 0 else 4)
        ∧ (∀ x ∈ (t.dev.chain c).rebuilds, x ≠ b) ∧ Frame (theRegs [(.LD_POOL_HOLD_USED, 0)]) [.data, .chains] [] [] s t)
  ∧ (∀ (c j : Fin 16) (s : State), s.dev.chainValid c = true → (s.dev.memState c j = 1 ∨ s.dev.memState c j = 2) →
      s.dev.memberHere c j = true → ((s.dev.chain c).rebuilding = none ∨ (s.dev.chain c).rebuilding = some j.val) →
      (∀ b ∈ (s.dev.chain c).rebuilds, b.resync = none) → s.dev.nextRebuildRow c j = none →
      ∃ t, exec (.memberResync c j) s = .next t ∧ (t.dev.chain c).rebuilding = some j.val ∧ getF t.dev .CH_CHAIN_W5_REB_MEMBER c = j.val
        ∧ Frame (theRegs [(.CH_CHAIN_W5_REB_MEMBER, c)]) [.chains] [] [] s t)
  ∧ (∀ (c j : Fin 16) (psa row : Nat) (v : Volume) (s : State), s.dev.chainValid c = true → (s.dev.memState c j = 1 ∨ s.dev.memState c j = 2) →
      s.dev.memberHere c j = true → ((s.dev.chain c).rebuilding = none ∨ (s.dev.chain c).rebuilding = some j.val) →
      (∀ b ∈ (s.dev.chain c).rebuilds, b.resync = none) → s.dev.nextRebuildRow c j = some psa → psa < 2 ^ 26 →
      s.dev.rowOwner c psa = some (v, row) → (∀ w ∈ s.dev.data.writes, ¬(w.chain = c.val ∧ w.member = j.val ∧ (w.home = psa ∨ w.resync = true))) →
      ∃ t b, exec (.memberResync c j) s = .next t ∧ b ∈ (t.dev.chain c).rebuilds ∧ b.psa = psa ∧ b.resync = some j.val ∧ b.missing.head? = some j.val
        ∧ b.row = row ∧ b.volume = v.id ∧ getF t.dev .CH_CHAIN_W5_REB_MEMBER c = j.val ∧ getF t.dev .CH_CHAIN_W5_REB_NEXT c = psa
        ∧ Frame (theRegs [(.CH_CHAIN_W5_REB_MEMBER, c), (.CH_CHAIN_W5_REB_NEXT, c)]) [.chains, .data] [] [] s t)
  ∧ (∀ (c : Fin 16) (j : Nat) (s : State), (s.dev.chain c).rebuilding = some j → s.dev.nextRebuildRow c j = none →
      (∀ b ∈ (s.dev.chain c).rebuilds, b.resync = none) → (∀ w ∈ s.dev.data.writes, ¬(w.chain = c.val ∧ w.member = j ∧ w.owner = none ∧ (w.reason = 3 ∨ s.dev.memState c j = 2))) →
      ∃ t, exec (.rebuildDone c) s = .next t ∧ t.dev.memState c j = 0 ∧ (t.dev.chain c).rebuilding = none
        ∧ (s.dev.Hears .CH_REBUILD_DONE → Recorded .CH_REBUILD_DONE c [j] s t)
        ∧ Frame (fun f i => f = memStateF j ∧ i = 4 * c.val + j / 4) [.chains] [] [] s t)

/-- CHAIN_CREATE with a free number, m of 1 or 2, at least one data member, at most 16 members on different spindles, each
a fitted, formatted surface of no other chain, defines the chain with its members in order; a number in use completes
with 0x6006, two members on one spindle with 0x100D. CHAIN_DELETE of a chain without volumes takes the definition
away, and completes with 0x1002 where there is none. CHAIN_REPLACE puts a formatted surface in a member's place,
REBUILDING from row 0. (Chains and members, Heads and members out of service, Commands) -/
def Obligations.ChainDefinitions : Prop :=
  (∀ (tag n k m : Nat) (c : Cmd) (host : List Byte) (s : State), s.dev.admin? tag 0x10 = some c → (s.dev.pair? 0).isSome = true →
      n = bits c.e.arg 3 0 → k = bits c.e.arg 7 4 → m = bits c.e.arg 9 8 → s.dev.chainValid n = false → 0 < k → (m = 1 ∨ m = 2) → k + m ≤ 16 →
      c.e.len = k + m → host.length = k + m → (∀ b ∈ host, b.toNat < 64) → (host.map fun b => b.toNat / 2).Nodup →
      (∀ b ∈ host, s.dev.surfFitted ⟨b.toNat % 64, by omega⟩ = true ∧ s.dev.memberOk ⟨b.toNat % 64, by omega⟩ = true) →
      ∃ t, exec (.chainCreate tag host) s = .next t ∧ t.dev.chainValid n = true ∧ t.dev.chainK n = k ∧ t.dev.chainM n = m
        ∧ (∀ j b, host[j]? = some b → (t.dev.memSurf n j).val = b.toNat) ∧ (∀ j, k + m ≤ j → j < 16 → t.dev.memState n j = 3)
        ∧ getF t.dev .CH_CHAIN_W0_DEGRADED n = 0 ∧ Completed 0 tag 0 0 s t)
  ∧ (∀ (tag : Nat) (c : Cmd) (host : List Byte) (s : State), s.dev.admin? tag 0x10 = some c → (s.dev.pair? 0).isSome = true →
      s.dev.chainValid (bits c.e.arg 3 0) = true →
      ∃ t, exec (.chainCreate tag host) s = .next t ∧ Completed 0 tag 0x6006 0 s t)
  ∧ (∀ (tag : Nat) (c : Cmd) (host : List Byte) (s : State), s.dev.admin? tag 0x10 = some c → (s.dev.pair? 0).isSome = true →
      s.dev.chainValid (bits c.e.arg 3 0) = false → host.length = c.e.len → (∀ b ∈ host, b.toNat < 64) →
      (∀ b ∈ host, s.dev.surfFitted ⟨b.toNat % 64, by omega⟩ = true) → ¬(host.map fun b => b.toNat / 2).Nodup →
      ∃ t, exec (.chainCreate tag host) s = .next t ∧ Completed 0 tag 0x100D 0 s t)
  ∧ (∀ (tag n : Nat) (c : Cmd) (s : State), s.dev.admin? tag 0x11 = some c → (s.dev.pair? 0).isSome = true → n = bits c.e.arg 3 0 →
      s.dev.chainValid n = true → s.dev.chainBusy n = false → (∀ v ∈ s.dev.clasp.volumes, v.chain? ≠ some n) →
      ∃ t, exec (.chainDelete tag) s = .next t ∧ t.dev.chainValid n = false ∧ t.dev.chain (chainOf n) = {} ∧ Completed 0 tag 0 0 s t)
  ∧ (∀ (tag : Nat) (c : Cmd) (s : State), s.dev.admin? tag 0x11 = some c → (s.dev.pair? 0).isSome = true →
      s.dev.chainValid (bits c.e.arg 3 0) = false → ∃ t, exec (.chainDelete tag) s = .next t ∧ Completed 0 tag 0x1002 0 s t)
  ∧ (∀ (tag n j x : Nat) (c : Cmd) (s : State), s.dev.admin? tag 0x12 = some c → (s.dev.pair? 0).isSome = true → n = bits c.e.arg 3 0 →
      j = bits c.e.arg 7 4 → x = bits c.e.arg 13 8 → s.dev.chainValid n = true → j < s.dev.chainK n + s.dev.chainM n →
      ((s.dev.chain (chainOf n)).rebuilding = none ∨ (s.dev.chain (chainOf n)).rebuilding = some j) →
      s.dev.surfFitted ⟨x % 64, by omega⟩ = true → s.dev.memberOk ⟨x % 64, by omega⟩ = true → (∀ i ∈ s.dev.members n, i ≠ j → (s.dev.memSurf n i).val / 2 ≠ x / 2) →
      ∃ t, exec (.chainReplace tag) s = .next t ∧ t.dev.memState n j = 2 ∧ (t.dev.memSurf n j).val = x
        ∧ getF t.dev .CH_CHAIN_W5_REB_MEMBER n = j ∧ getF t.dev .CH_CHAIN_W5_REB_NEXT n = 0
        ∧ (t.dev.chain (chainOf n)).rebuilding = some j ∧ Completed 0 tag 0 0 s t)

/-- In P0: a SQ_TAIL or a CQ_HEAD index below DEPTH, the head passing no unwritten entry, takes its place; one of DEPTH or
more changes no pair and raises CL_DOORBELL_BAD naming the pair; a pair that does not exist takes none. The pair whose
turn it is gives the entry at its SQ head: one that passes every check is outstanding, with its pair's fence value and
its place in the admission order, its lock entered and held when nothing conflicts; one that fails completes at once
with that status, takes no lock and freezes an I/O pair by its class. With 4,096 locks the fetch waits. A waiting lock
without an earlier conflict is granted; an APPEND passes the waiting entries of other pairs while its pair holds the
tail. COAL_TIME from the first unsignalled entry, and no sooner, its vector is sent. (Queue pairs and doorbells,
Admission and ordering, Completion, Errors, freezing and the error log) -/
def Obligations.DoorbellsFetchingAndLocks : Prop :=
  (∀ (q v : Nat) (p : QueuePair) (s : State), s.dev.pair? q = some p → s.dev.pState = 0 →
      (bits v 11 0 < p.depth → ∃ t, exec (.doorbell q 4 false v) s = .next t ∧ t.dev.pair? q = some { p with sqTail := bits v 11 0 }
        ∧ (∀ x, x ≠ q → t.dev.pair? x = s.dev.pair? x) ∧ t.dev.clasp.cmds = s.dev.clasp.cmds ∧ t.dev.clasp.locks = s.dev.clasp.locks
        ∧ Frame noRegs [.clasp, .power] [] [] s t)
      ∧ (bits v 11 0 < p.depth → (bits v 11 0 + p.depth - p.cqHead) % p.depth ≤ (p.cqTail + p.depth - p.cqHead) % p.depth →
        ∃ t, exec (.doorbell q 4 true v) s = .next t ∧ t.dev.pair? q = some { p with cqHead := bits v 11 0 }
          ∧ (∀ x, x ≠ q → t.dev.pair? x = s.dev.pair? x) ∧ t.dev.clasp.cmds = s.dev.clasp.cmds ∧ t.dev.clasp.locks = s.dev.clasp.locks
          ∧ Frame noRegs [.clasp, .power] [] [] s t)
      ∧ (p.depth ≤ bits v 11 0 → ∀ upper : Bool, ∃ t, exec (.doorbell q 4 upper v) s = .next t
          ∧ (s.dev.Hears .CL_DOORBELL_BAD → Recorded .CL_DOORBELL_BAD 0 [q] s t) ∧ Frame noRegs [.power] [] [] s t)
      ∧ (bits v 11 0 < p.depth → bits v 43 32 < p.depth →
        (bits v 43 32 + p.depth - p.cqHead) % p.depth ≤ (p.cqTail + p.depth - p.cqHead) % p.depth → ∀ upper : Bool,
        ∃ t, exec (.doorbell q 8 upper v) s = .next t ∧ t.dev.pair? q = some { p with sqTail := bits v 11 0, cqHead := bits v 43 32 }
          ∧ Frame noRegs [.clasp, .power] [] [] s t))
  ∧ (∀ (q size v : Nat) (upper : Bool) (s : State), s.dev.pair? q = none →
      ∃ t, exec (.doorbell q size upper v) s = .next t ∧ Frame noRegs [] [] [] s t)
  ∧ (∀ (q : Nat) (bs : List Byte) (p : QueuePair) (s : State), s.dev.pair? q = some p → s.dev.turn = some q → s.dev.clasp.locks.length < 4096 →
      s.dev.checks p (Entry.parse bs) = 0 →
      ∃ t c, exec (.sqFetch q bs) s = .next t ∧ t.dev.cmd? q (Entry.parse bs).tag = some c ∧ c.e = Entry.parse bs
        ∧ c.order = s.dev.clasp.nextOrder ∧ t.dev.clasp.nextOrder = s.dev.clasp.nextOrder + 1 ∧ c.fence = getF s.dev .CL_QFENCE_FENCE q
        ∧ c.started = false ∧ t.dev.clasp.cmds = s.dev.clasp.cmds ++ [c]
        ∧ t.dev.pair? q = some { p with sqHead := (p.sqHead + 1) % p.depth }
        ∧ (∀ l, s.dev.lockOf q s.dev.clasp.nextOrder (Entry.parse bs) = some l → c.granted = s.dev.grantable l
            ∧ t.dev.clasp.locks = s.dev.clasp.locks ++ [{ l with held := s.dev.grantable l }])
        ∧ (s.dev.lockOf q s.dev.clasp.nextOrder (Entry.parse bs) = none → c.granted = true ∧ t.dev.clasp.locks = s.dev.clasp.locks)
        ∧ Frame (theRegs [(.PM_STAT_LAST_WAKE, 0)]) [.clasp, .power] [] [] s t)
  ∧ (∀ (q st : Nat) (bs : List Byte) (p : QueuePair) (s : State), s.dev.pair? q = some p → s.dev.turn = some q →
      s.dev.clasp.locks.length < 4096 → s.dev.checks p (Entry.parse bs) = st → st ≠ 0 → (Entry.parse bs).opc ≠ 0x24 →
      ∃ t p', exec (.sqFetch q bs) s = .next t ∧ t.dev.clasp.cmds = s.dev.clasp.cmds ∧ t.dev.clasp.locks = s.dev.clasp.locks
        ∧ HostMsg.write (p.cqBase + 16 * p.cqTail) (cqEntry (Entry.parse bs).tag st 0 ((p.sqHead + 1) % p.depth)
            ((s.dev.clasp.logNext - 1) % 1024) true p.phase) ∈ t.dev.hostOut
        ∧ (∃ l ∈ t.dev.clasp.log, l.seq = s.dev.clasp.logNext ∧ l.qid = q ∧ l.tag = (Entry.parse bs).tag ∧ l.status = st)
        ∧ t.dev.pair? q = some p' ∧ p'.sqHead = (p.sqHead + 1) % p.depth ∧ p'.frozen = (p.frozen || (freezes st && q != 0))
        ∧ Frame (theRegs [(.CL_LOG_STAT_LOST, 0)]) [.clasp] [] [] s t)
  ∧ (∀ (q : Nat) (bs : List Byte) (p : QueuePair) (s : State), s.dev.pair? q = some p → s.dev.turn = some q → 4096 ≤ s.dev.clasp.locks.length →
      ∃ t, exec (.sqFetch q bs) s = .next t ∧ t.dev.clasp = s.dev.clasp ∧ Frame (theRegs [(.CL_LOCK_STAT_STALLS, 0)]) [] [] [] s t)
  ∧ (∀ (q tag : Nat) (l : Lock) (c : Cmd) (s : State), (s.dev.clasp.locks.find? fun l => l.qid == q && l.tag == tag && !l.held) = some l →
      s.dev.cmd? q tag = some c →
      ((∀ x ∈ s.dev.clasp.locks, x.order < l.order → x.conflicts l = false ∨ s.dev.passes l x = true) →
        ∃ t, exec (.lockGrant q tag) s = .next t ∧ t.dev.cmd? q tag = some { c with granted := true }
          ∧ { l with held := true } ∈ t.dev.clasp.locks ∧ Frame noRegs [.clasp] [] [] s t)
      ∧ ((∃ x ∈ s.dev.clasp.locks, x.order < l.order ∧ x.conflicts l = true ∧ s.dev.passes l x = false) →
        ∃ t, exec (.lockGrant q tag) s = .next t ∧ Frame noRegs [] [] [] s t))
  ∧ (∀ (l x : Lock) (s : State), s.dev.passes l x = true ↔ (l.append = true ∧ x.tail = true ∧ x.qid ≠ l.qid ∧ x.held = false
      ∧ ∃ o ∈ s.dev.clasp.locks, o.tag = objTag ∧ o.qid = l.qid ∧ o.volume = l.volume))
  ∧ (∀ (a b : Lock), a.tail = false → b.tail = false → a.tag < 65536 → b.tag < 65536 → a.volume = b.volume →
      a.first < b.first + b.count → b.first < a.first + a.count → (a.conflicts b = true ↔ ¬(a.shared = true ∧ b.shared = true)))
  ∧ (∀ (q : Nat) (p : QueuePair) (s : State), s.dev.pair? q = some p → p.unsignalled ≠ 0 →
      (tooSoon s.dtime p.since (1000 * p.coalTime) = false → ∃ t, exec (.coalesceTimeout q) s = .next t
        ∧ t.dev.pair? q = some { p with unsignalled := 0 }
        ∧ (s.dev.masked p.vector = false → HostMsg.msix p.vector ∈ t.dev.hostOut) ∧ Frame noRegs [.clasp] [] [] s t)
      ∧ (tooSoon s.dtime p.since (1000 * p.coalTime) = true → ∃ t, exec (.coalesceTimeout q) s = .next t ∧ Frame noRegs [] [] [] s t))

/-- EN = 1 with CL_AQ_SIZE not 0 makes the admin pair and RDY reads 1; with 0 only EN changes. EN = 0 with nothing
outstanding deletes every pair, RDY reads 0; with admin commands still outstanding it raises every I/O pair's fence
value by 1 and waits. CREATE_QUEUE makes the pair its ARG describes, 0x6006 where it exists. DELETE_QUEUE takes a pair
away, its fence value reads 0; 0x1008 with commands outstanding, 0x1002 for QID 0 or none. QUEUE_RESTART unfreezes a
frozen I/O pair, with DISCARD the head goes to the tail; else 0x1002. A new fence value leaves no command of the pair
under another; a single fenced command completes with 0x4003 and its committed count. (The premise that EN = 0 is not
in progress keeps the pair.) (Queue pairs and doorbells, Fences, Errors, freezing and the error log) -/
def Obligations.QueueAdministration : Prop :=
  (∀ s : State, getF s.dev .CL_CTL_EN 0 = 0 →
      (getF s.dev .CL_AQ_SIZE_SIZE 0 ≠ 0 → ∃ t, exec .clEnable s = .next t ∧ getF t.dev .CL_CTL_EN 0 = 1 ∧ getF t.dev .CL_STAT_RDY 0 = 1
        ∧ t.dev.pair? 0 = some ⟨0, getF s.dev .CL_AQ_SQ_BASE_BASE 0 * 4096, getF s.dev .CL_AQ_CQ_BASE_BASE 0 * 4096,
            getF s.dev .CL_AQ_SIZE_SIZE 0 + 1, 0, false, 0, 0, 0, 0, 0, 0, true, false, [], 0, 0⟩
        ∧ Frame (theRegs [(.CL_CTL_EN, 0), (.CL_STAT_RDY, 0)]) [.clasp] [] [] s t)
      ∧ (getF s.dev .CL_AQ_SIZE_SIZE 0 = 0 → ∃ t, exec .clEnable s = .next t ∧ getF t.dev .CL_CTL_EN 0 = 1
        ∧ Frame (theRegs [(.CL_CTL_EN, 0)]) [] [] [] s t))
  ∧ (∀ s : State, getF s.dev .CL_CTL_EN 0 = 1 → s.dev.clasp.cmds = [] →
      ∃ t, exec .clDisable s = .next t ∧ getF t.dev .CL_CTL_EN 0 = 0 ∧ getF t.dev .CL_STAT_RDY 0 = 0 ∧ t.dev.clasp.queues = []
        ∧ (∀ p ∈ s.dev.clasp.queues, getF t.dev .CL_QFENCE_FENCE p.qid = 0)
        ∧ Frame (fun f _ => f = .CL_CTL_EN ∨ f = .CL_STAT_RDY ∨ f = .CL_QFENCE_FENCE) [.clasp] [] [] s t)
  ∧ (∀ s : State, getF s.dev .CL_CTL_EN 0 = 1 → s.dev.clasp.cmds ≠ [] → (∀ c ∈ s.dev.clasp.cmds, c.qid = 0) →
      (s.dev.clasp.queues.map (·.qid)).Nodup →
      ∃ t, exec .clDisable s = .next t ∧ getF t.dev .CL_CTL_EN 0 = 0 ∧ t.dev.clasp.disabling = true ∧ t.dev.clasp.queues = s.dev.clasp.queues
        ∧ t.dev.clasp.cmds = s.dev.clasp.cmds
        ∧ (∀ p ∈ s.dev.clasp.queues, p.qid ≠ 0 → getF t.dev .CL_QFENCE_FENCE p.qid = (getF s.dev .CL_QFENCE_FENCE p.qid + 1) % 2 ^ 16)
        ∧ Frame (fun f _ => f = .CL_CTL_EN ∨ f = .CL_QFENCE_FENCE) [.clasp] [] [] s t)
  ∧ (∀ (tag : Nat) (c : Cmd) (s : State), s.dev.admin? tag 0x01 = some c → (s.dev.pair? 0).isSome = true → s.dev.clasp.disabling = false →
      (s.dev.pair? c.e.argQid = none → ∃ t, exec (.createQueue tag) s = .next t
        ∧ t.dev.pair? c.e.argQid = some ⟨c.e.argQid, c.e.dptr, c.e.xptr, bits c.e.arg 53 42 + 1, bits c.e.arg 41 31, bit c.e.arg 30,
            bits c.e.arg 29 22, bits c.e.arg 21 14, 0, 0, 0, 0, true, false, [], 0, 0⟩
        ∧ getF t.dev .CL_QFENCE_FENCE c.e.argQid = 0 ∧ Completed 0 tag 0 0 s t)
      ∧ ((s.dev.pair? c.e.argQid).isSome = true → ∃ t, exec (.createQueue tag) s = .next t ∧ Completed 0 tag 0x6006 0 s t))
  ∧ (∀ (tag : Nat) (c : Cmd) (s : State), s.dev.admin? tag 0x02 = some c → (s.dev.pair? 0).isSome = true →
      (c.e.argQid ≠ 0 → (s.dev.pair? c.e.argQid).isSome = true → (∀ x ∈ s.dev.clasp.cmds, x.qid ≠ c.e.argQid) →
        (∀ v ∈ s.dev.clasp.volumes, v.obj = none) →
        ∃ t, exec (.deleteQueue tag) s = .next t ∧ t.dev.pair? c.e.argQid = none ∧ getF t.dev .CL_QFENCE_FENCE c.e.argQid = 0
          ∧ Completed 0 tag 0 0 s t)
      ∧ (c.e.argQid ≠ 0 → (s.dev.pair? c.e.argQid).isSome = true → (∃ x ∈ s.dev.clasp.cmds, x.qid = c.e.argQid) →
        ∃ t, exec (.deleteQueue tag) s = .next t ∧ Completed 0 tag 0x1008 0 s t)
      ∧ ((c.e.argQid = 0 ∨ s.dev.pair? c.e.argQid = none) → ∃ t, exec (.deleteQueue tag) s = .next t ∧ Completed 0 tag 0x1002 0 s t))
  ∧ (∀ (tag : Nat) (c : Cmd) (p : QueuePair) (s : State), s.dev.admin? tag 0x03 = some c → (s.dev.pair? 0).isSome = true →
      s.dev.clasp.disabling = false → c.e.argQid ≠ 0 → s.dev.pair? c.e.argQid = some p →
      (p.frozen = true → ∃ t, exec (.queueRestart tag) s = .next t ∧ Completed 0 tag 0 0 s t
        ∧ t.dev.pair? c.e.argQid = some { p with frozen := false, sqHead := if bit c.e.arg 0 then p.sqTail else p.sqHead })
      ∧ (p.frozen = false → ∃ t, exec (.queueRestart tag) s = .next t ∧ t.dev.pair? c.e.argQid = some p ∧ Completed 0 tag 0x1002 0 s t))
  ∧ (∀ (q v : Nat) (s : State), (s.dev.pair? q).isSome = true → q ≠ 0 →
      (getF s.dev .CL_QFENCE_FENCE q = v % 2 ^ 16 → ∃ t, exec (.qfenceWrite q v) s = .next t ∧ Frame noRegs [] [] [] s t)
      ∧ (getF s.dev .CL_QFENCE_FENCE q ≠ v % 2 ^ 16 → ∃ t, exec (.qfenceWrite q v) s = .next t
          ∧ (∀ c ∈ t.dev.clasp.cmds, c.qid = q → c.fence = v % 2 ^ 16)
          ∧ (∀ c, (s.dev.clasp.cmds.filter fun c => c.qid == q && c.fence != v % 2 ^ 16) = [c] → s.dev.cmd? q c.e.tag = some c →
              Completed q c.e.tag 0x4003 (s.dev.committedNow c) s t)))

/-- ABORT of an outstanding I/O command ends it with 0x4001 and its committed count, and completes with 0; of a tag that
has completed, 0x4002; of a tag or a pair that is not there, 0x1009. GET_LOG writes LEN entries of 128 bytes from the
named LOG_SEQ, zeros for those not held, and counts those held; CLEAR frees them. IDENTIFY writes its page.
VOLUME_CREATE defines the volume; 0x6006 for a number in use, 0x1007 for a range that reaches beyond stripe 270,000 or
overlaps another volume's, 0x2008 for a surface that is not fitted, 0x2006 for an unformatted one. VOLUME_DELETE takes
the definition away, 0x1008 while a READ or WRITE of it is outstanding. (Abort, Errors, freezing and the error log,
Volumes and their layout, Commands, Registers) -/
def Obligations.AbortLogsAndVolumes : Prop :=
  (∀ (tag : Nat) (a x : Cmd) (p : QueuePair) (s : State), s.dev.admin? tag 0x04 = some a → (s.dev.pair? 0).isSome = true → a.e.argQid ≠ 0 →
      s.dev.pair? a.e.argQid = some p →
      (s.dev.cmd? a.e.argQid (bits a.e.arg 47 32) = some x → ∃ t, exec (.abort tag) s = .next t
        ∧ Completed a.e.argQid (bits a.e.arg 47 32) 0x4001 (s.dev.committedNow x) s t ∧ Completed 0 tag 0 0 s t)
      ∧ (s.dev.cmd? a.e.argQid (bits a.e.arg 47 32) = none → ∃ t, exec (.abort tag) s = .next t ∧ t.dev.data = s.dev.data
          ∧ Completed 0 tag (if p.used.contains (bits a.e.arg 47 32) then 0x4002 else 0x1009) 0 s t))
  ∧ (∀ (tag : Nat) (a : Cmd) (s : State), s.dev.admin? tag 0x04 = some a → (s.dev.pair? 0).isSome = true → s.dev.pair? a.e.argQid = none →
      ∃ t, exec (.abort tag) s = .next t ∧ Completed 0 tag 0x1009 0 s t)
  ∧ (∀ (tag first : Nat) (c : Cmd) (found : List (Option LogEntry)) (s : State), s.dev.admin? tag 0x05 = some c → (s.dev.pair? 0).isSome = true →
      c.e.sgl = false → c.recs = [] → 0 < c.e.len → first = bits c.e.arg 31 0 →
      found = (List.range c.e.len).map (fun i => s.dev.clasp.log.find? (·.seq == first + i)) →
      ∃ t, exec (.getLog tag) s = .next t ∧ Completed 0 tag 0 (found.filterMap id).length s t
        ∧ HostMsg.write c.e.dptr (found.flatMap fun x => match x with | some l => l.bytes | none => zeros 128) ∈ t.dev.hostOut
        ∧ (bit c.e.arg 63 = false → t.dev.clasp.log = s.dev.clasp.log)
        ∧ (bit c.e.arg 63 = true → ∀ l, some l ∈ found → ∀ x ∈ t.dev.clasp.log, l.seq < x.seq))
  ∧ (∀ l : LogEntry, l.recs.length ≤ 12 → l.bytes.length = 128 ∧ leAt l.bytes 0 4 = l.seq % 2 ^ 32 ∧ leAt l.bytes 8 2 = l.status % 2 ^ 16
      ∧ leAt l.bytes 26 1 = l.recs.length)
  ∧ (∀ (tag : Nat) (c : Cmd) (s : State), s.dev.admin? tag 0x06 = some c → (s.dev.pair? 0).isSome = true → c.e.sgl = false → c.recs = [] →
      (bits c.e.arg 7 0 = 0 → ∃ t page, exec (.identify tag) s = .next t ∧ HostMsg.write c.e.dptr page ∈ t.dev.hostOut ∧ page.length = 4096
        ∧ leAt page 0 2 = s.dev.node % 2 ^ 16 ∧ leAt page 4 4 = ((List.range 128).filter fun h => bit (getF s.dev .SY_POP_HEAD (h / 32)) (h % 32)).length
        ∧ Completed 0 tag 0 0 s t)
      ∧ (bits c.e.arg 7 0 = 1 → ∀ v, s.dev.volume? c.e.volume = some v → ∃ t, exec (.identify tag) s = .next t
          ∧ HostMsg.write c.e.dptr (s.dev.identify1 v) ∈ t.dev.hostOut ∧ (s.dev.identify1 v).length = 4096 ∧ Completed 0 tag 0 0 s t)
      ∧ (bits c.e.arg 7 0 = 2 → ∀ sf : SurfId, sf.val = bits c.e.arg 13 8 → ∃ t, exec (.identify tag) s = .next t
          ∧ HostMsg.write c.e.dptr (s.dev.identify2 sf) ∈ t.dev.hostOut ∧ Completed 0 tag 0 0 s t))
  ∧ (∀ (tag : Nat) (c : Cmd) (host : List Byte) (rs : List VRange) (s : State), s.dev.admin? tag 0x08 = some c → (s.dev.pair? 0).isSome = true →
      host.length = 16 * c.e.len → (chunks 16 host).map parseRange = rs.map some →
      (s.dev.volume? c.e.volume = none → s.dev.layoutBad rs = false → (∀ r ∈ rs, s.dev.rangeUnready r = false) →
          (∀ r ∈ rs, r.chained = false → s.dev.surfFitted r.surf = true) →
        ∃ t, exec (.volumeCreate tag host) s = .next t ∧ Completed 0 tag 0 0 s t
          ∧ t.dev.volume? c.e.volume = some { id := c.e.volume, stream := bit c.e.arg 0, ranges := rs, appSector := 0, appByte := 0, obj := none })
      ∧ ((s.dev.volume? c.e.volume).isSome = true → ∃ t, exec (.volumeCreate tag host) s = .next t ∧ Completed 0 tag 0x6006 0 s t
          ∧ t.dev.clasp.volumes = s.dev.clasp.volumes)
      ∧ (s.dev.volume? c.e.volume = none →
          ((∃ r ∈ rs, 270000 < r.first + r.stripes) ∨ (∃ r ∈ rs, ∃ v ∈ s.dev.clasp.volumes, ∃ x ∈ v.ranges, s.dev.rangesMeet r x = true)) →
        ∃ t, exec (.volumeCreate tag host) s = .next t ∧ Completed 0 tag 0x1007 0 s t ∧ t.dev.clasp.volumes = s.dev.clasp.volumes)
      ∧ (s.dev.volume? c.e.volume = none → s.dev.layoutBad rs = false →
          (∃ r ∈ rs, r.chained = false ∧ s.dev.surfFitted r.surf = false) →
        ∃ t, exec (.volumeCreate tag host) s = .next t ∧ Completed 0 tag 0x2008 0 s t ∧ t.dev.clasp.volumes = s.dev.clasp.volumes)
      ∧ (s.dev.volume? c.e.volume = none → s.dev.layoutBad rs = false →
          (∀ r ∈ rs, r.chained = false → s.dev.surfFitted r.surf = true) →
          (∃ r ∈ rs, r.chained = false ∧ (s.dev.surf r.surf).mount = .unformatted) →
        ∃ t, exec (.volumeCreate tag host) s = .next t ∧ Completed 0 tag 0x2006 0 s t ∧ t.dev.clasp.volumes = s.dev.clasp.volumes))
  ∧ (∀ (tag : Nat) (c : Cmd) (s : State), s.dev.admin? tag 0x09 = some c → (s.dev.pair? 0).isSome = true →
      ((∀ x ∈ s.dev.clasp.cmds, x.qid = 0) → ∃ t, exec (.volumeDelete tag) s = .next t ∧ t.dev.volume? c.e.volume = none
        ∧ (∀ n, n ≠ c.e.volume → t.dev.volume? n = s.dev.volume? n) ∧ t.dev.surfaces = s.dev.surfaces ∧ Completed 0 tag 0 0 s t)
      ∧ ((∃ x ∈ s.dev.clasp.cmds, x.qid ≠ 0 ∧ (x.e.opc = 0x20 ∨ x.e.opc = 0x21) ∧ x.e.volume = c.e.volume) →
        ∃ t, exec (.volumeDelete tag) s = .next t ∧ t.dev.clasp.volumes = s.dev.clasp.volumes ∧ Completed 0 tag 0x1008 0 s t))

/-- A granted READ, VERIFY, READ_EXTENT or COPY of one sector on an unchained, ready surface, not staged and not lost,
queues its read on the chosen head, at the PSA that the mirror gave at its admission; a COPY first writes its header
to the peer. A command without its lock does nothing. A READ of a sector whose surface cannot serve it completes with
that surface's status. A granted WRITE of a plain buffer asks for its data. A FLUSH with nothing to write and nothing
to wait for completes with 0. An APPEND opens an object at the volume's tail and asks for its data. A STREAM_FLUSH
closes an uncompressed object: its token, the bytes supplied and the bytes stored go to the result slot. An object
open for OPEN_MAX is closed without a token. (Admission and ordering, Volumes and their layout, Completion, Device-to-
device copy) -/
def Obligations.StartOfIoCommands : Prop :=
  (∀ (q tag first : Nat) (i : Instr) (opc : Nat) (c : Cmd) (v : Volume) (p : Place) (x : Nat × Nat × Nat) (h : HeadId) (s : State),
      (i, opc) ∈ [(Instr.read q tag, 0x20), (.verify q tag, 0x23), (.readExtent q tag, 0x25), (.copy q tag, 0x28)] →
      s.dev.cmd? q tag = some c → c.e.opc = opc → c.granted = true → c.started = false → c.listReady (c.total * sectorBytes) = true →
      c.total = 1 → s.dev.firstOf c = some (v, first) → s.dev.locate v first = some p → p.chain = 0xFF → s.dev.stagedAt v.id p = none →
      (v.stream && first == v.appSector && !v.tail.isEmpty) = false → s.dev.isLost v.id first = false → s.dev.surfStatus p.surf = 0 →
      x = s.dev.resolveAt c.order p.surf p.psa → s.dev.overRate p.surf x.1 = false →
      s.dev.pickHead p.surf (psaLayer x.1) (psaStripe x.1) = some h → (∀ r ∈ s.dev.data.reads, ¬(r.surf = p.surf ∧ r.psa = x.1)) →
      ∃ t r, exec i s = .next t ∧ t.dev.data.reads = s.dev.data.reads ++ [r] ∧ r.id = s.dev.data.nextId ∧ r.why = .cmd q tag ∧ r.head = h
        ∧ r.surf = p.surf ∧ r.psa = x.1 ∧ r.home = p.psa ∧ r.wantRead = true ∧ r.step = 0
        ∧ r.epoch = x.2.1 ∧ t.dev.cmd? q tag = some { c with started := true }
        ∧ (opc = 0x28 → ∃ bs, HostMsg.peerWrite c.e.dptr bs ∈ t.dev.hostOut ∧ bs.length = 64)
        ∧ Frame noRegs [.clasp, .data, .power] [] [] s t)
  ∧ (∀ (q tag : Nat) (i : Instr) (c : Cmd) (s : State),
      i ∈ [Instr.read q tag, .verify q tag, .readExtent q tag, .copy q tag, .write q tag, .append q tag] →
      s.dev.cmd? q tag = some c → c.granted = false → ∃ t, exec i s = .next t ∧ Frame noRegs [] [] [] s t)
  ∧ (∀ (q tag first : Nat) (c : Cmd) (v : Volume) (p : Place) (s : State), (s.dev.pair? q).isSome = true →
      s.dev.cmd? q tag = some c → c.e.opc = 0x20 → c.granted = true → c.started = false → c.listReady (c.total * sectorBytes) = true →
      c.total = 1 → c.recs = [] → c.done = 0 → s.dev.firstOf c = some (v, first) → s.dev.locate v first = some p → p.chain = 0xFF →
      s.dev.stagedAt v.id p = none → v.stream = false → s.dev.isLost v.id first = false → s.dev.surfStatus p.surf ≠ 0 →
      ∃ t, exec (.read q tag) s = .next t ∧ t.dev.data.reads = s.dev.data.reads ∧ Completed q tag (s.dev.surfStatus p.surf) 0 s t)
  ∧ (∀ (q tag : Nat) (c : Cmd) (s : State), s.dev.cmd? q tag = some c → c.e.opc = 0x21 → c.granted = true → c.started = false → c.e.sgl = false →
      ∃ t, exec (.write q tag) s = .next t ∧ t.dev.cmd? q tag = some { c with started := true }
        ∧ HostMsg.readReq c.e.dptr (c.total * 65536) ∈ t.dev.hostOut ∧ Frame noRegs [.clasp, .power] [] [] s t)
  ∧ (∀ (q tag : Nat) (c : Cmd) (s : State), (s.dev.pair? q).isSome = true → s.dev.cmd? q tag = some c → c.e.opc = 0x22 → c.started = false →
      c.recs = [] → c.result = none → s.dev.data.writes = [] → (∀ v ∈ s.dev.clasp.volumes, v.tail = []) →
      (∀ x ∈ s.dev.clasp.cmds, x.waiting = false) → (s.dev.clasp.cmds.filter fun x => x.qid == q && x.e.tag == tag) = [c] →
      ∃ t, exec (.flush q tag) s = .next t ∧ Completed q tag 0 0 s t)
  ∧ (∀ (q tag : Nat) (c : Cmd) (v : Volume) (s : State), s.dev.cmd? q tag = some c → s.dev.volume? c.e.volume = some v → c.e.opc = 0x24 →
      c.granted = true → c.started = false → c.e.sgl = false → v.obj = none → (c.e.more && v.voided.contains q) = false → c.e.comp = false →
      ∃ t v' o, exec (.append q tag) s = .next t ∧ t.dev.volume? c.e.volume = some v' ∧ v'.obj = some o ∧ o.owner = q ∧ o.sector = v.appSector
        ∧ o.offset = v.tail.length ∧ o.supplied = 0 ∧ o.stored = 0 ∧ o.compressed = false ∧ o.opened = s.dtime
        ∧ t.dev.cmd? q tag = some { c with started := true } ∧ HostMsg.readReq c.e.dptr c.e.len ∈ t.dev.hostOut
        ∧ Frame noRegs [.clasp, .power] [] [] s t)
  ∧ (∀ (q tag : Nat) (c : Cmd) (v : Volume) (o : StreamObj) (s : State), (s.dev.pair? q).isSome = true → s.dev.cmd? q tag = some c →
      s.dev.volume? c.e.volume = some v → c.e.opc = 0x26 → c.started = false → v.obj = some o → o.owner = q → o.compressed = false →
      c.recs = [] → c.staged = 0 → (∀ x ∈ s.dev.clasp.cmds, x.qid = q → x.e.opc ≠ 0x24) →
      ∃ t v', exec (.streamFlush q tag) s = .next t ∧ t.dev.volume? c.e.volume = some v' ∧ v'.obj = none
        ∧ HostMsg.write c.e.rptr (bytesLE 16 (s.dev.objToken v o).value ++ bytesLE 8 o.supplied ++ bytesLE 8 o.stored ++ zeros 32) ∈ t.dev.hostOut
        ∧ Completed q tag 0 0 s t)
  ∧ (∀ (n : Nat) (v : Volume) (o : StreamObj) (s : State), s.dev.volume? n = some v → v.obj = some o →
      (o.opened + getF s.dev .CL_CTL_OPEN_MAX 0 * 1000000000 ≤ s.dtime →
        ∃ t, exec (.openMaxExpiry n) s = .next t ∧ t.dev.volume? n = some { v with obj := none, voided := v.voided.filter (· != o.owner) ++ [o.owner] }
          ∧ Frame noRegs [.clasp] [] [] s t)
      ∧ (s.dtime < o.opened + getF s.dev .CL_CTL_OPEN_MAX 0 * 1000000000 →
        ∃ t, exec (.openMaxExpiry n) s = .next t ∧ Frame noRegs [] [] [] s t))

/-- The bytes that a WRITE of one sector has asked for stage that sector: unless it is refused, a job carries the data,
and without FUA the command completes with 0 and COUNT 1. An error on the host's side ends its command with 0x3004 and
is told through AER. A RECEIVE opens its slot. A peer write is accepted for an open slot while the pair's fence value
stands: the header bytes, or the next data bytes; every other is dropped and counted. With no accepted write for
RECV_TIMEOUT, and no sooner, the RECEIVE to a sector volume ends with 0x6011. A COPY all of whose sectors are sent
completes with the zero-length read, bytes sent in its result slot; 0x6010 when the destination cannot be reached.
(Queue pairs and doorbells, Admission and ordering, Device-to-device copy, Submission entries) -/
def Obligations.HostDataAndCopies : Prop :=
  (∀ (q tag : Nat) (bs : List Byte) (c : Cmd) (v : Volume) (s : State), (s.dev.pair? q).isSome = true → s.dev.cmd? q tag = some c →
      s.dev.volume? c.e.volume = some v → c.e.opc = 0x21 → c.e.sgl = false → c.list.asked = false → c.xlist.asked = false → c.started = true → c.total = 1 → c.recs = [] → c.staged = 0 → c.buf = [] →
      c.e.fua = false → c.result = none → bs.length = 65536 → (∀ p, s.dev.locate v c.e.addr = some p → p.chain = 0xFF) → (s.dev.stageSector (some (q, tag)) false c.order c.time v c.e.addr false bs).2.1 = 0 →
      ∃ t, exec (.hostReadCompletion q tag bs) s = .next t ∧ Completed q tag 0 1 s t
        ∧ (∃ w ∈ t.dev.data.writes, w.data = bs ∧ w.order = c.order ∧ w.volume = v.id ∧ w.state = .staged
            ∧ ∀ p, s.dev.locate v c.e.addr = some p → w.surf = p.surf ∧ w.home = p.psa))
  ∧ (∀ (q tag : Nat) (c : Cmd) (s : State), (s.dev.pair? q).isSome = true → s.dev.cmd? q tag = some c → c.e.opc ≠ 0x24 →
      ∃ t, exec (.hostDmaError q tag) s = .next t ∧ Completed q tag 0x3004 (s.dev.countOf c 0x3004) s t ∧ HostMsg.aer ∈ t.dev.hostOut
        ∧ t.dev.pcie.aerErrors = s.dev.pcie.aerErrors + 1)
  ∧ (∀ (q tag : Nat) (c : Cmd) (s : State), s.dev.cmd? q tag = some c → c.e.opc = 0x29 → c.granted = true → c.started = false →
      (∀ x ∈ s.dev.clasp.slots, x.slot ≠ bits c.e.arg 5 0) →
      ∃ t, exec (.receive q tag) s = .next t ∧ t.dev.cmd? q tag = some { c with started := true }
        ∧ t.dev.clasp.slots = s.dev.clasp.slots ++ [⟨bits c.e.arg 5 0, q, tag, zeros 64, [], s.dtime⟩] ∧ Frame noRegs [.clasp, .power] [] [] s t)
  ∧ (∀ (src addr : Nat) (bs : List Byte) (x : RecvSlot) (c : Cmd) (v : Volume) (s : State),
      (s.dev.clasp.slots.find? (·.slot == addr / 2 ^ 30)) = some x → s.dev.cmd? x.qid x.tag = some c → s.dev.volume? c.e.volume = some v →
      c.fence = getF s.dev .CL_QFENCE_FENCE x.qid →
      (addr % 2 ^ 30 + bs.length ≤ 64 → addr % 2 ^ 30 < 64 → x.header.length = 64 →
        ∃ t x', exec (.peerWrite src addr bs) s = .next t ∧ x' ∈ t.dev.clasp.slots ∧ x'.slot = x.slot
          ∧ (x'.header.drop (addr % 2 ^ 30)).take bs.length = bs ∧ x'.data = x.data ∧ Frame noRegs [.clasp] [] [] s t)
      ∧ (v.stream = true → addr % 2 ^ 30 = 65536 + x.data.length → x.data.length + bs.length < c.e.len →
        ∃ t, exec (.peerWrite src addr bs) s = .next t ∧ { x with data := x.data ++ bs, since := s.dtime } ∈ t.dev.clasp.slots
          ∧ Frame noRegs [.clasp, .power] [] [] s t)
      ∧ (65536 ≤ addr % 2 ^ 30 → addr % 2 ^ 30 ≠ 65536 + x.data.length →
        ∃ t, exec (.peerWrite src addr bs) s = .next t
          ∧ getF t.dev .CH_STAT_PEER_DROPS 0 = min (2 ^ Fld.CH_STAT_PEER_DROPS.info.width - 1) (getF s.dev .CH_STAT_PEER_DROPS 0 + 1)
          ∧ Frame (theRegs [(.CH_STAT_PEER_DROPS, 0)]) [] [] [] s t))
  ∧ (∀ (src addr : Nat) (bs : List Byte) (s : State),
      ((∀ x ∈ s.dev.clasp.slots, x.slot ≠ addr / 2 ^ 30)
        ∨ (∃ x c, (s.dev.clasp.slots.find? (·.slot == addr / 2 ^ 30)) = some x ∧ s.dev.cmd? x.qid x.tag = some c
            ∧ c.fence ≠ getF s.dev .CL_QFENCE_FENCE x.qid)) →
      ∃ t, exec (.peerWrite src addr bs) s = .next t
        ∧ getF t.dev .CH_STAT_PEER_DROPS 0 = min (2 ^ Fld.CH_STAT_PEER_DROPS.info.width - 1) (getF s.dev .CH_STAT_PEER_DROPS 0 + 1)
        ∧ Frame (theRegs [(.CH_STAT_PEER_DROPS, 0)]) [] [] [] s t)
  ∧ (∀ (n : Fin 64) (x : RecvSlot) (c : Cmd) (v : Volume) (s : State), (s.dev.clasp.slots.find? (·.slot == n.val)) = some x →
      s.dev.cmd? x.qid x.tag = some c → c.e.opc = 0x29 → s.dev.volume? c.e.volume = some v → v.stream = false → c.buf = [] → c.result = none →
      (s.dev.pair? x.qid).isSome = true →
      (tooSoon s.dtime x.since (100000000 * getF s.dev .CL_CTL_RECV_TIMEOUT 0) = false → ∃ t, exec (.recvTimeout n) s = .next t
        ∧ (∀ y ∈ t.dev.clasp.slots, y ≠ x) ∧ Completed x.qid x.tag 0x6011 (s.dev.committedNow c) s t)
      ∧ (tooSoon s.dtime x.since (100000000 * getF s.dev .CL_CTL_RECV_TIMEOUT 0) = true →
        ∃ t, exec (.recvTimeout n) s = .next t ∧ Frame noRegs [] [] [] s t))
  ∧ (∀ (q tag : Nat) (c : Cmd) (s : State), (s.dev.pair? q).isSome = true → s.dev.cmd? q tag = some c → c.e.opc = 0x28 → c.started = true →
      (c.total ≤ c.recs.length → ∃ t, exec (.peerReadDone q tag true) s = .next t
        ∧ HostMsg.write c.e.rptr (bytesLE 16 c.produced ++ bytesLE 8 0 ++ bytesLE 8 0 ++ zeros 32) ∈ t.dev.hostOut
        ∧ Completed q tag (worstStatus c.recs) c.done s t)
      ∧ (∃ t, exec (.peerReadDone q tag false) s = .next t ∧ Completed q tag 0x6010 c.done s t))

/-- A free engine takes the earliest-admitted waiting work that its class may take; none that it may not. Compression of
the last APPEND of an object, when its stored bytes fit the tail sector, adds them to the volume's tail, closes the
object with its token, the bytes supplied and the bytes stored in the result slot, counts input and output, and
completes. A decoded object goes to the buffer with its length in the result slot; a decoder fault raises
FG_BAD_STREAM with the status and the offset, is counted, and is the status of the command. (Engines and dispatch,
Blocks and objects, Decompression, Stream objects and extent tokens) -/
def Obligations.EnginesAndObjects : Prop :=
  (∀ (e : Fin 16) (w : FgWork) (s : State), s.dev.filigree.engines[e] = none → w ∈ s.dev.filigree.waiting → s.dev.mayTake e w = true →
      (∀ x ∈ s.dev.filigree.waiting, s.dev.mayTake e x = true → x = w ∨ s.dev.workOrder w < s.dev.workOrder x) →
      ∃ t, exec (.engineDispatch e) s = .next t ∧ t.dev.filigree.engines[e] = some w
        ∧ t.dev.filigree.waiting = s.dev.filigree.waiting.erase w ∧ Frame noRegs [.filigree] [] [] s t)
  ∧ (∀ (e : Fin 16) (s : State), ((s.dev.filigree.engines[e]).isSome = true ∨ ∀ x ∈ s.dev.filigree.waiting, s.dev.mayTake e x = false) →
      ∃ t, exec (.engineDispatch e) s = .next t ∧ Frame noRegs [] [] [] s t)
  ∧ (∀ (e : Fin 16) (w : FgWork) (d : Dev), (d.mayTake e w = true ↔ w.decode = true ∨ (w.full = true ∧ 12 ≤ e.val)
      ∨ (w.full = false ∧ e.val < 12) ∨ (w.full = false ∧ 12 ≤ e.val ∧ getF d .FG_CFG_FULL_FOR_STD 0 = 1 ∧ d.stdBusy = 12)))
  ∧ (∀ (e : Fin 16) (w : FgWork) (c : Cmd) (v : Volume) (o : StreamObj) (out : List Byte) (s : State),
      s.dev.filigree.engines[e] = some w → w.decode = false → s.dev.cmd? w.qid w.tag = some c → (s.dev.pair? w.qid).isSome = true →
      c.e.opc = 0x24 → c.e.more = false → c.e.fua = false → c.recs = [] → c.staged = 0 → s.dev.volume? c.e.volume = some v → v.obj = some o →
      o.owner = w.qid → v.voided.contains w.qid = false →
      out = (deflate o.mode o.table o.zlib (o.supplied == 0) true o.hist o.bits o.adler (c.buf.take c.e.len)).bytes → out ≠ [] →
      v.tail.length + out.length < 65536 → out.length ≤ s.dev.streamRoom v →
      ∃ t v', exec (.compressionDone e) s = .next t ∧ t.dev.filigree.engines[e] = none ∧ t.dev.volume? c.e.volume = some v'
        ∧ v'.tail = v.tail ++ out ∧ v'.obj = none ∧ v'.tailComp = true ∧ v'.appSector = v.appSector
        ∧ getF t.dev .FG_IN_BYTES_COUNT 0 = (getF s.dev .FG_IN_BYTES_COUNT 0 + (c.buf.take c.e.len).length) % 2 ^ 64
        ∧ getF t.dev .FG_OUT_BYTES_COUNT 0 = (getF s.dev .FG_OUT_BYTES_COUNT 0 + out.length) % 2 ^ 64
        ∧ HostMsg.write c.e.rptr (bytesLE 16 (s.dev.objToken v { o with stored := o.stored + out.length }).value
            ++ bytesLE 8 (o.supplied + (c.buf.take c.e.len).length) ++ bytesLE 8 (o.stored + out.length) ++ zeros 32) ∈ t.dev.hostOut
        ∧ Completed w.qid w.tag 0 1 s t)
  ∧ (∀ (e : Fin 16) (w : FgWork) (c : Cmd) (out : List Byte) (n : Nat) (s : State),
      s.dev.filigree.engines[e] = some w → w.decode = true → s.dev.cmd? w.qid w.tag = some c → (s.dev.pair? w.qid).isSome = true →
      c.e.opc = 0x25 → c.e.sgl = false → c.out = [] → c.produced = 0 → c.viaXptr = 0 → c.decoded = (out, 0, n) → out ≠ [] →
      ∃ t, exec (.decompressionDone e) s = .next t ∧ t.dev.filigree.engines[e] = none ∧ HostMsg.write c.e.dptr out ∈ t.dev.hostOut
        ∧ HostMsg.write c.e.rptr (bytesLE 16 out.length ++ bytesLE 8 0 ++ bytesLE 8 0 ++ zeros 32) ∈ t.dev.hostOut
        ∧ Completed w.qid w.tag (worstStatus c.recs) (s.dev.countOf c (worstStatus c.recs)) s t)
  ∧ (∀ (e : Fin 16) (w : FgWork) (c : Cmd) (out : List Byte) (st n : Nat) (s : State),
      s.dev.filigree.engines[e] = some w → w.decode = true → s.dev.cmd? w.qid w.tag = some c → (s.dev.pair? w.qid).isSome = true →
      (c.e.opc = 0x23 ∨ c.e.opc = 0x25 ∧ c.e.sgl = false ∧ c.out = [] ∧ c.produced = 0) → c.decoded = (out, st, n) → st ≠ 0 → st < 2 ^ 32 → n < 2 ^ 32 →
      ∃ t, exec (.decodeError e) s = .next t ∧ t.dev.filigree.engines[e] = none
        ∧ (s.dev.Hears .FG_BAD_STREAM → Recorded .FG_BAD_STREAM e [st, n] s t)
        ∧ getF t.dev .FG_ERR_DECODE_ERRORS 0 = min 65535 (getF s.dev .FG_ERR_DECODE_ERRORS 0 + 1)
        ∧ (c.e.opc = 0x25 → out ≠ [] → HostMsg.write c.e.dptr out ∈ t.dev.hostOut)
        ∧ Completed w.qid w.tag st (s.dev.countOf c st) s t)

/-- Every command of Casket keeps it coherent: each line in each buffer at most once, and every array line equal to what
the buffers and DRAM give. So a read that the array serves returns what it would return without the array. A read, a
drain, a completed DRAM write, a disable and the end of the invalidation leave every line reading as before; a write
that is accepted changes exactly its masked bytes, and a ZLINE makes its line zero. (Reads, writes and the buffers,
Disable, P3 and resets) -/
def Obligations.CasketStaysCoherent : Prop :=
  (∀ (c : Instr) (line : Nat) (region : Region) (mask : List Bool) (bs : List Byte) (s t : State),
      c ∈ [Instr.casketRead line region .good, .casketWrite line mask bs, .mbDrain line region .good, .evictionWriteDone line, .zline line,
        .casketDisable, .casketEnable, .invalidateDone] →
      s.dev.mem.Coherent → exec c s = .next t → t.dev.mem.Coherent)
  ∧ (∀ (m : Mem) (line : Nat), m.Coherent → m.lineBytes line = m.overMerge line (m.fill line))
  ∧ (∀ (c : Instr) (line : Nat) (region : Region) (s t : State),
      c ∈ [Instr.casketRead line region .good, .mbDrain line region .good, .evictionWriteDone line, .casketDisable, .casketEnable, .invalidateDone] →
      s.dev.mem.Coherent → s.dev.mem.waiting = [] → exec c s = .next t → ∀ l, t.dev.mem.lineBytes l = s.dev.mem.lineBytes l)
  ∧ (∀ (line : Nat) (mask : List Bool) (bs : List Byte) (s : State), line < s.dev.dramLines → s.dev.mem.Coherent → s.dev.mem.waiting = [] →
      s.dev.mem.roomFor line = true →
      (∃ t, exec (.casketWrite line mask bs) s = .next t ∧ t.dev.mem.lineBytes line = overlay mask bs (s.dev.mem.lineBytes line)
        ∧ ∀ l, l ≠ line → t.dev.mem.lineBytes l = s.dev.mem.lineBytes l)
      ∧ (∃ t, exec (.zline line) s = .next t ∧ t.dev.mem.lineBytes line = zeros 128
        ∧ ∀ l, l ≠ line → t.dev.mem.lineBytes l = s.dev.mem.lineBytes l))

/-- A read hit leaves the array's lines, a miss allocates the line with its newest bytes unless Casket takes no
allocation. A write or ZLINE that finds the merging buffer full waits. An entry with a cause to drain is completed to
a whole line in the eviction buffer, bad bytes of the fill under its mask replaced, or waits while that line's write
is issued; one without a cause stays. A completed write puts its bytes, and no others, into DRAM. DISABLE stops
allocation, and with nothing to drain starts the invalidation, whose end empties the array and shows DISABLED; DISABLE
= 0 allocates again. A line beyond the populated DRAM does not exist (the model's choice, log entry 71). (Array and
index, Reads, writes and the buffers, Disable, P3 and resets) -/
def Obligations.CasketCommands : Prop :=
  (∀ (line : Nat) (region : Region) (s : State), line < s.dev.dramLines →
      ((s.dev.mem.hit? line).isSome = true → ∃ t, exec (.casketRead line region .good) s = .next t ∧ t.dev.mem.array = s.dev.mem.array
        ∧ t.dev.mem.dram = s.dev.mem.dram ∧ t.dev.mem.merge = s.dev.mem.merge ∧ t.dev.mem.evict = s.dev.mem.evict ∧ Frame noRegs [.mem] [] [] s t)
      ∧ (∀ w, s.dev.mem.hit? line = none → s.dev.mem.noAlloc = false → s.dev.mem.wayFor (lineSet line) = some w →
        ∃ t, exec (.casketRead line region .good) s = .next t
          ∧ t.dev.mem.hit? line = some ⟨lineSet line, w, line, s.dev.mem.overMerge line (s.dev.mem.fill line)⟩
          ∧ (∀ a ∈ t.dev.mem.array, a.line = line ∨ a ∈ s.dev.mem.array) ∧ Frame noRegs [.mem] [] [] s t)
      ∧ (s.dev.mem.hit? line = none → s.dev.mem.noAlloc = true →
        ∃ t, exec (.casketRead line region .good) s = .next t ∧ Frame noRegs [] [] [] s t))
  ∧ (∀ (line : Nat) (mask : List Bool) (bs : List Byte) (s : State), line < s.dev.dramLines → s.dev.mem.roomFor line = false →
      (∃ t, exec (.casketWrite line mask bs) s = .next t
        ∧ t.dev.mem = { s.dev.mem with waiting := s.dev.mem.waiting ++ [⟨line, mask, bs, false⟩] } ∧ Frame noRegs [.mem] [] [] s t)
      ∧ (∃ t, exec (.zline line) s = .next t
        ∧ t.dev.mem = { s.dev.mem with waiting := s.dev.mem.waiting ++ [⟨line, fullMask, zeros 128, true⟩] } ∧ Frame noRegs [.mem] [] [] s t))
  ∧ (∀ (line : Nat) (mask : List Bool) (bs : List Byte) (s : State), line < s.dev.dramLines → s.dev.mem.roomFor line = true → s.dev.mem.waiting = [] →
      (∃ t e, exec (.casketWrite line mask bs) s = .next t ∧ t.dev.mem.merge? line = some e
        ∧ (∀ i < 128, mask.getD i false = true → e.mask.getD i false = true ∧ e.bytes.getD i 0 = bs.getD i 0)
        ∧ t.dev.mem.dram = s.dev.mem.dram ∧ Frame noRegs [.mem] [] [] s t)
      ∧ (∃ t e, exec (.zline line) s = .next t ∧ t.dev.mem.merge? line = some e ∧ e.mask = fullMask ∧ e.bytes = zeros 128
        ∧ t.dev.mem.dram = s.dev.mem.dram ∧ Frame noRegs [.mem] [] [] s t))
  ∧ (∀ (line : Nat) (e : BufLine) (region : Region) (ecc : LineCheck) (s : State), line < s.dev.dramLines → s.dev.mem.merge? line = some e →
      s.dev.drainDue s.dtime e = false → ∃ t, exec (.mbDrain line region ecc) s = .next t ∧ Frame noRegs [] [] [] s t)
  ∧ (∀ (line : Nat) (e : BufLine) (region : Region) (flips : List Nat) (copy good again : Bool) (s : State), line < s.dev.dramLines →
      s.dev.mem.merge? line = some e → s.dev.mem.waiting = [] → s.dev.drainDue s.dtime e = true → s.dev.mem.evict.length < 32 →
      s.dev.mem.evict? line = none → s.dev.mem.hit? line = none → (∀ n ∈ flips, n < 1024 ∧ e.mask.getD (n / 8) false = true) →
      flipVerdict true line (s.dev.mem.dramLine line) flips = 3 →
      ∃ t x, exec (.mbDrain line region (.bad flips copy good again)) s = .next t ∧ t.dev.mem.merge? line = none
        ∧ t.dev.mem.evict? line = some x ∧ x.bytes = overlay e.mask e.bytes (s.dev.mem.dramLine line) ∧ Frame noRegs [.mem] [] [] s t)
  ∧ (∀ (line : Nat) (e : BufLine) (region : Region) (s : State), line < s.dev.dramLines → s.dev.mem.merge? line = some e → s.dev.mem.waiting = [] →
      s.dev.drainDue s.dtime e = true →
      (s.dev.mem.evict? line = none → s.dev.mem.evict.length < 32 → ∃ t x, exec (.mbDrain line region .good) s = .next t ∧ t.dev.mem.merge? line = none
        ∧ t.dev.mem.evict? line = some x ∧ x.bytes = overlay e.mask e.bytes
            (match s.dev.mem.hit? line with | some a => a.bytes | none => s.dev.mem.dramLine line)
        ∧ t.dev.mem.dram = s.dev.mem.dram ∧ Frame noRegs [.mem] [] [] s t)
      ∧ (∀ x, s.dev.mem.evict? line = some x → x.issued = true → ∃ t, exec (.mbDrain line region .good) s = .next t
        ∧ t.dev.mem.merge = s.dev.mem.merge ∧ t.dev.mem.evict = s.dev.mem.evict ∧ line ∈ t.dev.mem.drainWait ∧ Frame noRegs [.mem] [] [] s t))
  ∧ (∀ (line : Nat) (e : EvictLine) (l : List EvictLine) (s : State), line < s.dev.dramLines → s.dev.mem.evict = e :: l → e.line = line →
      e.issued = true → e.bytes.length = 128 →
      ∃ t, exec (.evictionWriteDone line) s = .next t ∧ t.dev.mem.dramLine line = e.bytes
        ∧ (∀ a, a / 128 ≠ line → t.dev.mem.dramByte a = s.dev.mem.dramByte a) ∧ Frame noRegs [.mem] [] [] s t)
  ∧ (∀ s : State, getF s.dev .CK_STAT_DISABLED 0 = 0 → ∃ t, exec .casketDisable s = .next t ∧ getF t.dev .CK_CTL_DISABLE 0 = 1
      ∧ t.dev.mem.noAlloc = true ∧ t.dev.mem.disabling = true ∧ t.dev.mem.array = s.dev.mem.array ∧ t.dev.mem.dram = s.dev.mem.dram
      ∧ (s.dev.mem.merge = [] → s.dev.mem.drainSet = [] → t.dev.mem.invalidating = true)
      ∧ Frame (theRegs [(.CK_CTL_DISABLE, 0)]) [.mem] [] [] s t)
  ∧ (∀ s : State, s.dev.mem.invalidating = true → s.dev.mem.disabling = true →
      (getF s.dev .CK_CTL_DISABLE 0 = 1 → ∃ t, exec .invalidateDone s = .next t ∧ t.dev.mem.array = [] ∧ t.dev.mem.noAlloc = true
        ∧ getF t.dev .CK_STAT_DISABLED 0 = 1 ∧ Frame (theRegs [(.CK_STAT_DISABLED, 0)]) [.mem] [] [] s t)
      ∧ (getF s.dev .CK_CTL_DISABLE 0 = 0 → ∃ t, exec .invalidateDone s = .next t ∧ t.dev.mem.array = []
        ∧ t.dev.mem.noAlloc = s.dev.mem.p3Drain ∧ Frame noRegs [.mem] [] [] s t))
  ∧ (∀ s : State, s.dev.mem.p3Drain = false →
      (s.dev.mem.disabling = false → ∃ t, exec .casketEnable s = .next t ∧ t.dev.mem = { s.dev.mem with noAlloc := false }
        ∧ getF t.dev .CK_CTL_DISABLE 0 = 0 ∧ getF t.dev .CK_STAT_DISABLED 0 = 0
        ∧ Frame (theRegs [(.CK_CTL_DISABLE, 0), (.CK_STAT_DISABLED, 0)]) [.mem] [] [] s t)
      ∧ (s.dev.mem.disabling = true → ∃ t, exec .casketEnable s = .next t ∧ getF t.dev .CK_CTL_DISABLE 0 = 0
        ∧ Frame (theRegs [(.CK_CTL_DISABLE, 0)]) [] [] [] s t))
  ∧ (∀ (line : Nat) (region : Region) (ecc : LineCheck) (mask : List Bool) (bs : List Byte) (s : State), s.dev.dramLines ≤ line →
      ∀ c ∈ [Instr.casketRead line region ecc, .casketWrite line mask bs, .mbDrain line region ecc, .evictionWriteDone line, .zline line],
        exec c s = .fault (.noSuchLine line))

/-- A line as written passes its check, and each of its 1,280 bits that is flipped alone fails the one it belongs to; a
line of all zeros fails. A bad DRAM line that no buffer holds: one of free DRAM is rewritten with zeros and counted as
restored, one of the trace RAM's is reported with MI_UNCORRECTABLE; MI_LAST_ERR names memory, check and address, of
the restored line the outcome. A pass without a bad line adds one to its counter. A journal update writes a free unit,
to which the logical unit's map entry then points, the old unit becoming free; a unit that fails its check raises
MI_JOURNAL_ERR; a unit that does not exist changes nothing. (That spares come before units used again is the model's
choice, log entry 24.) (Check bits, Correction and what cannot be corrected, Scrubbing, Journal) -/
def Obligations.BadLinesScrubberAndJournal : Prop :=
  (∀ (line : Nat) (bs : List Byte), bs.length = 128 → lineVerdict line bs (lineCheckBits line bs) = 0
      ∧ lineVerdict line (zeros 128) 0 ≠ 0
      ∧ ∀ n < 1280, flipVerdict true line bs [n] = if n < 1152 then 3 else if n < 1184 then 4 else if n < 1215 then 1 else 2)
  ∧ (∀ (line check : Nat) (flips : List Nat) (copy good : Bool) (s : State), line < s.dev.dramLines → s.dev.mem.hit? line = none → s.dev.mem.evict? line = none →
      s.dev.mem.merge? line = none → s.dev.mem.noAlloc = true → s.dev.badBefore s.dtime 2 (line / 32) = false →
      flipVerdict true line (s.dev.mem.dramLine line) flips = check → check ≠ 0 →
      (∃ t, exec (.casketRead line .free (.bad flips copy good false)) s = .next t
        ∧ (s.dev.mem.waiting = [] → s.dev.mem.merge.length < 256 → t.dev.mem.lineBytes line = zeros 128)
        ∧ getF t.dev .MI_ERR_DRAM_FIX 0 = min 255 (getF s.dev .MI_ERR_DRAM_FIX 0 + 1)
        ∧ getF t.dev .MI_LAST_ERR_MEMORY 0 = 2 ∧ getF t.dev .MI_LAST_ERR_CHECK 0 = check ∧ getF t.dev .MI_LAST_ERR_GROUP 0 = 0
        ∧ getF t.dev .MI_LAST_ERR_OUTCOME 0 = 6 ∧ getF t.dev .MI_LAST_ERR_ADDR 0 = line * 128
        ∧ Frame (theRegs [(.MI_ERR_DRAM_FIX, 0), (.MI_LAST_ERR_MEMORY, 0), (.MI_LAST_ERR_CHECK, 0), (.MI_LAST_ERR_GROUP, 0),
            (.MI_LAST_ERR_OUTCOME, 0), (.MI_LAST_ERR_ADDR, 0)]) [.mem] [] [] s t)
      ∧ (∃ t, exec (.casketRead line .trace (.bad flips copy good false)) s = .next t
        ∧ (s.dev.Hears .MI_UNCORRECTABLE → Recorded .MI_UNCORRECTABLE 0 [] s t)
        ∧ getF t.dev .MI_LAST_ERR_MEMORY 0 = 2 ∧ getF t.dev .MI_LAST_ERR_CHECK 0 = check ∧ getF t.dev .MI_LAST_ERR_ADDR 0 = line * 128
        ∧ Frame (theRegs [(.MI_LAST_ERR_MEMORY, 0), (.MI_LAST_ERR_CHECK, 0), (.MI_LAST_ERR_GROUP, 0),
            (.MI_LAST_ERR_OUTCOME, 0), (.MI_LAST_ERR_ADDR, 0)]) [.freeIdx, .mem] [] [] s t))
  ∧ (∀ s : State, ∀ x ∈ [((0 : Fin 3), Fld.MI_SCRUB_STAT_CK_PASSES), (1, .MI_SCRUB_STAT_SRAM_PASSES), (2, .MI_SCRUB_STAT_DRAM_PASSES)],
      ∃ t, exec (.scrubPass x.1 []) s = .next t ∧ getF t.dev x.2 0 = min 255 (getF s.dev x.2 0 + 1)
        ∧ Frame (theRegs [(x.2, 0)]) [] [] [] s t)
  ∧ (∀ (unit u : Nat) (s : State), unit < 245760 → s.dev.mem.nextUnit = some u →
      (∃ t, exec (.journalUpdate unit true) s = .next t ∧ Sparse.get id t.dev.mem.jmap unit = u
        ∧ t.dev.mem.wearOf u = s.dev.mem.wearOf u + 1 ∧ Sparse.get id s.dev.mem.jmap unit ∈ t.dev.mem.jfree
        ∧ (u ≠ Sparse.get id s.dev.mem.jmap unit → u ∉ t.dev.mem.jfree)
        ∧ (∀ n, n ≠ unit → Sparse.get id t.dev.mem.jmap n = Sparse.get id s.dev.mem.jmap n) ∧ Frame noRegs [.mem] [] [] s t)
      ∧ (∃ t, exec (.journalUpdate unit false) s = .next t ∧ (s.dev.Hears .MI_JOURNAL_ERR → Recorded .MI_JOURNAL_ERR 0 [unit] s t)
        ∧ getF t.dev .MI_LAST_ERR_MEMORY 0 = 3 ∧ getF t.dev .MI_LAST_ERR_ADDR 0 = unit * 64 ∧ Sparse.get id t.dev.mem.jmap unit = u))
  ∧ (∀ (m : Mem) (u : Nat), 262144 ≤ m.jnext → m.nextUnit = some u → u ∈ m.jfree ∧ ∀ x ∈ m.jfree, m.wearOf u ≤ m.wearOf x)
  ∧ (∀ (unit : Nat) (good : Bool) (s : State), 245760 ≤ unit → ∃ t, exec (.journalUpdate unit good) s = .next t ∧ Frame noRegs [] [] [] s t)

/-- HM_CTL.RUN, and CAL_PERIOD hours since the last full calibration, start one of every kind on an idle head; a head that
is calibrating queues it. An idle head in FOLLOW for IDLE_MIN has its idle revolution. A converter run, or a reference
check with the laser off, gives the number of good sub-ADCs; a sub-ADC that exceeds a limit of R348 is bad; with fewer
than 8 the head is not released. Laser points on a line give ETA and I_TH, and HM_LASER_FIT when the middle point lies
more than 3 % off. A trial uses one stripe and moves no S by more than 0.05; a gain moves by at most 2 %, an offset by
at most one step. With HOLD 1 no correction is written. (Release of a head, Calibration runs, Natural gaps, The
converter bank, Laser drive and the power plan, Servo scales and read margin) -/
def Obligations.CalibrationRuns : Prop :=
  (∀ (h : HeadId) (s : State), s.dev.hallmarkDead = false → (s.dev.head h).hallmark.kinds = [] →
      (∃ t, exec (.hmCtlRun h) s = .next t ∧ (t.dev.head h).hallmark.kinds = fullCal ∧ (t.dev.head h).hallmark.isFull = true
        ∧ (t.dev.head h).hallmark.trialTodo = s.dev.usedLayers h ∧ getF t.dev .HM_STAT_RUNNING h = 1
        ∧ Frame (theRegs [(.HM_STAT_RUNNING, h)]) [] [h] [] s t)
      ∧ (s.dev.populated (.head h) = true → getF s.dev .HM_CFG_CAL_PERIOD 0 * 1440000 ≤ (s.dev.head h).hallmark.sinceCal →
        ∃ t, exec (.calPeriodExpiry h) s = .next t ∧ (t.dev.head h).hallmark.kinds = fullCal ∧ getF t.dev .HM_STAT_RUNNING h = 1
          ∧ Frame (theRegs [(.HM_STAT_RUNNING, h)]) [] [h] [] s t)
      ∧ ((s.dev.head h).hallmark.sinceCal < getF s.dev .HM_CFG_CAL_PERIOD 0 * 1440000 →
        ∃ t, exec (.calPeriodExpiry h) s = .next t ∧ Frame noRegs [] [] [] s t))
  ∧ (∀ (h : HeadId) (s : State), s.dev.hallmarkDead = false → (s.dev.head h).hallmark.kinds = [.link] →
      ∃ t, exec (.hmCtlRun h) s = .next t ∧ (t.dev.head h).hallmark.kinds = [.link] ∧ (t.dev.head h).hallmark.queued = fullCal
        ∧ (t.dev.head h).hallmark.queuedFull = true ∧ Frame noRegs [] [h] [] s t)
  ∧ (∀ (h : HeadId) (s : State), s.dev.mode h = 3 → s.dev.headBusy h = false →
      getF s.dev .HM_CFG_IDLE_MIN 0 * 40 ≤ (s.dev.head h).hallmark.idle →
      ∃ t, exec (.idleRevolution h) s = .next t ∧ (t.dev.head h).hallmark = { (s.dev.head h).hallmark with idleRev := true }
        ∧ Frame noRegs [] [h] [] s t)
  ∧ (∀ (x : AdcBest), x.bad = true ↔ (8 < x.rest.1.natAbs ∨ 30 < x.rest.2.1.natAbs ∨ 20 < x.rest.2.2.natAbs ∨ 60 < x.noise ∨ 0 < x.missing))
  ∧ (∀ (h : HeadId) (adc : List AdcResult) (n : Nat) (s : State), adc.length = 10 → s.dev.calHold h = true →
      (s.dev.calAt h .converter = true → (s.dev.head h).link.flags.laserOn = true → n = ((adc.zipIdx.map fun x => s.dev.adcBest h true x.2 x.1).filter fun x => !x.bad).length →
        ∃ t, exec (.converterRunDone h adc) s = .next t ∧ getF t.dev .HM_STAT_ADC_GOOD h = n ∧ getF t.dev .HM_STAT_RUN_AGE h = 0
          ∧ (n < 8 → getF t.dev .HM_STAT_RELEASED h = 0) ∧ (8 ≤ n → getF t.dev .HM_STAT_RELEASED h = getF s.dev .HM_STAT_RELEASED h)
          ∧ t.dev.rvPend = s.dev.rvPend)
      ∧ (s.dev.linkUp h = true → s.dev.hallmarkDead = false → (s.dev.head h).hallmark.relStep = 2 ∨ (s.dev.head h).hallmark.relStep = 3 →
        (s.dev.head h).link.flags.laserOn = false → n = ((adc.zipIdx.map fun x => s.dev.adcBest h false x.2 x.1).filter fun x => !x.bad).length →
        ∃ t, exec (.referenceCheckDone h adc) s = .next t ∧ getF t.dev .HM_STAT_ADC_GOOD h = n ∧ t.dev.rvPend = s.dev.rvPend
          ∧ (8 ≤ n → (t.dev.head h).hallmark.relStep = 4) ∧ (n < 8 → getF t.dev .HM_STAT_RELEASED h = 0)))
  ∧ (∀ (h : HeadId) (ib p1 p2 p3 eta ith : Nat) (s : State), s.dev.calAt h .laser = true → (s.dev.head h).link.flags.laserOn = true →
      ((if 3 * p2 ≤ p1 + p2 + p3 then p1 + p2 + p3 - 3 * p2 else 3 * p2 - (p1 + p2 + p3)) * 100 ≤ 3 * (p1 + p2 + p3) → ib ≠ 0 → p3 ≠ p1 →
        (eta : Int) = Int.fdiv (2 * ((p3 : Int) - p1) * 2500 + ib) (2 * ib) → eta < 65536 →
        (ith : Int) = ib - Int.fdiv (4 * p3 * ib + 5 * ((p3 : Int) - p1)) (10 * ((p3 : Int) - p1)) → ith < 65536 →
        ∃ t, exec (.laserPointsDone h ib p1 p2 p3) s = .next t ∧ getF t.dev .HM_LASER_ETA h = eta ∧ getF t.dev .HM_LASER_I_TH h = ith
          ∧ t.dev.rvPend = s.dev.rvPend)
      ∧ (3 * (p1 + p2 + p3) < (if 3 * p2 ≤ p1 + p2 + p3 then p1 + p2 + p3 - 3 * p2 else 3 * p2 - (p1 + p2 + p3)) * 100 →
        (s.dev.head h).hallmark.kinds = [.laser] → (s.dev.head h).hallmark.queued = [] →
        ∃ t, exec (.laserPointsDone h ib p1 p2 p3) s = .next t ∧ (s.dev.Hears .HM_LASER_FIT → Recorded .HM_LASER_FIT h [] s t)
          ∧ Frame (theRegs [(.HM_STAT_RUNNING, h)]) [] [h] [] s t))
  ∧ (∀ (h : HeadId) (layer : Fin 16) (err : List (List Nat)) (s : State), s.dev.calAt h .trial = true → s.dev.mayTry h = true → (s.dev.head h).down.writeInhibit = false →
      layer.val ∈ s.dev.trialLeft h → (s.dev.surf (surfOf h)).pcaUsed.length = 16 →
      ∃ t, exec (.writePowerTrialDone h layer err) s = .next t
        ∧ (t.dev.surf (surfOf h)).pcaUsed.getD layer 0 = (s.dev.surf (surfOf h)).pcaUsed.getD layer 0 + 1
        ∧ (s.dev.calHold h = true → t.dev.rvPend = s.dev.rvPend)
        ∧ (∀ spot : SpotId, 8192 ≤ fieldHeld s.dev (planS spot) (h.val * 16 + layer) → fieldHeld s.dev (planS spot) (h.val * 16 + layer) ≤ 24576 →
            fieldHeld t.dev (planS spot) (h.val * 16 + layer) ≤ fieldHeld s.dev (planS spot) (h.val * 16 + layer) + 819
            ∧ fieldHeld s.dev (planS spot) (h.val * 16 + layer) ≤ fieldHeld t.dev (planS spot) (h.val * 16 + layer) + 819))
  ∧ (∀ (h : HeadId) (te fe tilt : Nat) (s : State), s.dev.calAt h .scale = true → s.dev.calHold h = false →
      ∃ t, exec (.servoScaleUpdate h te fe tilt) s = .next t
        ∧ ∀ f ∈ ([.HM_SCALE_TE_GAIN, .HM_SCALE_FE_GAIN, .HM_SCALE_TILT_GAIN] : List Fld), 4096 ≤ fieldHeld s.dev f h → fieldHeld s.dev f h ≤ 65372 →
            fieldHeld t.dev f h ≤ fieldHeld s.dev f h + fieldHeld s.dev f h / 50 ∧ fieldHeld s.dev f h ≤ fieldHeld t.dev f h + fieldHeld s.dev f h / 50)
  ∧ (∀ (h : HeadId) (layer : Fin 16) (tilt : Bool) (err : List Nat) (f : Fld) (i : Nat) (s : State), s.dev.calAt h .focus = true →
      s.dev.mayTry h = true → (s.dev.head h).hallmark.focusTodo.head? = some (layer.val, tilt) →
      f = (if tilt then .HM_PLAN_TILT_OFS else .HM_PLAN_FOC_OFS) → i = h.val * 16 + layer →
      ∃ t, exec (.focusMarginScanDone h layer tilt err) s = .next t ∧ (s.dev.calHold h = true → t.dev.rvPend = s.dev.rvPend)
        ∧ (toSigned 16 (fieldHeld t.dev f i) - toSigned 16 (fieldHeld s.dev f i)).natAbs ≤ if tilt then 256 else 328)

/-- A laser half seen on and off passes and releases a head that has done every step before it; one that fails, or a gate
that opens under WRITE_INHIBIT, latches H on the head: the latch, the inhibits, RELEASED 0, the row-5 count. CAL_SAVE
writes an image that begins with MAGIC, VERSION and REV_ID and completes with 0; CAL_LOAD of an image that is not one
loads nothing and completes with 0x1002; both complete with 0x7002 while both Hallmark cores have failed. An ageing
sample enters its unit's accounts, one for each 30 days at most 120; a metric at its limit leaves 0 days; one that has
nothing to sample gives none. (Release of a head, Diagnostics, Saving and loading calibration, Ageing accounts and
remaining life, When cores fail) -/
def Obligations.InhibitTestsSavingAndAgeing : Prop :=
  (∀ (h : HeadId) (s : State), s.dev.mayTestLaser h = true →
      ((s.dev.head h).hallmark.relStep = 4 → (s.dev.spin (spinOf h)).keep.clearing = false →
        ∃ t, exec (.inhibitTestLaserHalf h true true) s = .next t ∧ getF t.dev .HM_STAT_RELEASED h = 1 ∧ (t.dev.head h).hallmark.relStep = 5
          ∧ (t.dev.head h).keep.laserHalf = true ∧ (t.dev.head h).keep.writeHalf = false
          ∧ Frame (theRegs [(.HM_STAT_RELEASED, h)]) [.freeIdx] [h] [] s t)
      ∧ (∀ a b : Bool, (a && b) = false → ∃ t, exec (.inhibitTestLaserHalf h a b) s = .next t ∧ t.dev.headLatch h = true
          ∧ getF t.dev .HM_STAT_RELEASED h = 0 ∧ (t.dev.head h).keep.laserHalf = false ∧ (t.dev.head h).motion.wantFault = true
          ∧ getF t.dev .KP_DIAG_INHIBIT_FAIL 0 = min 255 (getF s.dev .KP_DIAG_INHIBIT_FAIL 0 + 1)
          ∧ (s.dev.Hears .KP_DIAG_FAULT → Recorded .KP_DIAG_FAULT h [5] s t)))
  ∧ (∀ (h : HeadId) (s : State), s.dev.mayTestLaser h = false →
      ∃ t, exec (.inhibitTestLaserHalf h true true) s = .next t ∧ Frame noRegs [] [] [] s t)
  ∧ (∀ (h : HeadId) (s : State), s.dev.mayTestWrite h = true →
      (∃ t, exec (.inhibitTestWriteHalf h false) s = .next t ∧ (t.dev.head h).keep = { (s.dev.head h).keep with writeHalf := true }
        ∧ Frame noRegs [] [h] [] s t)
      ∧ (∃ t, exec (.inhibitTestWriteHalf h true) s = .next t ∧ t.dev.headLatch h = true ∧ getF t.dev .HM_STAT_RELEASED h = 0
        ∧ (t.dev.head h).keep.writeHalf = false)
      ∧ (s.dev.strict = true → 34560000 ≤ (s.dev.head h).keep.day → (s.dev.head h).hallmark.idleRev = true →
        (∃ t, exec (.inhibitTestDaily h true true false) s = .next t ∧ (t.dev.head h).keep.day = 0 ∧ (t.dev.head h).keep.laserHalf = true
          ∧ (t.dev.head h).keep.writeHalf = true ∧ Frame noRegs [] [h] [] s t)
        ∧ (∃ t, exec (.inhibitTestDaily h true true true) s = .next t ∧ t.dev.headLatch h = true ∧ getF t.dev .HM_STAT_RELEASED h = 0)))
  ∧ (∀ (tag : Nat) (c : Cmd) (s : State), s.dev.admin? tag 0x18 = some c → (s.dev.pair? 0).isSome = true → s.dev.hallmarkDead = false →
      c.e.sgl = false → 64 + c.e.calHeads.length * 8224 ≤ c.e.len →
      ∃ t image, exec (.calSave tag) s = .next t ∧ HostMsg.write c.e.dptr image ∈ t.dev.hostOut ∧ leAt image 0 4 = 0x4C434D48 ∧ leAt image 4 2 = 1
        ∧ leAt image 6 1 = 0x21 ∧ leAt image 10 2 = c.e.calHeads.length ∧ leAt image 12 8 = s.dtime % 2 ^ 64 ∧ t.dev.rvPend = s.dev.rvPend
        ∧ Completed 0 tag 0 0 s t)
  ∧ (∀ (tag : Nat) (c : Cmd) (host : List Byte) (s : State), s.dev.admin? tag 0x19 = some c → (s.dev.pair? 0).isSome = true →
      s.dev.hallmarkDead = false →
      (calImageOk (host.take (64 + leAt host 10 2 * 8224)) 128 = false → ∃ t, exec (.calLoad tag host) s = .next t
        ∧ t.dev.rvPend = s.dev.rvPend ∧ t.dev.heads = s.dev.heads ∧ Completed 0 tag 0x1002 0 s t)
      ∧ (64 + c.e.calHeads.length * 8224 ≤ c.e.len → calImageOk (host.take (64 + leAt host 10 2 * 8224)) 128 = true → leAt host 10 2 = 0 →
        ∃ t, exec (.calLoad tag host) s = .next t ∧ t.dev.rvPend = s.dev.rvPend ∧ Completed 0 tag 0 0 s t))
  ∧ (∀ (tag : Nat) (host : List Byte) (c : Cmd) (s : State), (s.dev.pair? 0).isSome = true → s.dev.hallmarkDead = true →
      (s.dev.admin? tag 0x18 = some c → ∃ t, exec (.calSave tag) s = .next t ∧ Completed 0 tag 0x7002 0 s t)
      ∧ (s.dev.admin? tag 0x19 = some c → ∃ t, exec (.calLoad tag host) s = .next t ∧ Completed 0 tag 0x7002 0 s t))
  ∧ (∀ (d : Dev) (t : Nat) (h : HeadId) (rec_ : List Byte), leAt rec_ 0 1 = h.val →
      leAt rec_ 4 8 ≠ (d.head h).link.port.serial → getF (d.loadRecord t rec_) .HM_STAT_LOAD_SKIP h = 1 ∧ (d.loadRecord t rec_).rvPend = d.rvPend)
  ∧ (∀ (u : LifeUnit) (code : Nat) (m v : Int) (s : State), s.dev.hallmarkDead = false → 0 < code → code ≤ lifeCodes u →
      (∀ x, u = .spindle x → 2 < code) → s.dev.metricValue u code m = some v → ∃ t, exec (.ageingSample u code m) s = .next t
        ∧ (t.dev.accountsOf u).samples.find? (·.1 == code) = some (code,
            match (s.dev.accountsOf u).samples.find? (·.1 == code) with
            | some l => addSample s.dev.lifeClock v l.2
            | none => [(s.dev.lifeClock, v)]))
  ∧ (∀ (now : Nat) (v : Int) (l : List (Nat × Int)), l.length ≤ 120 → (addSample now v l).length ≤ 120)
  ∧ (∀ (now : Nat) (x : Nat × Int) (l : List (Nat × Int)) (limit : Int), limit ≤ x.2 → lifeDays now (x :: l) limit false = some 0)
  ∧ (∀ (u : LifeUnit) (code : Nat) (v : Int) (s : State), (s.dev.hallmarkDead = true ∨ code = 0 ∨ lifeCodes u < code) →
      ∃ t, exec (.ageingSample u code v) s = .next t ∧ Frame noRegs [] [] [] s t)
  ∧ (∀ (u : LifeUnit) (code : Nat) (v : Int) (s : State), s.dev.metricValue u code v = none →
      ∃ t, exec (.ageingSample u code v) s = .next t ∧ Frame noRegs [] [] [] s t)

/-- A temperature demand rises at once to that of R368, and falls past a value only below that value's threshold less the
hysteresis. Clearing bits of TH_BROKEN clears those zones and no others, and their sensors are judged afresh. A write
of TH_AMBIENT sets the ambient zone and clears AMB_STALE; after AMB_TIMEOUT the zone takes AMB_DEFAULT, AMB_STALE is
set, and TH_AMBIENT_STALE is raised once. After DWELL at a step above every demand the step falls by one: TH_STAT,
LD_POOL.ACTIVE and TH_STEP say so; before it, or with a demand that high, it stays. (Zones and the model, Demands and
the throttle step, What each step allows) -/
def Obligations.ThermalAndThrottle : Prop :=
  (∀ (base step hyst old : Nat) (t : Int), 0 < step → old ≤ 7 →
      (old ≤ tempDemand base step hyst 0 t → tempDemand base step hyst old t = tempDemand base step hyst 0 t)
      ∧ (t < 128 * (base : Int) → tempDemand base step hyst 0 t = 0)
      ∧ (128 * (base : Int) ≤ t → (tempDemand base step hyst 0 t : Int) = min 7 (1 + (t - 128 * base) / (128 * step)))
      ∧ (∀ k : Nat, tempDemand base step hyst old t < k → k ≤ old → t < 128 * ((base : Int) + ((k : Int) - 1) * step - hyst)))
  ∧ (∀ (word : Fin 6) (mask : Nat) (s : State), ∃ t, exec (.sensorBrokenClear word mask) s = .next t
      ∧ (∀ k < 32, word.val * 32 + k < 177 →
          (bit mask k = true → getF t.dev .TH_ZONE_BROKEN (word.val * 32 + k) = 0 ∧ bit (getF t.dev .TH_BROKEN_BITS word) k = false
            ∧ word.val * 32 + k ∉ t.dev.thermal.brokenRaised ∧ ∀ p ∈ t.dev.thermal.mismatch, p.1 ≠ word.val * 32 + k)
          ∧ (bit mask k = false → getF t.dev .TH_ZONE_BROKEN (word.val * 32 + k) = getF s.dev .TH_ZONE_BROKEN (word.val * 32 + k)
            ∧ bit (getF t.dev .TH_BROKEN_BITS word) k = bit (getF s.dev .TH_BROKEN_BITS word) k))
      ∧ Frame (fun f i => (f = .TH_BROKEN_BITS ∧ i = word.val) ∨ (f = .TH_ZONE_BROKEN ∧ i / 32 = word.val)) [.thermal] [] [] s t)
  ∧ (∀ (temp : Nat) (s : State), temp < 65536 → ∃ t, exec (.thAmbient temp) s = .next t ∧ getF t.dev .TH_AMBIENT_TEMP 0 = temp
      ∧ getF t.dev .TH_ZONE_TEMP 176 = temp ∧ getF t.dev .TH_STAT_AMB_STALE 0 = 0 ∧ t.dev.thermal = { s.dev.thermal with ambAge := 0 }
      ∧ Frame (theRegs [(.TH_AMBIENT_TEMP, 0), (.TH_ZONE_TEMP, 176), (.TH_STAT_AMB_STALE, 0)]) [.thermal] [] [] s t)
  ∧ (∀ s : State, (400 * getF s.dev .TH_CTL_AMB_TIMEOUT 0 ≤ s.dev.thermal.ambAge → ∃ t, exec .ambientTimeout s = .next t
        ∧ getF t.dev .TH_STAT_AMB_STALE 0 = 1 ∧ getF t.dev .TH_ZONE_TEMP 176 = 128 * getF s.dev .TH_CTL_AMB_DEFAULT 0 % 65536
        ∧ (getF s.dev .TH_STAT_AMB_STALE 0 = 0 → s.dev.Hears .TH_AMBIENT_STALE → Recorded .TH_AMBIENT_STALE 0 [] s t)
        ∧ Frame (theRegs [(.TH_ZONE_TEMP, 176), (.TH_STAT_AMB_STALE, 0)]) [] [] [] s t)
      ∧ (s.dev.thermal.ambAge < 400 * getF s.dev .TH_CTL_AMB_TIMEOUT 0 → ∃ t, exec .ambientTimeout s = .next t ∧ Frame noRegs [] [] [] s t))
  ∧ (∀ (n : Nat) (s : State), getF s.dev .TH_STAT_STEP 0 = n → n ≤ 7 →
      (s.dev.demandMax.1 < n → getF s.dev .TH_CTL_DWELL 0 ≤ s.dev.thermal.dwell → (∀ x, (s.dev.torc x).startPend = false) →
        ∃ t, exec .throttleDwellExpiry s = .next t ∧ getF t.dev .TH_STAT_STEP 0 = n - 1
          ∧ getF t.dev .LD_POOL_ACTIVE 0 = [48, 48, 48, 40, 32, 24, 12, 0].getD (n - 1) 0 ∧ t.dev.thermal.dwell = 0
          ∧ (s.dev.Hears .TH_STEP → Recorded .TH_STEP 0 [n - 1, s.dev.demandMax.2.1, s.dev.demandMax.2.2] s t)
          ∧ Frame (theRegs [(.TH_STAT_STEP, 0), (.TH_STAT_SRC, 0), (.TH_STAT_REASON, 0), (.LD_POOL_ACTIVE, 0)]) [.thermal] [] [] s t)
      ∧ ((n ≤ s.dev.demandMax.1 ∨ s.dev.thermal.dwell < getF s.dev .TH_CTL_DWELL 0) →
        ∃ t, exec .throttleDwellExpiry s = .next t ∧ Frame noRegs [] [] [] s t))

/-- With nothing to do for P1_IDLE the device enters P1, and from P1 without a running calibration, after P2_IDLE, P2:
heads in an optical mode are sent to SAFE_PARK. In P2 for SPINDOWN, every RUN goes to 0, but staged data first wake
the device. In P3 with MAX_STATE 4, in D3hot, the completed PME_Turn_Off handshake puts it in P4, where DRAM and queue
pairs are lost. PM_CTL.WAKE below P0 begins the exit, whose end is P0. A bay event in P3 or P4 begins the exit to P2
and tells the host by WAKE# in D3cold, by PME in D3hot. D3hot and D0 show in PM_STAT. (The power ladder, PCI Express
states) -/
def Obligations.PowerLadderSteps : Prop :=
  (∀ s : State, (s.dev.pState = 0 → s.dev.ladderMay 1 = true → s.dev.idleNow = true → getF s.dev .PM_CFG_P1_IDLE 0 ≤ s.dev.power.idle →
        ∃ t, exec .p1IdleExpiry s = .next t ∧ t.dev.pState = 1 ∧ t.dev.heads = s.dev.heads ∧ t.dev.spindles = s.dev.spindles
          ∧ t.dev.data = s.dev.data ∧ t.dev.clasp = s.dev.clasp ∧ t.dev.power.inP1 = 0)
      ∧ ((s.dev.pState ≠ 0 ∨ s.dev.idleNow = false ∨ (s.dev.pcie.d3 = false ∧ s.dev.power.idle < getF s.dev .PM_CFG_P1_IDLE 0)) →
        ∃ t, exec .p1IdleExpiry s = .next t ∧ Frame noRegs [] [] [] s t)
      ∧ (s.dev.pState = 1 → s.dev.ladderMay 2 = true → s.dev.calRuns = false → 400 * getF s.dev .PM_CFG_P2_IDLE 0 ≤ s.dev.power.inP1 →
        ∃ t, exec .p2IdleExpiry s = .next t ∧ t.dev.pState = 2 ∧ t.dev.spindles = s.dev.spindles ∧ t.dev.power.inP2 = 0
          ∧ (∀ h, opticalMode (s.dev.mode h) = true → (t.dev.head h).motion.wantSafe = true))
      ∧ ((s.dev.pState ≠ 1 ∨ s.dev.calRuns = true ∨ (s.dev.pcie.d3 = false ∧ s.dev.power.inP1 < 400 * getF s.dev .PM_CFG_P2_IDLE 0)) →
        ∃ t, exec .p2IdleExpiry s = .next t ∧ Frame noRegs [] [] [] s t))
  ∧ (∀ s : State, s.dev.pState = 2 → s.dev.ladderMay 2 = true → s.dev.power.spunDown = false → s.dev.pcie.d3 = false →
      getF s.dev .PM_CFG_SPINDOWN 0 ≠ 0 → 24000 * getF s.dev .PM_CFG_SPINDOWN 0 ≤ s.dev.power.inP2 →
      (s.dev.stagedData = false → ∃ t, exec .spindownExpiry s = .next t ∧ (∀ x : SpinId, getF t.dev .TQ_CTL_RUN x = 0)
        ∧ t.dev.power.spunDown = true ∧ t.dev.pState = 2 ∧ t.dev.data = s.dev.data)
      ∧ (s.dev.stagedData = true → ∃ t, exec .spindownExpiry s = .next t ∧ t.dev.power.exiting = true ∧ getF t.dev .PM_STAT_LAST_WAKE 0 = 6))
  ∧ (∀ s : State, (s.dev.pcie.linkUp = true → s.dev.pcie.d3 = false → ∃ t, exec .d3hotEntry s = .next t ∧ getF t.dev .PM_STAT_D3 0 = 1
        ∧ t.dev.pcie = { s.dev.pcie with d3 := true } ∧ Frame (theRegs [(.PM_STAT_D3, 0)]) [.pcie] [] [] s t)
      ∧ (s.dev.pcie.d3 = true → ∃ t, exec .d0Return s = .next t ∧ getF t.dev .PM_STAT_D3 0 = 0 ∧ t.dev.pcie.d3 = false
        ∧ t.dev.pState = s.dev.pState ∧ Frame (theRegs [(.PM_STAT_D3, 0)]) [.pcie] [] [] s t))
  ∧ (∀ s : State, s.dev.pcie.d3 = true → s.dev.power.downTo = none →
      (s.dev.pState < 2 → ∃ t, exec .pmeTurnOff s = .next t ∧ t.dev.pcie = { s.dev.pcie with turnedOff := true } ∧ Frame noRegs [.pcie] [] [] s t)
      ∧ (s.dev.pState = 3 → s.dev.ladderMay 4 = true → ∃ t, exec .pmeTurnOff s = .next t ∧ t.dev.pState = 4 ∧ t.dev.mem.dram = []
        ∧ t.dev.clasp.queues = [] ∧ t.dev.clasp.cmds = [] ∧ t.dev.data.writes = [] ∧ t.dev.spindles = s.dev.spindles))
  ∧ (∀ s : State, 0 < s.dev.pState → ∃ t, exec .pmCtlWake s = .next t ∧ t.dev.power.exiting = true ∧ t.dev.power.onlyP2 = false
      ∧ t.dev.power.downTo = none ∧ getF t.dev .PM_STAT_LAST_WAKE 0 = 2 ∧ t.dev.pState = s.dev.pState
      ∧ Frame (theRegs [(.PM_STAT_LAST_WAKE, 0)]) [.power] [] [] s t)
  ∧ (∀ s : State, s.dev.pState = 0 → ∃ t, exec .pmCtlWake s = .next t ∧ t.dev.power.exiting = s.dev.power.exiting ∧ Frame noRegs [.power] [] [] s t)
  ∧ (∀ s : State, (s.dev.power.exiting = true → s.dev.power.onlyP2 = false → ∃ t, exec .powerExitDone s = .next t ∧ t.dev.pState = 0
        ∧ t.dev.power.exiting = false ∧ t.dev.clasp = s.dev.clasp ∧ t.dev.data = s.dev.data ∧ t.dev.spindles = s.dev.spindles)
      ∧ (s.dev.power.exiting = true → s.dev.power.onlyP2 = true → 3 ≤ s.dev.pState → ∃ t, exec .powerExitDone s = .next t ∧ t.dev.pState = 2
        ∧ t.dev.power.exiting = false)
      ∧ (s.dev.power.exiting = false → ∃ t, exec .powerExitDone s = .next t ∧ Frame noRegs [] [] [] s t))
  ∧ (∀ (sp : SpinId) (s : State),
      (3 ≤ s.dev.pState → s.dev.power.exiting = false → ∃ t, exec (.bayWake sp) s = .next t ∧ t.dev.power.exiting = true ∧ t.dev.power.onlyP2 = true
        ∧ getF t.dev .PM_STAT_LAST_WAKE 0 = 3 ∧ (s.dev.pcie.d3cold = true → HostMsg.wakePin ∈ t.dev.hostOut)
        ∧ (s.dev.pcie.d3cold = false → s.dev.pcie.turnedOff = false → s.dev.pcie.d3 = true → HostMsg.pme ∈ t.dev.hostOut)
        ∧ Frame (theRegs [(.PM_STAT_LAST_WAKE, 0)]) [.power] [] [] s t)
      ∧ (s.dev.pState < 3 → ∃ t, exec (.bayWake sp) s = .next t ∧ Frame noRegs [] [] [] s t))

/-- A core dip sets WRITE_INHIBIT on every head, closes its open gates, sends W_STOP to its armed spots, leaves the lasers
as they were, is counted and raised once, and ends after DIP_SETTLE; a bus dip ends so for the heads of its spindle.
LOCK_HOLD falls, and a bridge held under level S is let go, once the conditions have held for RELEASE_HOLD. CLEAR
lifts the latches of a spindle whose cause is gone, and changes nothing while it persists. The loss of the 25 MHz
reference and of the servo heartbeats take level D, with their causes. A failed core is shown, recorded and answered:
HM_1 takes the device-wide accounts of HM_0 as last saved, the commands of a Clasp core end with 0x7002, the loss of
both Crown cores takes level D. A Keeper failure drives the alarm, stops every spindle and ends every command that
needs the medium. (Supply dips, The safety functions, Reaction levels, When cores fail, When Keeper itself fails,
Diagnostics, Leaving a reaction) -/
def Obligations.KeeperDipsDoorsAndLosses : Prop :=
  (∀ s : State, s.dev.keeper.failed = false →
      (s.dev.keeper.dip = false → ∃ t, exec .coreDip s = .next t ∧ t.dev.keeper = { s.dev.keeper with dip := true, settle := 0 }
        ∧ getF t.dev .KP_STAT_CORE_DIP 0 = 1 ∧ getF t.dev .KP_DIAG_CORE_DIPS 0 = min 255 (getF s.dev .KP_DIAG_CORE_DIPS 0 + 1)
        ∧ (∀ h, ∃ stop arm req, t.dev.head h = { s.dev.head h with down := { (s.dev.head h).down with
            laserInhibit := s.dev.headLatch h || s.dev.spinLatch (spinOf h) || s.dev.devSafe, writeInhibit := true
            wStop := stop, wArm := arm, armReq := req } })
        ∧ (∀ j ∈ s.dev.data.writes, j.state = .armed → (s.dev.head j.head).down.writeInhibit = false →
            bit (t.dev.head j.head).down.wStop j.spot = true ∧ bit (t.dev.head j.head).down.wArm j.spot = false)
        ∧ (∀ h, (∀ j ∈ s.dev.data.writes, j.head = h → j.state ≠ .armed) → (t.dev.head h).down.wStop = (s.dev.head h).down.wStop
            ∧ (t.dev.head h).down.wArm = (s.dev.head h).down.wArm ∧ (t.dev.head h).down.armReq = (s.dev.head h).down.armReq)
        ∧ (∀ j ∈ t.dev.data.writes, j.state = .writing → (s.dev.head j.head).down.writeInhibit = false → j.bad = true)
        ∧ (s.dev.Hears .KP_DIP → Recorded .KP_DIP 0 [] s t)
        ∧ Frame (theRegs [(.KP_STAT_CORE_DIP, 0), (.KP_DIAG_CORE_DIPS, 0)]) [.keeper, .data] allHeads [] s t)
      ∧ (s.dev.keeper.dip = true → ∃ t, exec .coreDip s = .next t ∧ t.dev.keeper = { s.dev.keeper with settle := 0 } ∧ Frame noRegs [.keeper] [] [] s t))
  ∧ (∀ s : State, s.dev.keeper.failed = false →
      (s.dev.keeper.dip = true → getF s.dev .KP_CFG_DIP_SETTLE 0 ≤ s.dev.keeper.settle → ∃ t, exec (.dipSettleEnd none) s = .next t
        ∧ t.dev.keeper = { s.dev.keeper with dip := false } ∧ getF t.dev .KP_STAT_CORE_DIP 0 = 0
        ∧ (∀ h, (t.dev.head h).down.writeInhibit
            = (s.dev.headLatch h || s.dev.spinLatch (spinOf h) || s.dev.devSafe || (s.dev.spin (spinOf h)).keep.dip))
        ∧ Frame (theRegs [(.KP_STAT_CORE_DIP, 0)]) [.keeper, .data] allHeads [] s t)
      ∧ (s.dev.keeper.settle < getF s.dev .KP_CFG_DIP_SETTLE 0 → ∃ t, exec (.dipSettleEnd none) s = .next t ∧ Frame noRegs [] [] [] s t)
      ∧ ∀ x : SpinId, ((s.dev.spin x).keep.dip = true → getF s.dev .KP_CFG_DIP_SETTLE 0 ≤ (s.dev.spin x).keep.settle →
          ∃ t, exec (.dipSettleEnd (some x)) s = .next t
          ∧ t.dev.spin x = { s.dev.spin x with keep := { (s.dev.spin x).keep with dip := false } }
          ∧ (∀ h ∈ headsOf x, (t.dev.head h).down.writeInhibit
            = (s.dev.headLatch h || s.dev.spinLatch x || s.dev.devSafe || s.dev.keeper.dip))
          ∧ Frame noRegs [.data] (headsOf x) [x] s t)
        ∧ ((s.dev.spin x).keep.settle < getF s.dev .KP_CFG_DIP_SETTLE 0 → ∃ t, exec (.dipSettleEnd (some x)) s = .next t ∧ Frame noRegs [] [] [] s t))
  ∧ (∀ (x : SpinId) (s : State), s.dev.keeper.failed = false → ∃ t, exec (.releaseHoldExpiry x) s = .next t
      ∧ (s.dev.mayUnlock x = true → s.dev.holdTicks ≤ (s.dev.spin x).keep.doorHold →
          bit (getF t.dev .KP_LOCK_HOLD_BITS 0) x = false ∧ (t.dev.spin x).down.lockHold = false)
      ∧ ((s.dev.mayUnlock x = false ∨ (s.dev.spin x).keep.doorHold < s.dev.holdTicks) →
          getF t.dev .KP_LOCK_HOLD_BITS 0 = getF s.dev .KP_LOCK_HOLD_BITS 0 ∧ (t.dev.spin x).down.lockHold = (s.dev.spin x).down.lockHold)
      ∧ ((s.dev.spin x).keep.bridge = true → s.dev.holdTicks ≤ (s.dev.spin x).keep.slow →
          (t.dev.spin x).keep.bridge = false ∧ (t.dev.spin x).down.bridgeInhibit = false)
      ∧ ((s.dev.spin x).keep.bridge = false ∨ (s.dev.spin x).keep.slow < s.dev.holdTicks →
          (t.dev.spin x).keep = (s.dev.spin x).keep ∧ (t.dev.spin x).down.bridgeInhibit = (s.dev.spin x).down.bridgeInhibit)
      ∧ (∀ k < 32, k ≠ x.val → bit (getF t.dev .KP_LOCK_HOLD_BITS 0) k = bit (getF s.dev .KP_LOCK_HOLD_BITS 0) k)
      ∧ Frame (theRegs [(.KP_LOCK_HOLD_BITS, 0)]) [] [] [x] s t)
  ∧ (∀ s : State, s.dev.keeper.failed = false → s.dev.devSafe = false →
      (∃ t, exec .ref25Failure s = .next t ∧ LevelD 1 9 3 s t
        ∧ (s.dev.clasp.cmds = [] → s.dev.Hears .KP_DIAG_FAULT → Recorded .KP_DIAG_FAULT 0 [3] s t))
      ∧ ∃ t, exec .servoHeartbeatLoss s = .next t ∧ LevelD 1 7 0 s t
        ∧ (s.dev.clasp.cmds = [] → s.dev.Hears .KP_SF_TRIP → Recorded .KP_SF_TRIP 0 [] s t))
  ∧ (∀ s : State, (s.dev.keeper.failed = true ∨ s.dev.devSafe = true) → (∃ t, exec .ref25Failure s = .next t ∧ Frame noRegs [] [] [] s t)
      ∧ ∃ t, exec .servoHeartbeatLoss s = .next t ∧ Frame noRegs [] [] [] s t)
  ∧ (∀ (i : Fin 2) (s : State), s.dev.keeper.failed = false → bit (getF s.dev .KP_CORES_HALLMARK 0) i = false →
      ∃ t, exec (.coreHeartbeatLoss (.hallmark i)) s = .next t ∧ bit (getF t.dev .KP_CORES_HALLMARK 0) i = true
        ∧ bit (getF t.dev .KP_CORES_HALLMARK 0) (1 - i.val) = bit (getF s.dev .KP_CORES_HALLMARK 0) (1 - i.val)
        ∧ getF t.dev .KP_STAT_LAST_SF 0 = 10 ∧ getF t.dev .KP_CAUSE_CODE 0 = 10 ∧ getF t.dev .KP_CAUSE_UNIT 0 = 42 + i.val
        ∧ getF t.dev .KP_CAUSE_TIME 0 = s.dtime % 2 ^ 48 ∧ (s.dev.Hears .KP_CORE_FAIL → Recorded .KP_CORE_FAIL (42 + i.val) [] s t)
        ∧ Frame (theRegs [(.KP_CORES_HALLMARK, 0), (.KP_STAT_LAST_SF, 0), (.KP_CAUSE_CODE, 0), (.KP_CAUSE_UNIT, 0), (.KP_CAUSE_TIME, 0)]) [.accounts] [] [] s t
        ∧ t.dev.accounts = (if i = 0 ∧ bit (getF s.dev .KP_CORES_HALLMARK 0) 1 = false then s.dev.mem.ageArea.device else s.dev.accounts))
  ∧ (∀ (i : Fin 2) (s : State), s.dev.keeper.failed = false →
      (getF s.dev .KP_CORES_CROWN 0 = 0 → ∃ t, exec (.coreHeartbeatLoss (.crown i)) s = .next t ∧ getF t.dev .KP_CORES_CROWN 0 = 2 ^ i.val
        ∧ (s.dev.Hears .KP_CORE_FAIL → Recorded .KP_CORE_FAIL (44 + i.val) [] s t)
        ∧ Frame (theRegs [(.KP_CORES_CROWN, 0), (.KP_STAT_LAST_SF, 0), (.KP_CAUSE_CODE, 0), (.KP_CAUSE_UNIT, 0), (.KP_CAUSE_TIME, 0)]) [] [] [] s t)
      ∧ (getF s.dev .KP_CORES_CROWN 0 = 2 ^ (1 - i.val) → s.dev.devSafe = false → ∃ t, exec (.coreHeartbeatLoss (.crown i)) s = .next t
        ∧ t.dev.crownDead = true ∧ LevelD 1 10 (44 + i.val) s t))
  ∧ (∀ (i : Fin 6) (s : State), s.dev.keeper.failed = false → bit (getF s.dev .KP_CORES_CLASP 0) i = false →
      ∃ t, exec (.coreHeartbeatLoss (.clasp i)) s = .next t ∧ bit (getF t.dev .KP_CORES_CLASP 0) i = true
        ∧ (∀ c ∈ t.dev.clasp.cmds, c.qid % 6 ≠ i.val)
        ∧ (s.dev.clasp.disabling = false → ∀ c ∈ s.dev.clasp.cmds, c.qid % 6 = i.val → ∀ p, s.dev.pair? c.qid = some p →
            ∃ a count head idx logged phase, HostMsg.write a (cqEntry c.e.tag 0x7002 count head idx logged phase) ∈ t.dev.hostOut))
  ∧ (∀ (x : SpinId) (s : State), s.dev.spinFree x = true → s.dev.spinLatch x = true → s.dev.keeper.failed = false →
      (s.dev.causeGone x = true → (s.dev.spinLatchS x = true → (s.dev.spin x).keep.bridge = false) → s.dev.strict = false → ∃ t, exec (.clear x) s = .next t
        ∧ t.dev.spinLatch x = false ∧ t.dev.spinLatchS x = false ∧ (t.dev.spin x).down.bridgeInhibit = false
        ∧ (s.dev.torcState x = 10 → (t.dev.torc x).cleared = true)
        ∧ (∀ h ∈ headsOf x, (t.dev.head h).down.laserInhibit = s.dev.headLatch h)
        ∧ Frame (theRegs [(.KP_SPIN_L_BITS, 0), (.KP_SPIN_S_BITS, 0), (.KP_PERMIT_BITS, 0)]) [.data] (headsOf x) [x] s t)
      ∧ (s.dev.causeGone x = false → ∃ t, exec (.clear x) s = .next t ∧ Frame noRegs [] [] [] s t))
  ∧ (∀ s : State, (s.dev.keeper.failed = false → ∃ t, exec .keeperFailure s = .next t ∧ t.dev.keeper = { s.dev.keeper with failed := true }
        ∧ getF t.dev .KP_STAT_ALARM 0 = 1 ∧ (∀ x : SpinId, getF t.dev .TQ_CTL_RUN x = 0 ∧ bit (getF t.dev .KP_PERMIT_BITS 0) x = false
          ∧ t.dev.spinCmds x = [])
        ∧ (s.dev.clasp.cmds = [] → s.dev.Hears .KP_KEEPER_FAIL → Recorded .KP_KEEPER_FAIL 0 [] s t))
      ∧ (s.dev.keeper.failed = true → ∃ t, exec .keeperFailure s = .next t ∧ Frame noRegs [] [] [] s t))

/-- A speed window that ends counts overspeed, failed sources and disagreement; the second window in a row above 3,300
rpm, and the tenth with both sources failed in RUN or DECEL, take level S on the spindle with the cause SF-A, and an
ordinary window takes nothing. Two sensors of four at 110 °C in two samples in a row take level X, and 16 Ticks later
the PLL stops. The report of a loaded strategy bank that agrees settles it; the third in a row that does not makes the
head unable to write. The report of applied corrections, once the pendant has answered them, puts the pending settings
into the registers. Samples lost by a FIFO become erasures, with one event in the sector; the commands that any other
overflow concerns are ended. (The safety functions, Diagnostics, Reaction levels, Applying corrections, Write
strategy, Clock domains and crossings) -/
def Obligations.SpeedDiesAndPendantReports : Prop :=
  (∀ (x : SpinId) (s : State), (s.dev.keeper.failed = true ∨ ∃ n, (s.dev.spin x).keep.winAt = some n ∧ tickOf s.dtime < n + 40) →
      ∃ t, exec (.speedWindow x) s = .next t ∧ Frame noRegs [] [] [] s t)
  ∧ (∀ (x : SpinId) (v : Nat) (s : State), s.dev.keeper.failed = false → (∀ n, (s.dev.spin x).keep.winAt = some n → n + 40 ≤ tickOf s.dtime) →
      (s.dev.torcSource x = some v → v ≤ 3300 → (∀ y ∈ s.dev.bailSource x, y.1 ≤ 3300 * y.2 ∧ speedsApart v y = false) →
        ∃ t, exec (.speedWindow x) s = .next t ∧ (t.dev.spin x).keep.ovr = 0 ∧ (t.dev.spin x).keep.failBoth = 0 ∧ (t.dev.spin x).keep.apart = 0
          ∧ (t.dev.spin x).keep.winAt = some (tickOf s.dtime)
          ∧ (30 ≤ v → (t.dev.spin x).keep.slow = 0)
          ∧ (v < 30 → s.dev.bailSource x ≠ [] → (∀ y ∈ s.dev.bailSource x, y.1 < 30 * y.2) →
              (t.dev.spin x).keep.slow = (s.dev.spin x).keep.slow + 40)
          ∧ (∀ h ∈ headsOf x, (t.dev.head h).keep.winTotal = (s.dev.head h).link.sampleTotal)
          ∧ Frame noRegs [] (headsOf x) [x] s t)
      ∧ (s.dev.spinLatch x = false → s.dev.spinLatchS x = false →
          ((s.dev.torcSource x = some v ∧ 3300 < v) ∨ ∃ y ∈ s.dev.bailSource x, 3300 * y.2 < y.1) →
          ((s.dev.spin x).keep.ovr = 0 → s.dev.torcSource x = some v → (∀ y ∈ s.dev.bailSource x, speedsApart v y = false) →
            ∃ t, exec (.speedWindow x) s = .next t ∧ (t.dev.spin x).keep.ovr = 1 ∧ Frame noRegs [] (headsOf x) [x] s t)
          ∧ (1 ≤ (s.dev.spin x).keep.ovr → ∃ t, exec (.speedWindow x) s = .next t ∧ LevelS 1 x x s t
            ∧ (s.dev.clasp.cmds = [] → s.dev.Hears .KP_SF_TRIP → Recorded .KP_SF_TRIP x [] s t)))
      ∧ (s.dev.spinLatch x = false → s.dev.spinLatchS x = false → s.dev.torcSource x = none → s.dev.bailSource x = [] →
          (9 ≤ (s.dev.spin x).keep.failBoth → (s.dev.torcState x = 5 ∨ s.dev.torcState x = 6) →
            ∃ t, exec (.speedWindow x) s = .next t ∧ LevelS 1 x x s t)
          ∧ ((s.dev.spin x).keep.failBoth < 9 → ∃ t, exec (.speedWindow x) s = .next t
            ∧ (t.dev.spin x).keep.failBoth = (s.dev.spin x).keep.failBoth + 1 ∧ Frame noRegs [] (headsOf x) [x] s t)))
  ∧ (∀ (temps : List Nat) (hot : Nat) (s : State), s.dev.keeper.failed = false → (∀ n, s.dev.keeper.dieAt = some n → n + 40 ≤ tickOf s.dtime) →
      s.dev.keeper.broken = [false, false, false, false] → (∀ i < 4, deadCode (temps.getD i 0) = false) →
      (∀ i < 4, ∀ j < 4, toSigned 16 (temps.getD i 0) - toSigned 16 (temps.getD j 0) ≤ 768) →
      hot = ((List.range 4).filter fun i => decide (14080 ≤ toSigned 16 (temps.getD i 0))).length →
      ((hot < 2 ∨ s.dev.keeper.hotRun = 0) → ∃ t, exec (.dieSensorSample temps) s = .next t
          ∧ t.dev.keeper = { s.dev.keeper with dieAt := some (tickOf s.dtime), apart := [0, 0, 0, 0], hotRun := if hot < 2 then 0 else 1 }
          ∧ Frame noRegs [.keeper] [] [] s t)
      ∧ (2 ≤ hot → 1 ≤ s.dev.keeper.hotRun → s.dev.devSafe = false → ∃ t, exec (.dieSensorSample temps) s = .next t ∧ LevelD 2 8 0 s t
          ∧ (s.dev.keeper.xAge = none → t.dev.keeper.xAge = some 0)
          ∧ (s.dev.clasp.cmds = [] → s.dev.Hears .KP_SF_TRIP → Recorded .KP_SF_TRIP 0 [] s t)))
  ∧ (∀ (temps : List Nat) (s : State), (s.dev.keeper.failed = true ∨ ∃ n, s.dev.keeper.dieAt = some n ∧ tickOf s.dtime < n + 40) →
      ∃ t, exec (.dieSensorSample temps) s = .next t ∧ Frame noRegs [] [] [] s t)
  ∧ (∀ s : State, (∀ n, s.dev.keeper.xAge = some n → 16 ≤ n → ∃ t, exec .shutdownPllStop s = .next t
        ∧ t.dev.keeper = { s.dev.keeper with pllStopped := true }
        ∧ (∀ h, t.dev.head h = { s.dev.head h with wire := [] }) ∧ (∀ x, t.dev.spin x = { s.dev.spin x with wire := [] })
        ∧ Frame noRegs [.keeper] allHeads allSpins s t)
      ∧ ((∀ n, s.dev.keeper.xAge = some n → n < 16) → ∃ t, exec .shutdownPllStop s = .next t ∧ Frame noRegs [] [] [] s t))
  ∧ (∀ (h : HeadId) (b : Fin 2) (crc : Nat) (k : WsBank) (s : State), (s.dev.head h).banks[b] = k →
      ((k.layer = none ∨ k.next < 8) → ∃ t, exec (.bankReport h b crc) s = .next t
        ∧ t.dev.head h = { s.dev.head h with banks := (s.dev.head h).banks.set b { k with crc := some (crc % 256) } } ∧ Frame noRegs [] [h] [] s t)
      ∧ ∀ layer, k.layer = some layer → 8 ≤ k.next →
          (s.dev.wsCrc h layer = crc % 256 → ∃ t, exec (.bankReport h b crc) s = .next t
            ∧ t.dev.head h = { s.dev.head h with banks := (s.dev.head h).banks.set b { k with crc := some (crc % 256), misses := 0 } }
            ∧ Frame noRegs [] [h] [] s t)
          ∧ (s.dev.wsCrc h layer ≠ crc % 256 → k.misses < 2 → ∃ t, exec (.bankReport h b crc) s = .next t
            ∧ t.dev.head h = { s.dev.head h with banks := (s.dev.head h).banks.set b { k with crc := none, next := 0, misses := k.misses + 1 } }
            ∧ Frame noRegs [] [h] [] s t)
          ∧ (s.dev.wsCrc h layer ≠ crc % 256 → 2 ≤ k.misses → ∃ t, exec (.bankReport h b crc) s = .next t
            ∧ t.dev.head h = { s.dev.head h with
                noWrite := true, banks := (s.dev.head h).banks.set b { k with crc := some (crc % 256), misses := k.misses + 1 } }
            ∧ ((s.dev.head h).noWrite = false → s.dev.Hears .FC_WS_CHECK → Recorded .FC_WS_CHECK h [] s t) ∧ Frame noRegs [] [h] [] s t))
  ∧ (∀ (h : HeadId) (stripe : Nat) (s : State),
      ((s.dev.head h).hallmark.corrPend = true → (∀ r ∈ (s.dev.port (.head h)).mbox, r.purpose ≠ .correction) →
        ∃ t, exec (.correctionAppliedReport h stripe) s = .next t
        ∧ (∀ x ∈ adcFields h, getF t.dev x.1 x.2 = (match pendF s.dev x.1 x.2 with | some v => v % 2 ^ x.1.info.width | none => getF s.dev x.1 x.2))
        ∧ Frame (fun f i => (f, i) ∈ adcFields h) [.rvPend, .hmPend, .freeIdx] [h] [] s t)
      ∧ (((s.dev.head h).hallmark.corrPend = false ∨ ∃ r ∈ (s.dev.port (.head h)).mbox, r.purpose = .correction) →
        ∃ t, exec (.correctionAppliedReport h stripe) s = .next t ∧ Frame noRegs [] [] [] s t))
  ∧ (∀ (h : HeadId) (spot : SpotId) (a b : Nat) (old : List (Int × Bool)) (s : State), (s.dev.head h).facet.lanes[spot].xs = old →
      ((s.dev.head h).facet.inSector = true → ∃ t, exec (.fifoOverflow (.sample h spot a b)) s = .next t
        ∧ (t.dev.head h).facet.lanes[spot].xs.length = old.length
        ∧ (∀ k < old.length, (t.dev.head h).facet.lanes[spot].xs[old.length - 1 - k]?
            = if a ≤ k ∧ k ≤ b then some (0, true) else old[old.length - 1 - k]?)
        ∧ ((s.dev.head h).facet.lanes[spot].overflowRaised = false → s.dev.Hears .HL_SAMPLE_OVERFLOW → Recorded .HL_SAMPLE_OVERFLOW h [] s t)
        ∧ (t.dev.head h).facet.lanes[spot].overflowRaised = true ∧ Frame noRegs [] [h] [] s t)
      ∧ ((s.dev.head h).facet.inSector = false → ∃ t, exec (.fifoOverflow (.sample h spot a b)) s = .next t ∧ Frame noRegs [] [] [] s t))
  ∧ (∀ (n : Nat) (cmds : List (Nat × Nat)) (s : State), ∃ t, exec (.fifoOverflow (.other n cmds)) s = .next t
      ∧ (∀ x ∈ cmds, t.dev.cmd? x.1 x.2 = none)
      ∧ (cmds = [] → Frame noRegs [] [] [] s t ∧ (s.dev.Hears .SY_FIFO_OVERFLOW → Recorded .SY_FIFO_OVERFLOW 0 [n] s t)))

/-- COLD_POWER_ON clears DTIME and samples the straps. RESET_N and the release of the core supply supervisor are kind B:
every register keeps or loses its value by its Survives column, DRAM, queue pairs and the stage are gone, SEQ and the
ageing accounts go on from the journal, and the boot ROM starts under the straps. A host reset and a function-level
reset after start-up end every command without a completion, keep or lose registers likewise, and raise SY_HOST_RESET
with the kind and the number ended. SOFT_RESET completes, deletes every pair and ends level D once no device-level
cause is left. The boot ROM tries slot 0, slot 1, recovery, with code 10 where the NOR cannot be read; DRAM training,
the self-test and STARTUP_COMPLETE follow. A configuration request answers the identity, BAR0 of 64 MiB, BAR2 of 64
bits, no further BAR or expansion ROM and Interrupt Pin 0 once the device is ready, retry status before. ATTEST writes
the message of the nonce. A token unlocks only with every check passed; the strict profile keeps bit 0 away. (Reset
kinds, What survives, Start-up timeline, Straps, Identity and attestation, Debug unlock, Flash layout and image,
Leaving a reaction, The power ladder) -/
def Obligations.ResetsAndStartUp : Prop :=
  (∀ (x : Straps) (s : State), ∃ t, exec (.coldPowerOn x) s = .next t ∧ t.dtime = 0 ∧ t.pending = s.pending
      ∧ getF t.dev .SY_RESET_LAST 0 = 1 ∧ getF t.dev .SY_NODE_NODE_LO 0 = x.node.val ∧ getF t.dev .KP_STAT_PROFILE 0 = b2n x.safe
      ∧ (∀ f i, f ∉ ([.SY_RESET_LAST, .SY_NODE_NODE_LO, .KP_STAT_PROFILE, .MSIX_PBA_BITS, .LK_FUSE_STAT_LIFECYCLE,
            .LK_FUSE_STAT_DEBUG_DISABLE, .LK_FUSE_STAT_OWNER_VALID, .LK_FUSE_STAT_OWNER_REVOKED, .LK_FUSE_STAT_OWNER_SPOILED,
            .LK_BOOT_STAT_ROLLBACK, .LK_BOOT_STAT_FAIL0, .LK_BOOT_STAT_FAIL1] : List Fld) →
          getF t.dev f i = if f.info.survives.through .c then getF s.dev f i else f.resetVal i)
      ∧ t.dev.mem.dram = [] ∧ t.dev.clasp.queues = [] ∧ t.dev.clasp.cmds = [] ∧ t.dev.locket.nor = s.dev.locket.nor
      ∧ t.dev.cameo.journal = s.dev.cameo.journal ∧ t.dev.cameo.seqNext = s.dev.cameo.seqJournal + 1
      ∧ t.dev.locket.stage = (if x.boot.val = 2 ∨ (x.boot.val = 3 ∧ s.dev.locket.lifecycle = 1) then .recovery else .rom))
  ∧ (∀ (supply : Bool) (c : Instr) (s : State), c = (if supply then .supervisorRelease else .resetN) → s.dev.locket.stage ≠ .off → ∃ t, exec c s = .next t
      ∧ getF t.dev .SY_RESET_LAST 0 = 2 ∧ getF t.dev .SY_RESET_SUPPLY 0 = b2n supply
      ∧ getF t.dev .SY_NODE_NODE_LO 0 = s.dev.locket.strapNode % 16 ∧ getF t.dev .KP_STAT_PROFILE 0 = b2n s.dev.locket.strapSafe
      ∧ (∀ f i, f ∉ ([.SY_RESET_LAST, .SY_RESET_SUPPLY, .SY_NODE_NODE_LO, .KP_STAT_PROFILE, .MSIX_PBA_BITS, .LK_FUSE_STAT_LIFECYCLE,
            .LK_FUSE_STAT_DEBUG_DISABLE, .LK_FUSE_STAT_OWNER_VALID, .LK_FUSE_STAT_OWNER_REVOKED, .LK_FUSE_STAT_OWNER_SPOILED,
            .LK_BOOT_STAT_ROLLBACK, .LK_BOOT_STAT_FAIL0, .LK_BOOT_STAT_FAIL1] : List Fld) →
          getF t.dev f i = if f.info.survives.through .b then getF s.dev f i else f.resetVal i)
      ∧ t.dev.mem.dram = [] ∧ t.dev.clasp.queues = [] ∧ t.dev.clasp.cmds = [] ∧ t.dev.data.writes = [] ∧ t.dev.data.reads = []
      ∧ t.dev.cameo.stage = [] ∧ t.dev.cameo.journal = s.dev.cameo.journal ∧ t.dev.cameo.seqNext = s.dev.cameo.seqJournal + 1
      ∧ (∀ h, (t.dev.head h).link = { port := { stored := (s.dev.head h).link.port.stored } } ∧ (t.dev.head h).down = {}
            ∧ (t.dev.head h).motion = {} ∧ (t.dev.head h).hallmark = { accounts := s.dev.mem.ageArea.heads.getD h.val {} })
      ∧ t.dev.accounts = s.dev.mem.ageArea.device ∧ t.dev.lifeClock = s.dev.mem.ageArea.clock
      ∧ t.dev.locket.nor = s.dev.locket.nor ∧ t.dev.locket.rollback = s.dev.locket.rollback ∧ t.dev.locket.perms = 0
      ∧ t.dev.locket.stage = (if s.dev.locket.strapBoot = 2 ∨ (s.dev.locket.strapBoot = 3 ∧ s.dev.locket.lifecycle = 1) then .recovery else .rom))
  ∧ (∀ (flr : Bool) (c : Instr) (s : State), c = (if flr then .functionLevelReset else .hostReset) →
      ((getF s.dev .KP_STAT_DEV 0 = 2 ∨ s.dev.locket.stage = .off) → ∃ t, exec c s = .next t ∧ Frame noRegs [] [] [] s t)
      ∧ (getF s.dev .KP_STAT_DEV 0 ≠ 2 → s.dev.locket.stage ≠ .off → s.dev.locket.stage ≠ .done → ∃ t, exec c s = .next t
          ∧ t.dev.pcie = (if flr then s.dev.pcie else { s.dev.pcie with linkUp := false, l0 := none }) ∧ Frame noRegs [.pcie] [] [] s t)
      ∧ (getF s.dev .KP_STAT_DEV 0 ≠ 2 → s.dev.locket.stage = .done → ∃ t, exec c s = .next t
          ∧ getF t.dev .SY_RESET_LAST 0 = (if flr then 4 else 3)
          ∧ getF t.dev .SY_RESET_HOST_RESETS 0 = min 65535 (getF s.dev .SY_RESET_HOST_RESETS 0 + 1)
          ∧ (∀ f i, f ∉ ([.SY_RESET_LAST, .SY_RESET_HOST_RESETS, .PM_STAT_D3, .MSIX_PBA_BITS] : List Fld) →
              (f.info.survives.through (if flr then .f else .h) = true → getF t.dev f i = getF s.dev f i)
              ∧ (f.info.survives.through (if flr then .f else .h) = false → (∀ p ∈ s.dev.locket.image, fldOf p.1 ≠ f) → getF t.dev f i = f.resetVal i))
          ∧ t.dev.clasp.queues = [] ∧ t.dev.clasp.cmds = [] ∧ t.dev.clasp.locks = [] ∧ t.dev.pcie.linkUp = (flr && s.dev.pcie.linkUp)
          ∧ getF t.dev .PM_STAT_D3 0 = 0 ∧ t.dev.cameo.journal = s.dev.cameo.journal ∧ t.dev.keeper = s.dev.keeper
          ∧ (∀ h, opticalMode (s.dev.mode h) = true → (t.dev.head h).motion.wantSafe = true)
          ∧ (s.dev.Hears .SY_HOST_RESET → Recorded .SY_HOST_RESET 0 [if flr then 4 else 3, s.dev.clasp.cmds.length] s t)))
  ∧ (∀ (tag : Nat) (c : Cmd) (p : QueuePair) (s : State), s.dev.admin? tag 0x1D = some c → s.dev.pair? 0 = some p → getF s.dev .KP_STAT_DEV 0 ≠ 2 →
      ∃ t, exec (.softReset tag) s = .next t ∧ t.dev.clasp.queues = [] ∧ t.dev.clasp.cmds = [] ∧ getF t.dev .CL_STAT_RDY 0 = 0
        ∧ getF t.dev .SY_RESET_LAST 0 = 5
        ∧ (∃ idx logged, HostMsg.write (p.cqBase + 16 * p.cqTail) (cqEntry tag 0 0 c.sqHead idx logged p.phase) ∈ t.dev.hostOut)
        ∧ (getF s.dev .KP_STAT_DEV 0 = 1 → s.dev.keeper.failed = false → s.dev.deviceCause = false →
            getF t.dev .KP_STAT_DEV 0 = 0 ∧ getF t.dev .KP_STAT_ALARM 0 = 0)
        ∧ (s.dev.deviceCause = true → getF t.dev .KP_STAT_DEV 0 = getF s.dev .KP_STAT_DEV 0))
  ∧ (∀ (code : Nat) (s : State), s.dev.locket.stage = .rom →
      (getF s.dev .LK_BOOT_STAT_FAIL0 0 = 0 → code = s.dev.bootCode 0 → code ≠ 0 → ∃ t, exec .bootImageVerified s = .next t
          ∧ getF t.dev .LK_BOOT_STAT_FAIL0 0 = code ∧ t.dev.locket = { s.dev.locket with nvLow := false }
          ∧ Frame (theRegs [(.LK_BOOT_STAT_FAIL0, 0)]) [.freeIdx, .locket] [] [] s t)
      ∧ (getF s.dev .LK_BOOT_STAT_FAIL0 0 ≠ 0 → code = s.dev.bootCode 1 → code ≠ 0 → ∃ t, exec .bootImageVerified s = .next t
          ∧ getF t.dev .LK_BOOT_STAT_FAIL1 0 = code ∧ t.dev.locket = { s.dev.locket with stage := .recovery, nvLow := false }
          ∧ Frame (theRegs [(.LK_BOOT_STAT_FAIL1, 0)]) [.freeIdx, .locket] [] [] s t)
      ∧ (∀ slot, slot = (if getF s.dev .LK_BOOT_STAT_FAIL0 0 = 0 then 0 else 1) → ∃ t, exec .bootImageVerified s = .next t
          ∧ (s.dev.bootCode slot = 0 → t.dev.locket.stage = .dram ∧ t.dev.locket.header = s.dev.locket.read (slotBase slot) 4564
              ∧ t.dev.locket.nor = s.dev.locket.nor)))
  ∧ (∀ s : State, (s.dev.locket.stage = .dram → ∃ t, exec .dramTrainingDone s = .next t ∧ t.dev.locket = { s.dev.locket with stage := .cores }
        ∧ (s.dev.locket.factory = false → getF t.dev .LK_BOOT_STAT_LOCKED 0 = 1)
        ∧ (s.dev.locket.factory = true → getF t.dev .LK_BOOT_STAT_LOCKED 0 = getF s.dev .LK_BOOT_STAT_LOCKED 0)
        ∧ Frame (theRegs [(.LK_BOOT_STAT_LOCKED, 0)]) [.locket] [] [] s t)
      ∧ (s.dev.locket.stage = .links → ∃ t, exec .startupComplete s = .next t ∧ t.dev.locket = { s.dev.locket with stage := .done }
        ∧ Frame noRegs [.locket] [] [] s t)
      ∧ (s.dev.locket.factory = true → s.dev.locket.stage = .done → ∃ t, exec .lock s = .next t ∧ getF t.dev .LK_BOOT_STAT_LOCKED 0 = 1
        ∧ Frame (theRegs [(.LK_BOOT_STAT_LOCKED, 0)]) [] [] [] s t)
      ∧ (s.dev.locket.factory = false → ∃ t, exec .lock s = .next t ∧ Frame noRegs [] [] [] s t))
  ∧ (∀ (failed : List BezelId) (s : State), s.dev.locket.stage = .cores → ∃ t, exec (.coreSelfTestDone failed) s = .next t
      ∧ t.dev.locket = { s.dev.locket with stage := .links } ∧ (∀ b ∈ failed, getF t.dev .BZ_FAULT_FAILED b = 1)
      ∧ (∀ slot, failed = [] → s.dev.mgmt.slot = some slot → getF s.dev .LK_BOOT_STAT_RECOVERY 0 = 1 → s.dev.Hears .MG_RECOVERY_WRITE →
          Recorded .MG_RECOVERY_WRITE 0 [slot, getF s.dev .LK_BOOT_STAT_SVN 0] s t))
  ∧ (∀ s : State, s.dev.locket.stage ≠ .off → ∃ t, exec .pcieLinkUp s = .next t
      ∧ t.dev.pcie = { s.dev.pcie with linkUp := true, l0 := s.dev.pcie.l0.or (some s.dtime) } ∧ Frame noRegs [.pcie, .libTime] [] [] s t)
  ∧ (∀ s : State, (s.dev.pState = 4 → ∃ t, exec .perstDeassert s = .next t ∧ getF t.dev .PM_STAT_D3 0 = 0 ∧ t.dev.power.exiting = true
        ∧ getF t.dev .PM_STAT_LAST_WAKE 0 = 5 ∧ t.dev.pcie = { s.dev.pcie with d3 := false, turnedOff := false, d3cold := false }
        ∧ Frame (theRegs [(.PM_STAT_D3, 0), (.PM_STAT_LAST_WAKE, 0)]) [.pcie, .power] [] [] s t)
      ∧ (s.dev.pState ≠ 4 → ∃ t, exec .perstDeassert s = .next t ∧ Frame noRegs [] [] [] s t))
  ∧ (∀ s : State, s.dev.pcie.linkUp = true →
      (s.dev.configReady s.dtime = true →
        (∀ reg, ∃ t, exec (.configRequest reg) s = .next t ∧ HostMsg.config (some (s.dev.configWord reg).1) ∈ t.dev.hostOut
          ∧ Frame noRegs [.freeIdx] [] [] s t)
        ∧ (∀ x ∈ [(0, 0xA1281F3D), (2, 0x01800021), (6, 0xC), (8, 0), (9, 0), (12, 0)], (s.dev.configWord x.1).1 = x.2)
        ∧ bits (s.dev.configWord 4).1 25 0 = 4 ∧ bits (s.dev.configWord 15).1 15 8 = 0)
      ∧ (s.dev.configReady s.dtime = false → ∀ reg, ∃ t, exec (.configRequest reg) s = .next t ∧ HostMsg.config none ∈ t.dev.hostOut
          ∧ Frame noRegs [] [] [] s t))
  ∧ (∀ (s : State) (n : Nat), s.dev.pcie.l0 = some n → s.dev.locket.stage = .done → s.dev.pcie.afterH = false →
      (s.dev.configReady s.dtime = true ↔ n + 1000000 ≤ s.dtime))
  ∧ (∀ (tag : Nat) (host : List Byte) (c : Cmd) (s : State), s.dev.admin? tag 0x1A = some c → (s.dev.pair? 0).isSome = true →
      (bits c.e.arg 7 0 = 0 → 3156 ≤ c.e.len → c.e.sgl = false → c.recs = [] → ∃ t, exec (.attest tag host) s = .next t
          ∧ HostMsg.write c.e.dptr (s.dev.attestation s.dtime (host.take 32)) ∈ t.dev.hostOut ∧ Completed 0 tag 0 0 s t)
      ∧ ((1 < bits c.e.arg 7 0 ∨ (bits c.e.arg 7 0 = 0 ∧ c.e.len < 3156)) → ∃ t, exec (.attest tag host) s = .next t ∧ Completed 0 tag 0x1002 0 s t))
  ∧ (∀ (tok : List Byte) (key : Nat) (s : State), key = leAt tok 4 1 →
      (s.dev.locket.debugDisable = false → tok.length = 3804 → leAt tok 0 4 = 0x4B4F5444 → leAt tok 6 2 = 0 →
        cut tok 40 32 = s.dev.locket.challenge → s.dev.locket.keyOk key = true →
        ∃ t, exec (.debugToken tok) s = .next t
          ∧ (cut tok 8 32 = s.dev.locket.deviceId → Config.sha3 (cut tok 72 1312) = s.dev.locket.keyHash key →
              Config.mldsaVerify (cut tok 72 1312) (tok.take 1384) (cut tok 1384 2420) = true → getF t.dev .LK_BOOT_STAT_DEBUG 0 = 1
              ∧ ∀ k, bit t.dev.locket.perms k = (bit s.dev.locket.perms k || (decide (k < 2) && bit (leAt tok 5 1) k && !(s.dev.strict && k == 0))))
          ∧ Frame (theRegs [(.LK_BOOT_STAT_DEBUG, 0)]) [.locket] [] [] s t)
      ∧ ((s.dev.locket.debugDisable = true ∨ tok.length ≠ 3804 ∨ cut tok 8 32 ≠ s.dev.locket.deviceId ∨ cut tok 40 32 ≠ s.dev.locket.challenge
          ∨ s.dev.locket.keyOk key = false ∨ Config.mldsaVerify (cut tok 72 1312) (tok.take 1384) (cut tok 1384 2420) = false) →
          ∃ t, exec (.debugToken tok) s = .next t ∧ Frame noRegs [] [] [] s t))

/-- A suppressed count that has waited 400 M-ticks is reported by one CM_SUPPRESSED record with the code, the count and
the two times; a drain moves the oldest records of the stage to the journal. EVENT_READ writes LEN records of 32 bytes
from the named SEQ, zeros for those not held, and counts those held; CLEAR frees them; with both Crown cores failed it
ends with 0x7002. IDENT, STATUS, HEALTH, EVENTS, WAKE and AMBIENT answer in the form of R448, in recovery as it says.
IMG_BEGIN erases its slot, IMG_DATA writes its bytes, NV_RESET_N low for 10 µs, IMG_END checks the slot: only in
recovery; a NOR that fails gives STATUS 4, nothing being written, or at IMG_END code 10. A response waits until it is
read, and STATUS 1 tells that none is ready. A bad request is answered with its STATUS, a PEC error is only counted.
(Admission and rate limits, Stage and journal, Management port, The record, Registers) -/
def Obligations.EventRecordsAndManagementPort : Prop :=
  (∀ (code : Nat) (x : Suppressed) (s : State), s.dev.cameo.raised = [] → s.dev.crownDead = false → s.dev.cameo.stopped = false →
      s.dev.cameo.suppressed.find? (·.code == code) = some x → 400 ≤ x.age → s.dev.cameo.stage.length < 4096 →
      ∃ t, exec (.suppressedTimeout code) s = .next t
        ∧ t.dev.cameo.stage = s.dev.cameo.stage ++ [⟨s.dev.cameo.seqNext, 0xE001, 0, 18 * 128, s.dtime,
            [code, x.count, x.first % 2 ^ 32, x.last % 2 ^ 32]⟩]
        ∧ t.dev.cameo.suppressed = s.dev.cameo.suppressed.filter (·.code != code) ∧ t.dev.cameo.seqNext = s.dev.cameo.seqNext + 1
        ∧ Frame noRegs [] [] [] s t)
  ∧ (∀ (code : Nat) (s : State), s.dev.cameo.raised = [] → (∀ x ∈ s.dev.cameo.suppressed, x.code = code → x.age < 400) →
      ∃ t, exec (.suppressedTimeout code) s = .next t ∧ t.dev.cameo.stage = s.dev.cameo.stage ∧ t.dev.cameo.suppressed = s.dev.cameo.suppressed
        ∧ Frame noRegs [] [] [] s t)
  ∧ (∀ (n : Nat) (s : State), s.dev.cameo.raised = [] → ∃ t, exec (.stageDrain n) s = .next t ∧ t.dev.cameo.stage = s.dev.cameo.stage.drop n
      ∧ t.dev.cameo.journal = s.dev.cameo.journal ++ s.dev.cameo.stage.take n ∧ (∀ r ∈ s.dev.cameo.stage.take n, r.seq ≤ t.dev.cameo.seqJournal)
      ∧ s.dev.cameo.seqJournal ≤ t.dev.cameo.seqJournal ∧ t.dev.cameo.seqNext = s.dev.cameo.seqNext ∧ Frame noRegs [] [] [] s t)
  ∧ (∀ (tag first : Nat) (c : Cmd) (found : List (Option EventRec)) (s : State), s.dev.admin? tag 0x1B = some c → (s.dev.pair? 0).isSome = true →
      (s.dev.crownDead = true → ∃ t, exec (.eventRead tag) s = .next t ∧ Completed 0 tag 0x7002 0 s t)
      ∧ (s.dev.crownDead = false → c.e.sgl = false → c.recs = [] → 0 < c.e.len → first = bits c.e.arg 31 0 →
        found = (List.range c.e.len).map (fun i => s.dev.cameo.log.find? (·.seq == first + i)) →
        ∃ t, exec (.eventRead tag) s = .next t ∧ Completed 0 tag 0 (found.filterMap id).length s t
          ∧ HostMsg.write c.e.dptr (found.flatMap fun x => match x with | some r => r.bytes | none => zeros 32) ∈ t.dev.hostOut
          ∧ (bit c.e.arg 63 = false → t.dev.cameo.journal = s.dev.cameo.journal)
          ∧ (bit c.e.arg 63 = true → ∀ r, some r ∈ found → ∀ x ∈ t.dev.cameo.journal, r.seq < x.seq)))
  ∧ (∀ r : EventRec, r.bytes.length = 32 ∧ leAt r.bytes 0 4 = r.seq % 2 ^ 32 ∧ leAt r.bytes 4 2 = r.code % 2 ^ 16 ∧ leAt r.bytes 8 8 = r.dtime % 2 ^ 64
      ∧ (r.severity < 16 → r.source < 4096 → leAt r.bytes 6 2 = r.severity * 4096 + r.source))
  ∧ (∀ s : State, s.dev.portServed = false → ∀ c ∈ ([.ident, .status, .health 0 0, .events 0, .mgWake, .ambient 0, .imgBegin 0, .imgData 0 [], .imgEnd,
        .managementRequestBad .pec] : List Instr), ∃ t, exec c s = .next t ∧ Frame noRegs [] [] [] s t)
  ∧ (∀ s : State, s.dev.portServed = true → ∃ t, exec .ident s = .next t
      ∧ Answered 1 0 (bytesLE 2 (if s.dev.inRecovery then s.dev.node % 16 else s.dev.node) ++ [0x21] ++ bytesLE 4 (regHeld s.dev .LK_BOOT_STAT 0)
          ++ s.dev.locket.deviceId) s t
      ∧ Frame (theRegs [(.MG_STAT_MSGS, 0), (.MG_STAT_LAST_OP, 0)]) [.mgmt] [] [] s t)
  ∧ (∀ s : State, s.dev.portServed = true → ∃ t, exec .status s = .next t
      ∧ (s.dev.inRecovery = true → Answered 2 0 (zeros 8 ++ bytesLE 4 s.dev.cameo.newest) s t)
      ∧ (s.dev.inRecovery = false → Answered 2 0 (bytesLE 1 (getF s.dev .PM_STAT_STATE 0) ++ bytesLE 1 (getF s.dev .TH_STAT_STEP 0)
          ++ bytesLE 1 (getF s.dev .TH_STAT_SRC 0) ++ bytesLE 1 (getF s.dev .KP_STAT_DEV 0) ++ bytesLE 1 (getF s.dev .KP_STAT_LAST_SF 0)
          ++ bytesLE 1 (getF s.dev .CL_STAT_RDY 0) ++ bytesLE 2 (ofSigned 16 s.dev.hottestDie) ++ bytesLE 4 s.dev.cameo.newest) s t)
      ∧ Frame (theRegs [(.MG_STAT_MSGS, 0), (.MG_STAT_LAST_OP, 0)]) [.mgmt] [] [] s t)
  ∧ (∀ (kind index : Nat) (s : State), s.dev.portServed = true → ∃ t, exec (.health kind index) s = .next t
      ∧ (s.dev.inRecovery = true → Answered 3 3 [] s t)
      ∧ (s.dev.inRecovery = false → kind = 0 → index = 0 → ∃ zone, Answered 3 0 (bytesLE 2 (getF s.dev .HM_DEV_LIFE_DAYS 0)
          ++ bytesLE 1 (getF s.dev .HM_DEV_LIFE_LIMIT 0) ++ bytesLE 2 zone) s t)
      ∧ (s.dev.inRecovery = false → kind = 1 → index < 32 → Answered 3 0 (bytesLE 2 (getF s.dev .HM_SPIN_LIFE_DAYS index)
          ++ bytesLE 1 (getF s.dev .HM_SPIN_LIFE_LIMIT index) ++ bytesLE 2 (getF s.dev .HM_SPIN_LIFE_FRICTION index)
          ++ bytesLE 2 (getF s.dev .TH_ZONE_TEMP (144 + index))) s t)
      ∧ (s.dev.inRecovery = false → kind = 2 → index < 128 → Answered 3 0 (bytesLE 2 (getF s.dev .HM_LIFE_DAYS index)
          ++ bytesLE 1 (getF s.dev .HM_LIFE_LIMIT index) ++ bytesLE 2 (getF s.dev .TH_ZONE_TEMP (16 + index))) s t)
      ∧ (s.dev.inRecovery = false → (2 < kind ∨ (kind = 0 ∧ index ≠ 0) ∨ (kind = 1 ∧ 32 ≤ index) ∨ (kind = 2 ∧ 128 ≤ index)) → Answered 3 2 [] s t)
      ∧ Frame (theRegs [(.MG_STAT_MSGS, 0), (.MG_STAT_LAST_OP, 0)]) [.mgmt, .freeIdx] [] [] s t)
  ∧ (∀ (first temp : Nat) (s : State), s.dev.portServed = true → s.dev.inRecovery = true →
      ∀ x ∈ ([(.events first, 4), (.mgWake, 5), (.ambient temp, 6)] : List (Instr × Nat)), ∃ t, exec x.1 s = .next t ∧ Answered x.2 3 [] s t
        ∧ Frame (theRegs [(.MG_STAT_MSGS, 0), (.MG_STAT_LAST_OP, 0)]) [.mgmt] [] [] s t)
  ∧ (∀ (first temp : Nat) (s : State), s.dev.portServed = true → s.dev.inRecovery = false →
      (∃ t, exec (.events first) s = .next t
        ∧ Answered 4 0 (((s.dev.cameo.log.filter fun r => decide (first ≤ r.seq)).take 7).flatMap EventRec.bytes) s t
        ∧ t.dev.cameo.journal = s.dev.cameo.journal ∧ Frame (theRegs [(.MG_STAT_MSGS, 0), (.MG_STAT_LAST_OP, 0)]) [.mgmt] [] [] s t)
      ∧ (∃ t, exec .mgWake s = .next t ∧ Answered 5 0 [] s t
        ∧ (s.dev.pState ≠ 0 → t.dev.power.exiting = true ∧ t.dev.power.onlyP2 = false ∧ getF t.dev .PM_STAT_LAST_WAKE 0 = 4)
        ∧ (s.dev.pState = 0 → getF t.dev .PM_STAT_LAST_WAKE 0 = getF s.dev .PM_STAT_LAST_WAKE 0)
        ∧ Frame (theRegs [(.MG_STAT_MSGS, 0), (.MG_STAT_LAST_OP, 0), (.PM_STAT_LAST_WAKE, 0)]) [.mgmt, .power] [] [] s t)
      ∧ (temp < 65536 → ∃ t, exec (.ambient temp) s = .next t ∧ Answered 6 0 [] s t ∧ getF t.dev .TH_AMBIENT_TEMP 0 = temp
        ∧ getF t.dev .TH_ZONE_TEMP 176 = temp ∧ getF t.dev .TH_STAT_AMB_STALE 0 = 0
        ∧ Frame (theRegs [(.MG_STAT_MSGS, 0), (.MG_STAT_LAST_OP, 0), (.TH_AMBIENT_TEMP, 0), (.TH_ZONE_TEMP, 176), (.TH_STAT_AMB_STALE, 0)])
            [.mgmt, .thermal] [] [] s t))
  ∧ (∀ (slot : Nat) (s : State), s.dev.portServed = true → ∃ t, exec (.imgBegin slot) s = .next t
      ∧ (s.dev.inRecovery = false → Answered 0x10 3 [] s t) ∧ (s.dev.inRecovery = true → 2 ≤ slot → Answered 0x10 2 [] s t)
      ∧ (s.dev.inRecovery = true → slot < 2 → s.dev.norFails = true → Answered 0x10 4 [] s t)
      ∧ (s.dev.inRecovery = true → slot < 2 → s.dev.norFails = false → Answered 0x10 0 [] s t ∧ t.dev.mgmt.slot = some slot ∧ t.dev.mgmt.next = 0)
      ∧ (∀ a, Sparse.get (fun _ => (0xFF : Byte)) t.dev.locket.nor a =
          if s.dev.inRecovery = true ∧ slot < 2 ∧ s.dev.norFails = false ∧ slotBase slot ≤ a ∧ a < slotBase slot + 0x4000000 then 0xFF
          else Sparse.get (fun _ => (0xFF : Byte)) s.dev.locket.nor a)
      ∧ Frame (theRegs [(.MG_STAT_MSGS, 0), (.MG_STAT_LAST_OP, 0)]) [.mgmt, .locket, .freeIdx] [] [] s t)
  ∧ (∀ (off : Nat) (data : List Byte) (s : State), s.dev.portServed = true →
      (s.dev.inRecovery = false ∨ s.dev.mgmt.slot = none → ∃ t, exec (.imgData off data) s = .next t ∧ Answered 0x11 3 [] s t
        ∧ Frame (theRegs [(.MG_STAT_MSGS, 0), (.MG_STAT_LAST_OP, 0)]) [.mgmt] [] [] s t)
      ∧ ∀ slot, s.dev.inRecovery = true → s.dev.mgmt.slot = some slot →
        (1 ≤ data.length → data.length ≤ 240 → s.dev.mgmt.next ≤ off → off + data.length ≤ 0x4000000 → s.dev.norFails = true →
          ∃ t, exec (.imgData off data) s = .next t ∧ Answered 0x11 4 [] s t ∧ t.dev.mgmt.next = s.dev.mgmt.next
          ∧ Frame (theRegs [(.MG_STAT_MSGS, 0), (.MG_STAT_LAST_OP, 0)]) [.mgmt, .freeIdx] [] [] s t)
        ∧ (1 ≤ data.length → data.length ≤ 240 → s.dev.mgmt.next ≤ off → off + data.length ≤ 0x4000000 → s.dev.norFails = false →
          ∃ t, exec (.imgData off data) s = .next t ∧ Answered 0x11 0 [] s t ∧ t.dev.mgmt.next = off + data.length
          ∧ (∀ a, Sparse.get (fun _ => (0xFF : Byte)) t.dev.locket.nor a =
              if slotBase slot + off ≤ a ∧ a < slotBase slot + off + data.length then data.getD (a - (slotBase slot + off)) 0
              else Sparse.get (fun _ => (0xFF : Byte)) s.dev.locket.nor a)
          ∧ t.dev.nvResetN s.dtime = false ∧ t.dev.nvResetN (s.dtime + 10000) = true
          ∧ Frame (theRegs [(.MG_STAT_MSGS, 0), (.MG_STAT_LAST_OP, 0)]) [.mgmt, .locket, .freeIdx] [] [] s t)
        ∧ ((data = [] ∨ 240 < data.length ∨ off < s.dev.mgmt.next ∨ 0x4000000 < off + data.length) →
          ∃ t, exec (.imgData off data) s = .next t ∧ Answered 0x11 2 [] s t
          ∧ Frame (theRegs [(.MG_STAT_MSGS, 0), (.MG_STAT_LAST_OP, 0)]) [.mgmt] [] [] s t))
  ∧ (∀ s : State, s.dev.portServed = true →
      (s.dev.inRecovery = false ∨ s.dev.mgmt.slot = none → ∃ t, exec .imgEnd s = .next t ∧ Answered 0x12 3 [] s t
        ∧ Frame (theRegs [(.MG_STAT_MSGS, 0), (.MG_STAT_LAST_OP, 0)]) [.mgmt] [] [] s t)
      ∧ ∀ slot code, s.dev.inRecovery = true → s.dev.mgmt.slot = some slot → code = s.dev.bootCode slot →
        (code ≠ 0 → ∃ t, exec .imgEnd s = .next t ∧ Answered 0x12 0 [BitVec.ofNat 8 code] s t ∧ getF t.dev (failField slot) 0 = code
          ∧ Frame (theRegs [(.MG_STAT_MSGS, 0), (.MG_STAT_LAST_OP, 0), (failField slot, 0)]) [.mgmt, .locket, .freeIdx] [] [] s t ∧ t.dev.locket = { s.dev.locket with nvLow := false })
        ∧ ∃ t, exec .imgEnd s = .next t ∧ (code = 0 → t.dev.mgmt.resp = [0x12, 0, 0] ∧ t.dev.mgmt.pending = true ∧ t.dev.locket.stage = .dram))
  ∧ (∀ s : State, (s.dev.mgmt.pending = true → ∃ t, exec .responseRead s = .next t
        ∧ t.dev.mgmt = { s.dev.mgmt with out := s.dev.mgmt.resp, pending := false } ∧ Frame noRegs [.mgmt] [] [] s t)
      ∧ (s.dev.mgmt.pending = false → ∃ t, exec .responseRead s = .next t
        ∧ t.dev.mgmt = { s.dev.mgmt with out := [BitVec.ofNat 8 (getF s.dev .MG_STAT_LAST_OP 0), 1] } ∧ Frame noRegs [.mgmt] [] [] s t))
  ∧ (∀ (op : Nat) (s : State), s.dev.portServed = true → op < 256 →
      (∃ t, exec (.managementRequestBad .pec) s = .next t ∧ getF t.dev .MG_STAT_PEC_ERR 0 = min 255 (getF s.dev .MG_STAT_PEC_ERR 0 + 1)
        ∧ Frame (theRegs [(.MG_STAT_PEC_ERR, 0)]) [] [] [] s t)
      ∧ (∃ t, exec (.managementRequestBad (.badLength op)) s = .next t ∧ Answered op 2 [] s t
        ∧ (s.dev.inRecovery = false → s.dev.Hears .MG_BAD_MESSAGE → Recorded .MG_BAD_MESSAGE 0 [] s t)
        ∧ Frame (theRegs [(.MG_STAT_MSGS, 0), (.MG_STAT_LAST_OP, 0)]) [.mgmt] [] [] s t)
      ∧ (∃ t, exec (.managementRequestBad (.unknown op)) s = .next t ∧ Answered op 2 [] s t
        ∧ Frame (theRegs [(.MG_STAT_MSGS, 0), (.MG_STAT_LAST_OP, 0)]) [.mgmt] [] [] s t)
      ∧ (∃ t, exec (.managementRequestBad (.notNow op)) s = .next t ∧ Answered op 3 [] s t
        ∧ Frame (theRegs [(.MG_STAT_MSGS, 0), (.MG_STAT_LAST_OP, 0)]) [.mgmt] [] [] s t))
end

