-- ==== Sys2Proof/Laws/Sparse.lean ====
section
/-! SUPPORT. Sparse maps: reading after writing, and that every operation keeps the canonical form. -/

namespace Sys2Proof.Machine

variable {β : Type}

@[simp] theorem Sparse.get_nil (dflt : Nat → β) (k : Nat) : Sparse.get dflt [] k = dflt k := rfl

/-- An erased key reads as unlisted. -/
@[simp] theorem Sparse.get_erase_self (dflt : Nat → β) (l : List (Nat × β)) (k : Nat) :
    Sparse.get dflt (Sparse.erase l k) k = dflt k := by
  induction l with
  | nil => rfl
  | cons x l ih =>
    obtain ⟨j, w⟩ := x
    by_cases h : k = j <;> simp [Sparse.erase, Sparse.get, h] <;> simpa [h] using ih

/-- Erasing a key leaves every other. -/
theorem Sparse.get_erase_ne (dflt : Nat → β) (l : List (Nat × β)) {j k : Nat} (h : j ≠ k) :
    Sparse.get dflt (Sparse.erase l k) j = Sparse.get dflt l j := by
  induction l with
  | nil => rfl
  | cons x l ih =>
    obtain ⟨i, w⟩ := x
    by_cases hk : k = i
    · subst hk; simp [Sparse.erase, Sparse.get, h, ih]
    · by_cases hj : j = i <;> simp [Sparse.erase, Sparse.get, hk, hj, ih]

/-- An inserted key reads as its value. -/
@[simp] theorem Sparse.get_insert_self (dflt : Nat → β) (l : List (Nat × β)) (k : Nat) (v : β) :
    Sparse.get dflt (Sparse.insert l k v) k = v := by
  induction l with
  | nil => simp [Sparse.insert, Sparse.get]
  | cons x l ih =>
    obtain ⟨j, w⟩ := x
    by_cases h : k < j
    · simp [Sparse.insert, Sparse.get, h]
    · by_cases hk : k = j <;> simp [Sparse.insert, Sparse.get, h, hk, ih]

/-- Inserting a key leaves every other. -/
theorem Sparse.get_insert_ne (dflt : Nat → β) (l : List (Nat × β)) {j k : Nat} (v : β) (h : j ≠ k) :
    Sparse.get dflt (Sparse.insert l k v) j = Sparse.get dflt l j := by
  induction l with
  | nil => simp [Sparse.insert, Sparse.get, h]
  | cons x l ih =>
    obtain ⟨i, w⟩ := x
    by_cases hlt : k < i
    · simp [Sparse.insert, Sparse.get, hlt, h]
    · by_cases hk : k = i
      · subst hk; simp [Sparse.insert, Sparse.get, h]
      · by_cases hj : j = i <;> simp [Sparse.insert, Sparse.get, hlt, hk, hj, ih]

/-- A set key reads as its value. -/
@[simp] theorem Sparse.get_set_self [DecidableEq β] (dflt : Nat → β) (l : List (Nat × β)) (k : Nat) (v : β) :
    Sparse.get dflt (Sparse.set dflt l k v) k = v := by
  unfold Sparse.set
  split <;> simp_all

/-- Setting a key leaves every other. -/
theorem Sparse.get_set_ne [DecidableEq β] (dflt : Nat → β) (l : List (Nat × β)) {j k : Nat} (v : β) (h : j ≠ k) :
    Sparse.get dflt (Sparse.set dflt l k v) j = Sparse.get dflt l j := by
  unfold Sparse.set
  split
  · exact Sparse.get_erase_ne dflt l h
  · exact Sparse.get_insert_ne dflt l v h

theorem Sparse.okFrom_mono [DecidableEq β] (dflt : Nat → β) (l : List (Nat × β)) {a b : Nat} (h : a ≤ b)
    (hl : Sparse.okFrom dflt b l = true) : Sparse.okFrom dflt a l = true := by
  cases l with
  | nil => rfl
  | cons x l =>
    obtain ⟨j, w⟩ := x
    simp only [Sparse.okFrom, Bool.and_eq_true, decide_eq_true_eq] at *
    exact ⟨⟨by omega, hl.1.2⟩, hl.2⟩

theorem Sparse.okFrom_erase [DecidableEq β] (dflt : Nat → β) (l : List (Nat × β)) (k : Nat) :
    ∀ b, Sparse.okFrom dflt b l = true → Sparse.okFrom dflt b (Sparse.erase l k) = true := by
  induction l with
  | nil => intro b _; rfl
  | cons x l ih =>
    obtain ⟨j, w⟩ := x
    intro b h
    simp only [Sparse.okFrom, Bool.and_eq_true, decide_eq_true_eq] at h
    by_cases hk : k = j
    · simp only [Sparse.erase, hk, if_true]
      exact Sparse.okFrom_mono dflt _ (by omega) (hk ▸ ih _ h.2)
    · simp only [Sparse.erase, hk, if_false, Sparse.okFrom, Bool.and_eq_true, decide_eq_true_eq]
      exact ⟨h.1, ih _ h.2⟩

theorem Sparse.okFrom_insert [DecidableEq β] (dflt : Nat → β) (l : List (Nat × β)) (k : Nat) (v : β) (hv : v ≠ dflt k) :
    ∀ b, b ≤ k → Sparse.okFrom dflt b l = true → Sparse.okFrom dflt b (Sparse.insert l k v) = true := by
  induction l with
  | nil => intro b hb _; simp [Sparse.insert, Sparse.okFrom, hb, hv]
  | cons x l ih =>
    obtain ⟨j, w⟩ := x
    intro b hb h
    simp only [Sparse.okFrom, Bool.and_eq_true, decide_eq_true_eq] at h
    by_cases hlt : k < j
    · simp only [Sparse.insert, hlt, if_true, Sparse.okFrom, Bool.and_eq_true, decide_eq_true_eq]
      exact ⟨⟨hb, hv⟩, ⟨by omega, h.1.2⟩, h.2⟩
    · by_cases hk : k = j
      · subst hk
        simp only [Sparse.insert, Nat.lt_irrefl, if_false, if_true, Sparse.okFrom, Bool.and_eq_true, decide_eq_true_eq]
        exact ⟨⟨hb, hv⟩, h.2⟩
      · simp only [Sparse.insert, hlt, hk, if_false, Sparse.okFrom, Bool.and_eq_true, decide_eq_true_eq]
        exact ⟨h.1, ih _ (by omega) h.2⟩

/-- Erasing keeps the canonical form. -/
theorem Sparse.ok_erase [DecidableEq β] (dflt : Nat → β) (l : List (Nat × β)) (k : Nat) (h : Sparse.ok dflt l = true) :
    Sparse.ok dflt (Sparse.erase l k) = true := Sparse.okFrom_erase dflt l k 0 h

/-- Setting keeps the canonical form. -/
theorem Sparse.ok_set [DecidableEq β] (dflt : Nat → β) (l : List (Nat × β)) (k : Nat) (v : β) (h : Sparse.ok dflt l = true) :
    Sparse.ok dflt (Sparse.set dflt l k v) = true := by
  unfold Sparse.set
  split
  · exact Sparse.ok_erase dflt l k h
  · exact Sparse.okFrom_insert dflt l k v (by assumption) 0 (Nat.zero_le k) h

end Sys2Proof.Machine
end

