-- ==== Sys2Proof/Laws/Registers.lean ====
section
/-! SUPPORT. The register file: a field reads as it was set, and no other field changes; pending values alike. -/

namespace Sys2Proof.Machine

theorem Fld.ctorIdx_lt (f : Fld) : f.ctorIdx < 1024 := by cases f <;> decide

theorem Fld.ctorIdx_inj {f g : Fld} (h : f.ctorIdx = g.ctorIdx) : f = g := by
  rw [← Fld.ofNat_ctorIdx f, ← Fld.ofNat_ctorIdx g, h]

/-- The keys of two instances are the same only for one instance of one field. -/
theorem regKey_inj {f g : Fld} {i j : Nat} (h : regKey f i = regKey g j) : f = g ∧ i = j := by
  unfold regKey at h
  have hf := f.ctorIdx_lt
  have hg := g.ctorIdx_lt
  have hi : i = j := by omega
  exact ⟨Fld.ctorIdx_inj (by omega), hi⟩

theorem regKey_ne {f g : Fld} {i j : Nat} (h : ¬(f = g ∧ i = j)) : regKey f i ≠ regKey g j := fun e => h (regKey_inj e)

@[simp] theorem keyDefault_regKey (f : Fld) (i : Nat) : keyDefault (regKey f i) = f.resetVal i := by
  have hf := f.ctorIdx_lt
  have h1 : (i * 1024 + f.ctorIdx) % 1024 = f.ctorIdx := by omega
  have h2 : (i * 1024 + f.ctorIdx) / 1024 = i := by omega
  simp only [keyDefault, regKey, h1, h2, Fld.ofNat_ctorIdx]

/-- A field reads as the value stored, cut to its width. -/
@[simp] theorem getF_setF (d : Dev) (f : Fld) (i v : Nat) : getF (setF d f i v) f i = v % 2 ^ f.info.width := by
  simp [getF, setF]

/-- Storing one field leaves every other. -/
theorem getF_setF_ne (d : Dev) {f g : Fld} {i j : Nat} (v : Nat) (h : ¬(f = g ∧ i = j)) :
    getF (setF d g j v) f i = getF d f i := by
  simp only [getF, setF]
  exact Sparse.get_set_ne _ _ _ (regKey_ne h)

/-- A field after a store of any field. -/
theorem getF_setF_if (d : Dev) (f g : Fld) (i j v : Nat) :
    getF (setF d g j v) f i = if f = g ∧ i = j then v % 2 ^ g.info.width else getF d f i := by
  split
  · rename_i h; obtain ⟨rfl, rfl⟩ := h; simp
  · rename_i h; exact getF_setF_ne d v h

@[simp] theorem getF_resetF (d : Dev) (f : Fld) (i : Nat) : getF (resetF d f i) f i = f.resetVal i := by
  simp [getF, resetF]

theorem getF_resetF_ne (d : Dev) {f g : Fld} {i j : Nat} (h : ¬(f = g ∧ i = j)) : getF (resetF d g j) f i = getF d f i := by
  simp only [getF, resetF]
  exact Sparse.get_erase_ne _ _ (regKey_ne h)

@[simp] theorem getB_setB (d : Dev) (f : Fld) (i : Nat) (b : Bool) (hw : 1 ≤ f.info.width) : getB (setB d f i b) f i = b := by
  have h2 : 2 ^ 1 ≤ 2 ^ f.info.width := Nat.pow_le_pow_right (by decide) hw
  simp only [getB, setB, getF_setF]
  cases b
  · simp [b2n]
  · have h3 : b2n true < 2 ^ f.info.width := by
      have : b2n true = 1 := rfl
      omega
    rw [Nat.mod_eq_of_lt h3]; rfl

theorem getF_incF (d : Dev) (f : Fld) (i n top : Nat) (h : top < 2 ^ f.info.width) :
    getF (incF d f i n top) f i = min top (getF d f i + n) := by
  simp only [incF, getF_setF]
  exact Nat.mod_eq_of_lt (by omega)

theorem getF_incF_ne (d : Dev) {f g : Fld} {i j : Nat} (n top : Nat) (h : ¬(f = g ∧ i = j)) :
    getF (incF d g j n top) f i = getF d f i := getF_setF_ne d _ h

/-- Every store keeps the canonical form of the register file. -/
theorem regs_ok_setF (d : Dev) (f : Fld) (i v : Nat) (h : Sparse.ok keyDefault d.regs = true) :
    Sparse.ok keyDefault (setF d f i v).regs = true := Sparse.ok_set _ _ _ _ h

theorem regs_ok_resetF (d : Dev) (f : Fld) (i : Nat) (h : Sparse.ok keyDefault d.regs = true) :
    Sparse.ok keyDefault (resetF d f i).regs = true := Sparse.ok_erase _ _ _ h

/-- A store leaves the device canonical. -/
theorem wf_setF (d : Dev) (f : Fld) (i v : Nat) (h : d.wf = true) : (setF d f i v).wf = true := by
  simp only [Dev.wf, Bool.and_eq_true] at *
  exact ⟨⟨regs_ok_setF d f i v h.1.1, h.1.2⟩, h.2⟩

/-- The device at reset is canonical. -/
theorem wf_reset : State.reset.dev.wf = true := rfl

end Sys2Proof.Machine
end

