-- ==== Sys2Proof/Laws/State.lean ====
section
/-! SUPPORT. What each update of the device leaves: one lemma for each field and each update, and what an update of one element of
an array does to it and to the others. -/

namespace Sys2Proof.Machine

/-! ## modHead -/

@[simp] theorem Dev.modHead_freeIdx (d : Dev) (h : HeadId) (f : Head → Head) : (d.modHead h f).freeIdx = d.freeIdx := rfl
@[simp] theorem Dev.modHead_regs (d : Dev) (h : HeadId) (f : Head → Head) : (d.modHead h f).regs = d.regs := rfl
@[simp] theorem Dev.modHead_rvPend (d : Dev) (h : HeadId) (f : Head → Head) : (d.modHead h f).rvPend = d.rvPend := rfl
@[simp] theorem Dev.modHead_hmPend (d : Dev) (h : HeadId) (f : Head → Head) : (d.modHead h f).hmPend = d.hmPend := rfl
@[simp] theorem Dev.modHead_lifeClock (d : Dev) (h : HeadId) (f : Head → Head) : (d.modHead h f).lifeClock = d.lifeClock := rfl
@[simp] theorem Dev.modHead_mLast (d : Dev) (h : HeadId) (f : Head → Head) : (d.modHead h f).mLast = d.mLast := rfl
@[simp] theorem Dev.modHead_latches (d : Dev) (h : HeadId) (f : Head → Head) : (d.modHead h f).latches = d.latches := rfl
@[simp] theorem Dev.modHead_hostRead (d : Dev) (h : HeadId) (f : Head → Head) : (d.modHead h f).hostRead = d.hostRead := rfl
@[simp] theorem Dev.modHead_hostOut (d : Dev) (h : HeadId) (f : Head → Head) : (d.modHead h f).hostOut = d.hostOut := rfl
@[simp] theorem Dev.modHead_libTime (d : Dev) (h : HeadId) (f : Head → Head) : (d.modHead h f).libTime = d.libTime := rfl
@[simp] theorem Dev.modHead_pcie (d : Dev) (h : HeadId) (f : Head → Head) : (d.modHead h f).pcie = d.pcie := rfl
@[simp] theorem Dev.modHead_locket (d : Dev) (h : HeadId) (f : Head → Head) : (d.modHead h f).locket = d.locket := rfl
@[simp] theorem Dev.modHead_cameo (d : Dev) (h : HeadId) (f : Head → Head) : (d.modHead h f).cameo = d.cameo := rfl
@[simp] theorem Dev.modHead_mgmt (d : Dev) (h : HeadId) (f : Head → Head) : (d.modHead h f).mgmt = d.mgmt := rfl
@[simp] theorem Dev.modHead_keeper (d : Dev) (h : HeadId) (f : Head → Head) : (d.modHead h f).keeper = d.keeper := rfl
@[simp] theorem Dev.modHead_thermal (d : Dev) (h : HeadId) (f : Head → Head) : (d.modHead h f).thermal = d.thermal := rfl
@[simp] theorem Dev.modHead_power (d : Dev) (h : HeadId) (f : Head → Head) : (d.modHead h f).power = d.power := rfl
@[simp] theorem Dev.modHead_mem (d : Dev) (h : HeadId) (f : Head → Head) : (d.modHead h f).mem = d.mem := rfl
@[simp] theorem Dev.modHead_filigree (d : Dev) (h : HeadId) (f : Head → Head) : (d.modHead h f).filigree = d.filigree := rfl
@[simp] theorem Dev.modHead_clasp (d : Dev) (h : HeadId) (f : Head → Head) : (d.modHead h f).clasp = d.clasp := rfl
@[simp] theorem Dev.modHead_data (d : Dev) (h : HeadId) (f : Head → Head) : (d.modHead h f).data = d.data := rfl
@[simp] theorem Dev.modHead_accounts (d : Dev) (h : HeadId) (f : Head → Head) : (d.modHead h f).accounts = d.accounts := rfl
@[simp] theorem Dev.modHead_chains (d : Dev) (h : HeadId) (f : Head → Head) : (d.modHead h f).chains = d.chains := rfl
@[simp] theorem Dev.modHead_surfaces (d : Dev) (h : HeadId) (f : Head → Head) : (d.modHead h f).surfaces = d.surfaces := rfl
@[simp] theorem Dev.modHead_cores (d : Dev) (h : HeadId) (f : Head → Head) : (d.modHead h f).cores = d.cores := rfl
@[simp] theorem Dev.modHead_bezels (d : Dev) (h : HeadId) (f : Head → Head) : (d.modHead h f).bezels = d.bezels := rfl
@[simp] theorem Dev.modHead_spindles (d : Dev) (h : HeadId) (f : Head → Head) : (d.modHead h f).spindles = d.spindles := rfl
@[simp] theorem Dev.modHead_getF (d : Dev) (h : HeadId) (f : Head → Head) (g : Fld) (j : Nat) : getF (d.modHead h f) g j = getF d g j := rfl
@[simp] theorem Dev.modHead_pendF (d : Dev) (h : HeadId) (f : Head → Head) (g : Fld) (j : Nat) : pendF (d.modHead h f) g j = pendF d g j := rfl

/-! ## modSpin -/

@[simp] theorem Dev.modSpin_freeIdx (d : Dev) (s : SpinId) (f : Spindle → Spindle) : (d.modSpin s f).freeIdx = d.freeIdx := rfl
@[simp] theorem Dev.modSpin_regs (d : Dev) (s : SpinId) (f : Spindle → Spindle) : (d.modSpin s f).regs = d.regs := rfl
@[simp] theorem Dev.modSpin_rvPend (d : Dev) (s : SpinId) (f : Spindle → Spindle) : (d.modSpin s f).rvPend = d.rvPend := rfl
@[simp] theorem Dev.modSpin_hmPend (d : Dev) (s : SpinId) (f : Spindle → Spindle) : (d.modSpin s f).hmPend = d.hmPend := rfl
@[simp] theorem Dev.modSpin_lifeClock (d : Dev) (s : SpinId) (f : Spindle → Spindle) : (d.modSpin s f).lifeClock = d.lifeClock := rfl
@[simp] theorem Dev.modSpin_mLast (d : Dev) (s : SpinId) (f : Spindle → Spindle) : (d.modSpin s f).mLast = d.mLast := rfl
@[simp] theorem Dev.modSpin_latches (d : Dev) (s : SpinId) (f : Spindle → Spindle) : (d.modSpin s f).latches = d.latches := rfl
@[simp] theorem Dev.modSpin_hostRead (d : Dev) (s : SpinId) (f : Spindle → Spindle) : (d.modSpin s f).hostRead = d.hostRead := rfl
@[simp] theorem Dev.modSpin_hostOut (d : Dev) (s : SpinId) (f : Spindle → Spindle) : (d.modSpin s f).hostOut = d.hostOut := rfl
@[simp] theorem Dev.modSpin_libTime (d : Dev) (s : SpinId) (f : Spindle → Spindle) : (d.modSpin s f).libTime = d.libTime := rfl
@[simp] theorem Dev.modSpin_pcie (d : Dev) (s : SpinId) (f : Spindle → Spindle) : (d.modSpin s f).pcie = d.pcie := rfl
@[simp] theorem Dev.modSpin_locket (d : Dev) (s : SpinId) (f : Spindle → Spindle) : (d.modSpin s f).locket = d.locket := rfl
@[simp] theorem Dev.modSpin_cameo (d : Dev) (s : SpinId) (f : Spindle → Spindle) : (d.modSpin s f).cameo = d.cameo := rfl
@[simp] theorem Dev.modSpin_mgmt (d : Dev) (s : SpinId) (f : Spindle → Spindle) : (d.modSpin s f).mgmt = d.mgmt := rfl
@[simp] theorem Dev.modSpin_keeper (d : Dev) (s : SpinId) (f : Spindle → Spindle) : (d.modSpin s f).keeper = d.keeper := rfl
@[simp] theorem Dev.modSpin_thermal (d : Dev) (s : SpinId) (f : Spindle → Spindle) : (d.modSpin s f).thermal = d.thermal := rfl
@[simp] theorem Dev.modSpin_power (d : Dev) (s : SpinId) (f : Spindle → Spindle) : (d.modSpin s f).power = d.power := rfl
@[simp] theorem Dev.modSpin_mem (d : Dev) (s : SpinId) (f : Spindle → Spindle) : (d.modSpin s f).mem = d.mem := rfl
@[simp] theorem Dev.modSpin_filigree (d : Dev) (s : SpinId) (f : Spindle → Spindle) : (d.modSpin s f).filigree = d.filigree := rfl
@[simp] theorem Dev.modSpin_clasp (d : Dev) (s : SpinId) (f : Spindle → Spindle) : (d.modSpin s f).clasp = d.clasp := rfl
@[simp] theorem Dev.modSpin_data (d : Dev) (s : SpinId) (f : Spindle → Spindle) : (d.modSpin s f).data = d.data := rfl
@[simp] theorem Dev.modSpin_accounts (d : Dev) (s : SpinId) (f : Spindle → Spindle) : (d.modSpin s f).accounts = d.accounts := rfl
@[simp] theorem Dev.modSpin_chains (d : Dev) (s : SpinId) (f : Spindle → Spindle) : (d.modSpin s f).chains = d.chains := rfl
@[simp] theorem Dev.modSpin_surfaces (d : Dev) (s : SpinId) (f : Spindle → Spindle) : (d.modSpin s f).surfaces = d.surfaces := rfl
@[simp] theorem Dev.modSpin_cores (d : Dev) (s : SpinId) (f : Spindle → Spindle) : (d.modSpin s f).cores = d.cores := rfl
@[simp] theorem Dev.modSpin_bezels (d : Dev) (s : SpinId) (f : Spindle → Spindle) : (d.modSpin s f).bezels = d.bezels := rfl
@[simp] theorem Dev.modSpin_heads (d : Dev) (s : SpinId) (f : Spindle → Spindle) : (d.modSpin s f).heads = d.heads := rfl
@[simp] theorem Dev.modSpin_getF (d : Dev) (s : SpinId) (f : Spindle → Spindle) (g : Fld) (j : Nat) : getF (d.modSpin s f) g j = getF d g j := rfl
@[simp] theorem Dev.modSpin_pendF (d : Dev) (s : SpinId) (f : Spindle → Spindle) (g : Fld) (j : Nat) : pendF (d.modSpin s f) g j = pendF d g j := rfl

/-! ## modSurf -/

@[simp] theorem Dev.modSurf_freeIdx (d : Dev) (s : SurfId) (f : Surface → Surface) : (d.modSurf s f).freeIdx = d.freeIdx := rfl
@[simp] theorem Dev.modSurf_regs (d : Dev) (s : SurfId) (f : Surface → Surface) : (d.modSurf s f).regs = d.regs := rfl
@[simp] theorem Dev.modSurf_rvPend (d : Dev) (s : SurfId) (f : Surface → Surface) : (d.modSurf s f).rvPend = d.rvPend := rfl
@[simp] theorem Dev.modSurf_hmPend (d : Dev) (s : SurfId) (f : Surface → Surface) : (d.modSurf s f).hmPend = d.hmPend := rfl
@[simp] theorem Dev.modSurf_lifeClock (d : Dev) (s : SurfId) (f : Surface → Surface) : (d.modSurf s f).lifeClock = d.lifeClock := rfl
@[simp] theorem Dev.modSurf_mLast (d : Dev) (s : SurfId) (f : Surface → Surface) : (d.modSurf s f).mLast = d.mLast := rfl
@[simp] theorem Dev.modSurf_latches (d : Dev) (s : SurfId) (f : Surface → Surface) : (d.modSurf s f).latches = d.latches := rfl
@[simp] theorem Dev.modSurf_hostRead (d : Dev) (s : SurfId) (f : Surface → Surface) : (d.modSurf s f).hostRead = d.hostRead := rfl
@[simp] theorem Dev.modSurf_hostOut (d : Dev) (s : SurfId) (f : Surface → Surface) : (d.modSurf s f).hostOut = d.hostOut := rfl
@[simp] theorem Dev.modSurf_libTime (d : Dev) (s : SurfId) (f : Surface → Surface) : (d.modSurf s f).libTime = d.libTime := rfl
@[simp] theorem Dev.modSurf_pcie (d : Dev) (s : SurfId) (f : Surface → Surface) : (d.modSurf s f).pcie = d.pcie := rfl
@[simp] theorem Dev.modSurf_locket (d : Dev) (s : SurfId) (f : Surface → Surface) : (d.modSurf s f).locket = d.locket := rfl
@[simp] theorem Dev.modSurf_cameo (d : Dev) (s : SurfId) (f : Surface → Surface) : (d.modSurf s f).cameo = d.cameo := rfl
@[simp] theorem Dev.modSurf_mgmt (d : Dev) (s : SurfId) (f : Surface → Surface) : (d.modSurf s f).mgmt = d.mgmt := rfl
@[simp] theorem Dev.modSurf_keeper (d : Dev) (s : SurfId) (f : Surface → Surface) : (d.modSurf s f).keeper = d.keeper := rfl
@[simp] theorem Dev.modSurf_thermal (d : Dev) (s : SurfId) (f : Surface → Surface) : (d.modSurf s f).thermal = d.thermal := rfl
@[simp] theorem Dev.modSurf_power (d : Dev) (s : SurfId) (f : Surface → Surface) : (d.modSurf s f).power = d.power := rfl
@[simp] theorem Dev.modSurf_mem (d : Dev) (s : SurfId) (f : Surface → Surface) : (d.modSurf s f).mem = d.mem := rfl
@[simp] theorem Dev.modSurf_filigree (d : Dev) (s : SurfId) (f : Surface → Surface) : (d.modSurf s f).filigree = d.filigree := rfl
@[simp] theorem Dev.modSurf_clasp (d : Dev) (s : SurfId) (f : Surface → Surface) : (d.modSurf s f).clasp = d.clasp := rfl
@[simp] theorem Dev.modSurf_data (d : Dev) (s : SurfId) (f : Surface → Surface) : (d.modSurf s f).data = d.data := rfl
@[simp] theorem Dev.modSurf_accounts (d : Dev) (s : SurfId) (f : Surface → Surface) : (d.modSurf s f).accounts = d.accounts := rfl
@[simp] theorem Dev.modSurf_chains (d : Dev) (s : SurfId) (f : Surface → Surface) : (d.modSurf s f).chains = d.chains := rfl
@[simp] theorem Dev.modSurf_cores (d : Dev) (s : SurfId) (f : Surface → Surface) : (d.modSurf s f).cores = d.cores := rfl
@[simp] theorem Dev.modSurf_bezels (d : Dev) (s : SurfId) (f : Surface → Surface) : (d.modSurf s f).bezels = d.bezels := rfl
@[simp] theorem Dev.modSurf_heads (d : Dev) (s : SurfId) (f : Surface → Surface) : (d.modSurf s f).heads = d.heads := rfl
@[simp] theorem Dev.modSurf_spindles (d : Dev) (s : SurfId) (f : Surface → Surface) : (d.modSurf s f).spindles = d.spindles := rfl
@[simp] theorem Dev.modSurf_getF (d : Dev) (s : SurfId) (f : Surface → Surface) (g : Fld) (j : Nat) : getF (d.modSurf s f) g j = getF d g j := rfl
@[simp] theorem Dev.modSurf_pendF (d : Dev) (s : SurfId) (f : Surface → Surface) (g : Fld) (j : Nat) : pendF (d.modSurf s f) g j = pendF d g j := rfl

/-! ## modChain -/

@[simp] theorem Dev.modChain_freeIdx (d : Dev) (c : Fin 16) (f : Chain → Chain) : (d.modChain c f).freeIdx = d.freeIdx := rfl
@[simp] theorem Dev.modChain_regs (d : Dev) (c : Fin 16) (f : Chain → Chain) : (d.modChain c f).regs = d.regs := rfl
@[simp] theorem Dev.modChain_rvPend (d : Dev) (c : Fin 16) (f : Chain → Chain) : (d.modChain c f).rvPend = d.rvPend := rfl
@[simp] theorem Dev.modChain_hmPend (d : Dev) (c : Fin 16) (f : Chain → Chain) : (d.modChain c f).hmPend = d.hmPend := rfl
@[simp] theorem Dev.modChain_lifeClock (d : Dev) (c : Fin 16) (f : Chain → Chain) : (d.modChain c f).lifeClock = d.lifeClock := rfl
@[simp] theorem Dev.modChain_mLast (d : Dev) (c : Fin 16) (f : Chain → Chain) : (d.modChain c f).mLast = d.mLast := rfl
@[simp] theorem Dev.modChain_latches (d : Dev) (c : Fin 16) (f : Chain → Chain) : (d.modChain c f).latches = d.latches := rfl
@[simp] theorem Dev.modChain_hostRead (d : Dev) (c : Fin 16) (f : Chain → Chain) : (d.modChain c f).hostRead = d.hostRead := rfl
@[simp] theorem Dev.modChain_hostOut (d : Dev) (c : Fin 16) (f : Chain → Chain) : (d.modChain c f).hostOut = d.hostOut := rfl
@[simp] theorem Dev.modChain_libTime (d : Dev) (c : Fin 16) (f : Chain → Chain) : (d.modChain c f).libTime = d.libTime := rfl
@[simp] theorem Dev.modChain_pcie (d : Dev) (c : Fin 16) (f : Chain → Chain) : (d.modChain c f).pcie = d.pcie := rfl
@[simp] theorem Dev.modChain_locket (d : Dev) (c : Fin 16) (f : Chain → Chain) : (d.modChain c f).locket = d.locket := rfl
@[simp] theorem Dev.modChain_cameo (d : Dev) (c : Fin 16) (f : Chain → Chain) : (d.modChain c f).cameo = d.cameo := rfl
@[simp] theorem Dev.modChain_mgmt (d : Dev) (c : Fin 16) (f : Chain → Chain) : (d.modChain c f).mgmt = d.mgmt := rfl
@[simp] theorem Dev.modChain_keeper (d : Dev) (c : Fin 16) (f : Chain → Chain) : (d.modChain c f).keeper = d.keeper := rfl
@[simp] theorem Dev.modChain_thermal (d : Dev) (c : Fin 16) (f : Chain → Chain) : (d.modChain c f).thermal = d.thermal := rfl
@[simp] theorem Dev.modChain_power (d : Dev) (c : Fin 16) (f : Chain → Chain) : (d.modChain c f).power = d.power := rfl
@[simp] theorem Dev.modChain_mem (d : Dev) (c : Fin 16) (f : Chain → Chain) : (d.modChain c f).mem = d.mem := rfl
@[simp] theorem Dev.modChain_filigree (d : Dev) (c : Fin 16) (f : Chain → Chain) : (d.modChain c f).filigree = d.filigree := rfl
@[simp] theorem Dev.modChain_clasp (d : Dev) (c : Fin 16) (f : Chain → Chain) : (d.modChain c f).clasp = d.clasp := rfl
@[simp] theorem Dev.modChain_data (d : Dev) (c : Fin 16) (f : Chain → Chain) : (d.modChain c f).data = d.data := rfl
@[simp] theorem Dev.modChain_accounts (d : Dev) (c : Fin 16) (f : Chain → Chain) : (d.modChain c f).accounts = d.accounts := rfl
@[simp] theorem Dev.modChain_surfaces (d : Dev) (c : Fin 16) (f : Chain → Chain) : (d.modChain c f).surfaces = d.surfaces := rfl
@[simp] theorem Dev.modChain_cores (d : Dev) (c : Fin 16) (f : Chain → Chain) : (d.modChain c f).cores = d.cores := rfl
@[simp] theorem Dev.modChain_bezels (d : Dev) (c : Fin 16) (f : Chain → Chain) : (d.modChain c f).bezels = d.bezels := rfl
@[simp] theorem Dev.modChain_heads (d : Dev) (c : Fin 16) (f : Chain → Chain) : (d.modChain c f).heads = d.heads := rfl
@[simp] theorem Dev.modChain_spindles (d : Dev) (c : Fin 16) (f : Chain → Chain) : (d.modChain c f).spindles = d.spindles := rfl
@[simp] theorem Dev.modChain_getF (d : Dev) (c : Fin 16) (f : Chain → Chain) (g : Fld) (j : Nat) : getF (d.modChain c f) g j = getF d g j := rfl
@[simp] theorem Dev.modChain_pendF (d : Dev) (c : Fin 16) (f : Chain → Chain) (g : Fld) (j : Nat) : pendF (d.modChain c f) g j = pendF d g j := rfl

/-! ## modBezel -/

@[simp] theorem Dev.modBezel_freeIdx (d : Dev) (b : BezelId) (f : Bezel → Bezel) : (d.modBezel b f).freeIdx = d.freeIdx := rfl
@[simp] theorem Dev.modBezel_regs (d : Dev) (b : BezelId) (f : Bezel → Bezel) : (d.modBezel b f).regs = d.regs := rfl
@[simp] theorem Dev.modBezel_rvPend (d : Dev) (b : BezelId) (f : Bezel → Bezel) : (d.modBezel b f).rvPend = d.rvPend := rfl
@[simp] theorem Dev.modBezel_hmPend (d : Dev) (b : BezelId) (f : Bezel → Bezel) : (d.modBezel b f).hmPend = d.hmPend := rfl
@[simp] theorem Dev.modBezel_lifeClock (d : Dev) (b : BezelId) (f : Bezel → Bezel) : (d.modBezel b f).lifeClock = d.lifeClock := rfl
@[simp] theorem Dev.modBezel_mLast (d : Dev) (b : BezelId) (f : Bezel → Bezel) : (d.modBezel b f).mLast = d.mLast := rfl
@[simp] theorem Dev.modBezel_latches (d : Dev) (b : BezelId) (f : Bezel → Bezel) : (d.modBezel b f).latches = d.latches := rfl
@[simp] theorem Dev.modBezel_hostRead (d : Dev) (b : BezelId) (f : Bezel → Bezel) : (d.modBezel b f).hostRead = d.hostRead := rfl
@[simp] theorem Dev.modBezel_hostOut (d : Dev) (b : BezelId) (f : Bezel → Bezel) : (d.modBezel b f).hostOut = d.hostOut := rfl
@[simp] theorem Dev.modBezel_libTime (d : Dev) (b : BezelId) (f : Bezel → Bezel) : (d.modBezel b f).libTime = d.libTime := rfl
@[simp] theorem Dev.modBezel_pcie (d : Dev) (b : BezelId) (f : Bezel → Bezel) : (d.modBezel b f).pcie = d.pcie := rfl
@[simp] theorem Dev.modBezel_locket (d : Dev) (b : BezelId) (f : Bezel → Bezel) : (d.modBezel b f).locket = d.locket := rfl
@[simp] theorem Dev.modBezel_cameo (d : Dev) (b : BezelId) (f : Bezel → Bezel) : (d.modBezel b f).cameo = d.cameo := rfl
@[simp] theorem Dev.modBezel_mgmt (d : Dev) (b : BezelId) (f : Bezel → Bezel) : (d.modBezel b f).mgmt = d.mgmt := rfl
@[simp] theorem Dev.modBezel_keeper (d : Dev) (b : BezelId) (f : Bezel → Bezel) : (d.modBezel b f).keeper = d.keeper := rfl
@[simp] theorem Dev.modBezel_thermal (d : Dev) (b : BezelId) (f : Bezel → Bezel) : (d.modBezel b f).thermal = d.thermal := rfl
@[simp] theorem Dev.modBezel_power (d : Dev) (b : BezelId) (f : Bezel → Bezel) : (d.modBezel b f).power = d.power := rfl
@[simp] theorem Dev.modBezel_mem (d : Dev) (b : BezelId) (f : Bezel → Bezel) : (d.modBezel b f).mem = d.mem := rfl
@[simp] theorem Dev.modBezel_filigree (d : Dev) (b : BezelId) (f : Bezel → Bezel) : (d.modBezel b f).filigree = d.filigree := rfl
@[simp] theorem Dev.modBezel_clasp (d : Dev) (b : BezelId) (f : Bezel → Bezel) : (d.modBezel b f).clasp = d.clasp := rfl
@[simp] theorem Dev.modBezel_data (d : Dev) (b : BezelId) (f : Bezel → Bezel) : (d.modBezel b f).data = d.data := rfl
@[simp] theorem Dev.modBezel_accounts (d : Dev) (b : BezelId) (f : Bezel → Bezel) : (d.modBezel b f).accounts = d.accounts := rfl
@[simp] theorem Dev.modBezel_chains (d : Dev) (b : BezelId) (f : Bezel → Bezel) : (d.modBezel b f).chains = d.chains := rfl
@[simp] theorem Dev.modBezel_surfaces (d : Dev) (b : BezelId) (f : Bezel → Bezel) : (d.modBezel b f).surfaces = d.surfaces := rfl
@[simp] theorem Dev.modBezel_cores (d : Dev) (b : BezelId) (f : Bezel → Bezel) : (d.modBezel b f).cores = d.cores := rfl
@[simp] theorem Dev.modBezel_heads (d : Dev) (b : BezelId) (f : Bezel → Bezel) : (d.modBezel b f).heads = d.heads := rfl
@[simp] theorem Dev.modBezel_spindles (d : Dev) (b : BezelId) (f : Bezel → Bezel) : (d.modBezel b f).spindles = d.spindles := rfl
@[simp] theorem Dev.modBezel_getF (d : Dev) (b : BezelId) (f : Bezel → Bezel) (g : Fld) (j : Nat) : getF (d.modBezel b f) g j = getF d g j := rfl
@[simp] theorem Dev.modBezel_pendF (d : Dev) (b : BezelId) (f : Bezel → Bezel) (g : Fld) (j : Nat) : pendF (d.modBezel b f) g j = pendF d g j := rfl

/-! ## modClasp -/

@[simp] theorem Dev.modClasp_freeIdx (d : Dev) (f : Clasp → Clasp) : (d.modClasp f).freeIdx = d.freeIdx := rfl
@[simp] theorem Dev.modClasp_regs (d : Dev) (f : Clasp → Clasp) : (d.modClasp f).regs = d.regs := rfl
@[simp] theorem Dev.modClasp_rvPend (d : Dev) (f : Clasp → Clasp) : (d.modClasp f).rvPend = d.rvPend := rfl
@[simp] theorem Dev.modClasp_hmPend (d : Dev) (f : Clasp → Clasp) : (d.modClasp f).hmPend = d.hmPend := rfl
@[simp] theorem Dev.modClasp_lifeClock (d : Dev) (f : Clasp → Clasp) : (d.modClasp f).lifeClock = d.lifeClock := rfl
@[simp] theorem Dev.modClasp_mLast (d : Dev) (f : Clasp → Clasp) : (d.modClasp f).mLast = d.mLast := rfl
@[simp] theorem Dev.modClasp_latches (d : Dev) (f : Clasp → Clasp) : (d.modClasp f).latches = d.latches := rfl
@[simp] theorem Dev.modClasp_hostRead (d : Dev) (f : Clasp → Clasp) : (d.modClasp f).hostRead = d.hostRead := rfl
@[simp] theorem Dev.modClasp_hostOut (d : Dev) (f : Clasp → Clasp) : (d.modClasp f).hostOut = d.hostOut := rfl
@[simp] theorem Dev.modClasp_libTime (d : Dev) (f : Clasp → Clasp) : (d.modClasp f).libTime = d.libTime := rfl
@[simp] theorem Dev.modClasp_pcie (d : Dev) (f : Clasp → Clasp) : (d.modClasp f).pcie = d.pcie := rfl
@[simp] theorem Dev.modClasp_locket (d : Dev) (f : Clasp → Clasp) : (d.modClasp f).locket = d.locket := rfl
@[simp] theorem Dev.modClasp_cameo (d : Dev) (f : Clasp → Clasp) : (d.modClasp f).cameo = d.cameo := rfl
@[simp] theorem Dev.modClasp_mgmt (d : Dev) (f : Clasp → Clasp) : (d.modClasp f).mgmt = d.mgmt := rfl
@[simp] theorem Dev.modClasp_keeper (d : Dev) (f : Clasp → Clasp) : (d.modClasp f).keeper = d.keeper := rfl
@[simp] theorem Dev.modClasp_thermal (d : Dev) (f : Clasp → Clasp) : (d.modClasp f).thermal = d.thermal := rfl
@[simp] theorem Dev.modClasp_power (d : Dev) (f : Clasp → Clasp) : (d.modClasp f).power = d.power := rfl
@[simp] theorem Dev.modClasp_mem (d : Dev) (f : Clasp → Clasp) : (d.modClasp f).mem = d.mem := rfl
@[simp] theorem Dev.modClasp_filigree (d : Dev) (f : Clasp → Clasp) : (d.modClasp f).filigree = d.filigree := rfl
@[simp] theorem Dev.modClasp_data (d : Dev) (f : Clasp → Clasp) : (d.modClasp f).data = d.data := rfl
@[simp] theorem Dev.modClasp_accounts (d : Dev) (f : Clasp → Clasp) : (d.modClasp f).accounts = d.accounts := rfl
@[simp] theorem Dev.modClasp_chains (d : Dev) (f : Clasp → Clasp) : (d.modClasp f).chains = d.chains := rfl
@[simp] theorem Dev.modClasp_surfaces (d : Dev) (f : Clasp → Clasp) : (d.modClasp f).surfaces = d.surfaces := rfl
@[simp] theorem Dev.modClasp_cores (d : Dev) (f : Clasp → Clasp) : (d.modClasp f).cores = d.cores := rfl
@[simp] theorem Dev.modClasp_bezels (d : Dev) (f : Clasp → Clasp) : (d.modClasp f).bezels = d.bezels := rfl
@[simp] theorem Dev.modClasp_heads (d : Dev) (f : Clasp → Clasp) : (d.modClasp f).heads = d.heads := rfl
@[simp] theorem Dev.modClasp_spindles (d : Dev) (f : Clasp → Clasp) : (d.modClasp f).spindles = d.spindles := rfl
@[simp] theorem Dev.modClasp_getF (d : Dev) (f : Clasp → Clasp) (g : Fld) (j : Nat) : getF (d.modClasp f) g j = getF d g j := rfl
@[simp] theorem Dev.modClasp_pendF (d : Dev) (f : Clasp → Clasp) (g : Fld) (j : Nat) : pendF (d.modClasp f) g j = pendF d g j := rfl

/-! ## modData -/

@[simp] theorem Dev.modData_freeIdx (d : Dev) (f : Data → Data) : (d.modData f).freeIdx = d.freeIdx := rfl
@[simp] theorem Dev.modData_regs (d : Dev) (f : Data → Data) : (d.modData f).regs = d.regs := rfl
@[simp] theorem Dev.modData_rvPend (d : Dev) (f : Data → Data) : (d.modData f).rvPend = d.rvPend := rfl
@[simp] theorem Dev.modData_hmPend (d : Dev) (f : Data → Data) : (d.modData f).hmPend = d.hmPend := rfl
@[simp] theorem Dev.modData_lifeClock (d : Dev) (f : Data → Data) : (d.modData f).lifeClock = d.lifeClock := rfl
@[simp] theorem Dev.modData_mLast (d : Dev) (f : Data → Data) : (d.modData f).mLast = d.mLast := rfl
@[simp] theorem Dev.modData_latches (d : Dev) (f : Data → Data) : (d.modData f).latches = d.latches := rfl
@[simp] theorem Dev.modData_hostRead (d : Dev) (f : Data → Data) : (d.modData f).hostRead = d.hostRead := rfl
@[simp] theorem Dev.modData_hostOut (d : Dev) (f : Data → Data) : (d.modData f).hostOut = d.hostOut := rfl
@[simp] theorem Dev.modData_libTime (d : Dev) (f : Data → Data) : (d.modData f).libTime = d.libTime := rfl
@[simp] theorem Dev.modData_pcie (d : Dev) (f : Data → Data) : (d.modData f).pcie = d.pcie := rfl
@[simp] theorem Dev.modData_locket (d : Dev) (f : Data → Data) : (d.modData f).locket = d.locket := rfl
@[simp] theorem Dev.modData_cameo (d : Dev) (f : Data → Data) : (d.modData f).cameo = d.cameo := rfl
@[simp] theorem Dev.modData_mgmt (d : Dev) (f : Data → Data) : (d.modData f).mgmt = d.mgmt := rfl
@[simp] theorem Dev.modData_keeper (d : Dev) (f : Data → Data) : (d.modData f).keeper = d.keeper := rfl
@[simp] theorem Dev.modData_thermal (d : Dev) (f : Data → Data) : (d.modData f).thermal = d.thermal := rfl
@[simp] theorem Dev.modData_power (d : Dev) (f : Data → Data) : (d.modData f).power = d.power := rfl
@[simp] theorem Dev.modData_mem (d : Dev) (f : Data → Data) : (d.modData f).mem = d.mem := rfl
@[simp] theorem Dev.modData_filigree (d : Dev) (f : Data → Data) : (d.modData f).filigree = d.filigree := rfl
@[simp] theorem Dev.modData_clasp (d : Dev) (f : Data → Data) : (d.modData f).clasp = d.clasp := rfl
@[simp] theorem Dev.modData_accounts (d : Dev) (f : Data → Data) : (d.modData f).accounts = d.accounts := rfl
@[simp] theorem Dev.modData_chains (d : Dev) (f : Data → Data) : (d.modData f).chains = d.chains := rfl
@[simp] theorem Dev.modData_surfaces (d : Dev) (f : Data → Data) : (d.modData f).surfaces = d.surfaces := rfl
@[simp] theorem Dev.modData_cores (d : Dev) (f : Data → Data) : (d.modData f).cores = d.cores := rfl
@[simp] theorem Dev.modData_bezels (d : Dev) (f : Data → Data) : (d.modData f).bezels = d.bezels := rfl
@[simp] theorem Dev.modData_heads (d : Dev) (f : Data → Data) : (d.modData f).heads = d.heads := rfl
@[simp] theorem Dev.modData_spindles (d : Dev) (f : Data → Data) : (d.modData f).spindles = d.spindles := rfl
@[simp] theorem Dev.modData_getF (d : Dev) (f : Data → Data) (g : Fld) (j : Nat) : getF (d.modData f) g j = getF d g j := rfl
@[simp] theorem Dev.modData_pendF (d : Dev) (f : Data → Data) (g : Fld) (j : Nat) : pendF (d.modData f) g j = pendF d g j := rfl

/-! ## modKeeper -/

@[simp] theorem Dev.modKeeper_freeIdx (d : Dev) (f : Keeper → Keeper) : (d.modKeeper f).freeIdx = d.freeIdx := rfl
@[simp] theorem Dev.modKeeper_regs (d : Dev) (f : Keeper → Keeper) : (d.modKeeper f).regs = d.regs := rfl
@[simp] theorem Dev.modKeeper_rvPend (d : Dev) (f : Keeper → Keeper) : (d.modKeeper f).rvPend = d.rvPend := rfl
@[simp] theorem Dev.modKeeper_hmPend (d : Dev) (f : Keeper → Keeper) : (d.modKeeper f).hmPend = d.hmPend := rfl
@[simp] theorem Dev.modKeeper_lifeClock (d : Dev) (f : Keeper → Keeper) : (d.modKeeper f).lifeClock = d.lifeClock := rfl
@[simp] theorem Dev.modKeeper_mLast (d : Dev) (f : Keeper → Keeper) : (d.modKeeper f).mLast = d.mLast := rfl
@[simp] theorem Dev.modKeeper_latches (d : Dev) (f : Keeper → Keeper) : (d.modKeeper f).latches = d.latches := rfl
@[simp] theorem Dev.modKeeper_hostRead (d : Dev) (f : Keeper → Keeper) : (d.modKeeper f).hostRead = d.hostRead := rfl
@[simp] theorem Dev.modKeeper_hostOut (d : Dev) (f : Keeper → Keeper) : (d.modKeeper f).hostOut = d.hostOut := rfl
@[simp] theorem Dev.modKeeper_libTime (d : Dev) (f : Keeper → Keeper) : (d.modKeeper f).libTime = d.libTime := rfl
@[simp] theorem Dev.modKeeper_pcie (d : Dev) (f : Keeper → Keeper) : (d.modKeeper f).pcie = d.pcie := rfl
@[simp] theorem Dev.modKeeper_locket (d : Dev) (f : Keeper → Keeper) : (d.modKeeper f).locket = d.locket := rfl
@[simp] theorem Dev.modKeeper_cameo (d : Dev) (f : Keeper → Keeper) : (d.modKeeper f).cameo = d.cameo := rfl
@[simp] theorem Dev.modKeeper_mgmt (d : Dev) (f : Keeper → Keeper) : (d.modKeeper f).mgmt = d.mgmt := rfl
@[simp] theorem Dev.modKeeper_thermal (d : Dev) (f : Keeper → Keeper) : (d.modKeeper f).thermal = d.thermal := rfl
@[simp] theorem Dev.modKeeper_power (d : Dev) (f : Keeper → Keeper) : (d.modKeeper f).power = d.power := rfl
@[simp] theorem Dev.modKeeper_mem (d : Dev) (f : Keeper → Keeper) : (d.modKeeper f).mem = d.mem := rfl
@[simp] theorem Dev.modKeeper_filigree (d : Dev) (f : Keeper → Keeper) : (d.modKeeper f).filigree = d.filigree := rfl
@[simp] theorem Dev.modKeeper_clasp (d : Dev) (f : Keeper → Keeper) : (d.modKeeper f).clasp = d.clasp := rfl
@[simp] theorem Dev.modKeeper_data (d : Dev) (f : Keeper → Keeper) : (d.modKeeper f).data = d.data := rfl
@[simp] theorem Dev.modKeeper_accounts (d : Dev) (f : Keeper → Keeper) : (d.modKeeper f).accounts = d.accounts := rfl
@[simp] theorem Dev.modKeeper_chains (d : Dev) (f : Keeper → Keeper) : (d.modKeeper f).chains = d.chains := rfl
@[simp] theorem Dev.modKeeper_surfaces (d : Dev) (f : Keeper → Keeper) : (d.modKeeper f).surfaces = d.surfaces := rfl
@[simp] theorem Dev.modKeeper_cores (d : Dev) (f : Keeper → Keeper) : (d.modKeeper f).cores = d.cores := rfl
@[simp] theorem Dev.modKeeper_bezels (d : Dev) (f : Keeper → Keeper) : (d.modKeeper f).bezels = d.bezels := rfl
@[simp] theorem Dev.modKeeper_heads (d : Dev) (f : Keeper → Keeper) : (d.modKeeper f).heads = d.heads := rfl
@[simp] theorem Dev.modKeeper_spindles (d : Dev) (f : Keeper → Keeper) : (d.modKeeper f).spindles = d.spindles := rfl
@[simp] theorem Dev.modKeeper_getF (d : Dev) (f : Keeper → Keeper) (g : Fld) (j : Nat) : getF (d.modKeeper f) g j = getF d g j := rfl
@[simp] theorem Dev.modKeeper_pendF (d : Dev) (f : Keeper → Keeper) (g : Fld) (j : Nat) : pendF (d.modKeeper f) g j = pendF d g j := rfl

/-! ## modMem -/

@[simp] theorem Dev.modMem_freeIdx (d : Dev) (f : Mem → Mem) : (d.modMem f).freeIdx = d.freeIdx := rfl
@[simp] theorem Dev.modMem_regs (d : Dev) (f : Mem → Mem) : (d.modMem f).regs = d.regs := rfl
@[simp] theorem Dev.modMem_rvPend (d : Dev) (f : Mem → Mem) : (d.modMem f).rvPend = d.rvPend := rfl
@[simp] theorem Dev.modMem_hmPend (d : Dev) (f : Mem → Mem) : (d.modMem f).hmPend = d.hmPend := rfl
@[simp] theorem Dev.modMem_lifeClock (d : Dev) (f : Mem → Mem) : (d.modMem f).lifeClock = d.lifeClock := rfl
@[simp] theorem Dev.modMem_mLast (d : Dev) (f : Mem → Mem) : (d.modMem f).mLast = d.mLast := rfl
@[simp] theorem Dev.modMem_latches (d : Dev) (f : Mem → Mem) : (d.modMem f).latches = d.latches := rfl
@[simp] theorem Dev.modMem_hostRead (d : Dev) (f : Mem → Mem) : (d.modMem f).hostRead = d.hostRead := rfl
@[simp] theorem Dev.modMem_hostOut (d : Dev) (f : Mem → Mem) : (d.modMem f).hostOut = d.hostOut := rfl
@[simp] theorem Dev.modMem_libTime (d : Dev) (f : Mem → Mem) : (d.modMem f).libTime = d.libTime := rfl
@[simp] theorem Dev.modMem_pcie (d : Dev) (f : Mem → Mem) : (d.modMem f).pcie = d.pcie := rfl
@[simp] theorem Dev.modMem_locket (d : Dev) (f : Mem → Mem) : (d.modMem f).locket = d.locket := rfl
@[simp] theorem Dev.modMem_cameo (d : Dev) (f : Mem → Mem) : (d.modMem f).cameo = d.cameo := rfl
@[simp] theorem Dev.modMem_mgmt (d : Dev) (f : Mem → Mem) : (d.modMem f).mgmt = d.mgmt := rfl
@[simp] theorem Dev.modMem_keeper (d : Dev) (f : Mem → Mem) : (d.modMem f).keeper = d.keeper := rfl
@[simp] theorem Dev.modMem_thermal (d : Dev) (f : Mem → Mem) : (d.modMem f).thermal = d.thermal := rfl
@[simp] theorem Dev.modMem_power (d : Dev) (f : Mem → Mem) : (d.modMem f).power = d.power := rfl
@[simp] theorem Dev.modMem_filigree (d : Dev) (f : Mem → Mem) : (d.modMem f).filigree = d.filigree := rfl
@[simp] theorem Dev.modMem_clasp (d : Dev) (f : Mem → Mem) : (d.modMem f).clasp = d.clasp := rfl
@[simp] theorem Dev.modMem_data (d : Dev) (f : Mem → Mem) : (d.modMem f).data = d.data := rfl
@[simp] theorem Dev.modMem_accounts (d : Dev) (f : Mem → Mem) : (d.modMem f).accounts = d.accounts := rfl
@[simp] theorem Dev.modMem_chains (d : Dev) (f : Mem → Mem) : (d.modMem f).chains = d.chains := rfl
@[simp] theorem Dev.modMem_surfaces (d : Dev) (f : Mem → Mem) : (d.modMem f).surfaces = d.surfaces := rfl
@[simp] theorem Dev.modMem_cores (d : Dev) (f : Mem → Mem) : (d.modMem f).cores = d.cores := rfl
@[simp] theorem Dev.modMem_bezels (d : Dev) (f : Mem → Mem) : (d.modMem f).bezels = d.bezels := rfl
@[simp] theorem Dev.modMem_heads (d : Dev) (f : Mem → Mem) : (d.modMem f).heads = d.heads := rfl
@[simp] theorem Dev.modMem_spindles (d : Dev) (f : Mem → Mem) : (d.modMem f).spindles = d.spindles := rfl
@[simp] theorem Dev.modMem_getF (d : Dev) (f : Mem → Mem) (g : Fld) (j : Nat) : getF (d.modMem f) g j = getF d g j := rfl
@[simp] theorem Dev.modMem_pendF (d : Dev) (f : Mem → Mem) (g : Fld) (j : Nat) : pendF (d.modMem f) g j = pendF d g j := rfl

/-! ## modLocket -/

@[simp] theorem Dev.modLocket_freeIdx (d : Dev) (f : Locket → Locket) : (d.modLocket f).freeIdx = d.freeIdx := rfl
@[simp] theorem Dev.modLocket_regs (d : Dev) (f : Locket → Locket) : (d.modLocket f).regs = d.regs := rfl
@[simp] theorem Dev.modLocket_rvPend (d : Dev) (f : Locket → Locket) : (d.modLocket f).rvPend = d.rvPend := rfl
@[simp] theorem Dev.modLocket_hmPend (d : Dev) (f : Locket → Locket) : (d.modLocket f).hmPend = d.hmPend := rfl
@[simp] theorem Dev.modLocket_lifeClock (d : Dev) (f : Locket → Locket) : (d.modLocket f).lifeClock = d.lifeClock := rfl
@[simp] theorem Dev.modLocket_mLast (d : Dev) (f : Locket → Locket) : (d.modLocket f).mLast = d.mLast := rfl
@[simp] theorem Dev.modLocket_latches (d : Dev) (f : Locket → Locket) : (d.modLocket f).latches = d.latches := rfl
@[simp] theorem Dev.modLocket_hostRead (d : Dev) (f : Locket → Locket) : (d.modLocket f).hostRead = d.hostRead := rfl
@[simp] theorem Dev.modLocket_hostOut (d : Dev) (f : Locket → Locket) : (d.modLocket f).hostOut = d.hostOut := rfl
@[simp] theorem Dev.modLocket_libTime (d : Dev) (f : Locket → Locket) : (d.modLocket f).libTime = d.libTime := rfl
@[simp] theorem Dev.modLocket_pcie (d : Dev) (f : Locket → Locket) : (d.modLocket f).pcie = d.pcie := rfl
@[simp] theorem Dev.modLocket_cameo (d : Dev) (f : Locket → Locket) : (d.modLocket f).cameo = d.cameo := rfl
@[simp] theorem Dev.modLocket_mgmt (d : Dev) (f : Locket → Locket) : (d.modLocket f).mgmt = d.mgmt := rfl
@[simp] theorem Dev.modLocket_keeper (d : Dev) (f : Locket → Locket) : (d.modLocket f).keeper = d.keeper := rfl
@[simp] theorem Dev.modLocket_thermal (d : Dev) (f : Locket → Locket) : (d.modLocket f).thermal = d.thermal := rfl
@[simp] theorem Dev.modLocket_power (d : Dev) (f : Locket → Locket) : (d.modLocket f).power = d.power := rfl
@[simp] theorem Dev.modLocket_mem (d : Dev) (f : Locket → Locket) : (d.modLocket f).mem = d.mem := rfl
@[simp] theorem Dev.modLocket_filigree (d : Dev) (f : Locket → Locket) : (d.modLocket f).filigree = d.filigree := rfl
@[simp] theorem Dev.modLocket_clasp (d : Dev) (f : Locket → Locket) : (d.modLocket f).clasp = d.clasp := rfl
@[simp] theorem Dev.modLocket_data (d : Dev) (f : Locket → Locket) : (d.modLocket f).data = d.data := rfl
@[simp] theorem Dev.modLocket_accounts (d : Dev) (f : Locket → Locket) : (d.modLocket f).accounts = d.accounts := rfl
@[simp] theorem Dev.modLocket_chains (d : Dev) (f : Locket → Locket) : (d.modLocket f).chains = d.chains := rfl
@[simp] theorem Dev.modLocket_surfaces (d : Dev) (f : Locket → Locket) : (d.modLocket f).surfaces = d.surfaces := rfl
@[simp] theorem Dev.modLocket_cores (d : Dev) (f : Locket → Locket) : (d.modLocket f).cores = d.cores := rfl
@[simp] theorem Dev.modLocket_bezels (d : Dev) (f : Locket → Locket) : (d.modLocket f).bezels = d.bezels := rfl
@[simp] theorem Dev.modLocket_heads (d : Dev) (f : Locket → Locket) : (d.modLocket f).heads = d.heads := rfl
@[simp] theorem Dev.modLocket_spindles (d : Dev) (f : Locket → Locket) : (d.modLocket f).spindles = d.spindles := rfl
@[simp] theorem Dev.modLocket_getF (d : Dev) (f : Locket → Locket) (g : Fld) (j : Nat) : getF (d.modLocket f) g j = getF d g j := rfl
@[simp] theorem Dev.modLocket_pendF (d : Dev) (f : Locket → Locket) (g : Fld) (j : Nat) : pendF (d.modLocket f) g j = pendF d g j := rfl

/-! ## modPower -/

@[simp] theorem Dev.modPower_freeIdx (d : Dev) (f : Power → Power) : (d.modPower f).freeIdx = d.freeIdx := rfl
@[simp] theorem Dev.modPower_regs (d : Dev) (f : Power → Power) : (d.modPower f).regs = d.regs := rfl
@[simp] theorem Dev.modPower_rvPend (d : Dev) (f : Power → Power) : (d.modPower f).rvPend = d.rvPend := rfl
@[simp] theorem Dev.modPower_hmPend (d : Dev) (f : Power → Power) : (d.modPower f).hmPend = d.hmPend := rfl
@[simp] theorem Dev.modPower_lifeClock (d : Dev) (f : Power → Power) : (d.modPower f).lifeClock = d.lifeClock := rfl
@[simp] theorem Dev.modPower_mLast (d : Dev) (f : Power → Power) : (d.modPower f).mLast = d.mLast := rfl
@[simp] theorem Dev.modPower_latches (d : Dev) (f : Power → Power) : (d.modPower f).latches = d.latches := rfl
@[simp] theorem Dev.modPower_hostRead (d : Dev) (f : Power → Power) : (d.modPower f).hostRead = d.hostRead := rfl
@[simp] theorem Dev.modPower_hostOut (d : Dev) (f : Power → Power) : (d.modPower f).hostOut = d.hostOut := rfl
@[simp] theorem Dev.modPower_libTime (d : Dev) (f : Power → Power) : (d.modPower f).libTime = d.libTime := rfl
@[simp] theorem Dev.modPower_pcie (d : Dev) (f : Power → Power) : (d.modPower f).pcie = d.pcie := rfl
@[simp] theorem Dev.modPower_locket (d : Dev) (f : Power → Power) : (d.modPower f).locket = d.locket := rfl
@[simp] theorem Dev.modPower_cameo (d : Dev) (f : Power → Power) : (d.modPower f).cameo = d.cameo := rfl
@[simp] theorem Dev.modPower_mgmt (d : Dev) (f : Power → Power) : (d.modPower f).mgmt = d.mgmt := rfl
@[simp] theorem Dev.modPower_keeper (d : Dev) (f : Power → Power) : (d.modPower f).keeper = d.keeper := rfl
@[simp] theorem Dev.modPower_thermal (d : Dev) (f : Power → Power) : (d.modPower f).thermal = d.thermal := rfl
@[simp] theorem Dev.modPower_mem (d : Dev) (f : Power → Power) : (d.modPower f).mem = d.mem := rfl
@[simp] theorem Dev.modPower_filigree (d : Dev) (f : Power → Power) : (d.modPower f).filigree = d.filigree := rfl
@[simp] theorem Dev.modPower_clasp (d : Dev) (f : Power → Power) : (d.modPower f).clasp = d.clasp := rfl
@[simp] theorem Dev.modPower_data (d : Dev) (f : Power → Power) : (d.modPower f).data = d.data := rfl
@[simp] theorem Dev.modPower_accounts (d : Dev) (f : Power → Power) : (d.modPower f).accounts = d.accounts := rfl
@[simp] theorem Dev.modPower_chains (d : Dev) (f : Power → Power) : (d.modPower f).chains = d.chains := rfl
@[simp] theorem Dev.modPower_surfaces (d : Dev) (f : Power → Power) : (d.modPower f).surfaces = d.surfaces := rfl
@[simp] theorem Dev.modPower_cores (d : Dev) (f : Power → Power) : (d.modPower f).cores = d.cores := rfl
@[simp] theorem Dev.modPower_bezels (d : Dev) (f : Power → Power) : (d.modPower f).bezels = d.bezels := rfl
@[simp] theorem Dev.modPower_heads (d : Dev) (f : Power → Power) : (d.modPower f).heads = d.heads := rfl
@[simp] theorem Dev.modPower_spindles (d : Dev) (f : Power → Power) : (d.modPower f).spindles = d.spindles := rfl
@[simp] theorem Dev.modPower_getF (d : Dev) (f : Power → Power) (g : Fld) (j : Nat) : getF (d.modPower f) g j = getF d g j := rfl
@[simp] theorem Dev.modPower_pendF (d : Dev) (f : Power → Power) (g : Fld) (j : Nat) : pendF (d.modPower f) g j = pendF d g j := rfl

/-! ## send -/

@[simp] theorem Dev.send_freeIdx (d : Dev) (m : HostMsg) : (d.send m).freeIdx = d.freeIdx := rfl
@[simp] theorem Dev.send_regs (d : Dev) (m : HostMsg) : (d.send m).regs = d.regs := rfl
@[simp] theorem Dev.send_rvPend (d : Dev) (m : HostMsg) : (d.send m).rvPend = d.rvPend := rfl
@[simp] theorem Dev.send_hmPend (d : Dev) (m : HostMsg) : (d.send m).hmPend = d.hmPend := rfl
@[simp] theorem Dev.send_lifeClock (d : Dev) (m : HostMsg) : (d.send m).lifeClock = d.lifeClock := rfl
@[simp] theorem Dev.send_mLast (d : Dev) (m : HostMsg) : (d.send m).mLast = d.mLast := rfl
@[simp] theorem Dev.send_latches (d : Dev) (m : HostMsg) : (d.send m).latches = d.latches := rfl
@[simp] theorem Dev.send_hostRead (d : Dev) (m : HostMsg) : (d.send m).hostRead = d.hostRead := rfl
@[simp] theorem Dev.send_libTime (d : Dev) (m : HostMsg) : (d.send m).libTime = d.libTime := rfl
@[simp] theorem Dev.send_pcie (d : Dev) (m : HostMsg) : (d.send m).pcie = d.pcie := rfl
@[simp] theorem Dev.send_locket (d : Dev) (m : HostMsg) : (d.send m).locket = d.locket := rfl
@[simp] theorem Dev.send_cameo (d : Dev) (m : HostMsg) : (d.send m).cameo = d.cameo := rfl
@[simp] theorem Dev.send_mgmt (d : Dev) (m : HostMsg) : (d.send m).mgmt = d.mgmt := rfl
@[simp] theorem Dev.send_keeper (d : Dev) (m : HostMsg) : (d.send m).keeper = d.keeper := rfl
@[simp] theorem Dev.send_thermal (d : Dev) (m : HostMsg) : (d.send m).thermal = d.thermal := rfl
@[simp] theorem Dev.send_power (d : Dev) (m : HostMsg) : (d.send m).power = d.power := rfl
@[simp] theorem Dev.send_mem (d : Dev) (m : HostMsg) : (d.send m).mem = d.mem := rfl
@[simp] theorem Dev.send_filigree (d : Dev) (m : HostMsg) : (d.send m).filigree = d.filigree := rfl
@[simp] theorem Dev.send_clasp (d : Dev) (m : HostMsg) : (d.send m).clasp = d.clasp := rfl
@[simp] theorem Dev.send_data (d : Dev) (m : HostMsg) : (d.send m).data = d.data := rfl
@[simp] theorem Dev.send_accounts (d : Dev) (m : HostMsg) : (d.send m).accounts = d.accounts := rfl
@[simp] theorem Dev.send_chains (d : Dev) (m : HostMsg) : (d.send m).chains = d.chains := rfl
@[simp] theorem Dev.send_surfaces (d : Dev) (m : HostMsg) : (d.send m).surfaces = d.surfaces := rfl
@[simp] theorem Dev.send_cores (d : Dev) (m : HostMsg) : (d.send m).cores = d.cores := rfl
@[simp] theorem Dev.send_bezels (d : Dev) (m : HostMsg) : (d.send m).bezels = d.bezels := rfl
@[simp] theorem Dev.send_heads (d : Dev) (m : HostMsg) : (d.send m).heads = d.heads := rfl
@[simp] theorem Dev.send_spindles (d : Dev) (m : HostMsg) : (d.send m).spindles = d.spindles := rfl
@[simp] theorem Dev.send_getF (d : Dev) (m : HostMsg) (g : Fld) (j : Nat) : getF (d.send m) g j = getF d g j := rfl
@[simp] theorem Dev.send_pendF (d : Dev) (m : HostMsg) (g : Fld) (j : Nat) : pendF (d.send m) g j = pendF d g j := rfl

/-! ## event -/

@[simp] theorem Dev.event_freeIdx (d : Dev) (t : Nat) (e : Event) (i : Nat) (p : List Nat) : (d.event t e i p).freeIdx = d.freeIdx := rfl
@[simp] theorem Dev.event_regs (d : Dev) (t : Nat) (e : Event) (i : Nat) (p : List Nat) : (d.event t e i p).regs = d.regs := rfl
@[simp] theorem Dev.event_rvPend (d : Dev) (t : Nat) (e : Event) (i : Nat) (p : List Nat) : (d.event t e i p).rvPend = d.rvPend := rfl
@[simp] theorem Dev.event_hmPend (d : Dev) (t : Nat) (e : Event) (i : Nat) (p : List Nat) : (d.event t e i p).hmPend = d.hmPend := rfl
@[simp] theorem Dev.event_lifeClock (d : Dev) (t : Nat) (e : Event) (i : Nat) (p : List Nat) : (d.event t e i p).lifeClock = d.lifeClock := rfl
@[simp] theorem Dev.event_mLast (d : Dev) (t : Nat) (e : Event) (i : Nat) (p : List Nat) : (d.event t e i p).mLast = d.mLast := rfl
@[simp] theorem Dev.event_latches (d : Dev) (t : Nat) (e : Event) (i : Nat) (p : List Nat) : (d.event t e i p).latches = d.latches := rfl
@[simp] theorem Dev.event_hostRead (d : Dev) (t : Nat) (e : Event) (i : Nat) (p : List Nat) : (d.event t e i p).hostRead = d.hostRead := rfl
@[simp] theorem Dev.event_hostOut (d : Dev) (t : Nat) (e : Event) (i : Nat) (p : List Nat) : (d.event t e i p).hostOut = d.hostOut := rfl
@[simp] theorem Dev.event_libTime (d : Dev) (t : Nat) (e : Event) (i : Nat) (p : List Nat) : (d.event t e i p).libTime = d.libTime := rfl
@[simp] theorem Dev.event_pcie (d : Dev) (t : Nat) (e : Event) (i : Nat) (p : List Nat) : (d.event t e i p).pcie = d.pcie := rfl
@[simp] theorem Dev.event_locket (d : Dev) (t : Nat) (e : Event) (i : Nat) (p : List Nat) : (d.event t e i p).locket = d.locket := rfl
@[simp] theorem Dev.event_mgmt (d : Dev) (t : Nat) (e : Event) (i : Nat) (p : List Nat) : (d.event t e i p).mgmt = d.mgmt := rfl
@[simp] theorem Dev.event_keeper (d : Dev) (t : Nat) (e : Event) (i : Nat) (p : List Nat) : (d.event t e i p).keeper = d.keeper := rfl
@[simp] theorem Dev.event_thermal (d : Dev) (t : Nat) (e : Event) (i : Nat) (p : List Nat) : (d.event t e i p).thermal = d.thermal := rfl
@[simp] theorem Dev.event_power (d : Dev) (t : Nat) (e : Event) (i : Nat) (p : List Nat) : (d.event t e i p).power = d.power := rfl
@[simp] theorem Dev.event_mem (d : Dev) (t : Nat) (e : Event) (i : Nat) (p : List Nat) : (d.event t e i p).mem = d.mem := rfl
@[simp] theorem Dev.event_filigree (d : Dev) (t : Nat) (e : Event) (i : Nat) (p : List Nat) : (d.event t e i p).filigree = d.filigree := rfl
@[simp] theorem Dev.event_clasp (d : Dev) (t : Nat) (e : Event) (i : Nat) (p : List Nat) : (d.event t e i p).clasp = d.clasp := rfl
@[simp] theorem Dev.event_data (d : Dev) (t : Nat) (e : Event) (i : Nat) (p : List Nat) : (d.event t e i p).data = d.data := rfl
@[simp] theorem Dev.event_accounts (d : Dev) (t : Nat) (e : Event) (i : Nat) (p : List Nat) : (d.event t e i p).accounts = d.accounts := rfl
@[simp] theorem Dev.event_chains (d : Dev) (t : Nat) (e : Event) (i : Nat) (p : List Nat) : (d.event t e i p).chains = d.chains := rfl
@[simp] theorem Dev.event_surfaces (d : Dev) (t : Nat) (e : Event) (i : Nat) (p : List Nat) : (d.event t e i p).surfaces = d.surfaces := rfl
@[simp] theorem Dev.event_cores (d : Dev) (t : Nat) (e : Event) (i : Nat) (p : List Nat) : (d.event t e i p).cores = d.cores := rfl
@[simp] theorem Dev.event_bezels (d : Dev) (t : Nat) (e : Event) (i : Nat) (p : List Nat) : (d.event t e i p).bezels = d.bezels := rfl
@[simp] theorem Dev.event_heads (d : Dev) (t : Nat) (e : Event) (i : Nat) (p : List Nat) : (d.event t e i p).heads = d.heads := rfl
@[simp] theorem Dev.event_spindles (d : Dev) (t : Nat) (e : Event) (i : Nat) (p : List Nat) : (d.event t e i p).spindles = d.spindles := rfl
@[simp] theorem Dev.event_getF (d : Dev) (t : Nat) (e : Event) (i : Nat) (p : List Nat) (g : Fld) (j : Nat) : getF (d.event t e i p) g j = getF d g j := rfl
@[simp] theorem Dev.event_pendF (d : Dev) (t : Nat) (e : Event) (i : Nat) (p : List Nat) (g : Fld) (j : Nat) : pendF (d.event t e i p) g j = pendF d g j := rfl

/-! ## setF -/

@[simp] theorem Dev.setF_freeIdx (d : Dev) (f : Fld) (i v : Nat) : (setF d f i v).freeIdx = d.freeIdx := rfl
@[simp] theorem Dev.setF_rvPend (d : Dev) (f : Fld) (i v : Nat) : (setF d f i v).rvPend = d.rvPend := rfl
@[simp] theorem Dev.setF_hmPend (d : Dev) (f : Fld) (i v : Nat) : (setF d f i v).hmPend = d.hmPend := rfl
@[simp] theorem Dev.setF_lifeClock (d : Dev) (f : Fld) (i v : Nat) : (setF d f i v).lifeClock = d.lifeClock := rfl
@[simp] theorem Dev.setF_mLast (d : Dev) (f : Fld) (i v : Nat) : (setF d f i v).mLast = d.mLast := rfl
@[simp] theorem Dev.setF_latches (d : Dev) (f : Fld) (i v : Nat) : (setF d f i v).latches = d.latches := rfl
@[simp] theorem Dev.setF_hostRead (d : Dev) (f : Fld) (i v : Nat) : (setF d f i v).hostRead = d.hostRead := rfl
@[simp] theorem Dev.setF_hostOut (d : Dev) (f : Fld) (i v : Nat) : (setF d f i v).hostOut = d.hostOut := rfl
@[simp] theorem Dev.setF_libTime (d : Dev) (f : Fld) (i v : Nat) : (setF d f i v).libTime = d.libTime := rfl
@[simp] theorem Dev.setF_pcie (d : Dev) (f : Fld) (i v : Nat) : (setF d f i v).pcie = d.pcie := rfl
@[simp] theorem Dev.setF_locket (d : Dev) (f : Fld) (i v : Nat) : (setF d f i v).locket = d.locket := rfl
@[simp] theorem Dev.setF_cameo (d : Dev) (f : Fld) (i v : Nat) : (setF d f i v).cameo = d.cameo := rfl
@[simp] theorem Dev.setF_mgmt (d : Dev) (f : Fld) (i v : Nat) : (setF d f i v).mgmt = d.mgmt := rfl
@[simp] theorem Dev.setF_keeper (d : Dev) (f : Fld) (i v : Nat) : (setF d f i v).keeper = d.keeper := rfl
@[simp] theorem Dev.setF_thermal (d : Dev) (f : Fld) (i v : Nat) : (setF d f i v).thermal = d.thermal := rfl
@[simp] theorem Dev.setF_power (d : Dev) (f : Fld) (i v : Nat) : (setF d f i v).power = d.power := rfl
@[simp] theorem Dev.setF_mem (d : Dev) (f : Fld) (i v : Nat) : (setF d f i v).mem = d.mem := rfl
@[simp] theorem Dev.setF_filigree (d : Dev) (f : Fld) (i v : Nat) : (setF d f i v).filigree = d.filigree := rfl
@[simp] theorem Dev.setF_clasp (d : Dev) (f : Fld) (i v : Nat) : (setF d f i v).clasp = d.clasp := rfl
@[simp] theorem Dev.setF_data (d : Dev) (f : Fld) (i v : Nat) : (setF d f i v).data = d.data := rfl
@[simp] theorem Dev.setF_accounts (d : Dev) (f : Fld) (i v : Nat) : (setF d f i v).accounts = d.accounts := rfl
@[simp] theorem Dev.setF_chains (d : Dev) (f : Fld) (i v : Nat) : (setF d f i v).chains = d.chains := rfl
@[simp] theorem Dev.setF_surfaces (d : Dev) (f : Fld) (i v : Nat) : (setF d f i v).surfaces = d.surfaces := rfl
@[simp] theorem Dev.setF_cores (d : Dev) (f : Fld) (i v : Nat) : (setF d f i v).cores = d.cores := rfl
@[simp] theorem Dev.setF_bezels (d : Dev) (f : Fld) (i v : Nat) : (setF d f i v).bezels = d.bezels := rfl
@[simp] theorem Dev.setF_heads (d : Dev) (f : Fld) (i v : Nat) : (setF d f i v).heads = d.heads := rfl
@[simp] theorem Dev.setF_spindles (d : Dev) (f : Fld) (i v : Nat) : (setF d f i v).spindles = d.spindles := rfl
@[simp] theorem Dev.setF_pendF (d : Dev) (f : Fld) (i v : Nat) (g : Fld) (j : Nat) : pendF (setF d f i v) g j = pendF d g j := rfl

/-! ## resetF -/

@[simp] theorem Dev.resetF_freeIdx (d : Dev) (f : Fld) (i : Nat) : (resetF d f i).freeIdx = d.freeIdx := rfl
@[simp] theorem Dev.resetF_rvPend (d : Dev) (f : Fld) (i : Nat) : (resetF d f i).rvPend = d.rvPend := rfl
@[simp] theorem Dev.resetF_hmPend (d : Dev) (f : Fld) (i : Nat) : (resetF d f i).hmPend = d.hmPend := rfl
@[simp] theorem Dev.resetF_lifeClock (d : Dev) (f : Fld) (i : Nat) : (resetF d f i).lifeClock = d.lifeClock := rfl
@[simp] theorem Dev.resetF_mLast (d : Dev) (f : Fld) (i : Nat) : (resetF d f i).mLast = d.mLast := rfl
@[simp] theorem Dev.resetF_latches (d : Dev) (f : Fld) (i : Nat) : (resetF d f i).latches = d.latches := rfl
@[simp] theorem Dev.resetF_hostRead (d : Dev) (f : Fld) (i : Nat) : (resetF d f i).hostRead = d.hostRead := rfl
@[simp] theorem Dev.resetF_hostOut (d : Dev) (f : Fld) (i : Nat) : (resetF d f i).hostOut = d.hostOut := rfl
@[simp] theorem Dev.resetF_libTime (d : Dev) (f : Fld) (i : Nat) : (resetF d f i).libTime = d.libTime := rfl
@[simp] theorem Dev.resetF_pcie (d : Dev) (f : Fld) (i : Nat) : (resetF d f i).pcie = d.pcie := rfl
@[simp] theorem Dev.resetF_locket (d : Dev) (f : Fld) (i : Nat) : (resetF d f i).locket = d.locket := rfl
@[simp] theorem Dev.resetF_cameo (d : Dev) (f : Fld) (i : Nat) : (resetF d f i).cameo = d.cameo := rfl
@[simp] theorem Dev.resetF_mgmt (d : Dev) (f : Fld) (i : Nat) : (resetF d f i).mgmt = d.mgmt := rfl
@[simp] theorem Dev.resetF_keeper (d : Dev) (f : Fld) (i : Nat) : (resetF d f i).keeper = d.keeper := rfl
@[simp] theorem Dev.resetF_thermal (d : Dev) (f : Fld) (i : Nat) : (resetF d f i).thermal = d.thermal := rfl
@[simp] theorem Dev.resetF_power (d : Dev) (f : Fld) (i : Nat) : (resetF d f i).power = d.power := rfl
@[simp] theorem Dev.resetF_mem (d : Dev) (f : Fld) (i : Nat) : (resetF d f i).mem = d.mem := rfl
@[simp] theorem Dev.resetF_filigree (d : Dev) (f : Fld) (i : Nat) : (resetF d f i).filigree = d.filigree := rfl
@[simp] theorem Dev.resetF_clasp (d : Dev) (f : Fld) (i : Nat) : (resetF d f i).clasp = d.clasp := rfl
@[simp] theorem Dev.resetF_data (d : Dev) (f : Fld) (i : Nat) : (resetF d f i).data = d.data := rfl
@[simp] theorem Dev.resetF_accounts (d : Dev) (f : Fld) (i : Nat) : (resetF d f i).accounts = d.accounts := rfl
@[simp] theorem Dev.resetF_chains (d : Dev) (f : Fld) (i : Nat) : (resetF d f i).chains = d.chains := rfl
@[simp] theorem Dev.resetF_surfaces (d : Dev) (f : Fld) (i : Nat) : (resetF d f i).surfaces = d.surfaces := rfl
@[simp] theorem Dev.resetF_cores (d : Dev) (f : Fld) (i : Nat) : (resetF d f i).cores = d.cores := rfl
@[simp] theorem Dev.resetF_bezels (d : Dev) (f : Fld) (i : Nat) : (resetF d f i).bezels = d.bezels := rfl
@[simp] theorem Dev.resetF_heads (d : Dev) (f : Fld) (i : Nat) : (resetF d f i).heads = d.heads := rfl
@[simp] theorem Dev.resetF_spindles (d : Dev) (f : Fld) (i : Nat) : (resetF d f i).spindles = d.spindles := rfl
@[simp] theorem Dev.resetF_pendF (d : Dev) (f : Fld) (i : Nat) (g : Fld) (j : Nat) : pendF (resetF d f i) g j = pendF d g j := rfl

/-! ## setPend -/

@[simp] theorem Dev.setPend_freeIdx (d : Dev) (f : Fld) (i v : Nat) : (setPend d f i v).freeIdx = d.freeIdx := rfl
@[simp] theorem Dev.setPend_regs (d : Dev) (f : Fld) (i v : Nat) : (setPend d f i v).regs = d.regs := rfl
@[simp] theorem Dev.setPend_lifeClock (d : Dev) (f : Fld) (i v : Nat) : (setPend d f i v).lifeClock = d.lifeClock := rfl
@[simp] theorem Dev.setPend_mLast (d : Dev) (f : Fld) (i v : Nat) : (setPend d f i v).mLast = d.mLast := rfl
@[simp] theorem Dev.setPend_latches (d : Dev) (f : Fld) (i v : Nat) : (setPend d f i v).latches = d.latches := rfl
@[simp] theorem Dev.setPend_hostRead (d : Dev) (f : Fld) (i v : Nat) : (setPend d f i v).hostRead = d.hostRead := rfl
@[simp] theorem Dev.setPend_hostOut (d : Dev) (f : Fld) (i v : Nat) : (setPend d f i v).hostOut = d.hostOut := rfl
@[simp] theorem Dev.setPend_libTime (d : Dev) (f : Fld) (i v : Nat) : (setPend d f i v).libTime = d.libTime := rfl
@[simp] theorem Dev.setPend_pcie (d : Dev) (f : Fld) (i v : Nat) : (setPend d f i v).pcie = d.pcie := rfl
@[simp] theorem Dev.setPend_locket (d : Dev) (f : Fld) (i v : Nat) : (setPend d f i v).locket = d.locket := rfl
@[simp] theorem Dev.setPend_cameo (d : Dev) (f : Fld) (i v : Nat) : (setPend d f i v).cameo = d.cameo := rfl
@[simp] theorem Dev.setPend_mgmt (d : Dev) (f : Fld) (i v : Nat) : (setPend d f i v).mgmt = d.mgmt := rfl
@[simp] theorem Dev.setPend_keeper (d : Dev) (f : Fld) (i v : Nat) : (setPend d f i v).keeper = d.keeper := rfl
@[simp] theorem Dev.setPend_thermal (d : Dev) (f : Fld) (i v : Nat) : (setPend d f i v).thermal = d.thermal := rfl
@[simp] theorem Dev.setPend_power (d : Dev) (f : Fld) (i v : Nat) : (setPend d f i v).power = d.power := rfl
@[simp] theorem Dev.setPend_mem (d : Dev) (f : Fld) (i v : Nat) : (setPend d f i v).mem = d.mem := rfl
@[simp] theorem Dev.setPend_filigree (d : Dev) (f : Fld) (i v : Nat) : (setPend d f i v).filigree = d.filigree := rfl
@[simp] theorem Dev.setPend_clasp (d : Dev) (f : Fld) (i v : Nat) : (setPend d f i v).clasp = d.clasp := rfl
@[simp] theorem Dev.setPend_data (d : Dev) (f : Fld) (i v : Nat) : (setPend d f i v).data = d.data := rfl
@[simp] theorem Dev.setPend_accounts (d : Dev) (f : Fld) (i v : Nat) : (setPend d f i v).accounts = d.accounts := rfl
@[simp] theorem Dev.setPend_chains (d : Dev) (f : Fld) (i v : Nat) : (setPend d f i v).chains = d.chains := rfl
@[simp] theorem Dev.setPend_surfaces (d : Dev) (f : Fld) (i v : Nat) : (setPend d f i v).surfaces = d.surfaces := rfl
@[simp] theorem Dev.setPend_cores (d : Dev) (f : Fld) (i v : Nat) : (setPend d f i v).cores = d.cores := rfl
@[simp] theorem Dev.setPend_bezels (d : Dev) (f : Fld) (i v : Nat) : (setPend d f i v).bezels = d.bezels := rfl
@[simp] theorem Dev.setPend_heads (d : Dev) (f : Fld) (i v : Nat) : (setPend d f i v).heads = d.heads := rfl
@[simp] theorem Dev.setPend_spindles (d : Dev) (f : Fld) (i v : Nat) : (setPend d f i v).spindles = d.spindles := rfl
@[simp] theorem Dev.setPend_getF (d : Dev) (f : Fld) (i v : Nat) (g : Fld) (j : Nat) : getF (setPend d f i v) g j = getF d g j := rfl

/-! ## Elements of the arrays -/

@[simp] theorem Dev.head_modHead (d : Dev) (x : HeadId) (f : Head → Head) : (d.modHead x f).head x = f (d.head x) := by
  simp [Dev.head, Dev.modHead]
theorem Dev.head_modHead_ne (d : Dev) {x y : HeadId} (f : Head → Head) (h : y ≠ x) : (d.modHead x f).head y = d.head y := by
  have hv : x.val ≠ y.val := fun e => h (Fin.ext e.symm)
  simp [Dev.head, Dev.modHead, Vector.getElem_set_ne, hv]
@[simp] theorem Dev.spin_modSpin (d : Dev) (x : SpinId) (f : Spindle → Spindle) : (d.modSpin x f).spin x = f (d.spin x) := by
  simp [Dev.spin, Dev.modSpin]
theorem Dev.spin_modSpin_ne (d : Dev) {x y : SpinId} (f : Spindle → Spindle) (h : y ≠ x) : (d.modSpin x f).spin y = d.spin y := by
  have hv : x.val ≠ y.val := fun e => h (Fin.ext e.symm)
  simp [Dev.spin, Dev.modSpin, Vector.getElem_set_ne, hv]
@[simp] theorem Dev.surf_modSurf (d : Dev) (x : SurfId) (f : Surface → Surface) : (d.modSurf x f).surf x = f (d.surf x) := by
  simp [Dev.surf, Dev.modSurf]
theorem Dev.surf_modSurf_ne (d : Dev) {x y : SurfId} (f : Surface → Surface) (h : y ≠ x) : (d.modSurf x f).surf y = d.surf y := by
  have hv : x.val ≠ y.val := fun e => h (Fin.ext e.symm)
  simp [Dev.surf, Dev.modSurf, Vector.getElem_set_ne, hv]
@[simp] theorem Dev.chain_modChain (d : Dev) (x : Fin 16) (f : Chain → Chain) : (d.modChain x f).chain x = f (d.chain x) := by
  simp [Dev.chain, Dev.modChain]
theorem Dev.chain_modChain_ne (d : Dev) {x y : Fin 16} (f : Chain → Chain) (h : y ≠ x) : (d.modChain x f).chain y = d.chain y := by
  have hv : x.val ≠ y.val := fun e => h (Fin.ext e.symm)
  simp [Dev.chain, Dev.modChain, Vector.getElem_set_ne, hv]
@[simp] theorem Dev.bezel_modBezel (d : Dev) (x : BezelId) (f : Bezel → Bezel) : (d.modBezel x f).bezel x = f (d.bezel x) := by
  simp [Dev.bezel, Dev.modBezel]
theorem Dev.bezel_modBezel_ne (d : Dev) {x y : BezelId} (f : Bezel → Bezel) (h : y ≠ x) : (d.modBezel x f).bezel y = d.bezel y := by
  have hv : x.val ≠ y.val := fun e => h (Fin.ext e.symm)
  simp [Dev.bezel, Dev.modBezel, Vector.getElem_set_ne, hv]
@[simp] theorem Dev.modSpin_head (d : Dev) (s : SpinId) (f : Spindle → Spindle) (y : HeadId) : (d.modSpin s f).head y = d.head y := rfl
@[simp] theorem Dev.modSurf_head (d : Dev) (s : SurfId) (f : Surface → Surface) (y : HeadId) : (d.modSurf s f).head y = d.head y := rfl
@[simp] theorem Dev.modChain_head (d : Dev) (c : Fin 16) (f : Chain → Chain) (y : HeadId) : (d.modChain c f).head y = d.head y := rfl
@[simp] theorem Dev.modBezel_head (d : Dev) (b : BezelId) (f : Bezel → Bezel) (y : HeadId) : (d.modBezel b f).head y = d.head y := rfl
@[simp] theorem Dev.modClasp_head (d : Dev) (f : Clasp → Clasp) (y : HeadId) : (d.modClasp f).head y = d.head y := rfl
@[simp] theorem Dev.modData_head (d : Dev) (f : Data → Data) (y : HeadId) : (d.modData f).head y = d.head y := rfl
@[simp] theorem Dev.modKeeper_head (d : Dev) (f : Keeper → Keeper) (y : HeadId) : (d.modKeeper f).head y = d.head y := rfl
@[simp] theorem Dev.modMem_head (d : Dev) (f : Mem → Mem) (y : HeadId) : (d.modMem f).head y = d.head y := rfl
@[simp] theorem Dev.modLocket_head (d : Dev) (f : Locket → Locket) (y : HeadId) : (d.modLocket f).head y = d.head y := rfl
@[simp] theorem Dev.modPower_head (d : Dev) (f : Power → Power) (y : HeadId) : (d.modPower f).head y = d.head y := rfl
@[simp] theorem Dev.send_head (d : Dev) (m : HostMsg) (y : HeadId) : (d.send m).head y = d.head y := rfl
@[simp] theorem Dev.event_head (d : Dev) (t : Nat) (e : Event) (i : Nat) (p : List Nat) (y : HeadId) : (d.event t e i p).head y = d.head y := rfl
@[simp] theorem Dev.setF_head (d : Dev) (f : Fld) (i v : Nat) (y : HeadId) : (setF d f i v).head y = d.head y := rfl
@[simp] theorem Dev.resetF_head (d : Dev) (f : Fld) (i : Nat) (y : HeadId) : (resetF d f i).head y = d.head y := rfl
@[simp] theorem Dev.setPend_head (d : Dev) (f : Fld) (i v : Nat) (y : HeadId) : (setPend d f i v).head y = d.head y := rfl
@[simp] theorem Dev.modHead_spin (d : Dev) (h : HeadId) (f : Head → Head) (y : SpinId) : (d.modHead h f).spin y = d.spin y := rfl
@[simp] theorem Dev.modSurf_spin (d : Dev) (s : SurfId) (f : Surface → Surface) (y : SpinId) : (d.modSurf s f).spin y = d.spin y := rfl
@[simp] theorem Dev.modChain_spin (d : Dev) (c : Fin 16) (f : Chain → Chain) (y : SpinId) : (d.modChain c f).spin y = d.spin y := rfl
@[simp] theorem Dev.modBezel_spin (d : Dev) (b : BezelId) (f : Bezel → Bezel) (y : SpinId) : (d.modBezel b f).spin y = d.spin y := rfl
@[simp] theorem Dev.modClasp_spin (d : Dev) (f : Clasp → Clasp) (y : SpinId) : (d.modClasp f).spin y = d.spin y := rfl
@[simp] theorem Dev.modData_spin (d : Dev) (f : Data → Data) (y : SpinId) : (d.modData f).spin y = d.spin y := rfl
@[simp] theorem Dev.modKeeper_spin (d : Dev) (f : Keeper → Keeper) (y : SpinId) : (d.modKeeper f).spin y = d.spin y := rfl
@[simp] theorem Dev.modMem_spin (d : Dev) (f : Mem → Mem) (y : SpinId) : (d.modMem f).spin y = d.spin y := rfl
@[simp] theorem Dev.modLocket_spin (d : Dev) (f : Locket → Locket) (y : SpinId) : (d.modLocket f).spin y = d.spin y := rfl
@[simp] theorem Dev.modPower_spin (d : Dev) (f : Power → Power) (y : SpinId) : (d.modPower f).spin y = d.spin y := rfl
@[simp] theorem Dev.send_spin (d : Dev) (m : HostMsg) (y : SpinId) : (d.send m).spin y = d.spin y := rfl
@[simp] theorem Dev.event_spin (d : Dev) (t : Nat) (e : Event) (i : Nat) (p : List Nat) (y : SpinId) : (d.event t e i p).spin y = d.spin y := rfl
@[simp] theorem Dev.setF_spin (d : Dev) (f : Fld) (i v : Nat) (y : SpinId) : (setF d f i v).spin y = d.spin y := rfl
@[simp] theorem Dev.resetF_spin (d : Dev) (f : Fld) (i : Nat) (y : SpinId) : (resetF d f i).spin y = d.spin y := rfl
@[simp] theorem Dev.setPend_spin (d : Dev) (f : Fld) (i v : Nat) (y : SpinId) : (setPend d f i v).spin y = d.spin y := rfl
@[simp] theorem Dev.modHead_surf (d : Dev) (h : HeadId) (f : Head → Head) (y : SurfId) : (d.modHead h f).surf y = d.surf y := rfl
@[simp] theorem Dev.modSpin_surf (d : Dev) (s : SpinId) (f : Spindle → Spindle) (y : SurfId) : (d.modSpin s f).surf y = d.surf y := rfl
@[simp] theorem Dev.modChain_surf (d : Dev) (c : Fin 16) (f : Chain → Chain) (y : SurfId) : (d.modChain c f).surf y = d.surf y := rfl
@[simp] theorem Dev.modBezel_surf (d : Dev) (b : BezelId) (f : Bezel → Bezel) (y : SurfId) : (d.modBezel b f).surf y = d.surf y := rfl
@[simp] theorem Dev.modClasp_surf (d : Dev) (f : Clasp → Clasp) (y : SurfId) : (d.modClasp f).surf y = d.surf y := rfl
@[simp] theorem Dev.modData_surf (d : Dev) (f : Data → Data) (y : SurfId) : (d.modData f).surf y = d.surf y := rfl
@[simp] theorem Dev.modKeeper_surf (d : Dev) (f : Keeper → Keeper) (y : SurfId) : (d.modKeeper f).surf y = d.surf y := rfl
@[simp] theorem Dev.modMem_surf (d : Dev) (f : Mem → Mem) (y : SurfId) : (d.modMem f).surf y = d.surf y := rfl
@[simp] theorem Dev.modLocket_surf (d : Dev) (f : Locket → Locket) (y : SurfId) : (d.modLocket f).surf y = d.surf y := rfl
@[simp] theorem Dev.modPower_surf (d : Dev) (f : Power → Power) (y : SurfId) : (d.modPower f).surf y = d.surf y := rfl
@[simp] theorem Dev.send_surf (d : Dev) (m : HostMsg) (y : SurfId) : (d.send m).surf y = d.surf y := rfl
@[simp] theorem Dev.event_surf (d : Dev) (t : Nat) (e : Event) (i : Nat) (p : List Nat) (y : SurfId) : (d.event t e i p).surf y = d.surf y := rfl
@[simp] theorem Dev.setF_surf (d : Dev) (f : Fld) (i v : Nat) (y : SurfId) : (setF d f i v).surf y = d.surf y := rfl
@[simp] theorem Dev.resetF_surf (d : Dev) (f : Fld) (i : Nat) (y : SurfId) : (resetF d f i).surf y = d.surf y := rfl
@[simp] theorem Dev.setPend_surf (d : Dev) (f : Fld) (i v : Nat) (y : SurfId) : (setPend d f i v).surf y = d.surf y := rfl
@[simp] theorem Dev.modHead_chain (d : Dev) (h : HeadId) (f : Head → Head) (y : Fin 16) : (d.modHead h f).chain y = d.chain y := rfl
@[simp] theorem Dev.modSpin_chain (d : Dev) (s : SpinId) (f : Spindle → Spindle) (y : Fin 16) : (d.modSpin s f).chain y = d.chain y := rfl
@[simp] theorem Dev.modSurf_chain (d : Dev) (s : SurfId) (f : Surface → Surface) (y : Fin 16) : (d.modSurf s f).chain y = d.chain y := rfl
@[simp] theorem Dev.modBezel_chain (d : Dev) (b : BezelId) (f : Bezel → Bezel) (y : Fin 16) : (d.modBezel b f).chain y = d.chain y := rfl
@[simp] theorem Dev.modClasp_chain (d : Dev) (f : Clasp → Clasp) (y : Fin 16) : (d.modClasp f).chain y = d.chain y := rfl
@[simp] theorem Dev.modData_chain (d : Dev) (f : Data → Data) (y : Fin 16) : (d.modData f).chain y = d.chain y := rfl
@[simp] theorem Dev.modKeeper_chain (d : Dev) (f : Keeper → Keeper) (y : Fin 16) : (d.modKeeper f).chain y = d.chain y := rfl
@[simp] theorem Dev.modMem_chain (d : Dev) (f : Mem → Mem) (y : Fin 16) : (d.modMem f).chain y = d.chain y := rfl
@[simp] theorem Dev.modLocket_chain (d : Dev) (f : Locket → Locket) (y : Fin 16) : (d.modLocket f).chain y = d.chain y := rfl
@[simp] theorem Dev.modPower_chain (d : Dev) (f : Power → Power) (y : Fin 16) : (d.modPower f).chain y = d.chain y := rfl
@[simp] theorem Dev.send_chain (d : Dev) (m : HostMsg) (y : Fin 16) : (d.send m).chain y = d.chain y := rfl
@[simp] theorem Dev.event_chain (d : Dev) (t : Nat) (e : Event) (i : Nat) (p : List Nat) (y : Fin 16) : (d.event t e i p).chain y = d.chain y := rfl
@[simp] theorem Dev.setF_chain (d : Dev) (f : Fld) (i v : Nat) (y : Fin 16) : (setF d f i v).chain y = d.chain y := rfl
@[simp] theorem Dev.resetF_chain (d : Dev) (f : Fld) (i : Nat) (y : Fin 16) : (resetF d f i).chain y = d.chain y := rfl
@[simp] theorem Dev.setPend_chain (d : Dev) (f : Fld) (i v : Nat) (y : Fin 16) : (setPend d f i v).chain y = d.chain y := rfl
@[simp] theorem Dev.modHead_bezel (d : Dev) (h : HeadId) (f : Head → Head) (y : BezelId) : (d.modHead h f).bezel y = d.bezel y := rfl
@[simp] theorem Dev.modSpin_bezel (d : Dev) (s : SpinId) (f : Spindle → Spindle) (y : BezelId) : (d.modSpin s f).bezel y = d.bezel y := rfl
@[simp] theorem Dev.modSurf_bezel (d : Dev) (s : SurfId) (f : Surface → Surface) (y : BezelId) : (d.modSurf s f).bezel y = d.bezel y := rfl
@[simp] theorem Dev.modChain_bezel (d : Dev) (c : Fin 16) (f : Chain → Chain) (y : BezelId) : (d.modChain c f).bezel y = d.bezel y := rfl
@[simp] theorem Dev.modClasp_bezel (d : Dev) (f : Clasp → Clasp) (y : BezelId) : (d.modClasp f).bezel y = d.bezel y := rfl
@[simp] theorem Dev.modData_bezel (d : Dev) (f : Data → Data) (y : BezelId) : (d.modData f).bezel y = d.bezel y := rfl
@[simp] theorem Dev.modKeeper_bezel (d : Dev) (f : Keeper → Keeper) (y : BezelId) : (d.modKeeper f).bezel y = d.bezel y := rfl
@[simp] theorem Dev.modMem_bezel (d : Dev) (f : Mem → Mem) (y : BezelId) : (d.modMem f).bezel y = d.bezel y := rfl
@[simp] theorem Dev.modLocket_bezel (d : Dev) (f : Locket → Locket) (y : BezelId) : (d.modLocket f).bezel y = d.bezel y := rfl
@[simp] theorem Dev.modPower_bezel (d : Dev) (f : Power → Power) (y : BezelId) : (d.modPower f).bezel y = d.bezel y := rfl
@[simp] theorem Dev.send_bezel (d : Dev) (m : HostMsg) (y : BezelId) : (d.send m).bezel y = d.bezel y := rfl
@[simp] theorem Dev.event_bezel (d : Dev) (t : Nat) (e : Event) (i : Nat) (p : List Nat) (y : BezelId) : (d.event t e i p).bezel y = d.bezel y := rfl
@[simp] theorem Dev.setF_bezel (d : Dev) (f : Fld) (i v : Nat) (y : BezelId) : (setF d f i v).bezel y = d.bezel y := rfl
@[simp] theorem Dev.resetF_bezel (d : Dev) (f : Fld) (i : Nat) (y : BezelId) : (resetF d f i).bezel y = d.bezel y := rfl
@[simp] theorem Dev.setPend_bezel (d : Dev) (f : Fld) (i v : Nat) (y : BezelId) : (setPend d f i v).bezel y = d.bezel y := rfl

/-! ## Parts of a head and of a spindle -/

@[simp] theorem Dev.modLink_link (d : Dev) (h : HeadId) (f : HeadLink → HeadLink) : ((d.modLink h f).head h).link = f (d.head h).link := by
  simp [Dev.modLink]
@[simp] theorem Dev.modLink_head_down (d : Dev) (h : HeadId) (f : HeadLink → HeadLink) : ((d.modLink h f).head h).down = (d.head h).down := by
  simp [Dev.modLink]
@[simp] theorem Dev.modLink_head_wire (d : Dev) (h : HeadId) (f : HeadLink → HeadLink) : ((d.modLink h f).head h).wire = (d.head h).wire := by
  simp [Dev.modLink]
@[simp] theorem Dev.modLink_head_loops (d : Dev) (h : HeadId) (f : HeadLink → HeadLink) : ((d.modLink h f).head h).loops = (d.head h).loops := by
  simp [Dev.modLink]
@[simp] theorem Dev.modLink_head_before (d : Dev) (h : HeadId) (f : HeadLink → HeadLink) : ((d.modLink h f).head h).before = (d.head h).before := by
  simp [Dev.modLink]
@[simp] theorem Dev.modLink_head_learnTrk0 (d : Dev) (h : HeadId) (f : HeadLink → HeadLink) : ((d.modLink h f).head h).learnTrk0 = (d.head h).learnTrk0 := by
  simp [Dev.modLink]
@[simp] theorem Dev.modLink_head_learnFoc0 (d : Dev) (h : HeadId) (f : HeadLink → HeadLink) : ((d.modLink h f).head h).learnFoc0 = (d.head h).learnFoc0 := by
  simp [Dev.modLink]
@[simp] theorem Dev.modLink_head_motion (d : Dev) (h : HeadId) (f : HeadLink → HeadLink) : ((d.modLink h f).head h).motion = (d.head h).motion := by
  simp [Dev.modLink]
@[simp] theorem Dev.modLink_head_facet (d : Dev) (h : HeadId) (f : HeadLink → HeadLink) : ((d.modLink h f).head h).facet = (d.head h).facet := by
  simp [Dev.modLink]
@[simp] theorem Dev.modLink_head_learnTrk (d : Dev) (h : HeadId) (f : HeadLink → HeadLink) : ((d.modLink h f).head h).learnTrk = (d.head h).learnTrk := by
  simp [Dev.modLink]
@[simp] theorem Dev.modLink_head_learnFoc (d : Dev) (h : HeadId) (f : HeadLink → HeadLink) : ((d.modLink h f).head h).learnFoc = (d.head h).learnFoc := by
  simp [Dev.modLink]
@[simp] theorem Dev.modLink_head_hallmark (d : Dev) (h : HeadId) (f : HeadLink → HeadLink) : ((d.modLink h f).head h).hallmark = (d.head h).hallmark := by
  simp [Dev.modLink]
@[simp] theorem Dev.modLink_head_banks (d : Dev) (h : HeadId) (f : HeadLink → HeadLink) : ((d.modLink h f).head h).banks = (d.head h).banks := by
  simp [Dev.modLink]
@[simp] theorem Dev.modLink_head_noWrite (d : Dev) (h : HeadId) (f : HeadLink → HeadLink) : ((d.modLink h f).head h).noWrite = (d.head h).noWrite := by
  simp [Dev.modLink]
@[simp] theorem Dev.modLink_head_keep (d : Dev) (h : HeadId) (f : HeadLink → HeadLink) : ((d.modLink h f).head h).keep = (d.head h).keep := by
  simp [Dev.modLink]
theorem Dev.modLink_head_ne (d : Dev) {h g : HeadId} (f : HeadLink → HeadLink) (n : g ≠ h) : (d.modLink h f).head g = d.head g :=
  Dev.head_modHead_ne d _ n
@[simp] theorem Dev.modDown_down (d : Dev) (h : HeadId) (f : HeadDown → HeadDown) : ((d.modDown h f).head h).down = f (d.head h).down := by
  simp [Dev.modDown]
@[simp] theorem Dev.modDown_head_link (d : Dev) (h : HeadId) (f : HeadDown → HeadDown) : ((d.modDown h f).head h).link = (d.head h).link := by
  simp [Dev.modDown]
@[simp] theorem Dev.modDown_head_wire (d : Dev) (h : HeadId) (f : HeadDown → HeadDown) : ((d.modDown h f).head h).wire = (d.head h).wire := by
  simp [Dev.modDown]
@[simp] theorem Dev.modDown_head_loops (d : Dev) (h : HeadId) (f : HeadDown → HeadDown) : ((d.modDown h f).head h).loops = (d.head h).loops := by
  simp [Dev.modDown]
@[simp] theorem Dev.modDown_head_before (d : Dev) (h : HeadId) (f : HeadDown → HeadDown) : ((d.modDown h f).head h).before = (d.head h).before := by
  simp [Dev.modDown]
@[simp] theorem Dev.modDown_head_learnTrk0 (d : Dev) (h : HeadId) (f : HeadDown → HeadDown) : ((d.modDown h f).head h).learnTrk0 = (d.head h).learnTrk0 := by
  simp [Dev.modDown]
@[simp] theorem Dev.modDown_head_learnFoc0 (d : Dev) (h : HeadId) (f : HeadDown → HeadDown) : ((d.modDown h f).head h).learnFoc0 = (d.head h).learnFoc0 := by
  simp [Dev.modDown]
@[simp] theorem Dev.modDown_head_motion (d : Dev) (h : HeadId) (f : HeadDown → HeadDown) : ((d.modDown h f).head h).motion = (d.head h).motion := by
  simp [Dev.modDown]
@[simp] theorem Dev.modDown_head_facet (d : Dev) (h : HeadId) (f : HeadDown → HeadDown) : ((d.modDown h f).head h).facet = (d.head h).facet := by
  simp [Dev.modDown]
@[simp] theorem Dev.modDown_head_learnTrk (d : Dev) (h : HeadId) (f : HeadDown → HeadDown) : ((d.modDown h f).head h).learnTrk = (d.head h).learnTrk := by
  simp [Dev.modDown]
@[simp] theorem Dev.modDown_head_learnFoc (d : Dev) (h : HeadId) (f : HeadDown → HeadDown) : ((d.modDown h f).head h).learnFoc = (d.head h).learnFoc := by
  simp [Dev.modDown]
@[simp] theorem Dev.modDown_head_hallmark (d : Dev) (h : HeadId) (f : HeadDown → HeadDown) : ((d.modDown h f).head h).hallmark = (d.head h).hallmark := by
  simp [Dev.modDown]
@[simp] theorem Dev.modDown_head_banks (d : Dev) (h : HeadId) (f : HeadDown → HeadDown) : ((d.modDown h f).head h).banks = (d.head h).banks := by
  simp [Dev.modDown]
@[simp] theorem Dev.modDown_head_noWrite (d : Dev) (h : HeadId) (f : HeadDown → HeadDown) : ((d.modDown h f).head h).noWrite = (d.head h).noWrite := by
  simp [Dev.modDown]
@[simp] theorem Dev.modDown_head_keep (d : Dev) (h : HeadId) (f : HeadDown → HeadDown) : ((d.modDown h f).head h).keep = (d.head h).keep := by
  simp [Dev.modDown]
theorem Dev.modDown_head_ne (d : Dev) {h g : HeadId} (f : HeadDown → HeadDown) (n : g ≠ h) : (d.modDown h f).head g = d.head g :=
  Dev.head_modHead_ne d _ n
@[simp] theorem Dev.modMotion_motion (d : Dev) (h : HeadId) (f : Motion → Motion) : ((d.modMotion h f).head h).motion = f (d.head h).motion := by
  simp [Dev.modMotion]
@[simp] theorem Dev.modMotion_head_link (d : Dev) (h : HeadId) (f : Motion → Motion) : ((d.modMotion h f).head h).link = (d.head h).link := by
  simp [Dev.modMotion]
@[simp] theorem Dev.modMotion_head_down (d : Dev) (h : HeadId) (f : Motion → Motion) : ((d.modMotion h f).head h).down = (d.head h).down := by
  simp [Dev.modMotion]
@[simp] theorem Dev.modMotion_head_wire (d : Dev) (h : HeadId) (f : Motion → Motion) : ((d.modMotion h f).head h).wire = (d.head h).wire := by
  simp [Dev.modMotion]
@[simp] theorem Dev.modMotion_head_loops (d : Dev) (h : HeadId) (f : Motion → Motion) : ((d.modMotion h f).head h).loops = (d.head h).loops := by
  simp [Dev.modMotion]
@[simp] theorem Dev.modMotion_head_before (d : Dev) (h : HeadId) (f : Motion → Motion) : ((d.modMotion h f).head h).before = (d.head h).before := by
  simp [Dev.modMotion]
@[simp] theorem Dev.modMotion_head_learnTrk0 (d : Dev) (h : HeadId) (f : Motion → Motion) : ((d.modMotion h f).head h).learnTrk0 = (d.head h).learnTrk0 := by
  simp [Dev.modMotion]
@[simp] theorem Dev.modMotion_head_learnFoc0 (d : Dev) (h : HeadId) (f : Motion → Motion) : ((d.modMotion h f).head h).learnFoc0 = (d.head h).learnFoc0 := by
  simp [Dev.modMotion]
@[simp] theorem Dev.modMotion_head_facet (d : Dev) (h : HeadId) (f : Motion → Motion) : ((d.modMotion h f).head h).facet = (d.head h).facet := by
  simp [Dev.modMotion]
@[simp] theorem Dev.modMotion_head_learnTrk (d : Dev) (h : HeadId) (f : Motion → Motion) : ((d.modMotion h f).head h).learnTrk = (d.head h).learnTrk := by
  simp [Dev.modMotion]
@[simp] theorem Dev.modMotion_head_learnFoc (d : Dev) (h : HeadId) (f : Motion → Motion) : ((d.modMotion h f).head h).learnFoc = (d.head h).learnFoc := by
  simp [Dev.modMotion]
@[simp] theorem Dev.modMotion_head_hallmark (d : Dev) (h : HeadId) (f : Motion → Motion) : ((d.modMotion h f).head h).hallmark = (d.head h).hallmark := by
  simp [Dev.modMotion]
@[simp] theorem Dev.modMotion_head_banks (d : Dev) (h : HeadId) (f : Motion → Motion) : ((d.modMotion h f).head h).banks = (d.head h).banks := by
  simp [Dev.modMotion]
@[simp] theorem Dev.modMotion_head_noWrite (d : Dev) (h : HeadId) (f : Motion → Motion) : ((d.modMotion h f).head h).noWrite = (d.head h).noWrite := by
  simp [Dev.modMotion]
@[simp] theorem Dev.modMotion_head_keep (d : Dev) (h : HeadId) (f : Motion → Motion) : ((d.modMotion h f).head h).keep = (d.head h).keep := by
  simp [Dev.modMotion]
theorem Dev.modMotion_head_ne (d : Dev) {h g : HeadId} (f : Motion → Motion) (n : g ≠ h) : (d.modMotion h f).head g = d.head g :=
  Dev.head_modHead_ne d _ n
@[simp] theorem Dev.modFacet_facet (d : Dev) (h : HeadId) (f : Facet → Facet) : ((d.modFacet h f).head h).facet = f (d.head h).facet := by
  simp [Dev.modFacet]
@[simp] theorem Dev.modFacet_head_link (d : Dev) (h : HeadId) (f : Facet → Facet) : ((d.modFacet h f).head h).link = (d.head h).link := by
  simp [Dev.modFacet]
@[simp] theorem Dev.modFacet_head_down (d : Dev) (h : HeadId) (f : Facet → Facet) : ((d.modFacet h f).head h).down = (d.head h).down := by
  simp [Dev.modFacet]
@[simp] theorem Dev.modFacet_head_wire (d : Dev) (h : HeadId) (f : Facet → Facet) : ((d.modFacet h f).head h).wire = (d.head h).wire := by
  simp [Dev.modFacet]
@[simp] theorem Dev.modFacet_head_loops (d : Dev) (h : HeadId) (f : Facet → Facet) : ((d.modFacet h f).head h).loops = (d.head h).loops := by
  simp [Dev.modFacet]
@[simp] theorem Dev.modFacet_head_before (d : Dev) (h : HeadId) (f : Facet → Facet) : ((d.modFacet h f).head h).before = (d.head h).before := by
  simp [Dev.modFacet]
@[simp] theorem Dev.modFacet_head_learnTrk0 (d : Dev) (h : HeadId) (f : Facet → Facet) : ((d.modFacet h f).head h).learnTrk0 = (d.head h).learnTrk0 := by
  simp [Dev.modFacet]
@[simp] theorem Dev.modFacet_head_learnFoc0 (d : Dev) (h : HeadId) (f : Facet → Facet) : ((d.modFacet h f).head h).learnFoc0 = (d.head h).learnFoc0 := by
  simp [Dev.modFacet]
@[simp] theorem Dev.modFacet_head_motion (d : Dev) (h : HeadId) (f : Facet → Facet) : ((d.modFacet h f).head h).motion = (d.head h).motion := by
  simp [Dev.modFacet]
@[simp] theorem Dev.modFacet_head_learnTrk (d : Dev) (h : HeadId) (f : Facet → Facet) : ((d.modFacet h f).head h).learnTrk = (d.head h).learnTrk := by
  simp [Dev.modFacet]
@[simp] theorem Dev.modFacet_head_learnFoc (d : Dev) (h : HeadId) (f : Facet → Facet) : ((d.modFacet h f).head h).learnFoc = (d.head h).learnFoc := by
  simp [Dev.modFacet]
@[simp] theorem Dev.modFacet_head_hallmark (d : Dev) (h : HeadId) (f : Facet → Facet) : ((d.modFacet h f).head h).hallmark = (d.head h).hallmark := by
  simp [Dev.modFacet]
@[simp] theorem Dev.modFacet_head_banks (d : Dev) (h : HeadId) (f : Facet → Facet) : ((d.modFacet h f).head h).banks = (d.head h).banks := by
  simp [Dev.modFacet]
@[simp] theorem Dev.modFacet_head_noWrite (d : Dev) (h : HeadId) (f : Facet → Facet) : ((d.modFacet h f).head h).noWrite = (d.head h).noWrite := by
  simp [Dev.modFacet]
@[simp] theorem Dev.modFacet_head_keep (d : Dev) (h : HeadId) (f : Facet → Facet) : ((d.modFacet h f).head h).keep = (d.head h).keep := by
  simp [Dev.modFacet]
theorem Dev.modFacet_head_ne (d : Dev) {h g : HeadId} (f : Facet → Facet) (n : g ≠ h) : (d.modFacet h f).head g = d.head g :=
  Dev.head_modHead_ne d _ n
@[simp] theorem Dev.modCal_hallmark (d : Dev) (h : HeadId) (f : Hallmark → Hallmark) : ((d.modCal h f).head h).hallmark = f (d.head h).hallmark := by
  simp [Dev.modCal]
@[simp] theorem Dev.modCal_head_link (d : Dev) (h : HeadId) (f : Hallmark → Hallmark) : ((d.modCal h f).head h).link = (d.head h).link := by
  simp [Dev.modCal]
@[simp] theorem Dev.modCal_head_down (d : Dev) (h : HeadId) (f : Hallmark → Hallmark) : ((d.modCal h f).head h).down = (d.head h).down := by
  simp [Dev.modCal]
@[simp] theorem Dev.modCal_head_wire (d : Dev) (h : HeadId) (f : Hallmark → Hallmark) : ((d.modCal h f).head h).wire = (d.head h).wire := by
  simp [Dev.modCal]
@[simp] theorem Dev.modCal_head_loops (d : Dev) (h : HeadId) (f : Hallmark → Hallmark) : ((d.modCal h f).head h).loops = (d.head h).loops := by
  simp [Dev.modCal]
@[simp] theorem Dev.modCal_head_before (d : Dev) (h : HeadId) (f : Hallmark → Hallmark) : ((d.modCal h f).head h).before = (d.head h).before := by
  simp [Dev.modCal]
@[simp] theorem Dev.modCal_head_learnTrk0 (d : Dev) (h : HeadId) (f : Hallmark → Hallmark) : ((d.modCal h f).head h).learnTrk0 = (d.head h).learnTrk0 := by
  simp [Dev.modCal]
@[simp] theorem Dev.modCal_head_learnFoc0 (d : Dev) (h : HeadId) (f : Hallmark → Hallmark) : ((d.modCal h f).head h).learnFoc0 = (d.head h).learnFoc0 := by
  simp [Dev.modCal]
@[simp] theorem Dev.modCal_head_motion (d : Dev) (h : HeadId) (f : Hallmark → Hallmark) : ((d.modCal h f).head h).motion = (d.head h).motion := by
  simp [Dev.modCal]
@[simp] theorem Dev.modCal_head_facet (d : Dev) (h : HeadId) (f : Hallmark → Hallmark) : ((d.modCal h f).head h).facet = (d.head h).facet := by
  simp [Dev.modCal]
@[simp] theorem Dev.modCal_head_learnTrk (d : Dev) (h : HeadId) (f : Hallmark → Hallmark) : ((d.modCal h f).head h).learnTrk = (d.head h).learnTrk := by
  simp [Dev.modCal]
@[simp] theorem Dev.modCal_head_learnFoc (d : Dev) (h : HeadId) (f : Hallmark → Hallmark) : ((d.modCal h f).head h).learnFoc = (d.head h).learnFoc := by
  simp [Dev.modCal]
@[simp] theorem Dev.modCal_head_banks (d : Dev) (h : HeadId) (f : Hallmark → Hallmark) : ((d.modCal h f).head h).banks = (d.head h).banks := by
  simp [Dev.modCal]
@[simp] theorem Dev.modCal_head_noWrite (d : Dev) (h : HeadId) (f : Hallmark → Hallmark) : ((d.modCal h f).head h).noWrite = (d.head h).noWrite := by
  simp [Dev.modCal]
@[simp] theorem Dev.modCal_head_keep (d : Dev) (h : HeadId) (f : Hallmark → Hallmark) : ((d.modCal h f).head h).keep = (d.head h).keep := by
  simp [Dev.modCal]
theorem Dev.modCal_head_ne (d : Dev) {h g : HeadId} (f : Hallmark → Hallmark) (n : g ≠ h) : (d.modCal h f).head g = d.head g :=
  Dev.head_modHead_ne d _ n
@[simp] theorem Dev.modKeepHead_keep (d : Dev) (h : HeadId) (f : KeepHead → KeepHead) : ((d.modKeepHead h f).head h).keep = f (d.head h).keep := by
  simp [Dev.modKeepHead]
@[simp] theorem Dev.modKeepHead_head_link (d : Dev) (h : HeadId) (f : KeepHead → KeepHead) : ((d.modKeepHead h f).head h).link = (d.head h).link := by
  simp [Dev.modKeepHead]
@[simp] theorem Dev.modKeepHead_head_down (d : Dev) (h : HeadId) (f : KeepHead → KeepHead) : ((d.modKeepHead h f).head h).down = (d.head h).down := by
  simp [Dev.modKeepHead]
@[simp] theorem Dev.modKeepHead_head_wire (d : Dev) (h : HeadId) (f : KeepHead → KeepHead) : ((d.modKeepHead h f).head h).wire = (d.head h).wire := by
  simp [Dev.modKeepHead]
@[simp] theorem Dev.modKeepHead_head_loops (d : Dev) (h : HeadId) (f : KeepHead → KeepHead) : ((d.modKeepHead h f).head h).loops = (d.head h).loops := by
  simp [Dev.modKeepHead]
@[simp] theorem Dev.modKeepHead_head_before (d : Dev) (h : HeadId) (f : KeepHead → KeepHead) : ((d.modKeepHead h f).head h).before = (d.head h).before := by
  simp [Dev.modKeepHead]
@[simp] theorem Dev.modKeepHead_head_learnTrk0 (d : Dev) (h : HeadId) (f : KeepHead → KeepHead) : ((d.modKeepHead h f).head h).learnTrk0 = (d.head h).learnTrk0 := by
  simp [Dev.modKeepHead]
@[simp] theorem Dev.modKeepHead_head_learnFoc0 (d : Dev) (h : HeadId) (f : KeepHead → KeepHead) : ((d.modKeepHead h f).head h).learnFoc0 = (d.head h).learnFoc0 := by
  simp [Dev.modKeepHead]
@[simp] theorem Dev.modKeepHead_head_motion (d : Dev) (h : HeadId) (f : KeepHead → KeepHead) : ((d.modKeepHead h f).head h).motion = (d.head h).motion := by
  simp [Dev.modKeepHead]
@[simp] theorem Dev.modKeepHead_head_facet (d : Dev) (h : HeadId) (f : KeepHead → KeepHead) : ((d.modKeepHead h f).head h).facet = (d.head h).facet := by
  simp [Dev.modKeepHead]
@[simp] theorem Dev.modKeepHead_head_learnTrk (d : Dev) (h : HeadId) (f : KeepHead → KeepHead) : ((d.modKeepHead h f).head h).learnTrk = (d.head h).learnTrk := by
  simp [Dev.modKeepHead]
@[simp] theorem Dev.modKeepHead_head_learnFoc (d : Dev) (h : HeadId) (f : KeepHead → KeepHead) : ((d.modKeepHead h f).head h).learnFoc = (d.head h).learnFoc := by
  simp [Dev.modKeepHead]
@[simp] theorem Dev.modKeepHead_head_hallmark (d : Dev) (h : HeadId) (f : KeepHead → KeepHead) : ((d.modKeepHead h f).head h).hallmark = (d.head h).hallmark := by
  simp [Dev.modKeepHead]
@[simp] theorem Dev.modKeepHead_head_banks (d : Dev) (h : HeadId) (f : KeepHead → KeepHead) : ((d.modKeepHead h f).head h).banks = (d.head h).banks := by
  simp [Dev.modKeepHead]
@[simp] theorem Dev.modKeepHead_head_noWrite (d : Dev) (h : HeadId) (f : KeepHead → KeepHead) : ((d.modKeepHead h f).head h).noWrite = (d.head h).noWrite := by
  simp [Dev.modKeepHead]
theorem Dev.modKeepHead_head_ne (d : Dev) {h g : HeadId} (f : KeepHead → KeepHead) (n : g ≠ h) : (d.modKeepHead h f).head g = d.head g :=
  Dev.head_modHead_ne d _ n
@[simp] theorem Dev.modTorc_torc (d : Dev) (s : SpinId) (f : Torc → Torc) : ((d.modTorc s f).spin s).torc = f (d.spin s).torc := by
  simp [Dev.modTorc]
@[simp] theorem Dev.modTorc_spin_link (d : Dev) (s : SpinId) (f : Torc → Torc) : ((d.modTorc s f).spin s).link = (d.spin s).link := by
  simp [Dev.modTorc]
@[simp] theorem Dev.modTorc_spin_down (d : Dev) (s : SpinId) (f : Torc → Torc) : ((d.modTorc s f).spin s).down = (d.spin s).down := by
  simp [Dev.modTorc]
@[simp] theorem Dev.modTorc_spin_wire (d : Dev) (s : SpinId) (f : Torc → Torc) : ((d.modTorc s f).spin s).wire = (d.spin s).wire := by
  simp [Dev.modTorc]
@[simp] theorem Dev.modTorc_spin_keep (d : Dev) (s : SpinId) (f : Torc → Torc) : ((d.modTorc s f).spin s).keep = (d.spin s).keep := by
  simp [Dev.modTorc]
@[simp] theorem Dev.modTorc_spin_accounts (d : Dev) (s : SpinId) (f : Torc → Torc) : ((d.modTorc s f).spin s).accounts = (d.spin s).accounts := by
  simp [Dev.modTorc]
theorem Dev.modTorc_spin_ne (d : Dev) {s u : SpinId} (f : Torc → Torc) (n : u ≠ s) : (d.modTorc s f).spin u = d.spin u :=
  Dev.spin_modSpin_ne d _ n
@[simp] theorem Dev.modSpinLink_link (d : Dev) (s : SpinId) (f : SpinLink → SpinLink) : ((d.modSpinLink s f).spin s).link = f (d.spin s).link := by
  simp [Dev.modSpinLink]
@[simp] theorem Dev.modSpinLink_spin_down (d : Dev) (s : SpinId) (f : SpinLink → SpinLink) : ((d.modSpinLink s f).spin s).down = (d.spin s).down := by
  simp [Dev.modSpinLink]
@[simp] theorem Dev.modSpinLink_spin_wire (d : Dev) (s : SpinId) (f : SpinLink → SpinLink) : ((d.modSpinLink s f).spin s).wire = (d.spin s).wire := by
  simp [Dev.modSpinLink]
@[simp] theorem Dev.modSpinLink_spin_torc (d : Dev) (s : SpinId) (f : SpinLink → SpinLink) : ((d.modSpinLink s f).spin s).torc = (d.spin s).torc := by
  simp [Dev.modSpinLink]
@[simp] theorem Dev.modSpinLink_spin_keep (d : Dev) (s : SpinId) (f : SpinLink → SpinLink) : ((d.modSpinLink s f).spin s).keep = (d.spin s).keep := by
  simp [Dev.modSpinLink]
@[simp] theorem Dev.modSpinLink_spin_accounts (d : Dev) (s : SpinId) (f : SpinLink → SpinLink) : ((d.modSpinLink s f).spin s).accounts = (d.spin s).accounts := by
  simp [Dev.modSpinLink]
theorem Dev.modSpinLink_spin_ne (d : Dev) {s u : SpinId} (f : SpinLink → SpinLink) (n : u ≠ s) : (d.modSpinLink s f).spin u = d.spin u :=
  Dev.spin_modSpin_ne d _ n
@[simp] theorem Dev.modSpinDown_down (d : Dev) (s : SpinId) (f : SpinDown → SpinDown) : ((d.modSpinDown s f).spin s).down = f (d.spin s).down := by
  simp [Dev.modSpinDown]
@[simp] theorem Dev.modSpinDown_spin_link (d : Dev) (s : SpinId) (f : SpinDown → SpinDown) : ((d.modSpinDown s f).spin s).link = (d.spin s).link := by
  simp [Dev.modSpinDown]
@[simp] theorem Dev.modSpinDown_spin_wire (d : Dev) (s : SpinId) (f : SpinDown → SpinDown) : ((d.modSpinDown s f).spin s).wire = (d.spin s).wire := by
  simp [Dev.modSpinDown]
@[simp] theorem Dev.modSpinDown_spin_torc (d : Dev) (s : SpinId) (f : SpinDown → SpinDown) : ((d.modSpinDown s f).spin s).torc = (d.spin s).torc := by
  simp [Dev.modSpinDown]
@[simp] theorem Dev.modSpinDown_spin_keep (d : Dev) (s : SpinId) (f : SpinDown → SpinDown) : ((d.modSpinDown s f).spin s).keep = (d.spin s).keep := by
  simp [Dev.modSpinDown]
@[simp] theorem Dev.modSpinDown_spin_accounts (d : Dev) (s : SpinId) (f : SpinDown → SpinDown) : ((d.modSpinDown s f).spin s).accounts = (d.spin s).accounts := by
  simp [Dev.modSpinDown]
theorem Dev.modSpinDown_spin_ne (d : Dev) {s u : SpinId} (f : SpinDown → SpinDown) (n : u ≠ s) : (d.modSpinDown s f).spin u = d.spin u :=
  Dev.spin_modSpin_ne d _ n
@[simp] theorem Dev.modKeepSpin_keep (d : Dev) (s : SpinId) (f : KeepSpin → KeepSpin) : ((d.modKeepSpin s f).spin s).keep = f (d.spin s).keep := by
  simp [Dev.modKeepSpin]
@[simp] theorem Dev.modKeepSpin_spin_link (d : Dev) (s : SpinId) (f : KeepSpin → KeepSpin) : ((d.modKeepSpin s f).spin s).link = (d.spin s).link := by
  simp [Dev.modKeepSpin]
@[simp] theorem Dev.modKeepSpin_spin_down (d : Dev) (s : SpinId) (f : KeepSpin → KeepSpin) : ((d.modKeepSpin s f).spin s).down = (d.spin s).down := by
  simp [Dev.modKeepSpin]
@[simp] theorem Dev.modKeepSpin_spin_wire (d : Dev) (s : SpinId) (f : KeepSpin → KeepSpin) : ((d.modKeepSpin s f).spin s).wire = (d.spin s).wire := by
  simp [Dev.modKeepSpin]
@[simp] theorem Dev.modKeepSpin_spin_torc (d : Dev) (s : SpinId) (f : KeepSpin → KeepSpin) : ((d.modKeepSpin s f).spin s).torc = (d.spin s).torc := by
  simp [Dev.modKeepSpin]
@[simp] theorem Dev.modKeepSpin_spin_accounts (d : Dev) (s : SpinId) (f : KeepSpin → KeepSpin) : ((d.modKeepSpin s f).spin s).accounts = (d.spin s).accounts := by
  simp [Dev.modKeepSpin]
theorem Dev.modKeepSpin_spin_ne (d : Dev) {s u : SpinId} (f : KeepSpin → KeepSpin) (n : u ≠ s) : (d.modKeepSpin s f).spin u = d.spin u :=
  Dev.spin_modSpin_ne d _ n
@[simp] theorem Dev.modLink_freeIdx' (d : Dev) (h : HeadId) (f : HeadLink → HeadLink) : (d.modLink h f).freeIdx = d.freeIdx := rfl
@[simp] theorem Dev.modLink_regs' (d : Dev) (h : HeadId) (f : HeadLink → HeadLink) : (d.modLink h f).regs = d.regs := rfl
@[simp] theorem Dev.modLink_rvPend' (d : Dev) (h : HeadId) (f : HeadLink → HeadLink) : (d.modLink h f).rvPend = d.rvPend := rfl
@[simp] theorem Dev.modLink_hmPend' (d : Dev) (h : HeadId) (f : HeadLink → HeadLink) : (d.modLink h f).hmPend = d.hmPend := rfl
@[simp] theorem Dev.modLink_lifeClock' (d : Dev) (h : HeadId) (f : HeadLink → HeadLink) : (d.modLink h f).lifeClock = d.lifeClock := rfl
@[simp] theorem Dev.modLink_mLast' (d : Dev) (h : HeadId) (f : HeadLink → HeadLink) : (d.modLink h f).mLast = d.mLast := rfl
@[simp] theorem Dev.modLink_latches' (d : Dev) (h : HeadId) (f : HeadLink → HeadLink) : (d.modLink h f).latches = d.latches := rfl
@[simp] theorem Dev.modLink_hostRead' (d : Dev) (h : HeadId) (f : HeadLink → HeadLink) : (d.modLink h f).hostRead = d.hostRead := rfl
@[simp] theorem Dev.modLink_hostOut' (d : Dev) (h : HeadId) (f : HeadLink → HeadLink) : (d.modLink h f).hostOut = d.hostOut := rfl
@[simp] theorem Dev.modLink_libTime' (d : Dev) (h : HeadId) (f : HeadLink → HeadLink) : (d.modLink h f).libTime = d.libTime := rfl
@[simp] theorem Dev.modLink_pcie' (d : Dev) (h : HeadId) (f : HeadLink → HeadLink) : (d.modLink h f).pcie = d.pcie := rfl
@[simp] theorem Dev.modLink_locket' (d : Dev) (h : HeadId) (f : HeadLink → HeadLink) : (d.modLink h f).locket = d.locket := rfl
@[simp] theorem Dev.modLink_cameo' (d : Dev) (h : HeadId) (f : HeadLink → HeadLink) : (d.modLink h f).cameo = d.cameo := rfl
@[simp] theorem Dev.modLink_mgmt' (d : Dev) (h : HeadId) (f : HeadLink → HeadLink) : (d.modLink h f).mgmt = d.mgmt := rfl
@[simp] theorem Dev.modLink_keeper' (d : Dev) (h : HeadId) (f : HeadLink → HeadLink) : (d.modLink h f).keeper = d.keeper := rfl
@[simp] theorem Dev.modLink_thermal' (d : Dev) (h : HeadId) (f : HeadLink → HeadLink) : (d.modLink h f).thermal = d.thermal := rfl
@[simp] theorem Dev.modLink_power' (d : Dev) (h : HeadId) (f : HeadLink → HeadLink) : (d.modLink h f).power = d.power := rfl
@[simp] theorem Dev.modLink_mem' (d : Dev) (h : HeadId) (f : HeadLink → HeadLink) : (d.modLink h f).mem = d.mem := rfl
@[simp] theorem Dev.modLink_filigree' (d : Dev) (h : HeadId) (f : HeadLink → HeadLink) : (d.modLink h f).filigree = d.filigree := rfl
@[simp] theorem Dev.modLink_clasp' (d : Dev) (h : HeadId) (f : HeadLink → HeadLink) : (d.modLink h f).clasp = d.clasp := rfl
@[simp] theorem Dev.modLink_data' (d : Dev) (h : HeadId) (f : HeadLink → HeadLink) : (d.modLink h f).data = d.data := rfl
@[simp] theorem Dev.modLink_accounts' (d : Dev) (h : HeadId) (f : HeadLink → HeadLink) : (d.modLink h f).accounts = d.accounts := rfl
@[simp] theorem Dev.modLink_chains' (d : Dev) (h : HeadId) (f : HeadLink → HeadLink) : (d.modLink h f).chains = d.chains := rfl
@[simp] theorem Dev.modLink_surfaces' (d : Dev) (h : HeadId) (f : HeadLink → HeadLink) : (d.modLink h f).surfaces = d.surfaces := rfl
@[simp] theorem Dev.modLink_cores' (d : Dev) (h : HeadId) (f : HeadLink → HeadLink) : (d.modLink h f).cores = d.cores := rfl
@[simp] theorem Dev.modLink_bezels' (d : Dev) (h : HeadId) (f : HeadLink → HeadLink) : (d.modLink h f).bezels = d.bezels := rfl
@[simp] theorem Dev.modLink_spindles' (d : Dev) (h : HeadId) (f : HeadLink → HeadLink) : (d.modLink h f).spindles = d.spindles := rfl
@[simp] theorem Dev.modLink_getF (d : Dev) (h : HeadId) (f : HeadLink → HeadLink) (g : Fld) (j : Nat) : getF (d.modLink h f) g j = getF d g j := rfl
@[simp] theorem Dev.modDown_freeIdx' (d : Dev) (h : HeadId) (f : HeadDown → HeadDown) : (d.modDown h f).freeIdx = d.freeIdx := rfl
@[simp] theorem Dev.modDown_regs' (d : Dev) (h : HeadId) (f : HeadDown → HeadDown) : (d.modDown h f).regs = d.regs := rfl
@[simp] theorem Dev.modDown_rvPend' (d : Dev) (h : HeadId) (f : HeadDown → HeadDown) : (d.modDown h f).rvPend = d.rvPend := rfl
@[simp] theorem Dev.modDown_hmPend' (d : Dev) (h : HeadId) (f : HeadDown → HeadDown) : (d.modDown h f).hmPend = d.hmPend := rfl
@[simp] theorem Dev.modDown_lifeClock' (d : Dev) (h : HeadId) (f : HeadDown → HeadDown) : (d.modDown h f).lifeClock = d.lifeClock := rfl
@[simp] theorem Dev.modDown_mLast' (d : Dev) (h : HeadId) (f : HeadDown → HeadDown) : (d.modDown h f).mLast = d.mLast := rfl
@[simp] theorem Dev.modDown_latches' (d : Dev) (h : HeadId) (f : HeadDown → HeadDown) : (d.modDown h f).latches = d.latches := rfl
@[simp] theorem Dev.modDown_hostRead' (d : Dev) (h : HeadId) (f : HeadDown → HeadDown) : (d.modDown h f).hostRead = d.hostRead := rfl
@[simp] theorem Dev.modDown_hostOut' (d : Dev) (h : HeadId) (f : HeadDown → HeadDown) : (d.modDown h f).hostOut = d.hostOut := rfl
@[simp] theorem Dev.modDown_libTime' (d : Dev) (h : HeadId) (f : HeadDown → HeadDown) : (d.modDown h f).libTime = d.libTime := rfl
@[simp] theorem Dev.modDown_pcie' (d : Dev) (h : HeadId) (f : HeadDown → HeadDown) : (d.modDown h f).pcie = d.pcie := rfl
@[simp] theorem Dev.modDown_locket' (d : Dev) (h : HeadId) (f : HeadDown → HeadDown) : (d.modDown h f).locket = d.locket := rfl
@[simp] theorem Dev.modDown_cameo' (d : Dev) (h : HeadId) (f : HeadDown → HeadDown) : (d.modDown h f).cameo = d.cameo := rfl
@[simp] theorem Dev.modDown_mgmt' (d : Dev) (h : HeadId) (f : HeadDown → HeadDown) : (d.modDown h f).mgmt = d.mgmt := rfl
@[simp] theorem Dev.modDown_keeper' (d : Dev) (h : HeadId) (f : HeadDown → HeadDown) : (d.modDown h f).keeper = d.keeper := rfl
@[simp] theorem Dev.modDown_thermal' (d : Dev) (h : HeadId) (f : HeadDown → HeadDown) : (d.modDown h f).thermal = d.thermal := rfl
@[simp] theorem Dev.modDown_power' (d : Dev) (h : HeadId) (f : HeadDown → HeadDown) : (d.modDown h f).power = d.power := rfl
@[simp] theorem Dev.modDown_mem' (d : Dev) (h : HeadId) (f : HeadDown → HeadDown) : (d.modDown h f).mem = d.mem := rfl
@[simp] theorem Dev.modDown_filigree' (d : Dev) (h : HeadId) (f : HeadDown → HeadDown) : (d.modDown h f).filigree = d.filigree := rfl
@[simp] theorem Dev.modDown_clasp' (d : Dev) (h : HeadId) (f : HeadDown → HeadDown) : (d.modDown h f).clasp = d.clasp := rfl
@[simp] theorem Dev.modDown_data' (d : Dev) (h : HeadId) (f : HeadDown → HeadDown) : (d.modDown h f).data = d.data := rfl
@[simp] theorem Dev.modDown_accounts' (d : Dev) (h : HeadId) (f : HeadDown → HeadDown) : (d.modDown h f).accounts = d.accounts := rfl
@[simp] theorem Dev.modDown_chains' (d : Dev) (h : HeadId) (f : HeadDown → HeadDown) : (d.modDown h f).chains = d.chains := rfl
@[simp] theorem Dev.modDown_surfaces' (d : Dev) (h : HeadId) (f : HeadDown → HeadDown) : (d.modDown h f).surfaces = d.surfaces := rfl
@[simp] theorem Dev.modDown_cores' (d : Dev) (h : HeadId) (f : HeadDown → HeadDown) : (d.modDown h f).cores = d.cores := rfl
@[simp] theorem Dev.modDown_bezels' (d : Dev) (h : HeadId) (f : HeadDown → HeadDown) : (d.modDown h f).bezels = d.bezels := rfl
@[simp] theorem Dev.modDown_spindles' (d : Dev) (h : HeadId) (f : HeadDown → HeadDown) : (d.modDown h f).spindles = d.spindles := rfl
@[simp] theorem Dev.modDown_getF (d : Dev) (h : HeadId) (f : HeadDown → HeadDown) (g : Fld) (j : Nat) : getF (d.modDown h f) g j = getF d g j := rfl
@[simp] theorem Dev.modMotion_freeIdx' (d : Dev) (h : HeadId) (f : Motion → Motion) : (d.modMotion h f).freeIdx = d.freeIdx := rfl
@[simp] theorem Dev.modMotion_regs' (d : Dev) (h : HeadId) (f : Motion → Motion) : (d.modMotion h f).regs = d.regs := rfl
@[simp] theorem Dev.modMotion_rvPend' (d : Dev) (h : HeadId) (f : Motion → Motion) : (d.modMotion h f).rvPend = d.rvPend := rfl
@[simp] theorem Dev.modMotion_hmPend' (d : Dev) (h : HeadId) (f : Motion → Motion) : (d.modMotion h f).hmPend = d.hmPend := rfl
@[simp] theorem Dev.modMotion_lifeClock' (d : Dev) (h : HeadId) (f : Motion → Motion) : (d.modMotion h f).lifeClock = d.lifeClock := rfl
@[simp] theorem Dev.modMotion_mLast' (d : Dev) (h : HeadId) (f : Motion → Motion) : (d.modMotion h f).mLast = d.mLast := rfl
@[simp] theorem Dev.modMotion_latches' (d : Dev) (h : HeadId) (f : Motion → Motion) : (d.modMotion h f).latches = d.latches := rfl
@[simp] theorem Dev.modMotion_hostRead' (d : Dev) (h : HeadId) (f : Motion → Motion) : (d.modMotion h f).hostRead = d.hostRead := rfl
@[simp] theorem Dev.modMotion_hostOut' (d : Dev) (h : HeadId) (f : Motion → Motion) : (d.modMotion h f).hostOut = d.hostOut := rfl
@[simp] theorem Dev.modMotion_libTime' (d : Dev) (h : HeadId) (f : Motion → Motion) : (d.modMotion h f).libTime = d.libTime := rfl
@[simp] theorem Dev.modMotion_pcie' (d : Dev) (h : HeadId) (f : Motion → Motion) : (d.modMotion h f).pcie = d.pcie := rfl
@[simp] theorem Dev.modMotion_locket' (d : Dev) (h : HeadId) (f : Motion → Motion) : (d.modMotion h f).locket = d.locket := rfl
@[simp] theorem Dev.modMotion_cameo' (d : Dev) (h : HeadId) (f : Motion → Motion) : (d.modMotion h f).cameo = d.cameo := rfl
@[simp] theorem Dev.modMotion_mgmt' (d : Dev) (h : HeadId) (f : Motion → Motion) : (d.modMotion h f).mgmt = d.mgmt := rfl
@[simp] theorem Dev.modMotion_keeper' (d : Dev) (h : HeadId) (f : Motion → Motion) : (d.modMotion h f).keeper = d.keeper := rfl
@[simp] theorem Dev.modMotion_thermal' (d : Dev) (h : HeadId) (f : Motion → Motion) : (d.modMotion h f).thermal = d.thermal := rfl
@[simp] theorem Dev.modMotion_power' (d : Dev) (h : HeadId) (f : Motion → Motion) : (d.modMotion h f).power = d.power := rfl
@[simp] theorem Dev.modMotion_mem' (d : Dev) (h : HeadId) (f : Motion → Motion) : (d.modMotion h f).mem = d.mem := rfl
@[simp] theorem Dev.modMotion_filigree' (d : Dev) (h : HeadId) (f : Motion → Motion) : (d.modMotion h f).filigree = d.filigree := rfl
@[simp] theorem Dev.modMotion_clasp' (d : Dev) (h : HeadId) (f : Motion → Motion) : (d.modMotion h f).clasp = d.clasp := rfl
@[simp] theorem Dev.modMotion_data' (d : Dev) (h : HeadId) (f : Motion → Motion) : (d.modMotion h f).data = d.data := rfl
@[simp] theorem Dev.modMotion_accounts' (d : Dev) (h : HeadId) (f : Motion → Motion) : (d.modMotion h f).accounts = d.accounts := rfl
@[simp] theorem Dev.modMotion_chains' (d : Dev) (h : HeadId) (f : Motion → Motion) : (d.modMotion h f).chains = d.chains := rfl
@[simp] theorem Dev.modMotion_surfaces' (d : Dev) (h : HeadId) (f : Motion → Motion) : (d.modMotion h f).surfaces = d.surfaces := rfl
@[simp] theorem Dev.modMotion_cores' (d : Dev) (h : HeadId) (f : Motion → Motion) : (d.modMotion h f).cores = d.cores := rfl
@[simp] theorem Dev.modMotion_bezels' (d : Dev) (h : HeadId) (f : Motion → Motion) : (d.modMotion h f).bezels = d.bezels := rfl
@[simp] theorem Dev.modMotion_spindles' (d : Dev) (h : HeadId) (f : Motion → Motion) : (d.modMotion h f).spindles = d.spindles := rfl
@[simp] theorem Dev.modMotion_getF (d : Dev) (h : HeadId) (f : Motion → Motion) (g : Fld) (j : Nat) : getF (d.modMotion h f) g j = getF d g j := rfl
@[simp] theorem Dev.modFacet_freeIdx' (d : Dev) (h : HeadId) (f : Facet → Facet) : (d.modFacet h f).freeIdx = d.freeIdx := rfl
@[simp] theorem Dev.modFacet_regs' (d : Dev) (h : HeadId) (f : Facet → Facet) : (d.modFacet h f).regs = d.regs := rfl
@[simp] theorem Dev.modFacet_rvPend' (d : Dev) (h : HeadId) (f : Facet → Facet) : (d.modFacet h f).rvPend = d.rvPend := rfl
@[simp] theorem Dev.modFacet_hmPend' (d : Dev) (h : HeadId) (f : Facet → Facet) : (d.modFacet h f).hmPend = d.hmPend := rfl
@[simp] theorem Dev.modFacet_lifeClock' (d : Dev) (h : HeadId) (f : Facet → Facet) : (d.modFacet h f).lifeClock = d.lifeClock := rfl
@[simp] theorem Dev.modFacet_mLast' (d : Dev) (h : HeadId) (f : Facet → Facet) : (d.modFacet h f).mLast = d.mLast := rfl
@[simp] theorem Dev.modFacet_latches' (d : Dev) (h : HeadId) (f : Facet → Facet) : (d.modFacet h f).latches = d.latches := rfl
@[simp] theorem Dev.modFacet_hostRead' (d : Dev) (h : HeadId) (f : Facet → Facet) : (d.modFacet h f).hostRead = d.hostRead := rfl
@[simp] theorem Dev.modFacet_hostOut' (d : Dev) (h : HeadId) (f : Facet → Facet) : (d.modFacet h f).hostOut = d.hostOut := rfl
@[simp] theorem Dev.modFacet_libTime' (d : Dev) (h : HeadId) (f : Facet → Facet) : (d.modFacet h f).libTime = d.libTime := rfl
@[simp] theorem Dev.modFacet_pcie' (d : Dev) (h : HeadId) (f : Facet → Facet) : (d.modFacet h f).pcie = d.pcie := rfl
@[simp] theorem Dev.modFacet_locket' (d : Dev) (h : HeadId) (f : Facet → Facet) : (d.modFacet h f).locket = d.locket := rfl
@[simp] theorem Dev.modFacet_cameo' (d : Dev) (h : HeadId) (f : Facet → Facet) : (d.modFacet h f).cameo = d.cameo := rfl
@[simp] theorem Dev.modFacet_mgmt' (d : Dev) (h : HeadId) (f : Facet → Facet) : (d.modFacet h f).mgmt = d.mgmt := rfl
@[simp] theorem Dev.modFacet_keeper' (d : Dev) (h : HeadId) (f : Facet → Facet) : (d.modFacet h f).keeper = d.keeper := rfl
@[simp] theorem Dev.modFacet_thermal' (d : Dev) (h : HeadId) (f : Facet → Facet) : (d.modFacet h f).thermal = d.thermal := rfl
@[simp] theorem Dev.modFacet_power' (d : Dev) (h : HeadId) (f : Facet → Facet) : (d.modFacet h f).power = d.power := rfl
@[simp] theorem Dev.modFacet_mem' (d : Dev) (h : HeadId) (f : Facet → Facet) : (d.modFacet h f).mem = d.mem := rfl
@[simp] theorem Dev.modFacet_filigree' (d : Dev) (h : HeadId) (f : Facet → Facet) : (d.modFacet h f).filigree = d.filigree := rfl
@[simp] theorem Dev.modFacet_clasp' (d : Dev) (h : HeadId) (f : Facet → Facet) : (d.modFacet h f).clasp = d.clasp := rfl
@[simp] theorem Dev.modFacet_data' (d : Dev) (h : HeadId) (f : Facet → Facet) : (d.modFacet h f).data = d.data := rfl
@[simp] theorem Dev.modFacet_accounts' (d : Dev) (h : HeadId) (f : Facet → Facet) : (d.modFacet h f).accounts = d.accounts := rfl
@[simp] theorem Dev.modFacet_chains' (d : Dev) (h : HeadId) (f : Facet → Facet) : (d.modFacet h f).chains = d.chains := rfl
@[simp] theorem Dev.modFacet_surfaces' (d : Dev) (h : HeadId) (f : Facet → Facet) : (d.modFacet h f).surfaces = d.surfaces := rfl
@[simp] theorem Dev.modFacet_cores' (d : Dev) (h : HeadId) (f : Facet → Facet) : (d.modFacet h f).cores = d.cores := rfl
@[simp] theorem Dev.modFacet_bezels' (d : Dev) (h : HeadId) (f : Facet → Facet) : (d.modFacet h f).bezels = d.bezels := rfl
@[simp] theorem Dev.modFacet_spindles' (d : Dev) (h : HeadId) (f : Facet → Facet) : (d.modFacet h f).spindles = d.spindles := rfl
@[simp] theorem Dev.modFacet_getF (d : Dev) (h : HeadId) (f : Facet → Facet) (g : Fld) (j : Nat) : getF (d.modFacet h f) g j = getF d g j := rfl
@[simp] theorem Dev.modCal_freeIdx' (d : Dev) (h : HeadId) (f : Hallmark → Hallmark) : (d.modCal h f).freeIdx = d.freeIdx := rfl
@[simp] theorem Dev.modCal_regs' (d : Dev) (h : HeadId) (f : Hallmark → Hallmark) : (d.modCal h f).regs = d.regs := rfl
@[simp] theorem Dev.modCal_rvPend' (d : Dev) (h : HeadId) (f : Hallmark → Hallmark) : (d.modCal h f).rvPend = d.rvPend := rfl
@[simp] theorem Dev.modCal_hmPend' (d : Dev) (h : HeadId) (f : Hallmark → Hallmark) : (d.modCal h f).hmPend = d.hmPend := rfl
@[simp] theorem Dev.modCal_lifeClock' (d : Dev) (h : HeadId) (f : Hallmark → Hallmark) : (d.modCal h f).lifeClock = d.lifeClock := rfl
@[simp] theorem Dev.modCal_mLast' (d : Dev) (h : HeadId) (f : Hallmark → Hallmark) : (d.modCal h f).mLast = d.mLast := rfl
@[simp] theorem Dev.modCal_latches' (d : Dev) (h : HeadId) (f : Hallmark → Hallmark) : (d.modCal h f).latches = d.latches := rfl
@[simp] theorem Dev.modCal_hostRead' (d : Dev) (h : HeadId) (f : Hallmark → Hallmark) : (d.modCal h f).hostRead = d.hostRead := rfl
@[simp] theorem Dev.modCal_hostOut' (d : Dev) (h : HeadId) (f : Hallmark → Hallmark) : (d.modCal h f).hostOut = d.hostOut := rfl
@[simp] theorem Dev.modCal_libTime' (d : Dev) (h : HeadId) (f : Hallmark → Hallmark) : (d.modCal h f).libTime = d.libTime := rfl
@[simp] theorem Dev.modCal_pcie' (d : Dev) (h : HeadId) (f : Hallmark → Hallmark) : (d.modCal h f).pcie = d.pcie := rfl
@[simp] theorem Dev.modCal_locket' (d : Dev) (h : HeadId) (f : Hallmark → Hallmark) : (d.modCal h f).locket = d.locket := rfl
@[simp] theorem Dev.modCal_cameo' (d : Dev) (h : HeadId) (f : Hallmark → Hallmark) : (d.modCal h f).cameo = d.cameo := rfl
@[simp] theorem Dev.modCal_mgmt' (d : Dev) (h : HeadId) (f : Hallmark → Hallmark) : (d.modCal h f).mgmt = d.mgmt := rfl
@[simp] theorem Dev.modCal_keeper' (d : Dev) (h : HeadId) (f : Hallmark → Hallmark) : (d.modCal h f).keeper = d.keeper := rfl
@[simp] theorem Dev.modCal_thermal' (d : Dev) (h : HeadId) (f : Hallmark → Hallmark) : (d.modCal h f).thermal = d.thermal := rfl
@[simp] theorem Dev.modCal_power' (d : Dev) (h : HeadId) (f : Hallmark → Hallmark) : (d.modCal h f).power = d.power := rfl
@[simp] theorem Dev.modCal_mem' (d : Dev) (h : HeadId) (f : Hallmark → Hallmark) : (d.modCal h f).mem = d.mem := rfl
@[simp] theorem Dev.modCal_filigree' (d : Dev) (h : HeadId) (f : Hallmark → Hallmark) : (d.modCal h f).filigree = d.filigree := rfl
@[simp] theorem Dev.modCal_clasp' (d : Dev) (h : HeadId) (f : Hallmark → Hallmark) : (d.modCal h f).clasp = d.clasp := rfl
@[simp] theorem Dev.modCal_data' (d : Dev) (h : HeadId) (f : Hallmark → Hallmark) : (d.modCal h f).data = d.data := rfl
@[simp] theorem Dev.modCal_accounts' (d : Dev) (h : HeadId) (f : Hallmark → Hallmark) : (d.modCal h f).accounts = d.accounts := rfl
@[simp] theorem Dev.modCal_chains' (d : Dev) (h : HeadId) (f : Hallmark → Hallmark) : (d.modCal h f).chains = d.chains := rfl
@[simp] theorem Dev.modCal_surfaces' (d : Dev) (h : HeadId) (f : Hallmark → Hallmark) : (d.modCal h f).surfaces = d.surfaces := rfl
@[simp] theorem Dev.modCal_cores' (d : Dev) (h : HeadId) (f : Hallmark → Hallmark) : (d.modCal h f).cores = d.cores := rfl
@[simp] theorem Dev.modCal_bezels' (d : Dev) (h : HeadId) (f : Hallmark → Hallmark) : (d.modCal h f).bezels = d.bezels := rfl
@[simp] theorem Dev.modCal_spindles' (d : Dev) (h : HeadId) (f : Hallmark → Hallmark) : (d.modCal h f).spindles = d.spindles := rfl
@[simp] theorem Dev.modCal_getF (d : Dev) (h : HeadId) (f : Hallmark → Hallmark) (g : Fld) (j : Nat) : getF (d.modCal h f) g j = getF d g j := rfl
@[simp] theorem Dev.modKeepHead_freeIdx' (d : Dev) (h : HeadId) (f : KeepHead → KeepHead) : (d.modKeepHead h f).freeIdx = d.freeIdx := rfl
@[simp] theorem Dev.modKeepHead_regs' (d : Dev) (h : HeadId) (f : KeepHead → KeepHead) : (d.modKeepHead h f).regs = d.regs := rfl
@[simp] theorem Dev.modKeepHead_rvPend' (d : Dev) (h : HeadId) (f : KeepHead → KeepHead) : (d.modKeepHead h f).rvPend = d.rvPend := rfl
@[simp] theorem Dev.modKeepHead_hmPend' (d : Dev) (h : HeadId) (f : KeepHead → KeepHead) : (d.modKeepHead h f).hmPend = d.hmPend := rfl
@[simp] theorem Dev.modKeepHead_lifeClock' (d : Dev) (h : HeadId) (f : KeepHead → KeepHead) : (d.modKeepHead h f).lifeClock = d.lifeClock := rfl
@[simp] theorem Dev.modKeepHead_mLast' (d : Dev) (h : HeadId) (f : KeepHead → KeepHead) : (d.modKeepHead h f).mLast = d.mLast := rfl
@[simp] theorem Dev.modKeepHead_latches' (d : Dev) (h : HeadId) (f : KeepHead → KeepHead) : (d.modKeepHead h f).latches = d.latches := rfl
@[simp] theorem Dev.modKeepHead_hostRead' (d : Dev) (h : HeadId) (f : KeepHead → KeepHead) : (d.modKeepHead h f).hostRead = d.hostRead := rfl
@[simp] theorem Dev.modKeepHead_hostOut' (d : Dev) (h : HeadId) (f : KeepHead → KeepHead) : (d.modKeepHead h f).hostOut = d.hostOut := rfl
@[simp] theorem Dev.modKeepHead_libTime' (d : Dev) (h : HeadId) (f : KeepHead → KeepHead) : (d.modKeepHead h f).libTime = d.libTime := rfl
@[simp] theorem Dev.modKeepHead_pcie' (d : Dev) (h : HeadId) (f : KeepHead → KeepHead) : (d.modKeepHead h f).pcie = d.pcie := rfl
@[simp] theorem Dev.modKeepHead_locket' (d : Dev) (h : HeadId) (f : KeepHead → KeepHead) : (d.modKeepHead h f).locket = d.locket := rfl
@[simp] theorem Dev.modKeepHead_cameo' (d : Dev) (h : HeadId) (f : KeepHead → KeepHead) : (d.modKeepHead h f).cameo = d.cameo := rfl
@[simp] theorem Dev.modKeepHead_mgmt' (d : Dev) (h : HeadId) (f : KeepHead → KeepHead) : (d.modKeepHead h f).mgmt = d.mgmt := rfl
@[simp] theorem Dev.modKeepHead_keeper' (d : Dev) (h : HeadId) (f : KeepHead → KeepHead) : (d.modKeepHead h f).keeper = d.keeper := rfl
@[simp] theorem Dev.modKeepHead_thermal' (d : Dev) (h : HeadId) (f : KeepHead → KeepHead) : (d.modKeepHead h f).thermal = d.thermal := rfl
@[simp] theorem Dev.modKeepHead_power' (d : Dev) (h : HeadId) (f : KeepHead → KeepHead) : (d.modKeepHead h f).power = d.power := rfl
@[simp] theorem Dev.modKeepHead_mem' (d : Dev) (h : HeadId) (f : KeepHead → KeepHead) : (d.modKeepHead h f).mem = d.mem := rfl
@[simp] theorem Dev.modKeepHead_filigree' (d : Dev) (h : HeadId) (f : KeepHead → KeepHead) : (d.modKeepHead h f).filigree = d.filigree := rfl
@[simp] theorem Dev.modKeepHead_clasp' (d : Dev) (h : HeadId) (f : KeepHead → KeepHead) : (d.modKeepHead h f).clasp = d.clasp := rfl
@[simp] theorem Dev.modKeepHead_data' (d : Dev) (h : HeadId) (f : KeepHead → KeepHead) : (d.modKeepHead h f).data = d.data := rfl
@[simp] theorem Dev.modKeepHead_accounts' (d : Dev) (h : HeadId) (f : KeepHead → KeepHead) : (d.modKeepHead h f).accounts = d.accounts := rfl
@[simp] theorem Dev.modKeepHead_chains' (d : Dev) (h : HeadId) (f : KeepHead → KeepHead) : (d.modKeepHead h f).chains = d.chains := rfl
@[simp] theorem Dev.modKeepHead_surfaces' (d : Dev) (h : HeadId) (f : KeepHead → KeepHead) : (d.modKeepHead h f).surfaces = d.surfaces := rfl
@[simp] theorem Dev.modKeepHead_cores' (d : Dev) (h : HeadId) (f : KeepHead → KeepHead) : (d.modKeepHead h f).cores = d.cores := rfl
@[simp] theorem Dev.modKeepHead_bezels' (d : Dev) (h : HeadId) (f : KeepHead → KeepHead) : (d.modKeepHead h f).bezels = d.bezels := rfl
@[simp] theorem Dev.modKeepHead_spindles' (d : Dev) (h : HeadId) (f : KeepHead → KeepHead) : (d.modKeepHead h f).spindles = d.spindles := rfl
@[simp] theorem Dev.modKeepHead_getF (d : Dev) (h : HeadId) (f : KeepHead → KeepHead) (g : Fld) (j : Nat) : getF (d.modKeepHead h f) g j = getF d g j := rfl
@[simp] theorem Dev.modTorc_freeIdx' (d : Dev) (s : SpinId) (f : Torc → Torc) : (d.modTorc s f).freeIdx = d.freeIdx := rfl
@[simp] theorem Dev.modTorc_regs' (d : Dev) (s : SpinId) (f : Torc → Torc) : (d.modTorc s f).regs = d.regs := rfl
@[simp] theorem Dev.modTorc_rvPend' (d : Dev) (s : SpinId) (f : Torc → Torc) : (d.modTorc s f).rvPend = d.rvPend := rfl
@[simp] theorem Dev.modTorc_hmPend' (d : Dev) (s : SpinId) (f : Torc → Torc) : (d.modTorc s f).hmPend = d.hmPend := rfl
@[simp] theorem Dev.modTorc_lifeClock' (d : Dev) (s : SpinId) (f : Torc → Torc) : (d.modTorc s f).lifeClock = d.lifeClock := rfl
@[simp] theorem Dev.modTorc_mLast' (d : Dev) (s : SpinId) (f : Torc → Torc) : (d.modTorc s f).mLast = d.mLast := rfl
@[simp] theorem Dev.modTorc_latches' (d : Dev) (s : SpinId) (f : Torc → Torc) : (d.modTorc s f).latches = d.latches := rfl
@[simp] theorem Dev.modTorc_hostRead' (d : Dev) (s : SpinId) (f : Torc → Torc) : (d.modTorc s f).hostRead = d.hostRead := rfl
@[simp] theorem Dev.modTorc_hostOut' (d : Dev) (s : SpinId) (f : Torc → Torc) : (d.modTorc s f).hostOut = d.hostOut := rfl
@[simp] theorem Dev.modTorc_libTime' (d : Dev) (s : SpinId) (f : Torc → Torc) : (d.modTorc s f).libTime = d.libTime := rfl
@[simp] theorem Dev.modTorc_pcie' (d : Dev) (s : SpinId) (f : Torc → Torc) : (d.modTorc s f).pcie = d.pcie := rfl
@[simp] theorem Dev.modTorc_locket' (d : Dev) (s : SpinId) (f : Torc → Torc) : (d.modTorc s f).locket = d.locket := rfl
@[simp] theorem Dev.modTorc_cameo' (d : Dev) (s : SpinId) (f : Torc → Torc) : (d.modTorc s f).cameo = d.cameo := rfl
@[simp] theorem Dev.modTorc_mgmt' (d : Dev) (s : SpinId) (f : Torc → Torc) : (d.modTorc s f).mgmt = d.mgmt := rfl
@[simp] theorem Dev.modTorc_keeper' (d : Dev) (s : SpinId) (f : Torc → Torc) : (d.modTorc s f).keeper = d.keeper := rfl
@[simp] theorem Dev.modTorc_thermal' (d : Dev) (s : SpinId) (f : Torc → Torc) : (d.modTorc s f).thermal = d.thermal := rfl
@[simp] theorem Dev.modTorc_power' (d : Dev) (s : SpinId) (f : Torc → Torc) : (d.modTorc s f).power = d.power := rfl
@[simp] theorem Dev.modTorc_mem' (d : Dev) (s : SpinId) (f : Torc → Torc) : (d.modTorc s f).mem = d.mem := rfl
@[simp] theorem Dev.modTorc_filigree' (d : Dev) (s : SpinId) (f : Torc → Torc) : (d.modTorc s f).filigree = d.filigree := rfl
@[simp] theorem Dev.modTorc_clasp' (d : Dev) (s : SpinId) (f : Torc → Torc) : (d.modTorc s f).clasp = d.clasp := rfl
@[simp] theorem Dev.modTorc_data' (d : Dev) (s : SpinId) (f : Torc → Torc) : (d.modTorc s f).data = d.data := rfl
@[simp] theorem Dev.modTorc_accounts' (d : Dev) (s : SpinId) (f : Torc → Torc) : (d.modTorc s f).accounts = d.accounts := rfl
@[simp] theorem Dev.modTorc_chains' (d : Dev) (s : SpinId) (f : Torc → Torc) : (d.modTorc s f).chains = d.chains := rfl
@[simp] theorem Dev.modTorc_surfaces' (d : Dev) (s : SpinId) (f : Torc → Torc) : (d.modTorc s f).surfaces = d.surfaces := rfl
@[simp] theorem Dev.modTorc_cores' (d : Dev) (s : SpinId) (f : Torc → Torc) : (d.modTorc s f).cores = d.cores := rfl
@[simp] theorem Dev.modTorc_bezels' (d : Dev) (s : SpinId) (f : Torc → Torc) : (d.modTorc s f).bezels = d.bezels := rfl
@[simp] theorem Dev.modTorc_heads' (d : Dev) (s : SpinId) (f : Torc → Torc) : (d.modTorc s f).heads = d.heads := rfl
@[simp] theorem Dev.modTorc_getF (d : Dev) (s : SpinId) (f : Torc → Torc) (g : Fld) (j : Nat) : getF (d.modTorc s f) g j = getF d g j := rfl
@[simp] theorem Dev.modSpinLink_freeIdx' (d : Dev) (s : SpinId) (f : SpinLink → SpinLink) : (d.modSpinLink s f).freeIdx = d.freeIdx := rfl
@[simp] theorem Dev.modSpinLink_regs' (d : Dev) (s : SpinId) (f : SpinLink → SpinLink) : (d.modSpinLink s f).regs = d.regs := rfl
@[simp] theorem Dev.modSpinLink_rvPend' (d : Dev) (s : SpinId) (f : SpinLink → SpinLink) : (d.modSpinLink s f).rvPend = d.rvPend := rfl
@[simp] theorem Dev.modSpinLink_hmPend' (d : Dev) (s : SpinId) (f : SpinLink → SpinLink) : (d.modSpinLink s f).hmPend = d.hmPend := rfl
@[simp] theorem Dev.modSpinLink_lifeClock' (d : Dev) (s : SpinId) (f : SpinLink → SpinLink) : (d.modSpinLink s f).lifeClock = d.lifeClock := rfl
@[simp] theorem Dev.modSpinLink_mLast' (d : Dev) (s : SpinId) (f : SpinLink → SpinLink) : (d.modSpinLink s f).mLast = d.mLast := rfl
@[simp] theorem Dev.modSpinLink_latches' (d : Dev) (s : SpinId) (f : SpinLink → SpinLink) : (d.modSpinLink s f).latches = d.latches := rfl
@[simp] theorem Dev.modSpinLink_hostRead' (d : Dev) (s : SpinId) (f : SpinLink → SpinLink) : (d.modSpinLink s f).hostRead = d.hostRead := rfl
@[simp] theorem Dev.modSpinLink_hostOut' (d : Dev) (s : SpinId) (f : SpinLink → SpinLink) : (d.modSpinLink s f).hostOut = d.hostOut := rfl
@[simp] theorem Dev.modSpinLink_libTime' (d : Dev) (s : SpinId) (f : SpinLink → SpinLink) : (d.modSpinLink s f).libTime = d.libTime := rfl
@[simp] theorem Dev.modSpinLink_pcie' (d : Dev) (s : SpinId) (f : SpinLink → SpinLink) : (d.modSpinLink s f).pcie = d.pcie := rfl
@[simp] theorem Dev.modSpinLink_locket' (d : Dev) (s : SpinId) (f : SpinLink → SpinLink) : (d.modSpinLink s f).locket = d.locket := rfl
@[simp] theorem Dev.modSpinLink_cameo' (d : Dev) (s : SpinId) (f : SpinLink → SpinLink) : (d.modSpinLink s f).cameo = d.cameo := rfl
@[simp] theorem Dev.modSpinLink_mgmt' (d : Dev) (s : SpinId) (f : SpinLink → SpinLink) : (d.modSpinLink s f).mgmt = d.mgmt := rfl
@[simp] theorem Dev.modSpinLink_keeper' (d : Dev) (s : SpinId) (f : SpinLink → SpinLink) : (d.modSpinLink s f).keeper = d.keeper := rfl
@[simp] theorem Dev.modSpinLink_thermal' (d : Dev) (s : SpinId) (f : SpinLink → SpinLink) : (d.modSpinLink s f).thermal = d.thermal := rfl
@[simp] theorem Dev.modSpinLink_power' (d : Dev) (s : SpinId) (f : SpinLink → SpinLink) : (d.modSpinLink s f).power = d.power := rfl
@[simp] theorem Dev.modSpinLink_mem' (d : Dev) (s : SpinId) (f : SpinLink → SpinLink) : (d.modSpinLink s f).mem = d.mem := rfl
@[simp] theorem Dev.modSpinLink_filigree' (d : Dev) (s : SpinId) (f : SpinLink → SpinLink) : (d.modSpinLink s f).filigree = d.filigree := rfl
@[simp] theorem Dev.modSpinLink_clasp' (d : Dev) (s : SpinId) (f : SpinLink → SpinLink) : (d.modSpinLink s f).clasp = d.clasp := rfl
@[simp] theorem Dev.modSpinLink_data' (d : Dev) (s : SpinId) (f : SpinLink → SpinLink) : (d.modSpinLink s f).data = d.data := rfl
@[simp] theorem Dev.modSpinLink_accounts' (d : Dev) (s : SpinId) (f : SpinLink → SpinLink) : (d.modSpinLink s f).accounts = d.accounts := rfl
@[simp] theorem Dev.modSpinLink_chains' (d : Dev) (s : SpinId) (f : SpinLink → SpinLink) : (d.modSpinLink s f).chains = d.chains := rfl
@[simp] theorem Dev.modSpinLink_surfaces' (d : Dev) (s : SpinId) (f : SpinLink → SpinLink) : (d.modSpinLink s f).surfaces = d.surfaces := rfl
@[simp] theorem Dev.modSpinLink_cores' (d : Dev) (s : SpinId) (f : SpinLink → SpinLink) : (d.modSpinLink s f).cores = d.cores := rfl
@[simp] theorem Dev.modSpinLink_bezels' (d : Dev) (s : SpinId) (f : SpinLink → SpinLink) : (d.modSpinLink s f).bezels = d.bezels := rfl
@[simp] theorem Dev.modSpinLink_heads' (d : Dev) (s : SpinId) (f : SpinLink → SpinLink) : (d.modSpinLink s f).heads = d.heads := rfl
@[simp] theorem Dev.modSpinLink_getF (d : Dev) (s : SpinId) (f : SpinLink → SpinLink) (g : Fld) (j : Nat) : getF (d.modSpinLink s f) g j = getF d g j := rfl
@[simp] theorem Dev.modSpinDown_freeIdx' (d : Dev) (s : SpinId) (f : SpinDown → SpinDown) : (d.modSpinDown s f).freeIdx = d.freeIdx := rfl
@[simp] theorem Dev.modSpinDown_regs' (d : Dev) (s : SpinId) (f : SpinDown → SpinDown) : (d.modSpinDown s f).regs = d.regs := rfl
@[simp] theorem Dev.modSpinDown_rvPend' (d : Dev) (s : SpinId) (f : SpinDown → SpinDown) : (d.modSpinDown s f).rvPend = d.rvPend := rfl
@[simp] theorem Dev.modSpinDown_hmPend' (d : Dev) (s : SpinId) (f : SpinDown → SpinDown) : (d.modSpinDown s f).hmPend = d.hmPend := rfl
@[simp] theorem Dev.modSpinDown_lifeClock' (d : Dev) (s : SpinId) (f : SpinDown → SpinDown) : (d.modSpinDown s f).lifeClock = d.lifeClock := rfl
@[simp] theorem Dev.modSpinDown_mLast' (d : Dev) (s : SpinId) (f : SpinDown → SpinDown) : (d.modSpinDown s f).mLast = d.mLast := rfl
@[simp] theorem Dev.modSpinDown_latches' (d : Dev) (s : SpinId) (f : SpinDown → SpinDown) : (d.modSpinDown s f).latches = d.latches := rfl
@[simp] theorem Dev.modSpinDown_hostRead' (d : Dev) (s : SpinId) (f : SpinDown → SpinDown) : (d.modSpinDown s f).hostRead = d.hostRead := rfl
@[simp] theorem Dev.modSpinDown_hostOut' (d : Dev) (s : SpinId) (f : SpinDown → SpinDown) : (d.modSpinDown s f).hostOut = d.hostOut := rfl
@[simp] theorem Dev.modSpinDown_libTime' (d : Dev) (s : SpinId) (f : SpinDown → SpinDown) : (d.modSpinDown s f).libTime = d.libTime := rfl
@[simp] theorem Dev.modSpinDown_pcie' (d : Dev) (s : SpinId) (f : SpinDown → SpinDown) : (d.modSpinDown s f).pcie = d.pcie := rfl
@[simp] theorem Dev.modSpinDown_locket' (d : Dev) (s : SpinId) (f : SpinDown → SpinDown) : (d.modSpinDown s f).locket = d.locket := rfl
@[simp] theorem Dev.modSpinDown_cameo' (d : Dev) (s : SpinId) (f : SpinDown → SpinDown) : (d.modSpinDown s f).cameo = d.cameo := rfl
@[simp] theorem Dev.modSpinDown_mgmt' (d : Dev) (s : SpinId) (f : SpinDown → SpinDown) : (d.modSpinDown s f).mgmt = d.mgmt := rfl
@[simp] theorem Dev.modSpinDown_keeper' (d : Dev) (s : SpinId) (f : SpinDown → SpinDown) : (d.modSpinDown s f).keeper = d.keeper := rfl
@[simp] theorem Dev.modSpinDown_thermal' (d : Dev) (s : SpinId) (f : SpinDown → SpinDown) : (d.modSpinDown s f).thermal = d.thermal := rfl
@[simp] theorem Dev.modSpinDown_power' (d : Dev) (s : SpinId) (f : SpinDown → SpinDown) : (d.modSpinDown s f).power = d.power := rfl
@[simp] theorem Dev.modSpinDown_mem' (d : Dev) (s : SpinId) (f : SpinDown → SpinDown) : (d.modSpinDown s f).mem = d.mem := rfl
@[simp] theorem Dev.modSpinDown_filigree' (d : Dev) (s : SpinId) (f : SpinDown → SpinDown) : (d.modSpinDown s f).filigree = d.filigree := rfl
@[simp] theorem Dev.modSpinDown_clasp' (d : Dev) (s : SpinId) (f : SpinDown → SpinDown) : (d.modSpinDown s f).clasp = d.clasp := rfl
@[simp] theorem Dev.modSpinDown_data' (d : Dev) (s : SpinId) (f : SpinDown → SpinDown) : (d.modSpinDown s f).data = d.data := rfl
@[simp] theorem Dev.modSpinDown_accounts' (d : Dev) (s : SpinId) (f : SpinDown → SpinDown) : (d.modSpinDown s f).accounts = d.accounts := rfl
@[simp] theorem Dev.modSpinDown_chains' (d : Dev) (s : SpinId) (f : SpinDown → SpinDown) : (d.modSpinDown s f).chains = d.chains := rfl
@[simp] theorem Dev.modSpinDown_surfaces' (d : Dev) (s : SpinId) (f : SpinDown → SpinDown) : (d.modSpinDown s f).surfaces = d.surfaces := rfl
@[simp] theorem Dev.modSpinDown_cores' (d : Dev) (s : SpinId) (f : SpinDown → SpinDown) : (d.modSpinDown s f).cores = d.cores := rfl
@[simp] theorem Dev.modSpinDown_bezels' (d : Dev) (s : SpinId) (f : SpinDown → SpinDown) : (d.modSpinDown s f).bezels = d.bezels := rfl
@[simp] theorem Dev.modSpinDown_heads' (d : Dev) (s : SpinId) (f : SpinDown → SpinDown) : (d.modSpinDown s f).heads = d.heads := rfl
@[simp] theorem Dev.modSpinDown_getF (d : Dev) (s : SpinId) (f : SpinDown → SpinDown) (g : Fld) (j : Nat) : getF (d.modSpinDown s f) g j = getF d g j := rfl
@[simp] theorem Dev.modKeepSpin_freeIdx' (d : Dev) (s : SpinId) (f : KeepSpin → KeepSpin) : (d.modKeepSpin s f).freeIdx = d.freeIdx := rfl
@[simp] theorem Dev.modKeepSpin_regs' (d : Dev) (s : SpinId) (f : KeepSpin → KeepSpin) : (d.modKeepSpin s f).regs = d.regs := rfl
@[simp] theorem Dev.modKeepSpin_rvPend' (d : Dev) (s : SpinId) (f : KeepSpin → KeepSpin) : (d.modKeepSpin s f).rvPend = d.rvPend := rfl
@[simp] theorem Dev.modKeepSpin_hmPend' (d : Dev) (s : SpinId) (f : KeepSpin → KeepSpin) : (d.modKeepSpin s f).hmPend = d.hmPend := rfl
@[simp] theorem Dev.modKeepSpin_lifeClock' (d : Dev) (s : SpinId) (f : KeepSpin → KeepSpin) : (d.modKeepSpin s f).lifeClock = d.lifeClock := rfl
@[simp] theorem Dev.modKeepSpin_mLast' (d : Dev) (s : SpinId) (f : KeepSpin → KeepSpin) : (d.modKeepSpin s f).mLast = d.mLast := rfl
@[simp] theorem Dev.modKeepSpin_latches' (d : Dev) (s : SpinId) (f : KeepSpin → KeepSpin) : (d.modKeepSpin s f).latches = d.latches := rfl
@[simp] theorem Dev.modKeepSpin_hostRead' (d : Dev) (s : SpinId) (f : KeepSpin → KeepSpin) : (d.modKeepSpin s f).hostRead = d.hostRead := rfl
@[simp] theorem Dev.modKeepSpin_hostOut' (d : Dev) (s : SpinId) (f : KeepSpin → KeepSpin) : (d.modKeepSpin s f).hostOut = d.hostOut := rfl
@[simp] theorem Dev.modKeepSpin_libTime' (d : Dev) (s : SpinId) (f : KeepSpin → KeepSpin) : (d.modKeepSpin s f).libTime = d.libTime := rfl
@[simp] theorem Dev.modKeepSpin_pcie' (d : Dev) (s : SpinId) (f : KeepSpin → KeepSpin) : (d.modKeepSpin s f).pcie = d.pcie := rfl
@[simp] theorem Dev.modKeepSpin_locket' (d : Dev) (s : SpinId) (f : KeepSpin → KeepSpin) : (d.modKeepSpin s f).locket = d.locket := rfl
@[simp] theorem Dev.modKeepSpin_cameo' (d : Dev) (s : SpinId) (f : KeepSpin → KeepSpin) : (d.modKeepSpin s f).cameo = d.cameo := rfl
@[simp] theorem Dev.modKeepSpin_mgmt' (d : Dev) (s : SpinId) (f : KeepSpin → KeepSpin) : (d.modKeepSpin s f).mgmt = d.mgmt := rfl
@[simp] theorem Dev.modKeepSpin_keeper' (d : Dev) (s : SpinId) (f : KeepSpin → KeepSpin) : (d.modKeepSpin s f).keeper = d.keeper := rfl
@[simp] theorem Dev.modKeepSpin_thermal' (d : Dev) (s : SpinId) (f : KeepSpin → KeepSpin) : (d.modKeepSpin s f).thermal = d.thermal := rfl
@[simp] theorem Dev.modKeepSpin_power' (d : Dev) (s : SpinId) (f : KeepSpin → KeepSpin) : (d.modKeepSpin s f).power = d.power := rfl
@[simp] theorem Dev.modKeepSpin_mem' (d : Dev) (s : SpinId) (f : KeepSpin → KeepSpin) : (d.modKeepSpin s f).mem = d.mem := rfl
@[simp] theorem Dev.modKeepSpin_filigree' (d : Dev) (s : SpinId) (f : KeepSpin → KeepSpin) : (d.modKeepSpin s f).filigree = d.filigree := rfl
@[simp] theorem Dev.modKeepSpin_clasp' (d : Dev) (s : SpinId) (f : KeepSpin → KeepSpin) : (d.modKeepSpin s f).clasp = d.clasp := rfl
@[simp] theorem Dev.modKeepSpin_data' (d : Dev) (s : SpinId) (f : KeepSpin → KeepSpin) : (d.modKeepSpin s f).data = d.data := rfl
@[simp] theorem Dev.modKeepSpin_accounts' (d : Dev) (s : SpinId) (f : KeepSpin → KeepSpin) : (d.modKeepSpin s f).accounts = d.accounts := rfl
@[simp] theorem Dev.modKeepSpin_chains' (d : Dev) (s : SpinId) (f : KeepSpin → KeepSpin) : (d.modKeepSpin s f).chains = d.chains := rfl
@[simp] theorem Dev.modKeepSpin_surfaces' (d : Dev) (s : SpinId) (f : KeepSpin → KeepSpin) : (d.modKeepSpin s f).surfaces = d.surfaces := rfl
@[simp] theorem Dev.modKeepSpin_cores' (d : Dev) (s : SpinId) (f : KeepSpin → KeepSpin) : (d.modKeepSpin s f).cores = d.cores := rfl
@[simp] theorem Dev.modKeepSpin_bezels' (d : Dev) (s : SpinId) (f : KeepSpin → KeepSpin) : (d.modKeepSpin s f).bezels = d.bezels := rfl
@[simp] theorem Dev.modKeepSpin_heads' (d : Dev) (s : SpinId) (f : KeepSpin → KeepSpin) : (d.modKeepSpin s f).heads = d.heads := rfl
@[simp] theorem Dev.modKeepSpin_getF (d : Dev) (s : SpinId) (f : KeepSpin → KeepSpin) (g : Fld) (j : Nat) : getF (d.modKeepSpin s f) g j = getF d g j := rfl
@[simp] theorem Dev.loop_modLoop (d : Dev) (h : HeadId) (l : LoopId) (f : LoopSt → LoopSt) : (d.modLoop h l f).loop h l = f (d.loop h l) := by
  unfold Dev.loop Dev.modLoop
  rw [Dev.head_modHead]
  simp [Dev.head]

end Sys2Proof.Machine
end

