-- ==== Sys2Proof/Laws/Flush.lean ====
section
/-! SUPPORT. The end of a command: judging its events changes Cameo, the pending bits of MSI-X and what is sent, and nothing else. -/

namespace Sys2Proof.Machine

/-- Sending a vector's message changes a pending bit or what is sent. -/
theorem Dev.msix_getF (d : Dev) (v : Nat) (f : Fld) (i : Nat) (h : f ≠ .MSIX_PBA_BITS) : getF (d.msix v) f i = getF d f i := by
  unfold Dev.msix
  split
  · exact getF_setF_ne d _ fun e => h e.1
  · rfl

theorem Dev.notifyOwed_getF (d : Dev) (f : Fld) (i : Nat) (h : f ≠ .MSIX_PBA_BITS) : getF d.notifyOwed f i = getF d f i := by
  unfold Dev.notifyOwed
  split
  · exact Dev.msix_getF _ _ _ _ h
  · rfl

/-- Judging the events changes Cameo alone. -/
theorem Dev.judgeAll_eq (d : Dev) : ∃ c, d.judgeAll = { d with cameo := c } := by
  unfold Dev.judgeAll
  split
  · exact ⟨d.cameo, rfl⟩
  · split
    · exact ⟨_, rfl⟩
    · exact ⟨_, rfl⟩

/-- The registers after the end of a command. -/
theorem Dev.flush_getF (d : Dev) (f : Fld) (i : Nat) (h : f ≠ .MSIX_PBA_BITS) : getF d.flush f i = getF d f i := by
  unfold Dev.flush
  rw [Dev.notifyOwed_getF _ _ _ h]
  obtain ⟨c, e⟩ := d.judgeAll_eq
  rw [e]
  try rfl

/-- The registers after a command that acts on the device alone. -/
theorem State.onDev_getF (s : State) (g : Dev → Dev) (f : Fld) (i : Nat) (h : f ≠ .MSIX_PBA_BITS) :
    getF (s.onDev g).dev f i = getF (g s.dev) f i := Dev.flush_getF _ _ _ h

@[simp] theorem State.onDev_dtime (s : State) (g : Dev → Dev) : (s.onDev g).dtime = s.dtime := rfl
@[simp] theorem State.onDev_pending (s : State) (g : Dev → Dev) : (s.onDev g).pending = s.pending := rfl


theorem Dev.msix_freeIdx (d : Dev) (v : Nat) : (d.msix v).freeIdx = d.freeIdx := by
  unfold Dev.msix
  split <;> rfl
theorem Dev.notifyOwed_freeIdx (d : Dev) : d.notifyOwed.freeIdx = d.freeIdx := by
  unfold Dev.notifyOwed
  split
  · exact Dev.msix_freeIdx _ _
  · rfl
@[simp] theorem Dev.flush_freeIdx (d : Dev) : d.flush.freeIdx = d.freeIdx := by
  unfold Dev.flush
  rw [Dev.notifyOwed_freeIdx]
  obtain ⟨c, e⟩ := d.judgeAll_eq
  rw [e]
  try rfl
@[simp] theorem State.onDev_freeIdx (s : State) (g : Dev → Dev) : (s.onDev g).dev.freeIdx = (g s.dev).freeIdx := Dev.flush_freeIdx _

theorem Dev.msix_rvPend (d : Dev) (v : Nat) : (d.msix v).rvPend = d.rvPend := by
  unfold Dev.msix
  split <;> rfl
theorem Dev.notifyOwed_rvPend (d : Dev) : d.notifyOwed.rvPend = d.rvPend := by
  unfold Dev.notifyOwed
  split
  · exact Dev.msix_rvPend _ _
  · rfl
@[simp] theorem Dev.flush_rvPend (d : Dev) : d.flush.rvPend = d.rvPend := by
  unfold Dev.flush
  rw [Dev.notifyOwed_rvPend]
  obtain ⟨c, e⟩ := d.judgeAll_eq
  rw [e]
  try rfl
@[simp] theorem State.onDev_rvPend (s : State) (g : Dev → Dev) : (s.onDev g).dev.rvPend = (g s.dev).rvPend := Dev.flush_rvPend _

theorem Dev.msix_hmPend (d : Dev) (v : Nat) : (d.msix v).hmPend = d.hmPend := by
  unfold Dev.msix
  split <;> rfl
theorem Dev.notifyOwed_hmPend (d : Dev) : d.notifyOwed.hmPend = d.hmPend := by
  unfold Dev.notifyOwed
  split
  · exact Dev.msix_hmPend _ _
  · rfl
@[simp] theorem Dev.flush_hmPend (d : Dev) : d.flush.hmPend = d.hmPend := by
  unfold Dev.flush
  rw [Dev.notifyOwed_hmPend]
  obtain ⟨c, e⟩ := d.judgeAll_eq
  rw [e]
  try rfl
@[simp] theorem State.onDev_hmPend (s : State) (g : Dev → Dev) : (s.onDev g).dev.hmPend = (g s.dev).hmPend := Dev.flush_hmPend _

theorem Dev.msix_lifeClock (d : Dev) (v : Nat) : (d.msix v).lifeClock = d.lifeClock := by
  unfold Dev.msix
  split <;> rfl
theorem Dev.notifyOwed_lifeClock (d : Dev) : d.notifyOwed.lifeClock = d.lifeClock := by
  unfold Dev.notifyOwed
  split
  · exact Dev.msix_lifeClock _ _
  · rfl
@[simp] theorem Dev.flush_lifeClock (d : Dev) : d.flush.lifeClock = d.lifeClock := by
  unfold Dev.flush
  rw [Dev.notifyOwed_lifeClock]
  obtain ⟨c, e⟩ := d.judgeAll_eq
  rw [e]
  try rfl
@[simp] theorem State.onDev_lifeClock (s : State) (g : Dev → Dev) : (s.onDev g).dev.lifeClock = (g s.dev).lifeClock := Dev.flush_lifeClock _

theorem Dev.msix_latches (d : Dev) (v : Nat) : (d.msix v).latches = d.latches := by
  unfold Dev.msix
  split <;> rfl
theorem Dev.notifyOwed_latches (d : Dev) : d.notifyOwed.latches = d.latches := by
  unfold Dev.notifyOwed
  split
  · exact Dev.msix_latches _ _
  · rfl
@[simp] theorem Dev.flush_latches (d : Dev) : d.flush.latches = d.latches := by
  unfold Dev.flush
  rw [Dev.notifyOwed_latches]
  obtain ⟨c, e⟩ := d.judgeAll_eq
  rw [e]
  try rfl
@[simp] theorem State.onDev_latches (s : State) (g : Dev → Dev) : (s.onDev g).dev.latches = (g s.dev).latches := Dev.flush_latches _

theorem Dev.msix_hostRead (d : Dev) (v : Nat) : (d.msix v).hostRead = d.hostRead := by
  unfold Dev.msix
  split <;> rfl
theorem Dev.notifyOwed_hostRead (d : Dev) : d.notifyOwed.hostRead = d.hostRead := by
  unfold Dev.notifyOwed
  split
  · exact Dev.msix_hostRead _ _
  · rfl
@[simp] theorem Dev.flush_hostRead (d : Dev) : d.flush.hostRead = d.hostRead := by
  unfold Dev.flush
  rw [Dev.notifyOwed_hostRead]
  obtain ⟨c, e⟩ := d.judgeAll_eq
  rw [e]
  try rfl
@[simp] theorem State.onDev_hostRead (s : State) (g : Dev → Dev) : (s.onDev g).dev.hostRead = (g s.dev).hostRead := Dev.flush_hostRead _

theorem Dev.msix_libTime (d : Dev) (v : Nat) : (d.msix v).libTime = d.libTime := by
  unfold Dev.msix
  split <;> rfl
theorem Dev.notifyOwed_libTime (d : Dev) : d.notifyOwed.libTime = d.libTime := by
  unfold Dev.notifyOwed
  split
  · exact Dev.msix_libTime _ _
  · rfl
@[simp] theorem Dev.flush_libTime (d : Dev) : d.flush.libTime = d.libTime := by
  unfold Dev.flush
  rw [Dev.notifyOwed_libTime]
  obtain ⟨c, e⟩ := d.judgeAll_eq
  rw [e]
  try rfl
@[simp] theorem State.onDev_libTime (s : State) (g : Dev → Dev) : (s.onDev g).dev.libTime = (g s.dev).libTime := Dev.flush_libTime _

theorem Dev.msix_pcie (d : Dev) (v : Nat) : (d.msix v).pcie = d.pcie := by
  unfold Dev.msix
  split <;> rfl
theorem Dev.notifyOwed_pcie (d : Dev) : d.notifyOwed.pcie = d.pcie := by
  unfold Dev.notifyOwed
  split
  · exact Dev.msix_pcie _ _
  · rfl
@[simp] theorem Dev.flush_pcie (d : Dev) : d.flush.pcie = d.pcie := by
  unfold Dev.flush
  rw [Dev.notifyOwed_pcie]
  obtain ⟨c, e⟩ := d.judgeAll_eq
  rw [e]
  try rfl
@[simp] theorem State.onDev_pcie (s : State) (g : Dev → Dev) : (s.onDev g).dev.pcie = (g s.dev).pcie := Dev.flush_pcie _

theorem Dev.msix_locket (d : Dev) (v : Nat) : (d.msix v).locket = d.locket := by
  unfold Dev.msix
  split <;> rfl
theorem Dev.notifyOwed_locket (d : Dev) : d.notifyOwed.locket = d.locket := by
  unfold Dev.notifyOwed
  split
  · exact Dev.msix_locket _ _
  · rfl
@[simp] theorem Dev.flush_locket (d : Dev) : d.flush.locket = d.locket := by
  unfold Dev.flush
  rw [Dev.notifyOwed_locket]
  obtain ⟨c, e⟩ := d.judgeAll_eq
  rw [e]
  try rfl
@[simp] theorem State.onDev_locket (s : State) (g : Dev → Dev) : (s.onDev g).dev.locket = (g s.dev).locket := Dev.flush_locket _

theorem Dev.msix_mgmt (d : Dev) (v : Nat) : (d.msix v).mgmt = d.mgmt := by
  unfold Dev.msix
  split <;> rfl
theorem Dev.notifyOwed_mgmt (d : Dev) : d.notifyOwed.mgmt = d.mgmt := by
  unfold Dev.notifyOwed
  split
  · exact Dev.msix_mgmt _ _
  · rfl
@[simp] theorem Dev.flush_mgmt (d : Dev) : d.flush.mgmt = d.mgmt := by
  unfold Dev.flush
  rw [Dev.notifyOwed_mgmt]
  obtain ⟨c, e⟩ := d.judgeAll_eq
  rw [e]
  try rfl
@[simp] theorem State.onDev_mgmt (s : State) (g : Dev → Dev) : (s.onDev g).dev.mgmt = (g s.dev).mgmt := Dev.flush_mgmt _

theorem Dev.msix_keeper (d : Dev) (v : Nat) : (d.msix v).keeper = d.keeper := by
  unfold Dev.msix
  split <;> rfl
theorem Dev.notifyOwed_keeper (d : Dev) : d.notifyOwed.keeper = d.keeper := by
  unfold Dev.notifyOwed
  split
  · exact Dev.msix_keeper _ _
  · rfl
@[simp] theorem Dev.flush_keeper (d : Dev) : d.flush.keeper = d.keeper := by
  unfold Dev.flush
  rw [Dev.notifyOwed_keeper]
  obtain ⟨c, e⟩ := d.judgeAll_eq
  rw [e]
  try rfl
@[simp] theorem State.onDev_keeper (s : State) (g : Dev → Dev) : (s.onDev g).dev.keeper = (g s.dev).keeper := Dev.flush_keeper _

theorem Dev.msix_thermal (d : Dev) (v : Nat) : (d.msix v).thermal = d.thermal := by
  unfold Dev.msix
  split <;> rfl
theorem Dev.notifyOwed_thermal (d : Dev) : d.notifyOwed.thermal = d.thermal := by
  unfold Dev.notifyOwed
  split
  · exact Dev.msix_thermal _ _
  · rfl
@[simp] theorem Dev.flush_thermal (d : Dev) : d.flush.thermal = d.thermal := by
  unfold Dev.flush
  rw [Dev.notifyOwed_thermal]
  obtain ⟨c, e⟩ := d.judgeAll_eq
  rw [e]
  try rfl
@[simp] theorem State.onDev_thermal (s : State) (g : Dev → Dev) : (s.onDev g).dev.thermal = (g s.dev).thermal := Dev.flush_thermal _

theorem Dev.msix_power (d : Dev) (v : Nat) : (d.msix v).power = d.power := by
  unfold Dev.msix
  split <;> rfl
theorem Dev.notifyOwed_power (d : Dev) : d.notifyOwed.power = d.power := by
  unfold Dev.notifyOwed
  split
  · exact Dev.msix_power _ _
  · rfl
@[simp] theorem Dev.flush_power (d : Dev) : d.flush.power = d.power := by
  unfold Dev.flush
  rw [Dev.notifyOwed_power]
  obtain ⟨c, e⟩ := d.judgeAll_eq
  rw [e]
  try rfl
@[simp] theorem State.onDev_power (s : State) (g : Dev → Dev) : (s.onDev g).dev.power = (g s.dev).power := Dev.flush_power _

theorem Dev.msix_mem (d : Dev) (v : Nat) : (d.msix v).mem = d.mem := by
  unfold Dev.msix
  split <;> rfl
theorem Dev.notifyOwed_mem (d : Dev) : d.notifyOwed.mem = d.mem := by
  unfold Dev.notifyOwed
  split
  · exact Dev.msix_mem _ _
  · rfl
@[simp] theorem Dev.flush_mem (d : Dev) : d.flush.mem = d.mem := by
  unfold Dev.flush
  rw [Dev.notifyOwed_mem]
  obtain ⟨c, e⟩ := d.judgeAll_eq
  rw [e]
  try rfl
@[simp] theorem State.onDev_mem (s : State) (g : Dev → Dev) : (s.onDev g).dev.mem = (g s.dev).mem := Dev.flush_mem _

theorem Dev.msix_filigree (d : Dev) (v : Nat) : (d.msix v).filigree = d.filigree := by
  unfold Dev.msix
  split <;> rfl
theorem Dev.notifyOwed_filigree (d : Dev) : d.notifyOwed.filigree = d.filigree := by
  unfold Dev.notifyOwed
  split
  · exact Dev.msix_filigree _ _
  · rfl
@[simp] theorem Dev.flush_filigree (d : Dev) : d.flush.filigree = d.filigree := by
  unfold Dev.flush
  rw [Dev.notifyOwed_filigree]
  obtain ⟨c, e⟩ := d.judgeAll_eq
  rw [e]
  try rfl
@[simp] theorem State.onDev_filigree (s : State) (g : Dev → Dev) : (s.onDev g).dev.filigree = (g s.dev).filigree := Dev.flush_filigree _

theorem Dev.msix_clasp (d : Dev) (v : Nat) : (d.msix v).clasp = d.clasp := by
  unfold Dev.msix
  split <;> rfl
theorem Dev.notifyOwed_clasp (d : Dev) : d.notifyOwed.clasp = d.clasp := by
  unfold Dev.notifyOwed
  split
  · exact Dev.msix_clasp _ _
  · rfl
@[simp] theorem Dev.flush_clasp (d : Dev) : d.flush.clasp = d.clasp := by
  unfold Dev.flush
  rw [Dev.notifyOwed_clasp]
  obtain ⟨c, e⟩ := d.judgeAll_eq
  rw [e]
  try rfl
@[simp] theorem State.onDev_clasp (s : State) (g : Dev → Dev) : (s.onDev g).dev.clasp = (g s.dev).clasp := Dev.flush_clasp _

theorem Dev.msix_data (d : Dev) (v : Nat) : (d.msix v).data = d.data := by
  unfold Dev.msix
  split <;> rfl
theorem Dev.notifyOwed_data (d : Dev) : d.notifyOwed.data = d.data := by
  unfold Dev.notifyOwed
  split
  · exact Dev.msix_data _ _
  · rfl
@[simp] theorem Dev.flush_data (d : Dev) : d.flush.data = d.data := by
  unfold Dev.flush
  rw [Dev.notifyOwed_data]
  obtain ⟨c, e⟩ := d.judgeAll_eq
  rw [e]
  try rfl
@[simp] theorem State.onDev_data (s : State) (g : Dev → Dev) : (s.onDev g).dev.data = (g s.dev).data := Dev.flush_data _

theorem Dev.msix_accounts (d : Dev) (v : Nat) : (d.msix v).accounts = d.accounts := by
  unfold Dev.msix
  split <;> rfl
theorem Dev.notifyOwed_accounts (d : Dev) : d.notifyOwed.accounts = d.accounts := by
  unfold Dev.notifyOwed
  split
  · exact Dev.msix_accounts _ _
  · rfl
@[simp] theorem Dev.flush_accounts (d : Dev) : d.flush.accounts = d.accounts := by
  unfold Dev.flush
  rw [Dev.notifyOwed_accounts]
  obtain ⟨c, e⟩ := d.judgeAll_eq
  rw [e]
  try rfl
@[simp] theorem State.onDev_accounts (s : State) (g : Dev → Dev) : (s.onDev g).dev.accounts = (g s.dev).accounts := Dev.flush_accounts _

theorem Dev.msix_chains (d : Dev) (v : Nat) : (d.msix v).chains = d.chains := by
  unfold Dev.msix
  split <;> rfl
theorem Dev.notifyOwed_chains (d : Dev) : d.notifyOwed.chains = d.chains := by
  unfold Dev.notifyOwed
  split
  · exact Dev.msix_chains _ _
  · rfl
@[simp] theorem Dev.flush_chains (d : Dev) : d.flush.chains = d.chains := by
  unfold Dev.flush
  rw [Dev.notifyOwed_chains]
  obtain ⟨c, e⟩ := d.judgeAll_eq
  rw [e]
  try rfl
@[simp] theorem State.onDev_chains (s : State) (g : Dev → Dev) : (s.onDev g).dev.chains = (g s.dev).chains := Dev.flush_chains _

theorem Dev.msix_surfaces (d : Dev) (v : Nat) : (d.msix v).surfaces = d.surfaces := by
  unfold Dev.msix
  split <;> rfl
theorem Dev.notifyOwed_surfaces (d : Dev) : d.notifyOwed.surfaces = d.surfaces := by
  unfold Dev.notifyOwed
  split
  · exact Dev.msix_surfaces _ _
  · rfl
@[simp] theorem Dev.flush_surfaces (d : Dev) : d.flush.surfaces = d.surfaces := by
  unfold Dev.flush
  rw [Dev.notifyOwed_surfaces]
  obtain ⟨c, e⟩ := d.judgeAll_eq
  rw [e]
  try rfl
@[simp] theorem State.onDev_surfaces (s : State) (g : Dev → Dev) : (s.onDev g).dev.surfaces = (g s.dev).surfaces := Dev.flush_surfaces _

theorem Dev.msix_cores (d : Dev) (v : Nat) : (d.msix v).cores = d.cores := by
  unfold Dev.msix
  split <;> rfl
theorem Dev.notifyOwed_cores (d : Dev) : d.notifyOwed.cores = d.cores := by
  unfold Dev.notifyOwed
  split
  · exact Dev.msix_cores _ _
  · rfl
@[simp] theorem Dev.flush_cores (d : Dev) : d.flush.cores = d.cores := by
  unfold Dev.flush
  rw [Dev.notifyOwed_cores]
  obtain ⟨c, e⟩ := d.judgeAll_eq
  rw [e]
  try rfl
@[simp] theorem State.onDev_cores (s : State) (g : Dev → Dev) : (s.onDev g).dev.cores = (g s.dev).cores := Dev.flush_cores _

theorem Dev.msix_bezels (d : Dev) (v : Nat) : (d.msix v).bezels = d.bezels := by
  unfold Dev.msix
  split <;> rfl
theorem Dev.notifyOwed_bezels (d : Dev) : d.notifyOwed.bezels = d.bezels := by
  unfold Dev.notifyOwed
  split
  · exact Dev.msix_bezels _ _
  · rfl
@[simp] theorem Dev.flush_bezels (d : Dev) : d.flush.bezels = d.bezels := by
  unfold Dev.flush
  rw [Dev.notifyOwed_bezels]
  obtain ⟨c, e⟩ := d.judgeAll_eq
  rw [e]
  try rfl
@[simp] theorem State.onDev_bezels (s : State) (g : Dev → Dev) : (s.onDev g).dev.bezels = (g s.dev).bezels := Dev.flush_bezels _

theorem Dev.msix_heads (d : Dev) (v : Nat) : (d.msix v).heads = d.heads := by
  unfold Dev.msix
  split <;> rfl
theorem Dev.notifyOwed_heads (d : Dev) : d.notifyOwed.heads = d.heads := by
  unfold Dev.notifyOwed
  split
  · exact Dev.msix_heads _ _
  · rfl
@[simp] theorem Dev.flush_heads (d : Dev) : d.flush.heads = d.heads := by
  unfold Dev.flush
  rw [Dev.notifyOwed_heads]
  obtain ⟨c, e⟩ := d.judgeAll_eq
  rw [e]
  try rfl
@[simp] theorem State.onDev_heads (s : State) (g : Dev → Dev) : (s.onDev g).dev.heads = (g s.dev).heads := Dev.flush_heads _

theorem Dev.msix_spindles (d : Dev) (v : Nat) : (d.msix v).spindles = d.spindles := by
  unfold Dev.msix
  split <;> rfl
theorem Dev.notifyOwed_spindles (d : Dev) : d.notifyOwed.spindles = d.spindles := by
  unfold Dev.notifyOwed
  split
  · exact Dev.msix_spindles _ _
  · rfl
@[simp] theorem Dev.flush_spindles (d : Dev) : d.flush.spindles = d.spindles := by
  unfold Dev.flush
  rw [Dev.notifyOwed_spindles]
  obtain ⟨c, e⟩ := d.judgeAll_eq
  rw [e]
  try rfl
@[simp] theorem State.onDev_spindles (s : State) (g : Dev → Dev) : (s.onDev g).dev.spindles = (g s.dev).spindles := Dev.flush_spindles _


end Sys2Proof.Machine
end

