-- ==== Sys2Proof/Laws/Memory.lean ====
section
/-! SUPPORT. The byte memories: a read after a write gives what was written, every other byte stays, and the canonical form is kept. -/

namespace Sys2Proof.Machine

/-- Setting a run of keys one after another: a key of the run reads as its value, every other key as before. -/
theorem Sparse.get_foldl_set {β : Type} [DecidableEq β] (dflt : Nat → β) (base : Nat) (val : Nat → β) (ks : List Nat) (l : List (Nat × β))
    (k : Nat) :
    Sparse.get dflt (ks.foldl (fun l i => Sparse.set dflt l (base + i) (val i)) l) k
      = if ∃ i ∈ ks, base + i = k then val (k - base) else Sparse.get dflt l k := by
  induction ks generalizing l with
  | nil => simp
  | cons i ks ih =>
    rw [List.foldl_cons, ih]
    by_cases h : ∃ j ∈ ks, base + j = k
    · simp [h]
    · by_cases e : base + i = k
      · have hk : k - base = i := by omega
        subst e
        simp [hk]
      · simp only [List.mem_cons, exists_eq_or_imp, h, e, or_self, if_false]
        exact Sparse.get_set_ne dflt l _ (by omega)

/-- Setting a run of keys keeps the canonical form. -/
theorem Sparse.ok_foldl_set {β : Type} [DecidableEq β] (dflt : Nat → β) (base : Nat) (val : Nat → β) (ks : List Nat) (l : List (Nat × β))
    (h : Sparse.ok dflt l = true) : Sparse.ok dflt (ks.foldl (fun l i => Sparse.set dflt l (base + i) (val i)) l) = true := by
  induction ks generalizing l with
  | nil => exact h
  | cons i ks ih => exact ih _ (Sparse.ok_set dflt l _ _ h)

/-- PARITY of a line has one bit a byte. -/
theorem parityWord_lt (l : List Byte) : parityWord l < 2 ^ l.length := by
  induction l with
  | nil => simp [parityWord]
  | cons b l ih =>
    have : b2n (oddParity b) ≤ 1 := by unfold b2n; split <;> omega
    simp only [parityWord, List.length_cons, pow_succ]
    omega

/-- Bit i of PARITY is the odd parity of byte i (R328). -/
theorem parityWord_bit (l : List Byte) (i : Nat) (h : i < l.length) : bit (parityWord l) i = oddParity l[i] := by
  induction l generalizing i with
  | nil => simp at h
  | cons b l ih =>
    have hb : b2n (oddParity b) ≤ 1 := by unfold b2n; split <;> omega
    cases i with
    | zero =>
      have e : (b2n (oddParity b) + 2 * parityWord l) % 2 = b2n (oddParity b) := by omega
      simp only [parityWord, bit, pow_zero, Nat.div_one, e, List.getElem_cons_zero]
      cases oddParity b <;> rfl
    | succ i =>
      have e : (b2n (oddParity b) + 2 * parityWord l) / 2 ^ (i + 1) = parityWord l / 2 ^ i := by
        rw [pow_succ', ← Nat.div_div_eq_div_mul]
        congr 1
        omega
      simp only [parityWord, bit, e, List.getElem_cons_succ]
      exact ih i (by simpa using h)

/-- DRAM after a line has been written: the bytes of the line are those written, every other byte is as before. -/
theorem Mem.writeDram_dramByte (m : Mem) (line : Nat) (bytes : List Byte) (a : Nat) :
    (m.writeDram line bytes).dramByte a
      = if line * 128 ≤ a ∧ a < line * 128 + 128 then bytes.getD (a - line * 128) 0 else m.dramByte a := by
  have hr : (∃ i ∈ List.range 128, line * 128 + i = a) ↔ (line * 128 ≤ a ∧ a < line * 128 + 128) := by
    constructor
    · rintro ⟨i, hi, rfl⟩
      have := List.mem_range.mp hi
      omega
    · rintro ⟨h1, h2⟩
      exact ⟨a - line * 128, List.mem_range.mpr (by omega), by omega⟩
  unfold Mem.writeDram Mem.dramByte
  rw [Sparse.get_foldl_set (fun _ => (0 : Byte)) (line * 128) (fun i => bytes.getD i 0)]
  simp only [hr]

/-- A line of DRAM that has been written reads as the 128 bytes written. -/
theorem Mem.writeDram_dramLine (m : Mem) (line : Nat) (bytes : List Byte) (h : bytes.length = 128) :
    (m.writeDram line bytes).dramLine line = bytes := by
  apply List.ext_getElem
  · simp [Mem.dramLine, h]
  · intro i h1 h2
    have hi : i < 128 := by omega
    simp [Mem.dramLine, Mem.writeDram_dramByte, hi, h2]

/-- Another line of DRAM is as before. -/
theorem Mem.writeDram_dramLine_ne (m : Mem) {line other : Nat} (bytes : List Byte) (h : other ≠ line) :
    (m.writeDram line bytes).dramLine other = m.dramLine other := by
  apply List.map_congr_left
  intro i hi
  have := List.mem_range.mp hi
  rw [Mem.writeDram_dramByte, if_neg (by omega)]

/-- Writing a line keeps the canonical form of DRAM. -/
theorem Mem.writeDram_ok (m : Mem) (line : Nat) (bytes : List Byte) (h : Sparse.ok (fun _ => (0 : Byte)) m.dram = true) :
    Sparse.ok (fun _ => (0 : Byte)) (m.writeDram line bytes).dram = true := by
  unfold Mem.writeDram
  generalize List.range 128 = ks
  exact Sparse.ok_foldl_set (fun _ => (0 : Byte)) (line * 128) (fun i => bytes.getD i 0) _ _ h

/-- Writing a line changes DRAM alone. -/
theorem Mem.writeDram_frame (m : Mem) (line : Nat) (bytes : List Byte) :
    (m.writeDram line bytes).array = m.array ∧ (m.writeDram line bytes).merge = m.merge ∧ (m.writeDram line bytes).evict = m.evict
      ∧ (m.writeDram line bytes).waiting = m.waiting := ⟨rfl, rfl, rfl, rfl⟩

/-- A write of bytes into NOR keeps its canonical form. -/
theorem Locket.writeNor_ok (l : Locket) (off : Nat) (bs : List Byte) (h : Sparse.ok (fun _ => (0xFF : Byte)) l.nor = true) :
    Sparse.ok (fun _ => (0xFF : Byte)) (l.writeNor off bs).nor = true := by
  unfold Locket.writeNor
  generalize bs.zipIdx = ps
  revert h
  generalize l.nor = n
  induction ps generalizing n with
  | nil => exact id
  | cons p ps ih => exact fun h => ih _ (Sparse.ok_set _ _ _ _ h)


end Sys2Proof.Machine
end

