-- ==== Sys2Proof/WellFormed.lean ====
section
/-! DEFINITION. Well-formed commands: every operand lies in the range that the manual gives it. The outside world sends no
other; `exec` is total on all of them. -/

namespace Sys2Proof

/-- A number of at most `w` bits. -/
def fitsIn (w x : Nat) : Bool := decide (x < 2 ^ w)

/-- An integer of `w` bits. -/
def fitsSigned (w : Nat) (x : Int) : Bool := decide (-(2 ^ (w - 1) : Nat) ≤ x) && decide (x < (2 ^ (w - 1) : Nat))

/-- An access of BAR0, 64 MiB (R10, R257): 4 or 8 bytes, aligned to its size. -/
def barAccess (addr size : Nat) : Bool := (size == 4 || size == 8) && decide (addr % size = 0) && fitsIn 26 addr

/-- A write of half of a 64-bit register carries 32 bits. -/
def Half.fits (h : Half) (v : Nat) : Bool :=
  match h with
  | .both => fitsIn 64 v
  | .lower => fitsIn 32 v
  | .upper => fitsIn 32 v

/-- A queue pair, 0 to 1,023 (R259), and a tag of 16 bits (R263). -/
def qtag (qid tag : Nat) : Bool := fitsIn 10 qid && fitsIn 16 tag

/-- The check's index of a line is within memory: 2^31 lines of 128 bytes (R317). -/
def lineOk (line : Nat) : Bool := fitsIn 31 line

/-- Flipped bits are among the 1,024 data and 256 check bits of a line (R328). -/
def flipsOk (l : List Nat) : Bool := l.all fun n => decide (n < 1280)

/-- A line's flipped bits. -/
def eccOk (e : LineCheck) : Bool := match e with | .good => true | .bad flips _ _ _ => flipsOk flips

/-- The measures of the ten sub-ADCs (R347). -/
def adcOk (l : List AdcResult) : Bool :=
  decide (l.length = 10)
    && l.all fun a => fitsSigned 16 a.offset && fitsSigned 16 a.gain && fitsSigned 16 a.skew && fitsIn 16 a.noise && fitsIn 16 a.missing

/-- The measures of a link (R78). -/
def PhaseInfo.fits (p : PhaseInfo) : Bool :=
  fitsIn 16 p.rev && fitsIn 64 p.serial && fitsIn 16 p.iMax && fitsIn 16 p.latency && fitsIn 128 p.coeffs
    && fitsIn 8 p.eyeW && fitsIn 8 p.eyeH && fitsIn 8 p.compW && fitsIn 8 p.compH

/-- A PSA or a logical address within its 32 bits (R39). -/
def RemapRead.fits (r : RemapRead) : Bool :=
  fitsIn 32 r.home && fitsIn 8 r.reason && fitsIn 32 r.target && fitsIn 16 r.volume && fitsIn 32 r.epoch && fitsIn 64 r.logical
    && fitsIn 32 r.seq && fitsIn 64 r.time

/-- What a mount read of a format record at a spot: all of its 64 bytes and of its header's, or neither. -/
def FormatRead.fits (spot : Fin 4) (r : FormatRead) : Bool :=
  r.spot == spot && ((decide (r.header.length = 64) && decide (r.record.length = 64)) || (r.header.isEmpty && r.record.isEmpty))

/-- A remap sector lies in one of the 3,984 blocks (R57) and holds at most 2,048 records. -/
def RemapSector.fits (r : RemapSector) : Bool :=
  decide (r.block < 3984) && decide (r.sector < 32) && decide (r.records.length ≤ 2048) && r.records.all fun l => decide (l.length = 32)

/-- A DMA of whole dwords or of the bytes that a command asks for: at most 4,096 bytes. -/
def hostBytes (l : List Byte) : Bool := decide (l.length ≤ 4096)

/-- Every operand within its range. -/
def Instr.wf : Instr → Bool
  | .tick => true
  | .mTick power zones die =>
    fitsIn 16 power && decide (zones.length = 177) && zones.all (fitsIn 32) && decide (die.length = 16) && die.all (fitsIn 16)
  | .ptmPeriodExpiry => true
  | .ptmNow => true
  | .ptmResponse tm tl => fitsIn 64 tm && fitsIn 64 tl
  | .ptmTimeout => true
  | .libtimeOfsWrite half value => half.fits value
  | .registerWrite addr size value => barAccess addr size && fitsIn (8 * size) value
  | .readClear addr size => barAccess addr size
  | .lowerHalfRead addr => barAccess addr 4
  | .fifoOverflow (.sample _ _ first last) => decide (first ≤ last)
  | .fifoOverflow (.other number _) => fitsIn 8 number
  | .servoHeartbeatLoss => true
  | .headUpstreamFrame _ blocks => decide (blocks.length = 600) || decide (blocks.length = 50)
  | .mailboxAnswer _ tag addr st data => fitsIn 8 tag && fitsIn 16 addr && fitsIn 8 st && fitsIn 32 data
  | .mailboxTimeout _ tag => fitsIn 8 tag
  | .mailboxBusyReissue _ tag => fitsIn 8 tag
  | .mailboxRetry _ tag => fitsIn 8 tag
  | .homeSwitchReport _ seq steps _ => fitsIn 8 seq && fitsIn 32 steps
  | .bankReport _ bank crc => decide (bank < 2) && fitsIn 32 crc
  | .correctionAppliedReport _ stripe => fitsIn 20 stripe
  | .rateSwitch _ rate => decide (rate < 3)
  | .rateRelockDone _ _ => true
  | .signalDetect _ => true
  | .linkPhaseDone _ info => info.fits
  | .linkPhaseFail _ => true
  | .linkRetryDelay _ => true
  | .retrain _ => true
  | .fullTrain _ => true
  | .marginStart _ => true
  | .marginScanDone _ w h cw ch => fitsIn 8 w && fitsIn 8 h && fitsIn 8 cw && fitsIn 8 ch
  | .signalLoss _ => true
  | .spindleUpstreamFrame _ blocks => decide (blocks.length = 50)
  | .bayWake _ => true
  | .bezelOverrun _ late _ => decide late.Nodup
  | .followingErrorFault _ _ => true
  | .learnPassStart _ _ => true
  | .learnPassEnd _ _ => true
  | .lawCommit _ _ word => fitsIn 32 word
  | .lawStructureWrite _ _ _ word => fitsIn 32 word
  | .traceArm _ word => fitsIn 32 word
  | .traceForce _ => true
  | .traceCaptureDone _ => true
  | .handoverRetry _ _ => true
  | .lensCentreEnd _ => true
  | .rampToZeroEnd _ => true
  | .acquireLaserWaitEnd _ => true
  | .focusSettled _ => true
  | .sweepEnd _ => true
  | .focusLost _ => true
  | .jumpKickEnd _ => true
  | .jumpBrakeEnd _ => true
  | .jumpCoastTimeout _ => true
  | .jumpSettled _ => true
  | .sledProfileEnd _ => true
  | .coilHold _ => true
  | .relocateTimeout _ => true
  | .homeTimeout _ => true
  | .homingParkDone _ => true
  | .seekRequest _ _ stripe => fitsIn 20 stripe
  | .sledSettleEnd _ => true
  | .shortSeekCapture _ => true
  | .shortSeekTimeout _ => true
  | .guardSettled _ => true
  | .shockSettled _ => true
  | .moGuardWrite _ word => fitsIn 32 word
  | .stop _ _ => true
  | .park _ _ => true
  | .home _ _ => true
  | .relocate _ _ => true
  | .torcOverrun _ late => fitsIn 8 late
  | .tqCtlRun _ _ _ => true
  | .speedCmd _ rpm => fitsIn 16 rpm
  | .clear _ => true
  | .chopTest _ => true
  | .chopTestDone _ => true
  | .startDoorWaitEnd _ => true
  | .listenEnd _ speed _ => fitsIn 16 speed
  | .testPulsesDone _ peaks => decide (peaks.length = 6) && peaks.all (fitsIn 16)
  | .alignEnd _ => true
  | .rampHandover _ => true
  | .rampAgreeTimeout _ => true
  | .atSpeed _ => true
  | .decelEnd _ => true
  | .standstill _ => true
  | .chopperFault _ => true
  | .keWindowEnd _ ke => fitsIn 16 ke
  | .abnormalClear _ => true
  | .busRecovery _ => true
  | .eject _ => true
  | .load _ => true
  | .trayTimeout _ => true
  | .codewordReady _ _ => true
  | .codewordDecoded _ _ => true
  | .softHoldDispatch => true
  | .ladderStep _ => true
  | .writeArm _ jobs => decide (jobs.length ≤ 4) && decide (jobs.map Prod.fst).Nodup
  | .writeSectorEnd _ _ => true
  | .laserWriteHandover _ => true
  | .wsEntryWrite _ _ _ value => fitsIn 64 value
  | .verifyRead _ => true
  | .wtempWaitExpiry _ => true
  | .reallocationWrite _ => true
  | .writeStuckRetry _ => true
  | .remapSectorWrite _ => true
  | .chainRowWrite _ row => fitsIn 32 row
  | .padAfterExpiry _ row => fitsIn 32 row
  | .chainEngineDone _ row => fitsIn 32 row
  | .rebuildRewrite _ row => fitsIn 32 row
  | .memberResync _ _ => true
  | .rebuildDone _ => true
  | .peerWrite source addr data => fitsIn 16 source && fitsIn 36 addr && hostBytes data
  | .peerReadDone qid tag _ => qtag qid tag
  | .clEnable => true
  | .clDisable => true
  | .doorbell qid size _ value => fitsIn 10 qid && (size == 4 || size == 8) && fitsIn (8 * size) value
  | .sqFetch qid entry => fitsIn 10 qid && decide (entry.length = 64)
  | .lockGrant qid tag => qtag qid tag
  | .createQueue tag => fitsIn 16 tag
  | .deleteQueue tag => fitsIn 16 tag
  | .queueRestart tag => fitsIn 16 tag
  | .abort tag => fitsIn 16 tag
  | .getLog tag => fitsIn 16 tag
  | .identify tag => fitsIn 16 tag
  | .volumeCreate tag host => fitsIn 16 tag && hostBytes host
  | .volumeDelete tag => fitsIn 16 tag
  | .formatSurface tag => fitsIn 16 tag
  | .chainCreate tag host => fitsIn 16 tag && hostBytes host
  | .chainDelete tag => fitsIn 16 tag
  | .chainReplace tag => fitsIn 16 tag
  | .calSave tag => fitsIn 16 tag
  | .calLoad tag _ => fitsIn 16 tag
  | .attest tag host => fitsIn 16 tag && hostBytes host
  | .eventRead tag => fitsIn 16 tag
  | .softReset tag => fitsIn 16 tag
  | .read qid tag => qtag qid tag
  | .write qid tag => qtag qid tag
  | .flush qid tag => qtag qid tag
  | .verify qid tag => qtag qid tag
  | .append qid tag => qtag qid tag
  | .readExtent qid tag => qtag qid tag
  | .streamFlush qid tag => qtag qid tag
  | .copy qid tag => qtag qid tag
  | .receive qid tag => qtag qid tag
  | .qfenceWrite qid value => fitsIn 10 qid && fitsIn 32 value
  | .hostDmaError qid tag => qtag qid tag
  | .openMaxExpiry volume => fitsIn 16 volume
  | .recvTimeout _ => true
  | .coalesceTimeout qid => fitsIn 10 qid
  | .engineDispatch _ => true
  | .compressionDone _ => true
  | .decodeError _ => true
  | .casketRead line _ ecc => lineOk line && eccOk ecc
  | .casketWrite line mask data => lineOk line && decide (mask.length = 128) && decide (data.length = 128)
  | .mbDrain line _ ecc => lineOk line && eccOk ecc
  | .evictionWriteDone line => lineOk line
  | .zline line => lineOk line
  | .casketDisable => true
  | .casketEnable => true
  | .invalidateDone => true
  | .scrubPass _ bad => bad.all fun b => decide (b.group < 192) && fitsIn 31 b.loc && flipsOk b.flips
  | .journalUpdate _ _ => true
  | .referenceCheckDone _ adc => adcOk adc
  | .inhibitTestLaserHalf _ _ _ => true
  | .inhibitTestWriteHalf _ _ => true
  | .inhibitTestDaily _ _ _ _ => true
  | .calPeriodExpiry _ => true
  | .hmCtlRun _ => true
  | .converterRunDone _ adc => adcOk adc
  | .laserPointsDone _ ib p1 p2 p3 => fitsIn 16 ib && fitsIn 32 p1 && fitsIn 32 p2 && fitsIn 32 p3
  | .writePowerTrialDone _ _ err => decide (err.length ≤ 4) && err.all fun l => decide (l.length = 8)
  | .servoScaleUpdate _ te fe tilt => fitsIn 16 te && fitsIn 16 fe && fitsIn 16 tilt
  | .focusMarginScanDone _ _ _ err => decide (err.length = 5)
  | .ageingSample _ _ value => fitsSigned 32 value
  | .sensorBrokenClear _ mask => fitsIn 32 mask
  | .thAmbient temp => fitsIn 16 temp
  | .ambientTimeout => true
  | .throttleDwellExpiry => true
  | .p1IdleExpiry => true
  | .p2IdleExpiry => true
  | .spindownExpiry => true
  | .d3hotEntry => true
  | .pmeTurnOff => true
  | .pmCtlWake => true
  | .powerExitDone => true
  | .d0Return => true
  | .surfaceMount _ spot0 spot1 spot2 spot3 sectors =>
    spot0.all (·.fits 0) && spot1.all (·.fits 1) && spot2.all (·.fits 2) && spot3.all (·.fits 3) && sectors.all (·.fits)
  | .remapScanDone _ found => found.all (·.fits)
  | .speedWindow _ => true
  | .dieSensorSample temps => decide (temps.length = 4) && temps.all (fitsIn 16)
  | .shutdownPllStop => true
  | .coreDip => true
  | .dipSettleEnd _ => true
  | .releaseHoldExpiry _ => true
  | .coreHeartbeatLoss _ => true
  | .keeperFailure => true
  | .coldPowerOn _ => true
  | .resetN => true
  | .hostReset => true
  | .functionLevelReset => true
  | .bootImageVerified => true
  | .dramTrainingDone => true
  | .coreSelfTestDone failed => decide failed.Nodup
  | .configRequest reg => fitsIn 10 reg
  | .lock => true
  | .debugToken _ => true
  | .suppressedTimeout code => fitsIn 16 code
  | .stageDrain n => decide (n ≤ 4096)
  | .ident => true
  | .status => true
  | .health kind index => fitsIn 8 kind && fitsIn 8 index
  | .events first => fitsIn 32 first
  | .mgWake => true
  | .ambient temp => fitsIn 16 temp
  | .imgBegin slot => fitsIn 8 slot
  | .imgData offset data => fitsIn 32 offset && decide (data.length ≤ 240)
  | .imgEnd => true
  | .responseRead => true
  | .sweepReturnEnd _ => true
  | .hostReadCompletion qid tag _ => qtag qid tag
  | .pcieLinkUp => true
  | .perstDeassert => true
  | .decompressionDone _ => true
  | .idleRevolution _ => true
  | .ref25Failure => true
  | .supervisorRelease => true
  | .startupComplete => true
  | .managementRequestBad _ => true

end Sys2Proof
end

