-- ==== Sys2Proof/Tests/Slice0.lean ====
section
/-! SUPPORT. Tests: an ill-formed term for every check of WellFormed, a state and operands that meet the hypotheses of every clause of
the statements, and the worked examples of the spec. -/

namespace Sys2Proof.Tests

set_option Elab.async false

open Sys2Proof Sys2Proof.Machine

/-- A small state: fields of registers set on the device after reset, and then a change of it. -/
def mk (fs : List (Fld × Nat × Nat)) (f : Dev → Dev := id) : State :=
  { dev := f (fs.foldl (fun d x => setF d x.1 x.2.1 x.2.2) {}) }

/-- The state after a command, the one before where there is none. -/
def after (c : Instr) (s : State) : State := match exec c s with | .next t => t | _ => s

/-- Cameo as after reset records any event while a Crown core runs. -/
theorem hears_of (d : Dev) (e : Event) (h : d.cameo = {}) (c : d.crownDead = false)
    (p : getF d .PM_STAT_STATE 0 ≠ 4 := by decide +kernel) : d.Hears e := by
  refine ⟨c, p, ?_, ?_, ?_, ?_, ?_, ?_⟩ <;> rw [h]
  · decide
  · decide
  · cases e <;> decide

/-! ## Ill-formed commands, one or more for every check -/

theorem test_wf_time : ([.mTick (2 ^ 16) (List.replicate 177 0) (List.replicate 16 0), .mTick 0 [0] (List.replicate 16 0),
    .mTick 0 (List.replicate 177 (2 ^ 32)) (List.replicate 16 0), .mTick 0 (List.replicate 177 0) [], .mTick 0 (List.replicate 177 0) (List.replicate 16 65536),
    .ptmResponse (2 ^ 64) 0, .ptmResponse 0 (2 ^ 64), .libtimeOfsWrite .both (2 ^ 64), .libtimeOfsWrite .lower (2 ^ 32),
    .libtimeOfsWrite .upper (2 ^ 32)] : List Instr).all (fun c => !c.wf) = true := by decide +kernel

theorem test_wf_registers : ([.registerWrite 0 3 0, .registerWrite 2 4 0, .registerWrite (2 ^ 26) 4 0, .registerWrite 0 4 (2 ^ 32),
    .readClear 4 8, .readClear (2 ^ 26) 4, .lowerHalfRead 1, .fifoOverflow (.sample 0 0 2 1), .fifoOverflow (.other 256 [])]
    : List Instr).all (fun c => !c.wf) = true := by decide +kernel

theorem test_wf_links : ([.headUpstreamFrame 0 [], .mailboxAnswer (.head 0) 256 0 0 0, .mailboxAnswer (.head 0) 1 65536 0 0,
    .mailboxAnswer (.head 0) 1 0 256 0, .mailboxAnswer (.head 0) 1 0 0 (2 ^ 32), .mailboxTimeout (.spin 0) 256, .mailboxBusyReissue (.spin 0) 256,
    .mailboxRetry (.spin 0) 256, .homeSwitchReport 0 256 0 true, .homeSwitchReport 0 0 (2 ^ 32) true, .bankReport 0 2 0,
    .bankReport 0 0 (2 ^ 32), .correctionAppliedReport 0 (2 ^ 20), .rateSwitch 0 3, .marginScanDone (.head 0) 256 0 0 0,
    .marginScanDone (.head 0) 0 256 0 0, .marginScanDone (.head 0) 0 0 256 0, .marginScanDone (.head 0) 0 0 0 256,
    .spindleUpstreamFrame 0 []] : List Instr).all (fun c => !c.wf) = true := by decide +kernel

theorem test_wf_link_phase : ([⟨65536, 0, 0, 0, 0, 0, 0, 0, 0⟩, ⟨0, 2 ^ 64, 0, 0, 0, 0, 0, 0, 0⟩, ⟨0, 0, 65536, 0, 0, 0, 0, 0, 0⟩,
    ⟨0, 0, 0, 65536, 0, 0, 0, 0, 0⟩, ⟨0, 0, 0, 0, 2 ^ 128, 0, 0, 0, 0⟩, ⟨0, 0, 0, 0, 0, 256, 0, 0, 0⟩, ⟨0, 0, 0, 0, 0, 0, 256, 0, 0⟩,
    ⟨0, 0, 0, 0, 0, 0, 0, 256, 0⟩, ⟨0, 0, 0, 0, 0, 0, 0, 0, 256⟩] : List PhaseInfo).all
      (fun p => !(Instr.linkPhaseDone (.head 0) p).wf) = true := by decide +kernel

theorem test_wf_servo : ([.bezelOverrun 0 [(0, 0), (0, 0)] 0, .lawCommit 0 0 (2 ^ 32), .lawStructureWrite 0 0 0 (2 ^ 32), .traceArm 0 (2 ^ 32),
    .seekRequest 0 0 (2 ^ 20), .moGuardWrite 0 (2 ^ 32), .torcOverrun 0 256, .speedCmd 0 65536, .listenEnd 0 65536 false,
    .testPulsesDone 0 [1], .testPulsesDone 0 (List.replicate 6 65536), .keWindowEnd 0 65536] : List Instr).all (fun c => !c.wf) = true := by
  decide +kernel

theorem test_wf_data : ([.writeArm 0 [(0, 1), (0, 2)], .writeArm 0 (List.replicate 5 (0, 1)), .wsEntryWrite 0 0 0 (2 ^ 64),
    .chainRowWrite 0 (2 ^ 32), .padAfterExpiry 0 (2 ^ 32), .chainEngineDone 0 (2 ^ 32), .rebuildRewrite 0 (2 ^ 32),
    .peerWrite 65536 0 [], .peerWrite 0 (2 ^ 36) [], .peerWrite 0 0 (List.replicate 4097 0), .peerReadDone 1024 0 true,
    .peerReadDone 0 65536 true] : List Instr).all (fun c => !c.wf) = true := by decide +kernel

theorem test_wf_host : ([.doorbell 1024 4 false 0, .doorbell 0 2 false 0, .doorbell 0 4 false (2 ^ 32), .sqFetch 1024 (zeros 64), .sqFetch 0 (zeros 63),
    .lockGrant 1024 0, .createQueue 65536, .deleteQueue 65536, .queueRestart 65536, .abort 65536, .getLog 65536, .identify 65536,
    .volumeCreate 65536 [], .volumeCreate 0 (zeros 4097), .volumeDelete 65536, .formatSurface 65536, .chainCreate 65536 [],
    .chainCreate 0 (zeros 4097), .chainDelete 65536, .chainReplace 65536, .calSave 65536, .calLoad 65536 [], .attest 65536 [],
    .attest 0 (zeros 4097), .eventRead 65536, .softReset 65536] : List Instr).all (fun c => !c.wf) = true := by decide +kernel

theorem test_wf_io : ([.read 1024 0, .write 0 65536, .flush 1024 0, .verify 0 65536, .append 1024 0, .readExtent 0 65536, .streamFlush 1024 0,
    .copy 0 65536, .receive 1024 0, .qfenceWrite 1024 0, .qfenceWrite 0 (2 ^ 32), .hostDmaError 1024 0, .openMaxExpiry 65536,
    .coalesceTimeout 1024, .hostReadCompletion 1024 0 []] : List Instr).all (fun c => !c.wf) = true := by decide +kernel

theorem test_wf_memory : ([.casketRead (2 ^ 31) .free .good, .casketWrite (2 ^ 31) (List.replicate 128 true) (zeros 128),
    .casketWrite 0 [] (zeros 128), .casketWrite 0 (List.replicate 128 true) [], .mbDrain (2 ^ 31) .free .good, .casketRead 0 .free (.bad [1280] true true false), .evictionWriteDone (2 ^ 31), .zline (2 ^ 31),
    .scrubPass 0 [⟨192, 0, .free, [], true, true, true⟩], .scrubPass 0 [⟨0, 2 ^ 31, .free, [], true, true, true⟩]] : List Instr).all (fun c => !c.wf) = true := by
  decide +kernel

theorem test_wf_calibration : ([.referenceCheckDone 0 [], .converterRunDone 0 (List.replicate 10 ⟨32768, 0, 0, 0, 0⟩),
    .converterRunDone 0 (List.replicate 10 ⟨0, 32768, 0, 0, 0⟩), .converterRunDone 0 (List.replicate 10 ⟨0, 0, -32769, 0, 0⟩),
    .converterRunDone 0 (List.replicate 10 ⟨0, 0, 0, 65536, 0⟩), .converterRunDone 0 (List.replicate 10 ⟨0, 0, 0, 0, 65536⟩),
    .laserPointsDone 0 65536 0 0 0, .laserPointsDone 0 0 (2 ^ 32) 0 0, .laserPointsDone 0 0 0 (2 ^ 32) 0, .laserPointsDone 0 0 0 0 (2 ^ 32),
    .writePowerTrialDone 0 0 (List.replicate 5 []), .writePowerTrialDone 0 0 [[]], .servoScaleUpdate 0 65536 0 0, .servoScaleUpdate 0 0 65536 0,
    .servoScaleUpdate 0 0 0 65536, .focusMarginScanDone 0 0 0 [], .ageingSample .device 0 (2 ^ 31)] : List Instr).all (fun c => !c.wf) = true := by
  decide +kernel

theorem test_wf_system : ([.sensorBrokenClear 0 (2 ^ 32), .thAmbient 65536, .dieSensorSample [0], .dieSensorSample (List.replicate 4 65536),
    .coreSelfTestDone [0, 0], .configRequest 1024, .suppressedTimeout 65536, .stageDrain 4097, .health 256 0, .health 0 256, .events (2 ^ 32),
    .ambient 65536, .imgBegin 256, .imgData (2 ^ 32) [], .imgData 0 (zeros 241), .surfaceMount 0 [⟨0, 0, zeros 63, zeros 64, true⟩] [] [] [] [],
    .surfaceMount 0 [⟨0, 0, zeros 64, [], true⟩] [] [] [] [], .surfaceMount 0 [⟨0, 1, [], [], true⟩] [] [] [] [],
    .surfaceMount 0 [] [⟨0, 2, [], [], true⟩] [] [] [], .surfaceMount 0 [] [] [⟨0, 1, [], [], true⟩] [] [],
    .surfaceMount 0 [] [] [] [⟨0, 1, [], [], true⟩] [], .surfaceMount 0 [] [] [] [] [⟨3984, 0, false, []⟩],
    .surfaceMount 0 [] [] [] [] [⟨0, 32, false, []⟩],
    .surfaceMount 0 [] [] [] [] [⟨0, 0, false, [zeros 31]⟩]] : List Instr).all (fun c => !c.wf) = true := by decide +kernel

theorem test_wf_records : ([⟨2 ^ 32, 0, 0, 0, 0, 0, 0, 0⟩, ⟨0, 256, 0, 0, 0, 0, 0, 0⟩, ⟨0, 0, 2 ^ 32, 0, 0, 0, 0, 0⟩, ⟨0, 0, 0, 65536, 0, 0, 0, 0⟩,
    ⟨0, 0, 0, 0, 2 ^ 32, 0, 0, 0⟩, ⟨0, 0, 0, 0, 0, 2 ^ 64, 0, 0⟩, ⟨0, 0, 0, 0, 0, 0, 2 ^ 32, 0⟩, ⟨0, 0, 0, 0, 0, 0, 0, 2 ^ 64⟩] : List RemapRead).all
      (fun r => !(Instr.remapScanDone 0 [r]).wf) = true := by decide +kernel

/-! ## What each step holds, time, registers -/

theorem witness_steps : State.reset.pending = [] ∧ State.reset.dtime % 2500 = 0 ∧ (∃ t, step State.reset = .next t) ∧ (∃ t, exec .coreDip State.reset = .next t)
    ∧ (∃ t, exec .tick State.reset = .next t) ∧ ∃ t, exec (.coldPowerOn ⟨0, true, 0, false⟩) State.reset = .next t :=
  ⟨rfl, rfl, ⟨_, rfl⟩, ⟨_, rfl⟩, ⟨_, rfl⟩, ⟨_, rfl⟩⟩

theorem witness_tick_boundary : (mk [] fun d => d.modLocket fun l => { l with stage := .recovery }).dtime % 2500 = 0
    ∧ (mk [] fun d => d.modLocket fun l => { l with stage := .recovery }).dev.locket.stage ≠ .off
    ∧ (∃ t, exec .tick (mk [] fun d => d.modLocket fun l => { l with stage := .recovery }) = .next t)
    ∧ (let s := mk [] fun d => { d.modLocket fun l => { l with stage := .recovery } with keeper := { pllStopped := true } }
      s.dev.locket.stage ≠ .off ∧ s.dev.keeper.pllStopped = true ∧ s.dev.keeper.failed = false) ∧ State.reset.dev.locket.stage = .off :=
  ⟨rfl, by decide, ⟨_, rfl⟩, by decide, by decide⟩

theorem witness_ptm : (let s := mk [(.SY_TIME_CTL_PTM_EN, 0, 1), (.SY_TIME_CTL_PTM_PERIOD, 0, 1)] fun d => { d with pcie := { linkUp := true } }
      getF s.dev .SY_TIME_CTL_PTM_EN 0 = 1 ∧ getF s.dev .SY_TIME_CTL_PTM_PERIOD 0 ≠ 0 ∧ getF s.dev .PM_STAT_STATE 0 < 3 ∧ s.dev.pcie.linkUp = true ∧ s.dev.libTime.run = false)
    ∧ (let s := mk [(.SY_TIME_CTL_PTM_EN, 0, 1), (.PM_STAT_STATE, 0, 2)] fun d => { d with pcie := { linkUp := true } }
      getF s.dev .SY_TIME_CTL_PTM_EN 0 = 1 ∧ getF s.dev .PM_STAT_STATE 0 < 3 ∧ s.dev.pcie.linkUp = true ∧ s.dev.libTime.run = false)
    ∧ (let s := mk [(.SY_TIME_CTL_PTM_FAILS, 0, 255)] fun d => { d with libTime := { run := true, fails := 2 } }
      s.dev.libTime.run = true ∧ getF s.dev .SY_TIME_CTL_PTM_FAILS 0 ≤ 255) := by decide +kernel

theorem witness_libtime : (0xFFFFFFFF : Nat) < 2 ^ 32 ∧ (mk [] fun d => { d with libTime := { lower := some 7 } }).dev.libTime.lower = some 7
    ∧ (mk [] fun d => { d with libTime := { host := some 5, ptm := some 6 } }).dev.libTime.host = some 5
    ∧ (let d := (mk [] fun d => { d with libTime := { ptm := some 6 } }).dev; d.libTime.host = none ∧ d.libTime.ptm = some 6)
    ∧ (let s := mk [(.KP_CORES_CROWN, 0, 3), (.KP_CORES_HALLMARK, 0, 3)] fun d =>
        { d.modLocket fun l => { l with stage := .done } with libTime := { host := some (2 ^ 64 - 1) } }
      s.dev.coresRun = true ∧ s.dev.keeper.pllStopped = false ∧ s.dtime % 2500000 = 0 ∧ s.dev.mLast ≠ some (s.dtime / 2500000)
        ∧ s.dev.pState < 3 ∧ { s with dtime := 2500 }.dtime % 2500000 ≠ 0 ∧ s.dev.crownDead = true ∧ s.dev.hallmarkDead = true
        ∧ s.dev.libTime.host = some (2 ^ 64 - 1)) := by decide +kernel

/-- The device answers accesses to its registers. -/
def live (fs : List (Fld × Nat × Nat)) (f : Dev → Dev := id) : State := mk fs fun d => f (d.modLocket fun l => { l with stage := .done })

theorem witness_register_write : (live []).dev.answers = true ∧ regAt 0x400008 = some (.HL_ERR, 0, 0) ∧ Reg.HL_ERR.info.width = 32 ∧ Reg.HL_ERR.plain = true
    ∧ (∀ f ∈ Reg.HL_ERR.fields, fieldHeld (live []).dev f 0 < 2 ^ f.info.width) ∧ regAt 0xF01008 = some (.PM_CFG, 0, 0) ∧ Reg.PM_CFG.plain = true
    ∧ Reg.PM_CFG.info.width = 32 ∧ (∀ f ∈ Reg.PM_CFG.fields, fieldHeld (live []).dev f 0 < 2 ^ f.info.width) ∧ regAt 0x3FFFFFC = none := by
  decide +kernel

theorem witness_register_read : regAt 0xF01004 = some (.PM_STAT, 0, 0) ∧ Reg.PM_STAT.info.width = 32 ∧ (live []).dev.cameo.raised = []
    ∧ regAt (Reg.CM_STAT.offset 0) = some (.CM_STAT, 0, 0) ∧ Reg.CM_STAT.offset 0 % 4 = 0 ∧ (2 : Nat) % 4 ≠ 0 := by decide +kernel

theorem witness_register_halves : Reg.KP_CAUSE.info.width = 64 ∧ regAt 0x1000040 = some (.KP_CAUSE, 0, 0) ∧ regAt 0x1000044 = some (.KP_CAUSE, 0, 4)
    ∧ (live [] fun d => { d with latches := [(0x1000044, 9)] }).dev.latch? 0x1000044 = some 9 ∧ (live []).dev.latch? 0x1000044 = none := by
  decide +kernel

/-! ## Links -/

/-- A request of a mailbox that has been issued. -/
def req (r : MboxReq → MboxReq := id) : MboxReq := r { tag := 5, write := true, addr := 16, data := 0, purpose := .correction, queued := false }

/-- A request in the mailbox of a link. -/
def boxed (l : LinkId) (r : MboxReq) : State := mk [] fun d => d.modPort l fun p => { p with mbox := [r] }

theorem witness_mailbox : (boxed (.head 127) req).dev.issued? (.head 127) 5 = some req ∧ (boxed (.spin 31) req).dev.issued? (.spin 31) 5 = some req
    ∧ req.addr = 16 ∧ req.raised = false ∧ (∀ r, (boxed (.head 0) req).dev.issued? (.head 1) 5 = some r → r.addr ≠ 16) := by
  refine ⟨by decide +kernel, by decide +kernel, rfl, rfl, fun r h => ?_⟩
  have e : (boxed (.head 0) req).dev.issued? (.head 1) 5 = none := by decide +kernel
  rw [e] at h
  cases h

theorem witness_mailbox_retries :
    (let r := req fun r => { r with age := 4, reissues := 2 }; (boxed (.head 0) r).dev.issued? (.head 0) 5 = some r ∧ r.busy = false ∧ 4 ≤ r.age ∧ r.reissues < 3)
    ∧ (let r := req fun r => { r with age := 4, reissues := 3 }; (boxed (.head 0) r).dev.issued? (.head 0) 5 = some r ∧ r.busy = false ∧ 3 ≤ r.reissues)
    ∧ (let r := req fun r => { r with age := 4, busy := true }; (boxed (.head 0) r).dev.issued? (.head 0) 5 = some r ∧ r.busy = true ∧ r.reissues < 3)
    ∧ (mk [(.HL_STATUS_STATE, 0, 6)]).dev.linkState (.head 0) = 6 := by decide +kernel

theorem witness_bring_up : (live []).dev.linkState (.head 0) = 0 ∧ (live []).dev.mayBringUp (.head 0) = true ∧ (live []).dev.mayBringUp (.spin 31) = true
    ∧ (∀ n ∈ [1, 2, 3, 4, 5, 7], (live [(.HL_STATUS_STATE, 0, n)]).dev.linkState (.head 0) = n)
    ∧ (80 : Nat) ≤ 80 ∧ eyesOk ⟨0, 0, 0, 0, 0, 16, 20, 16, 20⟩ = true
    ∧ 400 ≤ ((live [] fun d => d.modPort (.head 0) fun p => { p with age := 400 }).dev.port (.head 0)).age
    ∧ ((live []).dev.port (.head 0)).fails + 1 < getF (live []).dev .HL_CTL_RETRY_MAX 0
    ∧ getF (live []).dev .HL_CTL_RETRY_MAX 0 ≤ ((live [] fun d => d.modPort (.head 0) fun p => { p with fails := 2 }).dev.port (.head 0)).fails + 1
    ∧ (let s := live [(.HL_STATUS_STATE, 0, 7), (.HL_STATUS_PRESENT, 0, 1)] fun d => d.modPort (.head 0) fun p => { p with retryWait := true, age := 40 };
      s.dev.linkState (.head 0) = 7 ∧ (s.dev.port (.head 0)).retryWait = true ∧ 40 ≤ (s.dev.port (.head 0)).age ∧ s.dev.mayBringUp (.head 0) = true
        ∧ s.dev.signal? (.head 0) = true ∧ s.dev.linkState (.head 0) ≠ 6) := by decide +kernel

theorem witness_link_loss : (live [(.HL_STATUS_STATE, 127, 6)]).dev.linkState (.head 127) = 6 ∧ (live [(.SL_STATUS_STATE, 31, 6)]).dev.linkState (.spin 31) = 6
    ∧ (live [(.HL_STATUS_STATE, 0, 7)]).dev.linkState (.head 0) ≠ 6 ∧ (live [(.HL_STATUS_STATE, 0, 7)]).dev.linkState (.head 0) ≠ 8 := by decide +kernel

theorem witness_rates :
    (let s := live [(.HL_STATUS_STATE, 0, 6)] fun d => d.modDown 0 fun x => { x with switchIn := 1, rateNext := 2 };
      s.dev.linkState (.head 0) = 6 ∧ (s.dev.head 0).down.switchIn = 1 ∧ (s.dev.head 0).down.rateNext = 2
        ∧ getF s.dev .HL_STATUS_RATE 0 ≠ 2)
    ∧ ((mk [] fun d => d.modLink 0 fun x => { x with relock := some 16 }).dev.head 0).link.relock = some 16
    ∧ (let s := live [(.SL_STATUS_STATE, 0, 6)]; s.dev.linkState (.spin 0) = 6 ∧ (s.dev.port (.spin 0)).margin = none)
    ∧ (let s := live [(.SL_STATUS_STATE, 0, 6)] fun d => d.modPort (.spin 0) fun p => { p with margin := some 81920 };
      s.dev.linkState (.spin 0) = 6 ∧ (s.dev.port (.spin 0)).margin = some 81920)
    ∧ (let s := live [(.HL_STATUS_STATE, 0, 6)] fun d => d.modPort (.head 0) fun p => { p with margin := some 81920 };
      s.dev.linkState (.head 0) = 6 ∧ (s.dev.port (.head 0)).margin = some 81920 ∧ s.dev.calAt 0 .link = false) := by decide +kernel

/-- An intact upstream frame of a head link, its payloads zero. -/
def headFrame : List Block :=
  let f := ctlBlock 0xF1 0 :: List.replicate 7 (dataBlock 0)
  f ++ [crcOf [blocksCrc (f.take 2), blocksCrc [dataBlock 0], blocksCrc [dataBlock 0], blocksCrc [dataBlock 0], blocksCrc [dataBlock 0],
    blocksCrc [dataBlock 0], blocksCrc [dataBlock 0]]]

/-- The same with its idle sample slots and its housekeeping blocks, all intact. -/
def wholeFrame : List Block := headFrame ++ List.replicate 438 idleBlock ++ List.replicate 8 (dataBlock 0)
  ++ [crcOf [0, 0, 0, 0, 0, 0, blocksCrc (List.replicate 8 (dataBlock 0))]]

/-- An intact upstream frame of a spindle link, its payloads zero. -/
def spinFrame : List Block :=
  let f := ctlBlock 0xF3 0 :: List.replicate 6 (dataBlock 0)
  f ++ [crcOf [blocksCrc (f.take 1), 0, 0, 0, 0, 0]]

theorem witness_frames : frameOk wholeFrame = true ∧ wholeFrame.length = 456 ∧ hdrOk headFrame = true ∧ (List.range 4).all (servoOk headFrame) = true ∧ timingOk headFrame = true
    ∧ (mk [(.HL_STATUS_STATE, 0, 5)]).dev.linkState (.head 0) = 5 ∧ servoOk [] 0 = false
    ∧ (mk [(.SL_STATUS_STATE, 0, 5)]).dev.linkState (.spin 0) = 5 ∧ (List.range 6).all (spinOk spinFrame) = true
    ∧ (let s := mk [(.SL_STATUS_STATE, 0, 6)]; s.dev.spinUp 0 = true ∧ (s.dev.spin 0).link.frameSeen = false ∧ (s.dev.spin 0).link.badV = false
      ∧ (s.dev.spin 0).link.badM = false ∧ (s.dev.spin 0).link.badIO = false)
    ∧ (let s := mk [(.SL_STATUS_STATE, 0, 6)] fun d => d.modSpinLink 0 fun x => { x with badV := true };
      s.dev.spinUp 0 = true ∧ (s.dev.spin 0).link.frameSeen = false ∧ (s.dev.spin 0).link.badV = true) := by decide +kernel

/-! ## The servo engine -/

/-- Slot 9 of head 0, which no default law uses, holds one gain stage on the error; a field more may be set. -/
def gainSlot (fs : List (Fld × Nat × Nat)) (f : Dev → Dev := id) : State :=
  live ((.BZ_LAW_STRUCT_WORD, 144, 2 ^ 24 + 16 * 2 ^ 19 + 16 * 2 ^ 14 + 16 * 2 ^ 9 + 16 * 2 ^ 4) :: fs) f

theorem witness_law_slots : (gainSlot []).dev.slotActive 0 9 = false ∧ bits 0x01 7 4 = getF (gainSlot []).dev .BZ_LAW_H0_LOOP_KIND (slotIx 0 9)
    ∧ commitCheck ((gainSlot []).dev.slotWritten 0 9) (getF (gainSlot []).dev .BZ_LAW_H0_LOOP_KIND (slotIx 0 9)) = none
    ∧ ((gainSlot []).dev.bezel ((gainSlot []).dev.owner 0)).adopted = none
    ∧ commitCheck ((live []).dev.slotWritten 0 9) 0 = some 0
    ∧ commitCheck ((gainSlot [(.BZ_LAW_H0_LOOP_KIND, 9, 5)]).dev.slotWritten 0 9) 5 = some 6
    ∧ (gainSlot [] fun d => d.modLoop 0 2 fun x => { x with drive := .law { slot := 11 } }).dev.slotActive 0 11 = true := by decide +kernel

theorem test_law_commit : getF (after (.lawCommit 0 9 1) (gainSlot [])).dev .BZ_LAW_H0_COST 9 = 19
    ∧ getF (after (.lawCommit 0 9 1) (gainSlot [])).dev .BZ_LAW_H0_VALID 9 = 1
    ∧ getF (after (.lawCommit 0 9 1) (live [])).dev .BZ_LAW_H0_VALID 9 = 0 := by decide +kernel

theorem witness_following : (live [(.BZ_LOOP_STAT_FE_COUNT, 1, 41)]).dev.followDue 0 1 = true ∧ (live [(.BZ_LOOP_STAT_FE_COUNT, 1, 40)]).dev.followDue 0 1 = false
    ∧ (live [(.BZ_LOOP_STAT_FE_COUNT, 639, 21)]).dev.followDue 127 4 = true
    ∧ ((live [] fun d => d.modLoop 0 1 fun x => { x with want := some { slot := 3, wait := some 0 } }).dev.loop 0 1).want
      = some { slot := 3, wait := some 0 } := by decide +kernel

theorem witness_learning :
    (let s := live [(.BZ_LEARN_TRK_MODE, 0, 1)] fun d => d.modHead 0 fun x => { x with learnTrk := { clean := true } };
      getF s.dev (learnMode true) 0 ≠ 0 ∧ ((s.dev.head 0).learn true).clean = true ∧ ((s.dev.head 0).learn true).running = false
        ∧ ((s.dev.head 0).learn true).done = false)
    ∧ (let s := live [(.BZ_LEARN_FOC_MODE, 0, 1)] fun d => d.modHead 0 fun x => { x with learnFoc := { done := true, counts := [0] } };
      ((s.dev.head 0).learn false).done = true ∧ 0 ∈ ((s.dev.head 0).learn false).counts ∧ getF s.dev (learnMode false) 0 = 1)
    ∧ (let s := live [(.BZ_LEARN_FOC_MODE, 0, 1)] fun d => d.modHead 0 fun x =>
        { x with learnFoc := { done := true, counts := 65535 :: List.replicate 255 1, sums := List.replicate 256 (-3) } };
      ((s.dev.head 0).learn false).done = true ∧ getF s.dev (learnMode false) 0 = 1 ∧ ((s.dev.head 0).learn false).sums.length = 256
        ∧ ((s.dev.head 0).learn false).counts.length = 256 ∧ ∀ c ∈ ((s.dev.head 0).learn false).counts, 1 ≤ c ∧ c ≤ 65535)
    ∧ bits (8191 * 2 ^ 13) 26 13 ≤ 8191
    ∧ (let s := live [(.BZ_TRACE_CTL_ARM, 31, 1), (.BZ_TRACE_STAT_TRIGGERED, 31, 1)];
      getF s.dev .BZ_TRACE_CTL_ARM 31 = 1 ∧ getF s.dev .BZ_TRACE_STAT_TRIGGERED 31 = 1 ∧ (s.dev.bezel 31).post = 0) := by decide +kernel

theorem witness_overruns : ([(0, 1), (4, 2)] : List (HeadId × LoopId)).filter (fun x => (live []).dev.owner x.1 == 0) = [(0, 1)]
    ∧ getF (live []).dev .BZ_FAULT_FAILED 0 = 0 ∧ ((live []).dev.bezel 0).lastOvr.any (fun n => decide (tickOf 0 ≤ n + getF (live []).dev .BZ_CTL_OVR_WINDOW 0)) = false
    ∧ (let s := live [] fun d => d.modBezel 0 fun x => { x with lastOvr := some 0 };
      (s.dev.bezel 0).lastOvr.any (fun n => decide (tickOf s.dtime ≤ n + getF s.dev .BZ_CTL_OVR_WINDOW 0)) = true)
    ∧ getF (live [(.BZ_FAULT_FAILED, 3, 1)]).dev .BZ_FAULT_FAILED 3 = 1 ∧ ∀ x ∈ ([(0, 1)] : List (HeadId × LoopId)), (live []).dev.owner x.1 ≠ 31 := by
  decide +kernel

/-! ## Modes of a head -/

/-- Head 0 in a mode, its mode control changed. -/
def inMode (m : Nat) (f : Motion → Motion) (fs : List (Fld × Nat × Nat) := []) (g : Dev → Dev := id) : State :=
  live ((.MO_MODE_MODE, 0, m) :: fs) fun d => g (d.modMotion 0 f)

/-- A loop of head 0 driven. -/
def driven (l : LoopId) (r : Drive) (d : Dev) : Dev := d.modLoop 0 l fun x => { x with drive := r }

theorem witness_focus :
    (let s := inMode 2 fun m => { m with acq := .laserWait, acqAge := 200 };
     s.dev.mode 0 = 2 ∧ (s.dev.head 0).motion.acq = .laserWait ∧ 200 ≤ (s.dev.head 0).motion.acqAge)
    ∧ (let s := inMode 2 fun m => { m with acq := .sweep, sweep := 24576, tries := 1 };
       24576 ≤ (s.dev.head 0).motion.sweep ∧ (s.dev.loop 0 0).blend = none
        ∧ (s.dev.head 0).motion.tries + 1 < getF s.dev .MO_FOCUS_CFG_FOCUS_TRIES 0)
    ∧ (let s := inMode 2 fun m => { m with acq := .sweep, sweep := 24576, tries := 2 };
       24576 ≤ (s.dev.head 0).motion.sweep ∧ (s.dev.loop 0 0).blend = none
        ∧ getF s.dev .MO_FOCUS_CFG_FOCUS_TRIES 0 ≤ (s.dev.head 0).motion.tries + 1)
    ∧ (let s := inMode 2 fun m => { m with acq := .sweepBack 24576, acqAge := 400 };
       (s.dev.head 0).motion.acq = .sweepBack 24576 ∧ 400 ≤ (s.dev.head 0).motion.acqAge)
    ∧ (let s := inMode 2 (fun m => { m with acq := .capture, settled := 160 }) [] (driven 0 (.law { slot := 7 }));
       s.dev.mode 0 = 2 ∧ (s.dev.head 0).motion.acq = .capture ∧ getF s.dev .MO_SETTLE_CFG_SETTLE_TICKS 0 ≤ (s.dev.head 0).motion.settled
        ∧ (s.dev.loop 0 0).drive = .law { slot := 7 } ∧ (s.dev.loop 0 0).want = none ∧ 7 ≠ getF s.dev .MO_LAWSEL0_FOC_FOLLOW 0)
    ∧ (let s := inMode 3 fun m => { m with loss := 8 };
       s.dev.mode 0 ∈ [3, 5, 6, 7] ∧ getF s.dev .MO_FOCUS_CFG_LOSS_TICKS 0 ≤ (s.dev.head 0).motion.loss) := by decide +kernel

theorem test_sweep_tries : ((after (.sweepEnd 0) (inMode 2 fun m => { m with acq := .sweep, sweep := 24576, tries := 1 })).dev.head 0).motion.tries = 2
    ∧ ((after (.sweepEnd 0) (inMode 2 fun m => { m with acq := .sweep, sweep := 24576, tries := 2 })).dev.head 0).motion.wantFault = true := by
  decide +kernel

/-- A layer jump of head 0 in a step, 32 Ticks old unless said. -/
def jumping (st : JumpStep) (left : Nat) (age : Nat := 32) : State :=
  inMode 4 (fun m => { m with jump := some ⟨true, left, st, age, -9, false, false⟩, settled := 160, lastLayer := 3 }) []
    (driven 0 (.law { slot := 7 }))

theorem witness_jumps :
    (let j : Jump := ⟨true, 1, .kick, 32, -9, false, false⟩
     ((jumping .kick 1).dev.head 0).motion.jump = some j ∧ getF (jumping .kick 1).dev .MO_JUMP_CFG_KICK_TICKS 0 ≤ j.age)
    ∧ ((jumping .coast 2 201).dev.head 0).motion.jump = some ⟨true, 2, .coast, 201, -9, false, false⟩
    ∧ getF (jumping .coast 2 201).dev .MO_JUMP_CFG_COAST_MAX 0 < 201
    ∧ getF (jumping .brake 1).dev .MO_JUMP_CFG_BRAKE_TICKS 0 ≤ 32 ∧ ((jumping .brake 1).dev.loop 0 0).blend = none
    ∧ (let s := jumping .settle 2;
       (s.dev.head 0).motion.jump = some ⟨true, 2, .settle, 32, -9, false, false⟩ ∧ (s.dev.loop 0 0).drive = .law { slot := 7 }
        ∧ getF s.dev .MO_SETTLE_CFG_SETTLE_TICKS 0 ≤ (s.dev.head 0).motion.settled ∧ (s.dev.loop 0 0).want = none)
    ∧ (let s := jumping .settle 1;
       (s.dev.head 0).motion.jump = some ⟨true, 1, .settle, 32, -9, false, false⟩ ∧ 7 ≠ getF s.dev .MO_LAWSEL0_FOC_FOLLOW 0) := by
  decide +kernel

theorem test_jump_timeout : ((after (.jumpCoastTimeout 0) (jumping .coast 2 201)).dev.head 0).motion.lastLayer = 5
    ∧ ((after (.jumpCoastTimeout 0) (jumping .coast 2 200)).dev.head 0).motion.jump.isSome = true := by decide +kernel

theorem witness_sled :
    (let s := inMode 7 (fun m => m) [] (driven 1 (.fall 100 40 40));
     (s.dev.loop 0 1).drive = .fall 100 40 40 ∧ s.dev.mode 0 = 7)
    ∧ (let s := inMode 6 (fun m => { m with parking := true }) [] (driven 1 (.fall 100 40 40));
       (s.dev.loop 0 1).drive = .fall 100 40 40 ∧ s.dev.mode 0 = 6 ∧ (s.dev.head 0).motion.parking = true)
    ∧ (let s := inMode 10 (fun m => m) [] (driven 0 (.fall 100 400 400));
       (s.dev.loop 0 0).drive = .fall 100 400 400 ∧ s.dev.mode 0 = 10)
    ∧ (let p : Profile := { dist := 0, curved := true, tj := 0, ta := 0, tv := 0 }
       let s := inMode 6 fun m => { m with profile := some p }
       let r := inMode 3 fun m => { m with profile := some p, parking := true }
       (s.dev.head 0).motion.profile = some p ∧ p.landed = true ∧ (s.dev.head 0).motion.homeEdge = false
        ∧ (s.dev.head 0).motion.parking = false ∧ s.dev.mode 0 = 6 ∧ (r.dev.head 0).motion.profile = some p ∧ (r.dev.head 0).motion.parking = true)
    ∧ (let s := inMode 1 fun m => { m with steps := List.replicate 400 0, coil := 2 };
       400 ≤ (s.dev.head 0).motion.steps.length ∧ (s.dev.head 0).motion.steps.all (· == 0) = true ∧ 2 ≤ (s.dev.head 0).motion.coil)
    ∧ (let s := inMode 6 fun m => { m with sledAge := some 2000 };
       (s.dev.head 0).motion.sledAge = some 2000 ∧ 100 * getF s.dev .MO_SEEK_CFG_SLED_SETTLE 0 ≤ 2000)
    ∧ (let s := inMode 7 (fun m => { m with collect := true, age := 96000, bands := List.replicate 7 0 }) [(.TQ_STAT_SPEED, 0, 1000)];
       (s.dev.head 0).motion.collect = true ∧ (s.dev.head 0).motion.bands.length < 8 ∧ s.dev.fourTurns 0 ≤ (s.dev.head 0).motion.age) := by
  decide +kernel

theorem witness_homing :
    (let s := inMode 8 (fun m => m) [] fun d => d.modHead 0 fun x => { x with down := { x.down with seq := 4095 } };
     s.dev.mode 0 = 8 ∧ (s.dev.head 0).motion.homeEdge = false ∧ (s.dev.head 0).down.seq = 4095
      ∧ (s.dev.head 0).motion.steps.headD 0 = 0 ∧ -(2 ^ 22) ≤ s.dev.pos 0 ∧ s.dev.pos 0 < 2 ^ 22 ∧ ((2 ^ 22 - 1 : Nat) : Int) < 2 ^ 22)
    ∧ (live []).dev.mode 0 ≠ 8
    ∧ (let p : Profile := { dist := 0, curved := true, tj := 0, ta := 0, tv := 0 }
       let s := inMode 8 fun m => { m with profile := some p, homeEdge := true }
       s.dev.mode 0 = 8 ∧ (s.dev.head 0).motion.homeEdge = true ∧ (s.dev.head 0).motion.profile = some p ∧ p.landed = true)
    ∧ 512000 ≤ ((inMode 8 fun m => { m with travel := 512000 }).dev.head 0).motion.travel
    ∧ (let s := live [];
       (s.dev.head 0).motion.pendSeek = none ∧ (s.dev.head 0).motion.seek = none ∧ s.dev.mode 0 ≠ 10)
    ∧ ((live [(.MO_MODE_MODE, 0, 10)]).dev.mode 0 = 10)
    ∧ (let x : ShortSeek := { ref := 0, target := 0, count := 0, tePos := true, pos := 0, capture := 16 }
       let s := inMode 5 (fun m => { m with short := some x }) [] (driven 1 (.law { slot := 7 }))
       s.dev.mode 0 = 5 ∧ (s.dev.head 0).motion.short = some x ∧ 16 ≤ x.capture ∧ x.ending = false ∧ (s.dev.loop 0 1).drive = .law { slot := 7 }
        ∧ (s.dev.loop 0 1).blend = none ∧ (s.dev.loop 0 1).want = none ∧ 7 ≠ getF s.dev .MO_LAWSEL0_TRK_FOLLOW 0)
    ∧ (let x : ShortSeek := { ref := 0, target := 0, count := 0, tePos := true, pos := 0, late := 400 }
       let s := inMode 5 (fun m => { m with short := some x })
       (s.dev.head 0).motion.short = some x ∧ 4 * getF s.dev .MO_SEEK_CFG_SHORT_MAX 0 ≤ x.late ∧ (s.dev.head 0).motion.failedSeek = none) := by
  decide +kernel

theorem test_home_edge : getI (after (.homeSwitchReport 0 0 100 true) (inMode 8 fun m => m)).dev .MO_HOME_LATCH 0 = -100
    ∧ (after (.homeSwitchReport 0 0 100 true) (inMode 8 fun m => m)).dev.pos 0 = 100 := by decide +kernel

/-- A sector being read under head 0. -/
def aRead : ReadJob := { id := 1, why := .cmd 1 9, surf := 0, head := 0, psa := 0, home := 0, lsn := 0, kinds := [0, 1], volume := 0, logical := 0, epoch := 1 }

/-- Head 0 reads a sector. -/
def busy (fs : List (Fld × Nat × Nat)) : State := live fs fun d => { d with data := { reads := [aRead] } }

theorem witness_guard :
    (let s := inMode 3 (fun m => { m with guardClear := 65535 }) [] fun d => d.modTorc 0 fun x => { x with shockClear := 65535 };
     s.dev.guardQuiet 0 = true)
    ∧ (let d := (headsOf 0).foldl (fun d h => d.modMotion h fun m => { m with guardClear := 65535 })
          ((live []).dev.modTorc 0 fun x => { x with shockClear := 65535 })
       ∀ h ∈ headsOf 0, d.guardQuiet h = true)
    ∧ (live []).dev.guardQuiet 0 = false ∧ (live []).dev.headBusy 0 = false
    ∧ (busy []).dev.headBusy 0 = true := by
  decide +kernel

theorem test_busy_host_request :
    getF (after (.park 0 true) (busy [(.MO_STAT_CTL_REJ, 0, 255)])).dev .MO_STAT_CTL_REJ 0 = 255 := by decide +kernel

/-! ## Spindles -/

/-- Spindle 0 in a state of R160, Torc's record changed. -/
def inTorc (n : Nat) (f : Torc → Torc := id) (fs : List (Fld × Nat × Nat) := []) (g : Dev → Dev := id) : State :=
  live ((.TQ_STAT_STATE, 0, n) :: fs) fun d => g (d.modTorc 0 f)

/-- The four bay sensors of spindle 0. -/
def bayShut : List (Fld × Nat × Nat) :=
  [(.TQ_DOOR_DOOR_CLOSED, 0, 1), (.TQ_DOOR_LOCK_ENGAGED, 0, 1), (.TQ_DOOR_TRAY_IN, 0, 1), (.TQ_DOOR_CART_PRESENT, 0, 1)]

theorem witness_starts :
    (let s := inTorc 0 (fun x => { x with doorWait := true, fourOk := 80000 }) bayShut;
     s.dev.torcState 0 = 0 ∧ (s.dev.torc 0).doorWait = true ∧ 80000 ≤ (s.dev.torc 0).fourOk ∧ getF s.dev .TH_STAT_STEP 0 < 6 ∧ s.dev.fourIn 0 = true
      ∧ getF s.dev .TQ_STAT_CHOP_FAULT 0 = 0 ∧ 3 * getF s.dev .TQ_MOTOR_KE_NOM 0 < 24000 ∧ (s.dev.torc 0).busWarn = false
      ∧ (s.dev.torc 0).barred = false ∧ (s.dev.torc 0).forced = false)
    ∧ (let s := inTorc 0 (fun x => { x with doorWait := true, fourOk := 80000, busWarn := true }) bayShut;
       s.dev.fourIn 0 = true ∧ (s.dev.torc 0).busWarn = true ∧ 80000 ≤ (s.dev.torc 0).fourOk ∧ s.dev.torcState 0 = 0
        ∧ (s.dev.torc 0).doorWait = true ∧ (s.dev.torc 0).barred = false ∧ (s.dev.torc 0).forced = false)
    ∧ (let s := inTorc 1 fun x => { x with age := 2048 };
       s.dev.torcState 0 = 1 ∧ 2048 ≤ (s.dev.torc 0).age ∧ 10 * getF s.dev .TQ_START_CFG_CATCH_MIN 0 ≤ 600
        ∧ 599 < 10 * getF s.dev .TQ_START_CFG_CATCH_MIN 0) := by decide +kernel

theorem test_listen : (after (.listenEnd 0 599 false) (inTorc 1 fun x => { x with age := 2048 })).dev.torcState 0 = 7
    ∧ (after (.listenEnd 0 9 false) (inTorc 1 fun x => { x with age := 2048 })).dev.torcState 0 = 2 := by decide +kernel

/-- A listening spindle at 60.0 rpm is caught. -/
theorem witness_catch : getF (inTorc 1).dev .TQ_START_CFG_CATCH_MIN 0 = 60 ∧ 10 * 60 ≤ 600 ∧ 10 ≤ 600 ∧ 600 < 4096 := by decide +kernel

/-- The worked example of R166: the axis at 60° is the largest, its lower neighbour above its upper, so the rotor is at 45°. -/
theorem test_rotor_example : rotorEstimate [1210, 1262, 1198, 1105, 1098, 1121] = some 45 := by decide

theorem witness_rotor :
    (let s := inTorc 2 fun x => { x with age := 192, testTwice := true };
     s.dev.torcState 0 = 2 ∧ 192 ≤ (s.dev.torc 0).age ∧ (s.dev.torc 0).testTwice = true)
    ∧ ((inTorc 2 fun x => { x with age := 192 }).dev.torc 0).testTwice = false
    ∧ rotorEstimate [1210, 1262, 1198, 1105, 1098, 1121] = some 45 ∧ rotorEstimate [0, 0, 0, 0, 0, 0] = none ∧ rotorEstimate [100, 0, 0, 98, 0, 0] = none
    ∧ 800 * getF (inTorc 3).dev .TQ_START_CFG_ALIGN_MS 0 ≤ ((inTorc 3 fun x => { x with age := 80000 }).dev.torc 0).age
    ∧ 3 * getF (inTorc 4).dev .TQ_START_CFG_OBS_MIN 0 * 2000000 ≤ ((inTorc 4 fun x => { x with ref := 360000000 }).dev.torc 0).ref
    ∧ 2048 ≤ ((inTorc 4 fun x => { x with handAge := 2048 }).dev.torc 0).handAge := by decide +kernel

theorem witness_requests :
    (live []).dev.spinFree 0 = true ∧ (live []).dev.torcDead 0 = false ∧ (busy []).dev.spinFree 0 = false
    ∧ (inTorc 6).dev.torcState 0 = 6 ∧ getF (live []).dev .TQ_CTL_RUN 0 = 0 ∧ (inTorc 10).dev.spinLatch 0 = false
    ∧ (let s := inTorc 5 (fun x => { x with inTol := 400 }) [(.TQ_CTL_RUN, 0, 1)];
       getF s.dev .TQ_CTL_RUN 0 = 1 ∧ s.dev.torcDead 0 = false ∧ s.dev.torcState 0 = 5 ∧ 400 ≤ (s.dev.torc 0).inTol ∧ s.dev.spinFree 0 = true
        ∧ (s.dev.torc 0).forced = false ∧ (s.dev.torc 0).redir = false) := by decide +kernel

/-- A SPEED_CMD in OFF with RUN at 1 begins a start. -/
theorem witness_start_by_speed :
    (let s := inTorc 0 (fun x => x) ((.TQ_CTL_RUN, 0, 1) :: bayShut);
     s.dev.spinFree 0 = true ∧ getF s.dev .TQ_CTL_RUN 0 = 1 ∧ s.dev.torcDead 0 = false ∧ s.dev.torcState 0 = 0 ∧ (s.dev.torc 0).doorWait = false
      ∧ (s.dev.torc 0).forced = false ∧ (s.dev.torc 0).barred = false ∧ getF s.dev .TH_STAT_STEP 0 < 6 ∧ s.dev.fourIn 0 = true
      ∧ getF s.dev .TQ_STAT_CHOP_FAULT 0 = 0 ∧ 3 * getF s.dev .TQ_MOTOR_KE_NOM 0 < 24000 ∧ (s.dev.torc 0).busWarn = false
      ∧ (s.dev.torc 0).fourOk < 80000 ∧ (after (.speedCmd 0 700) s).dev.torcState 0 = 0
      ∧ ((after (.speedCmd 0 700) s).dev.torc 0).doorWait = true) := by decide +kernel

theorem test_speed_limits : getF (after (.speedCmd 0 600) (live [])).dev .TQ_CTL_SPEED_CMD 0 = 600
    ∧ getF (after (.speedCmd 0 3000) (live [])).dev .TQ_CTL_SPEED_CMD 0 = 3000
    ∧ getF (after (.speedCmd 0 3001) (live [])).dev .TQ_CTL_SPEED_CMD 0 = 2640 ∧ getF (after (.speedCmd 0 599) (live [])).dev .TQ_CTL_SPEED_CMD 0 = 2640 := by
  decide +kernel

theorem witness_stopping :
    (let s := inTorc 6 fun x => { x with speed := 79 };
     s.dev.torcState 0 = 6 ∧ (s.dev.torc 0).speed < 2 * getF s.dev .TQ_START_CFG_OBS_MIN 0)
    ∧ (let s := inTorc 7 fun x => { x with still := 80000 };
       s.dev.torcState 0 = 7 ∧ 80000 ≤ (s.dev.torc 0).still ∧ s.dev.torcDead 0 = false ∧ (s.dev.torc 0).startPend = false)
    ∧ (inTorc 7 (fun x => x) [(.TQ_CORE_FAILED, 0, 1)]).dev.torcDead 0 = true
    ∧ (let s := inTorc 7 (fun x => { x with still := 80000, startPend := true }) [(.TH_STAT_STEP, 0, 6)];
       6 ≤ getF s.dev .TH_STAT_STEP 0 ∧ s.dev.torcState 0 = 7 ∧ 80000 ≤ (s.dev.torc 0).still ∧ s.dev.torcDead 0 = false
        ∧ (s.dev.torc 0).startPend = true ∧ (s.dev.torc 0).barred = false ∧ (s.dev.torc 0).forced = false) := by decide +kernel

theorem witness_motor :
    (let s := inTorc 0;
     s.dev.spinFree 0 = true ∧ s.dev.torcDead 0 = false ∧ getF s.dev .TQ_STAT_LOW30 0 = 1 ∧ s.dev.torcState 0 = 0)
    ∧ (let s := inTorc 9 fun x => { x with age := 8, chopGood := 4 };
       s.dev.torcState 0 = 9 ∧ 8 ≤ (s.dev.torc 0).age ∧ 4 ≤ (s.dev.torc 0).chopGood ∧ (s.dev.torc 0).startPend = false
        ∧ (s.dev.torc 0).inFault = false)
    ∧ (let s := inTorc 9 fun x => { x with age := 8, inFault := true };
       s.dev.torcState 0 = 9 ∧ 8 ≤ (s.dev.torc 0).age ∧ (s.dev.torc 0).startPend = false ∧ (s.dev.torc 0).inFault = true)
    ∧ ((inTorc 9 fun x => { x with age := 8, chopGood := 3 }).dev.torc 0).chopGood < 4
    ∧ (getF (live []).dev .TQ_STAT_CHOP_FAULT 0 = 0 ∧ 80 ≤ ((inTorc 0 fun x => { x with chopHigh := 80 }).dev.torc 0).chopHigh
      ∧ 8 ≤ ((inTorc 0 fun x => { x with chopLow := 8 }).dev.torc 0).chopLow)
    ∧ (let s := inTorc 5 fun x => { x with keUpd := 64 };
       s.dev.torcState 0 = 5 ∧ 64 ≤ (s.dev.torc 0).keUpd ∧ 100 * 4399 < 88 * getF s.dev .TQ_MOTOR_KE_NOM 0 ∧ ¬100 * 4400 < 88 * getF s.dev .TQ_MOTOR_KE_NOM 0
        ∧ 112 * getF s.dev .TQ_MOTOR_KE_NOM 0 < 100 * 5601)
    ∧ (live [(.KP_CORES_HALLMARK, 0, 3)]).dev.hallmarkDead = true
    ∧ (let s := inTorc 0 fun x => { x with busWarn := true, busOk := 8 };
       (s.dev.torc 0).busWarn = true ∧ 8 ≤ (s.dev.torc 0).busOk) := by decide +kernel

theorem test_chopper : (after (.chopTestDone 0) (inTorc 9 (fun x => { x with age := 8, chopGood := 4 }) [(.TQ_STAT_CHOP_FAULT, 0, 1)])).dev.torcState 0 = 0
    ∧ getF (after (.chopTestDone 0) (inTorc 9 (fun x => { x with age := 8, chopGood := 4 }) [(.TQ_STAT_CHOP_FAULT, 0, 1)])).dev .TQ_STAT_CHOP_FAULT 0 = 0
    ∧ getF (after (.chopTestDone 0) (inTorc 9 (fun x => { x with age := 8, chopGood := 3 }) [(.TQ_STAT_CHOP_FAULT, 0, 1)])).dev .TQ_STAT_CHOP_FAULT 0 = 1 := by
  decide +kernel

theorem witness_bays :
    (live []).dev.spinFree 0 = true ∧ ((live []).dev.torc 0).doorSeq = .idle ∧ ((inTorc 0 fun x => { x with doorSeq := .parking }).dev.torc 0).doorSeq ≠ .idle
    ∧ 1600000 ≤ ((inTorc 0 fun x => { x with doorSeq := .trayOut, trayAge := 1600000 }).dev.torc 0).trayAge
    ∧ (torcOf 9 = 1 ∧ bit 2 ((9 : SpinId).val % 8) = true ∧ (∀ q : SpinId, torcOf q = 1 → bit 2 (q.val % 8) = true → (9 : SpinId) ≤ q)
      ∧ getF (live []).dev .TQ_CORE_FAILED 1 = 0)
    ∧ (live [] fun d => { d with cores := d.cores.set 1 ⟨some 0⟩ }).dev.cores[1].lastOvr = some 0 ∧ tickOf (live []).dtime ≤ 0 + 400
    ∧ ({ live [] (fun d => { d with cores := d.cores.set 1 ⟨some 0⟩ }) with dtime := 1002500 } : State).dtime / 2500 = 401
    ∧ (inTorc 8).dev.torcState 0 = 8 := by decide +kernel

theorem test_core_fails :
    (let s := live [] fun d => { d with cores := d.cores.set 1 ⟨some 0⟩ };
     getF (after (.torcOverrun 1 2) s).dev .TQ_CORE_FAILED 1 = 1
      ∧ getF (after (.torcOverrun 1 2) { s with dtime := 1000000 }).dev .TQ_CORE_FAILED 1 = 1
      ∧ getF (after (.torcOverrun 1 2) { s with dtime := 1002500 }).dev .TQ_CORE_FAILED 1 = 0) := by decide +kernel

/-! ## The LDPC pool and the ladder -/

/-- Reads and the pool. -/
def pool (f : Data → Data) (fs : List (Fld × Nat × Nat) := []) : State := live fs fun d => { d with data := f d.data }

theorem ldpcCheck_post_empty (c : Nat) (ms : List Nat) (s : Ldpc) (h : s.post = #[]) : (ldpcCheck s c ms).post = #[] := by
  have key : ∀ (l : List ((Nat × Int) × Nat)) (f : (Nat × Int) × Nat → Ldpc → Ldpc), (∀ x s, s.post = #[] → (f x s).post = #[]) →
      ∀ s : Ldpc, s.post = #[] → (l.foldl (fun s x => f x s) s).post = #[] := by
    intro l f hf
    induction l with
    | nil => intro s h; exact h
    | cons x l ih => intro s h; exact ih _ (hf x s h)
  unfold ldpcCheck
  refine key _ (fun x s => ⟨s.post.setIfInBounds x.1.1 _, s.msg.setIfInBounds (26 * c + x.2) _⟩) ?_ s h
  intro x s h; simp [h]

theorem ldpcIter_post_empty (s : Ldpc) (h : s.post = #[]) : (ldpcIter s).post = #[] := by
  have key : ∀ {α : Type} (l : List α) (f : Ldpc → α → Ldpc), (∀ s x, s.post = #[] → (f s x).post = #[]) →
      ∀ s : Ldpc, s.post = #[] → (l.foldl f s).post = #[] := by
    intro α l f hf
    induction l with
    | nil => intro s h; exact h
    | cons x l ih => intro s h; exact ih _ (hf s x h)
  exact key _ _ (fun s r h => key _ _ (fun s t h => ldpcCheck_post_empty _ _ s h) s h) s h

theorem unsatisfied_empty : unsatisfied #[] = 0 := by
  have key : ∀ l : List Nat, l.foldl (fun a m => a != (#[] : Array Bool).getD m false) false = false := by
    intro l; induction l with
    | nil => rfl
    | cons x l _ => simp
  unfold unsatisfied; simp only [key]; decide +kernel

/-- A codeword whose values are not there decodes to nothing in one iteration: the shortest input that converges. -/
theorem ldpcDecode_nil : (ldpcDecode [] 4).info = some [] := by
  have h := ldpcIter_post_empty ⟨(([] : List Int).map (2 * ·)).toArray, Array.replicate (26 * 4096) 0⟩ rfl
  have hh : (ldpcIter ⟨(([] : List Int).map (2 * ·)).toArray, Array.replicate (26 * 4096) 0⟩).hard = #[] := by simp only [Ldpc.hard, h, Array.map_empty]
  show (ldpcRun (3 + 1) 0 _).info = _
  simp only [ldpcRun, hh, unsatisfied_empty, if_true]
  decide

theorem witness_pool :
    (let r := { aRead with open_ := [0, 3], frame := some 512 }
     let s := pool fun x => { x with reads := [r] }
     s.dev.read? 1 = some r ∧ (3 : Fin 17).val ∈ r.open_ ∧ r.frame.isSome = true
      ∧ (1, 3, r.desc) ∉ s.dev.data.queue ++ s.dev.data.hold ++ s.dev.data.onRecovery
      ∧ ({ s with dtime := 2500 } : State).dev.data.readyAt ≠ ({ s with dtime := 2500 } : State).dtime)
    ∧ (let s := pool fun x => { x with hold := (1, 3, 0) :: List.replicate 127 (2, 4, 0), onRecovery := List.replicate 7 (3, 0, 0), reads := [{ aRead with id := 2 }] };
       s.dev.data.hold = (1, 3, 0) :: List.replicate 127 (2, 4, 0) ∧ s.dev.holdUsed ≤ 128 ∧ s.dev.data.onRecovery.length < 8)
    ∧ 8 ≤ (pool fun x => { x with onRecovery := List.replicate 8 (3, 0, 0) }).dev.data.onRecovery.length
    ∧ (let r := { aRead with desc := 1 }
       let s := pool fun x => { x with reads := [r], queue := [(1, 3, 0)] }
       s.dev.read? 1 = some r ∧ ((s.dev.data.queue.take (getF s.dev .LD_POOL_ACTIVE 0)).find? fun x => x.1 == 1 && x.2.1 == 3) = some (1, 3, 0) ∧ 0 ≠ r.desc) := by
  decide +kernel

theorem witness_pool_results :
    (let r := { aRead with frame := some 512 }
     let s := pool (fun x => { x with reads := [r, { aRead with id := 2, step := 1 }], queue := [(1, 3, 0)], hold := List.replicate 128 (2, 4, 0) }) [(.LD_POOL_E0_ITER, 0, 0)]
     s.dev.read? 1 = some r ∧ ((s.dev.data.queue.take (getF s.dev .LD_POOL_ACTIVE 0)).find? fun x => x.1 == 1 && x.2.1 == 3) = some (1, 3, 0) ∧ r.desc = 0
      ∧ r.frame.isSome = true ∧ r.ambig = false ∧ r.step ≤ 1 ∧ r.orphan = false ∧ ((r.soft.find? (·.1 == 3)).map (·.2)).getD [] = []
      ∧ getF s.dev .LD_POOL_E0_ITER 0 = 0 ∧ 128 ≤ s.dev.holdUsed)
    ∧ (let r := { aRead with frame := some 512 }
       let s := pool (fun x => { x with reads := [r], queue := [(1, 3, 0)] }) [(.LD_POOL_E0_ITER, 0, 4)]
       getF s.dev .LD_POOL_E0_ITER 0 = 4 ∧ s.dev.holdUsed < 128 ∧ (r.words.set 3 (some ([] : List Byte))).any (·.isNone) = true) := by
  decide +kernel

theorem witness_pool_fails : (ldpcDecode [] 0).info = none := rfl

theorem witness_ladder :
    (let r := { aRead with wantRead := false, frame := some 512 }
     let s := pool (fun x => { x with reads := [r] }) [(.MO_MODE_MODE, 0, 3)]
     s.dev.mode r.head = 3 ∧ (s.dev.head r.head).motion.pendSeek = none ∧ (s.dev.head r.head).motion.seek = none ∧ s.dev.read? 1 = some r ∧ r.step ≠ 6 ∧ r.realloc = false ∧ r.held = false ∧ r.orphan = false ∧ s.dev.ladderRoom r = true ∧ r.wantRead = false ∧ r.open_ = [] ∧ r.failing ≠ []
      ∧ (s.dev.laterSteps r).head? = some (2, 0) ∧ r.allowed 2 = true)
    ∧ (let r := { aRead with wantRead := false, lastStep := 1 }
       (pool fun x => { x with reads := [r] }).dev.laterSteps r ≠ [] ∧ r.allowed 2 = false)
    ∧ (let r := { aRead with wantRead := false, step := 5 }
       let s := pool fun x => { x with reads := [r] }
       s.dev.laterSteps r = [] ∧ r.brief = false ∧ s.dev.inService r.head = true ∧ r.failing ≠ [] ∧ r.why = .cmd 1 9)
    ∧ (let r := { aRead with wantRead := false, step := 4, point := 7, stored := [(3, 9, []), (3, 8, [])] }
       (pool fun x => { x with reads := [r] }).dev.laterSteps r = [(5, 0)] ∧ r.allowed 5 = true
       ∧ (pool fun x => { x with reads := [r] }).dev.ladderRoom r = true)
    ∧ (let r := { aRead with wantRead := false, step := 1 }
       let s := pool (fun x => { x with reads := [r] }) [(.MO_MODE_MODE, 0, 10)]
       s.dev.laterSteps r = [] ∧ s.dev.inService r.head = false) := by decide +kernel

theorem test_ladder_ends : (after (.ladderStep 1) (pool fun x => { x with reads := [{ aRead with wantRead := false, step := 5 }] })).dev.data.reads = []
    ∧ ((after (.ladderStep 1) (pool fun x => { x with reads := [{ aRead with wantRead := false }] })).dev.data.reads.map fun r => (r.step, r.wantRead))
      = [(2, true)] := by decide +kernel

/-! ## Writing -/

/-- A user sector of volume 3 staged for head 0. -/
def aWrite : WriteJob := { id := 5, owner := none, surf := 0, head := 0, home := 400, target := 400, kind := 1, volume := 3, flags := 0, epoch := 1,
                           logical := 0, time := 0, chain := 0xFF, member := 0xFF, seq := 0, reason := 0, data := [] }

/-- A sector to be written, and more of the device. -/
def writing (w : WriteJob) (fs : List (Fld × Nat × Nat) := []) (g : Dev → Dev := id) : State :=
  live fs fun d => g { d with data := { writes := [w], nextId := 6 } }

/-- Head 0 may write, on LASER_WRITE at 25 °C with a bank of layer 0; its last stripe start was that of stripe 99 of layer 0. -/
def ready (w : WriteJob) : State :=
  writing w [(.SY_POP_HEAD, 0, 1), (.MO_MODE_MODE, 0, 3), (.MO_MODE_GUARD_OK, 0, 1), (.HL_STATUS_STATE, 0, 6), (.TQ_STAT_SPEED, 0, 2640),
    (.TH_ZONE_TEMP, 16, 3200)] fun d =>
      (driven 4 (.law { slot := getF d .MO_LAWSEL1_LPWR_WRITE 0 }) d |>.modHead 0 fun x =>
        { x with motion := { x.motion with guardAck := true, laserWrite := true }, facet := { x.facet with start := some 0, stripe := 99, layer := 0 },
                 link := { x.link with sampleNext := 667000 }, keep := { x.keep with writeHalf := true },
                 banks := x.banks.set 0 { layer := some 0, crc := some (d.wsCrc 0 0) } }).modSurf 0 fun x => { x with mount := .mounted }

/-- A command outstanding on pair 0 or another. -/
def aCmd (q : Nat) (e : Entry) : Cmd := { qid := q, e, order := 0 }

/-- A submission entry of an opcode, tag 9. -/
def anEntry (opc : Nat) (arg : Nat := 0) (len : Nat := 1) : Entry := ⟨opc, 0, 9, 0, 0, 0, 0, 0, len, 0, 0, 0, arg⟩

/-- A queue pair. -/
def aPair (q : Nat) : QueuePair := ⟨q, 0x10000, 0x20000, 16, 0, false, 0, 0, 0, 0, 0, 0, true, false, [], 0, 0⟩

/-- One command outstanding, on its pair. -/
def asked (c : Cmd) (d : Dev) : Dev := { d with clasp := { Clasp.empty with queues := [aPair c.qid], cmds := [c] } }

theorem witness_strategy :
    wsValid 0 (2 ^ 48) = true ∧ wsValid 2 (0x01_1A_14_00 * 2 ^ 32) = true ∧ wsValid 2 (0x01_1B_14_00 * 2 ^ 32) = true
    ∧ wsValid 2 (0x01_1C_14_00 * 2 ^ 32) = false ∧ wsValid 7 0 = false
    ∧ (let s := { ready aWrite with dev := driven 4 (.law { slot := 7 }) ((ready aWrite).dev.modHead 0 fun x => { x with motion := { x.motion with laserWrite := false } }) };
       s.dev.mode 0 = 3 ∧ (s.dev.head 0).motion.laserWrite = false ∧ (s.dev.loop 0 4).drive = .law { slot := 7 } ∧ (s.dev.loop 0 4).blend = none
        ∧ (s.dev.loop 0 4).want = none ∧ (∃ w ∈ s.dev.data.writes, s.dev.writeDue 0 w = true) ∧ 7 ≠ getF s.dev .MO_LAWSEL1_LPWR_WRITE 0) := by
  decide +kernel

theorem witness_arming :
    (let s := ready aWrite;
     s.dev.headTakes 0 aWrite 400 = true ∧ s.dev.headMayWrite 0 = true ∧ s.dev.write? 5 = some aWrite ∧ s.dev.mayArmJob 0 0 aWrite = true ∧ s.dev.targetFor 0 0 aWrite = some 400
      ∧ 400 % 4 = (0 : SpotId).val ∧ s.dev.layerLimited 0 (psaLayer 400) = false ∧ (s.dev.head 0).down.armReq = 0
      ∧ rateOk (stripeRadius (psaLayer 400) (psaStripe 400)) (getF s.dev .TQ_STAT_SPEED (spinOf 0)) = true
      ∧ s.dev.untilStripe 0 (psaLayer 400) (psaStripe 400) = some 1000 ∧ s.dev.bankFor 0 (psaLayer 400) = some 0 ∧ 400 ∉ (s.dev.surf (surfOf 0)).written
      ∧ (1 : Nat) ≠ (0 : SpotId).val ∧ frontierEnd ((s.dev.surf (surfOf 0)).frontierAt 1) = false)
    ∧ (live []).dev.headMayWrite 0 = false := by decide +kernel

theorem test_arming : ((after (.writeArm 0 [(0, 5)]) (ready aWrite)).dev.data.writes.map (·.state)) = [.armed]
    ∧ ((after (.writeArm 0 [(0, 5)]) (ready aWrite)).dev.head 0).down.armReq = 1
    ∧ ((after (.writeArm 0 [(0, 5)]) (ready { aWrite with cancelled := true })).dev.head 0).down.armReq = 0 := by decide +kernel

theorem witness_gates :
    (let w := { aWrite with state := .writing, gateSeen := true }
     let s := writing w [(.FC_WR_CFG_VERIFY, 0, 2)]
     s.dev.jobAt 0 0 = some w ∧ s.dev.write? w.id = some w ∧ w.kind ≠ 0x10 ∧ w.kind ≠ 0x11 ∧ w.cancelled = false ∧ w.gateLost = false ∧ w.bad = false
      ∧ s.dev.verifyDue w = true)
    ∧ (let w := { aWrite with state := .writing, gateSeen := true, owner := some (0, 9) }
       let s := writing w [(.FC_WR_CFG_VERIFY, 0, 2), (.MO_MODE_MODE, 0, 3)] (asked (aCmd 0 (anEntry 0x02)))
       s.dev.jobAt 0 0 = some w ∧ s.dev.verifyDue w = true ∧ s.dev.cmd? 0 9 = some (aCmd 0 (anEntry 0x02)) ∧ s.dev.mode 0 = 3
        ∧ (s.dev.head 0).motion.pendSeek = none ∧ (s.dev.head 0).motion.seek = none
        ∧ ∀ x ∈ s.dev.data.writes, x.live = true → x.head = 0 → x.id = w.id)
    ∧ (let w := { aWrite with state := .armed }
       (writing w).dev.jobAt 0 0 = some w ∧ w.gateSeen = false ∧ w.bad = false)
    ∧ (let w := { aWrite with state := .writing, gateSeen := true, gateLost := true, abandons := 14 }
       (writing w).dev.jobAt 0 0 = some w ∧ w.abandons + 1 < getF (writing w).dev .FC_WR_CFG_ABANDON_MAX 0
        ∧ ((writing w).dev.surf w.surf).relocFull = false)
    ∧ (let w := { aWrite with state := .writing, bad := true, abandons := 15 }
       (writing w).dev.jobAt 0 0 = some w ∧ getF (writing w).dev .FC_WR_CFG_ABANDON_MAX 0 ≤ w.abandons + 1) := by decide +kernel

theorem test_gates :
    (let f (w : WriteJob) := (after (.writeSectorEnd 0 0) (writing w [(.FC_WR_CFG_VERIFY, 0, 2)])).dev.data.writes.map fun w => (w.state, w.abandons, w.reason)
     f { aWrite with state := .writing, gateSeen := true, abandons := 3 } = [(.complete, 0, 0)]
      ∧ f { aWrite with state := .writing, gateSeen := true, gateLost := true, abandons := 3 } = [(.staged, 4, 4)]
      ∧ f { aWrite with state := .armed } = [(.staged, 0, 0)]) := by decide +kernel

theorem witness_verification :
    (let w := { aWrite with state := .complete, readBack := some 0 }
     let s := writing w [] fun d => d.modHead 0 fun x => { x with facet := { x.facet with past := some (0, 100) } }
     s.dev.write? 5 = some w ∧ w.chain = 0xFF ∧ w.cancelled = false ∧ (s.dev.head 0).facet.past = some (psaLayer w.target, psaStripe w.target) ∧ (s.dev.surf w.surf).relocFull = false
      ∧ s.dev.verifyPass w ((s.dev.head 0).facet.lanes[psaSpot w.target]) = false ∧ w.abandons + 1 < getF s.dev .FC_WR_CFG_ABANDON_MAX w.head
      ∧ w.vfails + 1 < getF s.dev .FC_WR_CFG_FUA_TRIES 0)
    ∧ aWrite.readBack = none
    ∧ (let w := { aWrite with tempWait := 12000 }
       let c := { aCmd 0 (anEntry 0x23) with waiting := true, waits := [5] }
       let s := writing w [] (asked c)
       s.dev.write? 5 = some w ∧ 400 * getF s.dev .FC_WR_TEMP_WTEMP_WAIT 0 ≤ w.tempWait ∧ s.dev.headWarm w.head = false
        ∧ (s.dev.clasp.cmds.filter fun c => c.waiting && c.waits.contains 5) = [c] ∧ s.dev.cmd? 0 9 = some c ∧ c.e.opc ≠ 0x22
        ∧ (s.dev.pair? c.qid).isSome = true)
    ∧ (writing { aWrite with stuck := some 400 }).dev.write? 5 = some { aWrite with stuck := some 400 }
    ∧ (let r := { aRead with realloc := true }
       let s := pool fun x => { x with reads := [r] }
       let f := pool (fun x => { x with reads := [r] })
       s.dev.read? 1 = some r ∧ (s.dev.surf r.surf).remapFull = false
        ∧ ((f.dev.modSurf 0 fun x => { x with remapFull := true }).surf 0).remapFull = true) := by decide +kernel

/-- A remap record. -/
def aRec (seq target : Nat) : RemapRec := ⟨400, 1, target, 3, 1, 0, seq⟩

/-- A copy of a format record of DISC_ID 7, as it is read: its remap area begins at block 0. -/
def aCopy (gen : Fin 16) : FormatRead :=
  ⟨gen, 0, (Header.mk (psaOf 0 (0xF04F0 + gen.val) 0) 0x11 0 0 0 0 0 0 0xFF 0xFF 0 0).bytes, (formatRecord 7 0 gen.val 0 0 0).take 64, true⟩

/-- A copy that did not decode. -/
def noCopy (gen : Fin 16) : FormatRead := ⟨gen, 0, zeros 64, zeros 64, false⟩

/-- The first sector of the remap area, with the records of these SEQ values. -/
def remapped (a b : Nat) : List RemapSector := [⟨0, 0, false, [(aRec a 1080000).bytes, zeros 32, (aRec b 1080004).bytes]⟩]

theorem witness_surfaces :
    (let s := live [] fun d => d.modSurf 0 fun x => { x with mount := .unmounted };
     (s.dev.surf 0).mount = .unmounted ∧ newestFormat [] = none ∧ newestFormat [noCopy 3, aCopy 1, aCopy 2, aCopy 2] = some (2, 7, 0) ∧ nextGen [noCopy 3, aCopy 1] = 4 ∧ formatOk (noCopy 3) = false
      ∧ mountRecords 0 (remapped 1 2) = [aRec 1 1080000, aRec 2 1080004] ∧ seqGap ((mountRecords 0 (remapped 1 3)).map (·.seq)) = some 2
      ∧ (remapPlace 0 (remapped 1 3)).1 < 3984
      ∧ seqGap ([aRec 1 1080000, aRec 2 1080004].map (·.seq)) = none
      ∧ (∀ q ∈ [aRec 1 1080000, aRec 2 1080004], q.home = 400 → q ≠ aRec 2 1080004 → q.seq < 2) ∧ seqGap [1, 3, 4] = some 2 ∧ seqGap [] = none)
    ∧ ((live [] fun d => d.modSurf 0 fun x => { x with mount := .scanning }).dev.surf 0).mount = .scanning
    ∧ (let s := live [] fun d => d.modSurf 0 fun x => { x with mount := .mounted, openRecs := List.replicate 2048 ⟨400, 1, 404, 3, 1, 0, 1⟩, block := 3983 };
       (s.dev.surf 0).mount = .mounted ∧ 2048 ≤ (s.dev.surf 0).openRecs.length ∧ (∀ w ∈ s.dev.data.writes, w.surf = 0 → w.kind ≠ 0x10)
        ∧ (s.dev.surf 0).block < 3984)
    ∧ (let c := aCmd 0 (anEntry 0x0C 5)
       let s := live [] fun d => (asked c d).modSurf 5 fun x => { x with mount := .unformatted, genNext := 15 }
       s.dev.admin? 9 0x0C = some c ∧ c.started = false ∧ c.e.argSurf = 5 ∧ s.dev.surfUsed 5 = false ∧ s.dev.kept (surfSpin 5) = false
        ∧ (s.dev.surf 5).mount ≠ .noDisc ∧ (s.dev.surf 5).genNext < 16 ∧ (s.dev.pair? 0).isSome = true)
    ∧ (let c := aCmd 0 (anEntry 0x0C 5)
       let d := asked c (live []).dev
       let s := { d with clasp := { d.clasp with volumes := [{ id := 3, stream := false, ranges := [⟨5, 0, 0, 10⟩], appSector := 0, appByte := 0, obj := none }] } }
       s.admin? 9 0x0C = some c ∧ s.surfUsed c.e.argSurf = true) := by decide +kernel

theorem test_mount : ((after (.surfaceMount 0 [aCopy 2] [] [] [] (remapped 1 2)) (live [] fun d => d.modSurf 0 fun x => { x with mount := .unmounted })).dev.surf 0).resolve
      400 = (1080004, 1, 2)
    ∧ ((after (.surfaceMount 0 [aCopy 2] [] [] [] (remapped 1 3)) (live [] fun d => d.modSurf 0 fun x => { x with mount := .unmounted })).dev.surf 0).mount = .scanning := by
  decide +kernel

/-! ## Chains -/

/-- The example of R235: three bytes and their parity; any two of the five are rebuilt. -/
theorem test_parity_example : rowParity false 3 [(0, [0x11]), (1, [0x22]), (2, [0x44])] [] = ([0x77], [0x58])
    ∧ (rebuildAll 3 2 [(2, [0x44]), (3, [0x77]), (4, [0x58])]).map (fun x => (x.1, x.2)) = [(0, [0x11]), (1, [0x22])]
    ∧ (rebuildAll 3 2 [(0, [0x11]), (2, [0x44]), (4, [0x58])]).map (fun x => (x.1, x.2)) = [(1, [0x22]), (3, [0x77])] := by decide +kernel

theorem witness_parity : (∀ i < 15, (zeros 65536).length = 65536 ∧ i < 15) ∧ (0 : Nat) < 15 ∧ (15 : Nat) ≤ 15 := ⟨fun i h => ⟨List.length_replicate, h⟩, by decide, by decide⟩

theorem witness_lost : (0 : Nat) < 14 ∧ 14 + 2 ≤ 16 ∧ (∀ i < 14, (zeros 3).length = 3 ∧ i < 14) ∧ ([15, 0] : List Nat).Nodup ∧ [15, 0].length ≤ 2
    ∧ ∀ j ∈ [15, 0], j < 14 + 2 := ⟨by decide, by decide, fun i h => ⟨rfl, h⟩, by decide, by decide, by decide⟩

/-- Chain 0 of two data members and two parity members on discs 0 to 3, side 0, member 0 in a state; its rows and more. -/
def chained (st : Nat) (f : Chain → Chain) (g : Dev → Dev := id) : State :=
  live [(.CH_CHAIN_W0_VALID, 0, 1), (.CH_CHAIN_W0_K, 0, 2), (.CH_CHAIN_W0_M, 0, 2), (.SY_POP_HEAD, 0, 0xFFFFFFFF), (.SY_POP_SPIN, 0, 0xFF), (.CH_CHAIN_MEM_STATE0, 0, st)] fun d =>
    let d := (List.range 3).foldl (fun d j => d.setMember 0 (j + 1) 0 (2 * (j + 1))) d
    g (([0, 2, 4, 6, 8] : List SurfId).foldl (fun d s => d.modSurf s fun x => { x with mount := .mounted }) (d.modChain 0 f))

/-- A row at home PSA 400 with its first sector staged. -/
def aRow : ChainRow := { psa := 400, volume := 3, row := 7, parts := [(0, 5)] }

theorem witness_rows :
    (let r := { aRow with needed := true }
     let s := chained 0 fun x => { x with rows := [r] }
     (s.dev.chain 0).rows.find? (fun r => r.psa == 400 && !r.closed) = some r ∧ (∀ y ∈ (s.dev.chain 0).complete, y.1 ≠ 400) ∧ s.dev.rowReady 0 r = true
      ∧ (∀ id, (1, id) ∉ r.parts))
    ∧ (let r := { aRow with age := 4000000 }
       let s := chained 0 fun x => { x with rows := [r] }
       400 * getF s.dev .CH_CFG_PAD_AFTER 0 ≤ r.age ∧ (∀ y ∈ (s.dev.chain 0).rows, y.psa = 400 → y.closed = false))
    ∧ (let s := chained 0 fun x => { x with rows := [aRow] };
       s.dev.rowReady 0 aRow = false ∧ aRow.age < 400 * getF s.dev .CH_CFG_PAD_AFTER 0)
    ∧ (let r := { aRow with closed := true, parts := [(0, 5), (1, 6)] }
       let s := chained 0 (fun x => { x with rows := [r] }) fun d => { d with data := { d.data with nextId := 7 } }
       let m := chained 1 (fun x => { x with rows := [r] })
       (∀ b ∈ (s.dev.chain 0).rebuilds, b.psa = 400 → b.ready = false ∧ b.dead = false)
        ∧ ((s.dev.chain 0).rows.find? fun r => r.psa == 400 && r.closed && !r.made && r.await.isEmpty) = some r
        ∧ (∀ x ∈ r.parts, x.2 < s.dev.data.nextId) ∧ s.dev.missingOf 0 = [] ∧ m.dev.missingOf 0 = [0] ∧ s.dev.chainM 0 = 2) := by
  refine ⟨⟨by decide +kernel, by decide +kernel, by decide +kernel, ?_⟩, by decide +kernel, by decide +kernel, by decide +kernel⟩
  intro id h; simp [aRow] at h

/-- A volume of one range of chain 0. -/
def aVolume : Volume := { id := 3, stream := false, ranges := [⟨0x80, 0, 100, 10⟩], appSector := 0, appByte := 0, obj := none }

theorem witness_rebuilds :
    (let b : Rebuild := { psa := 400, volume := 3, row := 7, missing := [0], want := [1, 2], got := [(1, [1]), (2, [3])], resync := some 0 }
     let s := chained 1 fun x => { x with rebuilds := [b] }
     ((s.dev.chain 0).rebuilds.find? fun b => b.psa == 400 && b.ready) = some b ∧ (∀ x ∈ (s.dev.chain 0).rebuilds, x.psa = 400 → x.dead = false)
      ∧ b.forOver = false ∧ b.job = none ∧ b.resync = some 0)
    ∧ (let b : Rebuild := { psa := 400, volume := 3, row := 7, missing := [0], want := [1, 2], made := [(0, [2])] }
       let s := chained 2 fun x => { x with rebuilds := [b] }
       ((s.dev.chain 0).rebuilds.find? fun b => b.psa == 400 && !b.made.isEmpty) = some b ∧ b.made = [(0, [2])]
        ∧ (s.dev.surf (s.dev.memSurf 0 0)).remapFull = false ∧ s.dev.memState 0 0 = 2)
    ∧ (let s := chained 1 fun x => x;
       s.dev.chainValid 0 = true ∧ s.dev.memState 0 0 = 1 ∧ s.dev.memberHere 0 0 = true ∧ (s.dev.chain 0).rebuilding = none
        ∧ (∀ b ∈ (s.dev.chain 0).rebuilds, b.resync = none) ∧ s.dev.nextRebuildRow 0 0 = none)
    ∧ (let s := chained 1 (fun x => { x with degraded := [(408, 1)], rebuilding := some 0 }) fun d => { d with clasp := { d.clasp with volumes := [aVolume] } };
       s.dev.chainValid 0 = true ∧ s.dev.memState 0 0 = 1 ∧ (∀ b ∈ (s.dev.chain 0).rebuilds, b.resync = none) ∧ s.dev.memberHere 0 0 = true ∧ (s.dev.chain 0).rebuilding = some 0 ∧ s.dev.nextRebuildRow 0 0 = some 408 ∧ s.dev.rowOwner 0 408 = some (aVolume, 8)
        ∧ (∀ w ∈ s.dev.data.writes, ¬(w.chain = 0 ∧ w.member = 0 ∧ (w.home = 408 ∨ w.resync = true))))
    ∧ (let s := chained 1 fun x => { x with rebuilding := some 0 };
       (s.dev.chain 0).rebuilding = some 0 ∧ s.dev.nextRebuildRow 0 0 = none ∧ ∀ w ∈ s.dev.data.writes,
         ¬(w.chain = 0 ∧ w.member = 0 ∧ w.owner = none ∧ (w.reason = 3 ∨ s.dev.memState 0 0 = 2))) := by
  decide +kernel

theorem witness_definitions :
    (let c := aCmd 0 (anEntry 0x10 (1 + 2 * 16 + 1 * 256) 3)
     let s := chained 0 (fun x => x) fun d => ([10, 12, 14] : List SurfId).foldl (fun d s => d.modSurf s fun x => { x with mount := .mounted }) (asked c d)
     s.dev.admin? 9 0x10 = some c ∧ (s.dev.pair? 0).isSome = true ∧ bits c.e.arg 3 0 = 1 ∧ bits c.e.arg 7 4 = 2 ∧ bits c.e.arg 9 8 = 1
      ∧ s.dev.chainValid 1 = false ∧ c.e.len = 2 + 1 ∧ ∃ host : List Byte, host = [10, 12, 14] ∧ host.length = 3 ∧ (∀ b ∈ host, b.toNat < 64)
        ∧ (host.map fun b => b.toNat / 2).Nodup ∧ (∀ b ∈ host, s.dev.surfFitted ⟨b.toNat % 64, by omega⟩ = true ∧ s.dev.memberOk ⟨b.toNat % 64, by omega⟩ = true))
    ∧ (let c := aCmd 0 (anEntry 0x10 0 3)
       (chained 0 (fun x => x) (asked c)).dev.admin? 9 0x10 = some c ∧ (chained 0 (fun x => x) (asked c)).dev.chainValid (bits c.e.arg 3 0) = true)
    ∧ (¬(([10, 11, 14] : List Byte).map fun b => b.toNat / 2).Nodup
      ∧ ∀ b ∈ ([10, 11, 14] : List Byte), (chained 0 fun x => x).dev.surfFitted ⟨b.toNat % 64, by omega⟩ = true)
    ∧ (let c := aCmd 0 (anEntry 0x11)
       let s := chained 0 (fun x => x) (asked c)
       s.dev.admin? 9 0x11 = some c ∧ (s.dev.pair? 0).isSome = true ∧ s.dev.chainValid 0 = true ∧ s.dev.chainBusy 0 = false
        ∧ (∀ v ∈ s.dev.clasp.volumes, v.chain? ≠ some 0) ∧ s.dev.chainValid 5 = false)
    ∧ (let c := aCmd 0 (anEntry 0x12 (0 + 1 * 16 + 8 * 256))
       let s := chained 0 (fun x => x) (asked c)
       s.dev.admin? 9 0x12 = some c ∧ bits c.e.arg 7 4 = 1 ∧ bits c.e.arg 13 8 = 8 ∧ 1 < s.dev.chainK 0 + s.dev.chainM 0
        ∧ (s.dev.chain (chainOf 0)).rebuilding = none ∧ s.dev.surfFitted 8 = true ∧ s.dev.memberOk 8 = true ∧ (∀ i ∈ s.dev.members 0, i ≠ 1 → (s.dev.memSurf 0 i).val / 2 ≠ 8 / 2)) := by
  refine ⟨⟨by decide +kernel, by decide +kernel, by decide +kernel, by decide +kernel, by decide +kernel, by decide +kernel, by decide +kernel,
    [10, 12, 14], by decide +kernel⟩, by decide +kernel, by decide +kernel, by decide +kernel, by decide +kernel⟩

/-! ## The host interface -/

/-- An entry of an I/O command on volume 3, tag 9. -/
def ioEntry (opc : Nat) (addr : Nat := 0) (addr2 : Nat := 0) (len : Nat := 1) (flags : Nat := 0) : Entry :=
  ⟨opc, flags, 9, 3, 0, 0, addr, addr2, len, 0x40000, 0x50000, 0, 0⟩

/-- An I/O command of pair 1. -/
def ioCmd (e : Entry) : Cmd := { aCmd 1 e with granted := true, total := 1, list := { ended := true } }

/-- Volume 3: 40 sectors on surface 0 from stripe 100 of layer 0. -/
def flat (stream : Bool) : Volume := { id := 3, stream, ranges := [⟨0, 0, 100, 10⟩], appSector := 0, appByte := 0, obj := none }

/-- Clasp, with pairs 0 and 1 and a volume 3 on a mounted surface. -/
def hosted (stream : Bool) (f : Clasp → Clasp) (fs : List (Fld × Nat × Nat) := []) : State :=
  live (fs ++ [(.SY_POP_HEAD, 0, 0x10001), (.SY_POP_SPIN, 0, 0x11), (.TQ_STAT_SPEED, 0, 2640), (.CL_CTL_EN, 0, 1), (.CL_STAT_RDY, 0, 1)]) fun d =>
    { d.modSurf 0 fun x => { x with mount := .mounted } with
      clasp := f { Clasp.empty with queues := [aPair 0, aPair 1], volumes := [flat stream] } }

/-- The 64 bytes of a READ of the first sector of volume 3, with another opcode byte if wanted. -/
def readBytes (opc : Byte := 0x20) : List Byte := [opc, 0, 9, 0, 3, 0, 0, 0] ++ zeros 16 ++ bytesLE 8 1 ++ bytesLE 8 0x40000 ++ zeros 24

/-- A range lock. -/
def aLock (order tag : Nat) (held : Bool) : Lock := { qid := 1, tag, order, volume := 3, first := 0, count := 2, tail := false, shared := false, held }

theorem witness_doorbells :
    (let s := hosted false id;
     s.dev.pair? 1 = some (aPair 1) ∧ s.dev.pState = 0 ∧ bits 15 11 0 < (aPair 1).depth ∧ (aPair 1).depth ≤ bits 16 11 0
      ∧ (bits 0 11 0 + 16 - (aPair 1).cqHead) % 16 ≤ ((aPair 1).cqTail + 16 - (aPair 1).cqHead) % 16 ∧ s.dev.pair? 2 = none
      ∧ bits (5 + 3 * 2 ^ 32) 43 32 = 3)
    ∧ (let p := { aPair 1 with cqTail := 3 }
       (bits (5 + 3 * 2 ^ 32) 43 32 + p.depth - p.cqHead) % p.depth ≤ (p.cqTail + p.depth - p.cqHead) % p.depth) := by decide +kernel

theorem witness_fetch :
    (let p := { aPair 1 with sqTail := 1 }
     let s := hosted false fun c => { c with queues := [aPair 0, p] }
     let s' := hosted false fun c => { c with queues := [aPair 0, p], locks := List.replicate 4096 (aLock 0 1 true) }
     s.dev.pair? 1 = some p ∧ s.dev.turn = some 1 ∧ s.dev.clasp.locks.length < 4096 ∧ s.dev.checks p (Entry.parse (readBytes)) = 0
      ∧ s.dev.checks p (Entry.parse (readBytes 0x99)) = 0x1001 ∧ (Entry.parse (readBytes 0x99)).opc ≠ 0x24
      ∧ s'.dev.turn = some 1 ∧ 4096 ≤ s'.dev.clasp.locks.length)
    ∧ (let c := { ioCmd (ioEntry 0x21) with granted := false }
       let s := hosted false fun x => { x with cmds := [c], locks := [aLock 0 8 true, aLock 1 9 false] }
       let s' := hosted false fun x => { x with cmds := [c], locks := [aLock 1 9 false] }
       (s.dev.clasp.locks.find? fun l => l.qid == 1 && l.tag == 9 && !l.held) = some (aLock 1 9 false) ∧ s.dev.cmd? 1 9 = some c
        ∧ (∃ x ∈ s.dev.clasp.locks, x.order < 1 ∧ x.conflicts (aLock 1 9 false) = true)
        ∧ ∀ x ∈ s'.dev.clasp.locks, x.order < 1 → x.conflicts (aLock 1 9 false) = false)
    ∧ (aLock 0 8 true).first < (aLock 1 9 false).first + (aLock 1 9 false).count
    ∧ (let p := { aPair 1 with unsignalled := 1 }
       let s := hosted false fun c => { c with queues := [p] }
       s.dev.pair? 1 = some p ∧ p.unsignalled ≠ 0 ∧ tooSoon s.dtime p.since (1000 * p.coalTime) = false
        ∧ tooSoon s.dtime s.dtime (1000 * ({ p with since := s.dtime, coalTime := 3 } : QueuePair).coalTime) = true) := by decide +kernel

theorem test_fetch : ((after (.sqFetch 1 readBytes) (hosted false fun c => { c with queues := [aPair 0, { aPair 1 with sqTail := 1 }] })).dev.cmd? 1 9).any
      (fun c => c.granted && c.total == 1) = true
    ∧ ((after (.sqFetch 1 (readBytes 0x99)) (hosted false fun c => { c with queues := [aPair 0, { aPair 1 with sqTail := 1 }] })).dev.clasp.log.map (·.status))
      = [0x1001] := by decide +kernel

theorem witness_administration :
    (let s := live [(.CL_AQ_SIZE_SIZE, 0, 15)];
     getF s.dev .CL_CTL_EN 0 = 0 ∧ getF s.dev .CL_AQ_SIZE_SIZE 0 ≠ 0 ∧ getF (live []).dev .CL_AQ_SIZE_SIZE 0 = 0)
    ∧ getF (hosted false id).dev .CL_CTL_EN 0 = 1 ∧ (hosted false id).dev.clasp.cmds = []
    ∧ (let s := hosted false fun x => { x with cmds := [aCmd 0 (anEntry 0x05)] };
       s.dev.clasp.cmds ≠ [] ∧ (∀ c ∈ s.dev.clasp.cmds, c.qid = 0) ∧ (s.dev.clasp.queues.map (·.qid)).Nodup)
    ∧ (let c := aCmd 0 (anEntry 0x01 (2 * 2 ^ 54 + 15 * 2 ^ 42))
       let s := hosted false fun x => { x with cmds := [c] }
       s.dev.admin? 9 0x01 = some c ∧ (s.dev.pair? 0).isSome = true ∧ s.dev.clasp.disabling = false ∧ s.dev.pair? c.e.argQid = none)
    ∧ (let c := aCmd 0 (anEntry 0x01 (1 * 2 ^ 54))
       let s := hosted false fun x => { x with cmds := [c] }
       s.dev.admin? 9 0x01 = some c ∧ (s.dev.pair? c.e.argQid).isSome = true)
    ∧ (let c := aCmd 0 (anEntry 0x02 (1 * 2 ^ 54))
       let s := hosted false fun x => { x with cmds := [c] }
       s.dev.admin? 9 0x02 = some c ∧ c.e.argQid ≠ 0 ∧ (s.dev.pair? c.e.argQid).isSome = true ∧ (∀ x ∈ s.dev.clasp.cmds, x.qid ≠ c.e.argQid)
        ∧ ∀ v ∈ s.dev.clasp.volumes, v.obj = none)
    ∧ (let c := aCmd 0 (anEntry 0x02 (1 * 2 ^ 54))
       let s := hosted false fun x => { x with cmds := [c, ioCmd (ioEntry 0x20)] }
       s.dev.admin? 9 0x02 = some c ∧ ∃ x ∈ s.dev.clasp.cmds, x.qid = c.e.argQid)
    ∧ (anEntry 0x02 0).argQid = 0
    ∧ (let c := aCmd 0 (anEntry 0x03 (1 * 2 ^ 54 + 1))
       let p := { aPair 1 with frozen := true }
       let s := hosted false fun x => { x with cmds := [c], queues := [aPair 0, p] }
       s.dev.admin? 9 0x03 = some c ∧ s.dev.pair? c.e.argQid = some p ∧ c.e.argQid ≠ 0 ∧ p.frozen = true ∧ (aPair 1).frozen = false)
    ∧ (let c := ioCmd (ioEntry 0x20)
       let s := hosted false fun x => { x with cmds := [c] }
       getF s.dev .CL_QFENCE_FENCE 1 = 65536 % 2 ^ 16 ∧ getF s.dev .CL_QFENCE_FENCE 1 ≠ 65537 % 2 ^ 16
        ∧ (s.dev.clasp.cmds.filter fun c => c.qid == 1 && c.fence != 65537 % 2 ^ 16) = [c] ∧ s.dev.cmd? 1 9 = some c) := by
  decide +kernel

theorem witness_aborts :
    (let a := aCmd 0 { anEntry 0x04 (1 * 2 ^ 54 + 9 * 2 ^ 32) with tag := 7 }
     let x := ioCmd (ioEntry 0x20)
     let s := hosted false fun k => { k with cmds := [a, x] }
     s.dev.admin? 7 0x04 = some a ∧ (s.dev.pair? 0).isSome = true ∧ a.e.argQid ≠ 0 ∧ s.dev.pair? a.e.argQid = some (aPair 1)
      ∧ s.dev.cmd? a.e.argQid (bits a.e.arg 47 32) = some x)
    ∧ (let a := aCmd 0 (anEntry 0x04 (1 * 2 ^ 54 + 8 * 2 ^ 32))
       let s := hosted false fun k => { k with cmds := [a], queues := [aPair 0, { aPair 1 with used := [8] }] }
       s.dev.admin? 9 0x04 = some a ∧ s.dev.cmd? a.e.argQid (bits a.e.arg 47 32) = none ∧ s.dev.pair? a.e.argQid = some { aPair 1 with used := [8] })
    ∧ (let a := aCmd 0 (anEntry 0x04 (3 * 2 ^ 54))
       (hosted false fun k => { k with cmds := [a] }).dev.admin? 9 0x04 = some a ∧ (hosted false fun k => { k with cmds := [a] }).dev.pair? a.e.argQid = none)
    ∧ (let c := aCmd 0 (anEntry 0x05 5 2)
       let s := hosted false fun k => { k with cmds := [c], log := [⟨5, 1, 9, 0x1001, 0x99, 3, 0, 0, 0, [], false⟩] }
       s.dev.admin? 9 0x05 = some c ∧ c.e.sgl = false ∧ c.recs = [] ∧ 0 < c.e.len ∧ bits c.e.arg 31 0 = 5
        ∧ (List.range c.e.len).map (fun i => s.dev.clasp.log.find? (·.seq == 5 + i)) = [some ⟨5, 1, 9, 0x1001, 0x99, 3, 0, 0, 0, [], false⟩, none])
    ∧ (⟨5, 1, 9, 0x1001, 0x99, 3, 0, 0, 0, List.replicate 12 ⟨0, 0, 0⟩, false⟩ : LogEntry).recs.length ≤ 12 := by decide +kernel

theorem test_get_log : (after (.getLog 9) (hosted false fun k =>
      { k with cmds := [aCmd 0 (anEntry 0x05 (5 + 2 ^ 63) 2)], log := [⟨5, 1, 9, 0x1001, 0x99, 3, 0, 0, 0, [], false⟩] })).dev.clasp.log = [] := by
  decide +kernel

theorem witness_volumes :
    (let c := aCmd 0 (anEntry 0x06 0 0)
     let s := hosted false fun k => { k with cmds := [c] }
     s.dev.admin? 9 0x06 = some c ∧ c.e.sgl = false ∧ c.recs = [] ∧ bits c.e.arg 7 0 = 0)
    ∧ (let c := aCmd 0 { anEntry 0x06 1 0 with volume := 3 }
       let s := hosted false fun k => { k with cmds := [c] }
       s.dev.admin? 9 0x06 = some c ∧ bits c.e.arg 7 0 = 1 ∧ s.dev.volume? c.e.volume = some (flat false))
    ∧ (bits (2 + 63 * 256) 7 0 = 2 ∧ (63 : SurfId).val = bits (2 + 63 * 256) 13 8)
    ∧ (let c := aCmd 0 { anEntry 0x08 0 1 with volume := 4 }
       let host := [(0 : Byte), 1, 0, 0] ++ bytesLE 4 269999 ++ bytesLE 4 1 ++ zeros 4
       let s := hosted false fun k => { k with cmds := [c] }
       let rs : List VRange := [⟨0, 1, 269999, 1⟩]
       s.dev.admin? 9 0x08 = some c ∧ host.length = 16 * c.e.len ∧ (chunks 16 host).map parseRange = rs.map some ∧ s.dev.volume? c.e.volume = none
        ∧ s.dev.layoutBad rs = false ∧ (∀ r ∈ rs, s.dev.rangeUnready r = false)
        ∧ (∀ r ∈ rs, r.chained = false → s.dev.surfFitted r.surf = true))
    ∧ ((hosted false id).dev.volume? 3).isSome = true
    ∧ (270000 < (⟨0, 1, 269999, 2⟩ : VRange).first + (⟨0, 1, 269999, 2⟩ : VRange).stripes
        ∧ (hosted false id).dev.rangesMeet ⟨0, 0, 109, 5⟩ ⟨0, 0, 100, 10⟩ = true)
    ∧ (let d := (hosted false id).dev.modSurf 8 fun x => { x with mount := .unformatted }
       d.layoutBad [⟨8, 0, 0, 1⟩] = false ∧ (d.surf (⟨8, 0, 0, 1⟩ : VRange).surf).mount = .unformatted ∧ (⟨8, 0, 0, 1⟩ : VRange).chained = false
        ∧ d.surfFitted (⟨8, 0, 0, 1⟩ : VRange).surf = true)
    ∧ (let d := (hosted false id).dev
       d.layoutBad [⟨12, 0, 0, 1⟩] = false ∧ (⟨12, 0, 0, 1⟩ : VRange).chained = false ∧ d.surfFitted (⟨12, 0, 0, 1⟩ : VRange).surf = false)
    ∧ (let c := aCmd 0 { anEntry 0x09 with volume := 3 }
       let s := hosted false fun k => { k with cmds := [c] }
       let b := hosted false fun k => { k with cmds := [c, ioCmd (ioEntry 0x20)] }
       s.dev.admin? 9 0x09 = some c ∧ (∀ x ∈ s.dev.clasp.cmds, x.qid = 0) ∧ b.dev.admin? 9 0x09 = some c
        ∧ ∃ x ∈ b.dev.clasp.cmds, x.qid ≠ 0 ∧ (x.e.opc = 0x20 ∨ x.e.opc = 0x21) ∧ x.e.volume = c.e.volume) := by decide +kernel

/-- A token of 100 stored bytes in the third sector of volume 3. -/
def aToken : Token := ⟨0, 3, 0, 402, 10, false, 100⟩

theorem witness_io :
    (([(0x20, false), (0x23, false), (0x28, false)] : List (Nat × Bool)).all fun x =>
      let c := ioCmd (ioEntry x.1)
      let s := hosted x.2 fun k => { k with cmds := [c] }
      s.dev.cmd? 1 9 == some c && c.listReady (c.total * sectorBytes) && s.dev.firstOf c == some (flat x.2, 0)
        && s.dev.locate (flat x.2) 0 == some ⟨0, 400, 0xFF, 0xFF, 0⟩ && (s.dev.stagedAt 3 ⟨0, 400, 0xFF, 0xFF, 0⟩).isNone
        && !(s.dev.isLost 3 0) && s.dev.surfStatus 0 == 0 && s.dev.resolveAt c.order 0 400 == (400, 1, 0) && !(s.dev.overRate 0 400)
        && s.dev.pickHead 0 0 100 == some 0) = true
    ∧ (let c := ioCmd (ioEntry 0x25 (aToken.value % 2 ^ 64) (aToken.value / 2 ^ 64))
       let s := hosted true fun k => { k with cmds := [c] }
       s.dev.cmd? 1 9 = some c ∧ s.dev.firstOf c = some (flat true, 2) ∧ s.dev.locate (flat true) 2 = some ⟨0, 402, 0xFF, 0xFF, 2⟩
        ∧ ((flat true).stream && 2 == (flat true).appSector && !(flat true).tail.isEmpty) = false ∧ s.dev.overRate 0 402 = false ∧ s.dev.pickHead 0 0 100 = some 0)
    ∧ (let s := hosted false fun k => { k with cmds := [{ ioCmd (ioEntry 0x20) with granted := false }] };
       s.dev.cmd? 1 9 = some { ioCmd (ioEntry 0x20) with granted := false })
    ∧ (let s := hosted false (fun k => { k with cmds := [ioCmd (ioEntry 0x20)] }) [(.KP_STAT_DEV, 0, 1)];
       s.dev.surfStatus 0 = 0x5002 ∧ s.dev.firstOf (ioCmd (ioEntry 0x20)) = some (flat false, 0))
    ∧ (hosted false fun k => { k with cmds := [ioCmd (ioEntry 0x21)] }).dev.cmd? 1 9 = some (ioCmd (ioEntry 0x21)) := by decide +kernel

/-- An uncompressed object of pair 1, opened at DTIME 0 in the third sector. -/
def anObject : StreamObj := { owner := 1, sector := 2, offset := 10, supplied := 100, stored := 100, compressed := false }

/-- A stream volume with an object open. -/
def openVol : Volume := { flat true with obj := some anObject }

theorem witness_streams :
    (let c := ioCmd (ioEntry 0x22 0 0 0)
     let s := hosted true fun k => { k with cmds := [c] }
     s.dev.cmd? 1 9 = some c ∧ c.recs = [] ∧ c.result = none ∧ s.dev.data.writes = [] ∧ (∀ v ∈ s.dev.clasp.volumes, v.tail = [])
      ∧ (∀ x ∈ s.dev.clasp.cmds, x.waiting = false) ∧ (s.dev.clasp.cmds.filter fun x => x.qid == 1 && x.e.tag == 9) = [c])
    ∧ (let c := ioCmd (ioEntry 0x24 0 0 100)
       let s := hosted true fun k => { k with cmds := [c] }
       s.dev.cmd? 1 9 = some c ∧ s.dev.volume? c.e.volume = some (flat true) ∧ (flat true).obj = none ∧ (c.e.more && (flat true).voided.contains 1) = false ∧ c.e.comp = false ∧ c.e.sgl = false)
    ∧ (let c := ioCmd (ioEntry 0x26 0 0 0)
       let s := hosted true fun k => { k with cmds := [c], volumes := [openVol] }
       s.dev.cmd? 1 9 = some c ∧ s.dev.volume? c.e.volume = some openVol ∧ openVol.obj = some anObject ∧ anObject.owner = 1 ∧ anObject.compressed = false
        ∧ c.staged = 0 ∧ ∀ x ∈ s.dev.clasp.cmds, x.qid = 1 → x.e.opc ≠ 0x24)
    ∧ (let s := hosted true (fun k => { k with volumes := [openVol] }) [(.CL_CTL_OPEN_MAX, 0, 1)];
       let u := hosted true (fun k => { k with volumes := [{ flat true with obj := some { anObject with opened := 1 } }] }) [(.CL_CTL_OPEN_MAX, 0, 0)]
       s.dev.volume? 3 = some openVol ∧ s.dtime < anObject.opened + getF s.dev .CL_CTL_OPEN_MAX 0 * 1000000000
        ∧ ({ u with dtime := 1 } : State).dev.volume? 3 = some { flat true with obj := some { anObject with opened := 1 } }
        ∧ 1 + getF u.dev .CL_CTL_OPEN_MAX 0 * 1000000000 ≤ ({ u with dtime := 1 } : State).dtime) := by decide +kernel

theorem test_token : Token.parse aToken.value = some aToken ∧ Token.parse (aToken.value + 2 ^ 80) = none := by decide +kernel

theorem test_stream_flush : ((after (.streamFlush 1 9) (hosted true fun k => { k with cmds := [ioCmd (ioEntry 0x26 0 0 0)], volumes := [openVol] })).dev.hostOut.head?)
    = some (.write 0x50000 (bytesLE 16 ((aToken.upper + tokenCheck aToken.upper)) ++ bytesLE 8 100 ++ bytesLE 8 100 ++ zeros 32)) := by decide +kernel

/-- A receive slot of pair 1's command 9. -/
def aSlot : RecvSlot := ⟨5, 1, 9, zeros 64, [7], 0⟩

theorem witness_host_data :
    (let c := { ioCmd (ioEntry 0x21) with started := true }
     let s := hosted false fun k => { k with cmds := [c] }
     s.dev.cmd? 1 9 = some c ∧ s.dev.volume? c.e.volume = some (flat false) ∧ c.e.fua = false ∧ c.list.asked = false ∧ c.xlist.asked = false ∧ (∀ p, s.dev.locate (flat false) c.e.addr = some p → p.chain = 0xFF)
      ∧ (s.dev.stageSector (some (1, 9)) false c.order c.time (flat false) c.e.addr false (zeros 65536)).2.1 = 0)
    ∧ (zeros 65536).length = 65536
    ∧ (hosted false fun k => { k with cmds := [ioCmd (ioEntry 0x29 0 0 65536)] }).dev.cmd? 1 9 = some (ioCmd (ioEntry 0x29 0 0 65536))
    ∧ (let c := { ioCmd (ioEntry 0x29 0 0 100) with started := true }
       let s := hosted true fun k => { k with cmds := [c], slots := [aSlot] }
       (s.dev.clasp.slots.find? (·.slot == (5 * 2 ^ 30 + 63) / 2 ^ 30)) = some aSlot ∧ s.dev.cmd? 1 9 = some c ∧ s.dev.volume? c.e.volume = some (flat true)
        ∧ c.fence = getF s.dev .CL_QFENCE_FENCE 1 ∧ (5 * 2 ^ 30 + 63) % 2 ^ 30 + [(1 : Byte)].length ≤ 64 ∧ aSlot.header.length = 64
        ∧ (5 * 2 ^ 30 + 65537) % 2 ^ 30 = 65536 + aSlot.data.length ∧ aSlot.data.length + 98 < c.e.len ∧ 65536 ≤ (5 * 2 ^ 30 + 65536) % 2 ^ 30
        ∧ (5 * 2 ^ 30 + 65536) % 2 ^ 30 ≠ 65536 + aSlot.data.length)
    ∧ (∀ x ∈ (hosted true fun k => { k with slots := [aSlot] }).dev.clasp.slots, x.slot ≠ (6 * 2 ^ 30) / 2 ^ 30)
    ∧ (let c := { ioCmd (ioEntry 0x29 0 0 100) with started := true, fence := 4 }
       let s := hosted false fun k => { k with cmds := [c], slots := [aSlot] }
       s.dev.cmd? 1 9 = some c ∧ c.fence ≠ getF s.dev .CL_QFENCE_FENCE 1 ∧ (s.dev.clasp.slots.find? (·.slot == (5 : Fin 64).val)) = some aSlot
        ∧ (flat false).stream = false ∧ c.buf = [] ∧ c.result = none ∧ (s.dev.pair? 1).isSome = true
        ∧ tooSoon ({ s with dtime := 26000000000 } : State).dtime aSlot.since (100000000 * getF s.dev .CL_CTL_RECV_TIMEOUT 0) = false
        ∧ tooSoon s.dtime aSlot.since (100000000 * getF s.dev .CL_CTL_RECV_TIMEOUT 0) = true)
    ∧ (let c := { ioCmd (ioEntry 0x28) with started := true, recs := [⟨0, 0, 0⟩], done := 1 }
       (hosted false fun k => { k with cmds := [c] }).dev.cmd? 1 9 = some c ∧ c.total ≤ c.recs.length) := by
  refine ⟨⟨by decide +kernel, by decide +kernel, by decide +kernel, by decide +kernel, by decide +kernel, ?_, ?_⟩, List.length_replicate, by decide +kernel, by decide +kernel, by decide +kernel,
    by decide +kernel, by decide +kernel⟩
  · intro p h
    have e : ((hosted false fun k => { k with cmds := [{ ioCmd (ioEntry 0x21) with started := true }] }).dev.locate (flat false) 0)
        = some ⟨0, 400, 0xFF, 0xFF, 0⟩ := by decide +kernel
    have := h.symm.trans e; simp only [Option.some.injEq] at this; rw [this]
  · decide +kernel

/-! ## Filigree -/

/-- Bytes with a repetition, compressed in fixed codes or stored, come back, with their wrapper too. -/
theorem test_deflate_round : (inflate false (deflate 0 [] false true true [] [] 1 [1, 2, 3, 1, 2, 3, 1, 2, 3, 4]).bytes).1 = [1, 2, 3, 1, 2, 3, 1, 2, 3, 4]
    ∧ (inflate true (deflate 0 [] true true true [] [] 1 [7, 7, 7, 7, 7]).bytes).1 = [7, 7, 7, 7, 7]
    ∧ (inflate true (deflate 0 [] true true true [] [] 1 [7, 7, 7, 7, 7]).bytes).2.1 = 0 := by decide +kernel

/-- A well-known stream: 'abc' in one block of fixed codes (RFC 1951). -/
theorem test_inflate_fixed : (inflate false [0x4B, 0x4C, 0x4A, 0x06, 0x00]) = ([0x61, 0x62, 0x63], 0, 4) := by decide +kernel

/-- Work on engine 0, for command 9 of pair 1. -/
def working (dec : Bool) (c : Cmd) : State :=
  let s := hosted true fun k => { k with cmds := [c], volumes := [openVol] }
  { s with dev := { s.dev with filigree := { engines := (Vector.replicate 16 none).set 0 (some ⟨1, 9, false, dec⟩) } } }

theorem witness_engines :
    (let w : FgWork := ⟨1, 9, false, false⟩
     let s := live [] fun d => { d with filigree := { waiting := [w, ⟨1, 8, true, false⟩] } }
     s.dev.filigree.engines[(0 : Fin 16)] = none ∧ w ∈ s.dev.filigree.waiting ∧ s.dev.mayTake 0 w = true
      ∧ (∀ x ∈ s.dev.filigree.waiting, s.dev.mayTake 0 x = true → x = w ∨ s.dev.workOrder w < s.dev.workOrder x))
    ∧ (∀ x ∈ (live []).dev.filigree.waiting, (live []).dev.mayTake 0 x = false)
    ∧ (let c := { ioCmd (ioEntry 0x24 0 0 5 4) with started := true, buf := [7, 7, 7, 7, 7] }
       let s := working false c
       let v := s.dev.volume? c.e.volume
       s.dev.filigree.engines[(0 : Fin 16)] = some ⟨1, 9, false, false⟩ ∧ s.dev.cmd? 1 9 = some c ∧ (s.dev.pair? 1).isSome = true ∧ c.e.opc = 0x24
        ∧ c.e.more = false ∧ c.e.fua = false ∧ c.recs = [] ∧ c.staged = 0 ∧ v = some openVol ∧ openVol.obj = some anObject ∧ openVol.voided.contains 1 = false ∧ anObject.owner = 1
        ∧ (let out := (deflate 0 [] false false true [] [] 1 (c.buf.take c.e.len)).bytes
           out ≠ [] ∧ openVol.tail.length + out.length < 65536 ∧ out.length ≤ s.dev.streamRoom openVol)) := by decide +kernel

theorem witness_decoding :
    (let c := { ioCmd (ioEntry 0x25) with parts := [(0, [0x4B, 0x4C, 0x4A, 0x06, 0x00])] }
     let s := working true c
     s.dev.filigree.engines[(0 : Fin 16)] = some ⟨1, 9, false, true⟩ ∧ s.dev.cmd? 1 9 = some c ∧ c.e.sgl = false ∧ c.out = [] ∧ c.produced = 0 ∧ c.viaXptr = 0
      ∧ c.decoded = ([0x61, 0x62, 0x63], 0, 4))
    ∧ (let c := { ioCmd (ioEntry 0x25) with parts := [(0, [0x07])] }
       (working true c).dev.cmd? 1 9 = some c ∧ c.decoded.2.1 ≠ 0 ∧ c.decoded.2.1 < 2 ^ 32 ∧ c.decoded.2.2 < 2 ^ 32)
    ∧ (let c := { ioCmd (ioEntry 0x23) with parts := [(0, [0x07])] }
       (working true c).dev.cmd? 1 9 = some c ∧ c.decoded.2.1 ≠ 0) := by decide +kernel

/-! ## Memory -/

/-- The CRC-32C register after 16 more bytes of zeros. -/
def crcZ (r : Nat) : Nat := (bitsOfBytesLE (zeros 16)).foldl (crcStepR 0x82F63B78) r

theorem crcZ_0 : crcZ 0xFFFFFFFF = 0xBD8F6515 := by decide +kernel
theorem crcZ_1 : crcZ 0xBD8F6515 = 0x756EC955 := by decide +kernel
theorem crcZ_2 : crcZ 0x756EC955 = 0xD773C546 := by decide +kernel
theorem crcZ_3 : crcZ 0xD773C546 = 0xFC371498 := by decide +kernel
theorem crcZ_4 : crcZ 0xFC371498 = 0xDFCA1DE3 := by decide +kernel
theorem crcZ_5 : crcZ 0xDFCA1DE3 = 0xAE0DFB54 := by decide +kernel
theorem crcZ_6 : crcZ 0xAE0DFB54 = 0x9706F904 := by decide +kernel
theorem crcZ_7 : crcZ 0x9706F904 = 0xF7D89B24 := by decide +kernel

/-- 16 bytes of zeros ahead of others take the register one step. -/
theorem crc_step (bs : List Byte) (r r' : Nat) (h : crcZ r = r') :
    (bitsOfBytesLE (zeros 16 ++ bs)).foldl (crcStepR 0x82F63B78) r = (bitsOfBytesLE bs).foldl (crcStepR 0x82F63B78) r' := by
  rw [← h, crcZ, bitsOfBytesLE, List.flatMap_append, List.foldl_append]; rfl

/-- The CRC-32C of a line of zeros, 16 bytes at a time. -/
theorem crc_zeros : crc32c (zeros 128) = 0x82764DB := by
  have e : zeros 128 = zeros 16 ++ (zeros 16 ++ (zeros 16 ++ (zeros 16 ++ (zeros 16 ++ (zeros 16 ++ (zeros 16 ++ zeros 16)))))) := by decide +kernel
  have h := (crc_step (zeros 16 ++ (zeros 16 ++ (zeros 16 ++ (zeros 16 ++ (zeros 16 ++ (zeros 16 ++ zeros 16)))))) _ _ crcZ_0).trans
    ((crc_step _ _ _ crcZ_1).trans ((crc_step _ _ _ crcZ_2).trans ((crc_step _ _ _ crcZ_3).trans ((crc_step _ _ _ crcZ_4).trans
      ((crc_step _ _ _ crcZ_5).trans ((crc_step (zeros 16) _ _ crcZ_6).trans crcZ_7))))))
  rw [← e] at h
  rw [crc32c, h]
  decide

/-- The checks of a line of zeros with bits flipped. -/
theorem flip_zeros (line : Nat) (flips : List Nat) : flipVerdict true line (zeros 128) flips
    = lineVerdict line (flipData flips (zeros 128)) (flipCheck flips (parityWord (zeros 128) + 0x82764DB * 2 ^ 128 + line % 2 ^ 31 * 2 ^ 160)) := by
  simp only [flipVerdict, lineCheckBits, crc_zeros, if_true]

/-- A line of zeros with bits flipped: the checks in R329's order. -/
theorem test_line_check : flipVerdict true 5 (zeros 128) [8, 1184] = 1 ∧ flipVerdict true 5 (zeros 128) [8, 1215] = 2 ∧ flipVerdict true 5 (zeros 128) [8, 1152] = 3 := by
  rw [flip_zeros, flip_zeros, flip_zeros]
  exact ⟨by decide +kernel, by decide +kernel, by decide +kernel⟩

/-- Line 3 in the array and in the merging buffer with one byte, line 4 in the eviction buffer, being written. -/
def lines : Mem :=
  { array := [⟨3, 0, 3, 9 :: zeros 127⟩], merge := [⟨3, 9 :: zeros 127, true :: List.replicate 127 false, 0⟩],
    evict := [⟨4, List.replicate 128 5, true⟩] }

theorem witness_coherent : lines.Coherent ∧ ({} : Mem).Coherent ∧ lines.waiting = [] ∧ lines.roomFor 7 = true :=
  ⟨⟨by decide +kernel, by decide +kernel, by decide +kernel, by decide +kernel, by decide +kernel⟩,
    ⟨by decide, by decide, by decide, by decide, by decide⟩, rfl, by decide +kernel⟩

/-- The device with these lines. -/
def held (m : Mem) (fs : List (Fld × Nat × Nat) := []) : State := live fs fun d => { d with mem := m }

/-- The merging buffer full of other lines. -/
def full : Mem := { merge := (List.range 256).map fun i => ⟨100 + i, zeros 128, fullMask, 0⟩ }

theorem witness_fill : flipVerdict true 3 (zeros 128) [7] = 3 ∧ flipVerdict true 9 (zeros 128) [1184] ≠ 0 := by
  rw [flip_zeros, flip_zeros]
  exact ⟨by decide +kernel, by decide +kernel⟩

theorem witness_casket :
    (lines.hit? 3).isSome = true ∧ lines.hit? 9 = none ∧ lines.noAlloc = false ∧ lines.wayFor (lineSet 9) = some 0
    ∧ full.roomFor 9 = false ∧ lines.merge? 3 = some ⟨3, 9 :: zeros 127, true :: List.replicate 127 false, 0⟩ ∧ lines.evict? 3 = none ∧ lines.evict.length < 32
    ∧ (let m := { lines with merge := [⟨4, zeros 128, fullMask, 0⟩] }
       m.merge? 4 = some ⟨4, zeros 128, fullMask, 0⟩ ∧ m.evict? 4 = some ⟨4, List.replicate 128 5, true⟩ ∧ m.waiting = [])
    ∧ (lines.evict = [⟨4, List.replicate 128 5, true⟩] ∧ (List.replicate 128 (5 : Byte)).length = 128)
    ∧ getF (held lines).dev .CK_STAT_DISABLED 0 = 0 ∧ full.drainSet = [] ∧ ({} : Mem).merge = []
    ∧ getF (held { invalidating := true, disabling := true } [(.CK_CTL_DISABLE, 0, 1)]).dev .CK_CTL_DISABLE 0 = 1
    ∧ getF (held { invalidating := true, disabling := true }).dev .CK_CTL_DISABLE 0 = 0
    ∧ lines.p3Drain = false ∧ lines.disabling = false ∧ (held lines).dev.dramLines = 2 ^ 27
    ∧ (∀ e, lines.merge? 3 = some e → (held lines).dev.drainDue (held lines).dtime e = true)
    ∧ (let s := { held lines [(.CK_CTL_MB_AGE, 0, 30)] with dtime := 0 }
       (∀ e, lines.merge? 3 = some e → s.dev.drainDue s.dtime e = false) ∧ (∀ n ∈ [7], n < 1024 ∧ lines.merge.all fun e => e.mask.getD (n / 8) false)
        ∧ lines.dramLine 3 = zeros 128 ∧ ({ lines with array := [] } : Mem).hit? 3 = none) := by decide +kernel

/-- The three addresses of the example of R317. -/
theorem test_line_sets : lineSet (0x10400080 / 128) = 0x0040 ∧ lineSet (0x10800080 / 128) = 0x0043 ∧ lineSet (0x10C00080 / 128) = 0x0042
    ∧ lineSet (2 ^ 30) = 0x4000 := by decide

theorem test_casket : (match exec (.casketWrite (2 ^ 27) [] []) (held lines) with | .fault (.noSuchLine n) => n | _ => 0) = 2 ^ 27
    ∧ (after (.mbDrain 3 .free .good) (held lines)).dev.mem.evict.map (fun e => (e.line, e.bytes.take 2, e.issued)) = [(4, [5, 5], true), (3, [9, 0], false)]
    ∧ (after (.evictionWriteDone 4) (held lines)).dev.mem.dramByte 513 = 5 := by decide +kernel

theorem witness_bad_lines :
    (let s := held { lines with noAlloc := true };
     s.dev.mem.hit? 9 = none ∧ s.dev.mem.evict? 9 = none ∧ s.dev.mem.merge? 9 = none ∧ s.dev.mem.noAlloc = true ∧ s.dev.badBefore s.dtime 2 9 = false
      ∧ s.dev.mem.dramLine 9 = zeros 128 ∧ s.dev.mem.waiting = [] ∧ s.dev.mem.merge.length < 256)
    ∧ lines.nextUnit = some 245760 ∧ ({ jnext := 262144, jfree := [5, 6], wear := [(5, 2), (6, 1)] } : Mem).nextUnit = some 6
    ∧ (245759 : Nat) < 245760 := by decide +kernel

/-! ## Hallmark -/

/-- Head 0 with its link up and Hallmark's record changed. -/
def calibrating (f : Hallmark → Hallmark) (fs : List (Fld × Nat × Nat) := []) (g : Dev → Dev := id) : State :=
  live ((.HL_STATUS_STATE, 0, 6) :: (.SY_POP_HEAD, 0, 1) :: fs) fun d => g (d.modHead 0 fun x => { x with hallmark := f x.hallmark })

/-- Head 0 reports its laser on. -/
def litUp (d : Dev) : Dev := d.modHead 0 fun x => { x with link := { x.link with flags := { laserOn := true } } }

theorem witness_runs :
    (let s := calibrating fun x => { x with sinceCal := 255 * 1440000 };
     s.dev.hallmarkDead = false ∧ (s.dev.head 0).hallmark.kinds = [] ∧ s.dev.populated (.head 0) = true
      ∧ getF s.dev .HM_CFG_CAL_PERIOD 0 * 1440000 ≤ (s.dev.head 0).hallmark.sinceCal)
    ∧ (calibrating id).dev.populated (.head 0) = true ∧ ((calibrating id).dev.head 0).hallmark.sinceCal < getF (calibrating id).dev .HM_CFG_CAL_PERIOD 0 * 1440000
    ∧ ((calibrating fun x => { x with kinds := [.link] }).dev.head 0).hallmark.kinds = [.link]
    ∧ (let s := calibrating (fun x => { x with idle := 40 * 255 }) [(.MO_MODE_MODE, 0, 3)];
       s.dev.mode 0 = 3 ∧ s.dev.headBusy 0 = false ∧ getF s.dev .HM_CFG_IDLE_MIN 0 * 40 ≤ (s.dev.head 0).hallmark.idle)
    ∧ ((⟨(0, 0, 0), (8, -30, 20), 60, 0⟩ : AdcBest).bad = false ∧ (⟨(0, 0, 0), (-9, 0, 0), 0, 0⟩ : AdcBest).bad = true)
    ∧ (let s := calibrating (fun x => { x with kinds := [.converter] }) [(.HM_CTL_HOLD, 0, 1)] litUp;
       s.dev.calHold 0 = true ∧ s.dev.calAt 0 .converter = true ∧ (s.dev.head 0).link.flags.laserOn = true ∧ (List.replicate 10 (⟨0, 0, 0, 0, 0⟩ : AdcResult)).length = 10)
    ∧ (let s := calibrating (fun x => { x with relStep := 3 }) [(.HM_CTL_HOLD, 0, 1)];
       s.dev.linkUp 0 = true ∧ (s.dev.head 0).hallmark.relStep = 3 ∧ (s.dev.head 0).link.flags.laserOn = false) := by decide +kernel

theorem test_converter_run :
    getF (after (.converterRunDone 0 (⟨0, 0, 0, 0, 1⟩ :: ⟨0, 0, 0, 61, 0⟩ :: List.replicate 8 ⟨8, 30, 20, 60, 0⟩))
      (calibrating (fun x => { x with kinds := [.converter] }) [(.HM_CTL_HOLD, 0, 1)] litUp)).dev .HM_STAT_ADC_GOOD 0 = 8
    ∧ getF (after (.converterRunDone 0 (List.replicate 3 ⟨0, 0, 0, 0, 1⟩ ++ List.replicate 7 ⟨0, 0, 0, 0, 0⟩))
      (calibrating (fun x => { x with kinds := [.converter] }) [(.HM_CTL_HOLD, 0, 1), (.HM_STAT_RELEASED, 0, 1)] litUp)).dev .HM_STAT_RELEASED 0 = 0 := by
  decide +kernel

theorem witness_corrections :
    (let s := calibrating (fun x => { x with kinds := [.laser] }) [] litUp;
     s.dev.calAt 0 .laser = true ∧ (s.dev.head 0).link.flags.laserOn = true ∧ (s.dev.head 0).hallmark.queued = []
      ∧ (if 3 * 1080 ≤ 560 + 1080 + 1600 then 560 + 1080 + 1600 - 3 * 1080 else 3 * 1080 - (560 + 1080 + 1600)) * 100 ≤ 3 * (560 + 1080 + 1600)
      ∧ ((619 : Nat) : Int) = Int.fdiv (2 * (((1600 : Nat) : Int) - (560 : Nat)) * 2500 + (4200 : Nat)) (2 * (4200 : Nat))
      ∧ ((1615 : Nat) : Int) = (4200 : Nat) - Int.fdiv (4 * (1600 : Nat) * (4200 : Nat) + 5 * (((1600 : Nat) : Int) - (560 : Nat))) (10 * (((1600 : Nat) : Int) - (560 : Nat)))
      ∧ 3 * (560 + 900 + 1600) < (if 3 * 900 ≤ 560 + 900 + 1600 then 560 + 900 + 1600 - 3 * 900 else 3 * 900 - (560 + 900 + 1600)) * 100)
    ∧ (let s := calibrating (fun x => { x with kinds := [.trial], trialTodo := [3], idleRev := true }) [(.MO_MODE_MODE, 0, 3), (.HM_CTL_HOLD, 0, 1)];
       s.dev.calAt 0 .trial = true ∧ s.dev.mayTry 0 = true ∧ (s.dev.head 0).down.writeInhibit = false ∧ (3 : Fin 16).val ∈ s.dev.trialLeft 0 ∧ (s.dev.surf (surfOf 0)).pcaUsed.length = 16
        ∧ s.dev.calHold 0 = true ∧ 8192 ≤ fieldHeld s.dev (planS 0) 3 ∧ fieldHeld s.dev (planS 0) 3 ≤ 24576)
    ∧ (let s := calibrating fun x => { x with kinds := [.scale] };
       s.dev.calAt 0 .scale = true ∧ s.dev.calHold 0 = false
        ∧ ∀ f ∈ ([.HM_SCALE_TE_GAIN, .HM_SCALE_FE_GAIN, .HM_SCALE_TILT_GAIN] : List Fld), 4096 ≤ fieldHeld s.dev f 0 ∧ fieldHeld s.dev f 0 ≤ 65372)
    ∧ (let s := calibrating (fun x => { x with kinds := [.focus], focusTodo := [(3, true)], idleRev := true }) [(.MO_MODE_MODE, 0, 3)];
       s.dev.calAt 0 .focus = true ∧ s.dev.mayTry 0 = true ∧ (s.dev.head 0).hallmark.focusTodo.head? = some ((3 : Fin 16).val, true)) := by decide +kernel

/-- The worked example of R352: ETA 0.0619 mW/mA, I_TH 16.15 mA, I_W 283.3 mA of layer 15, HEADROOM 11 %. -/
theorem test_laser_example :
    (let t := (after (.laserPointsDone 0 4200 560 1080 1600)
        (calibrating (fun x => { x with kinds := [.laser] })
          [(.HM_PLAN_P_B, 15, 10000), (.FC_WS_LAYER_PW_RATIO, 15, 39936), (.HM_PLAN_S2, 15, 17367), (.HM_LASER_I_MAX, 0, 320)] fun d =>
            d.modHead 0 fun x => { x with link := { x.link with flags := { laserOn := true } }, motion := { x.motion with lastLayer := 15 } })).dev;
     getF t .HM_LASER_ETA 0 = 619 ∧ getF t .HM_LASER_I_TH 0 = 1615 ∧ getF t .HM_STAT_HEADROOM 0 = 11 ∧ (getF t .HM_LASER_I_W 0 + 5) / 10 = 2833) := by decide +kernel

/-- Head 0 before its inhibit path test: its spindle's link up, the door closed and locked. -/
def permitted : State :=
  calibrating (fun x => { x with relStep := 4 }) [(.SL_STATUS_STATE, 0, 6)] fun d =>
    d.modSpinLink 0 fun x => { x with held := { x.held with doorClosed := true, lockEngaged := true } }

/-- An empty calibration image. -/
def emptyImage : List Byte :=
  let h := bytesLE 4 0x4C434D48 ++ bytesLE 2 1 ++ [0x21, 0] ++ zeros 52
  h ++ bytesLE 4 (crc32c h)

theorem witness_tests_and_saving :
    (let s := permitted;
     s.dev.mayTestLaser 0 = true ∧ (s.dev.head 0).hallmark.relStep = 4 ∧ (s.dev.spin (spinOf 0)).keep.clearing = false)
    ∧ (calibrating id).dev.mayTestLaser 0 = false
    ∧ (let s := calibrating (fun x => { x with idleRev := true }) [(.HM_STAT_RELEASED, 0, 1), (.MO_MODE_MODE, 0, 3), (.KP_STAT_PROFILE, 0, 1)] fun d =>
          d.modHead 0 fun x => { x with keep := { x.keep with laserHalf := true, day := 34560000 } };
       s.dev.mayTestWrite 0 = true ∧ s.dev.strict = true ∧ 34560000 ≤ (s.dev.head 0).keep.day ∧ (s.dev.head 0).hallmark.idleRev = true)
    ∧ (let c := aCmd 0 (anEntry 0x18 0 8288);
       let s := hosted false fun k => { k with cmds := [c] }
       s.dev.admin? 9 0x18 = some c ∧ (s.dev.pair? 0).isSome = true ∧ s.dev.hallmarkDead = false ∧ c.e.sgl = false ∧ 64 + c.e.calHeads.length * 8224 ≤ c.e.len)
    ∧ (let c := aCmd 0 (anEntry 0x19 0 8288)
       let s := hosted false fun k => { k with cmds := [c] }
       s.dev.admin? 9 0x19 = some c ∧ 64 + c.e.calHeads.length * 8224 ≤ c.e.len
        ∧ calImageOk ((zeros 64).take (64 + leAt (zeros 64) 10 2 * 8224)) 128 = false
        ∧ calImageOk (emptyImage.take (64 + leAt emptyImage 10 2 * 8224)) 128 = true ∧ leAt emptyImage 10 2 = 0)
    ∧ (hosted false id [(.KP_CORES_HALLMARK, 0, 3)]).dev.hallmarkDead = true
    ∧ (leAt (5 :: zeros 40) 0 1 = (5 : HeadId).val ∧ leAt (zeros 4 ++ [1] ++ zeros 40) 4 8 ≠ ((live []).dev.head 0).link.port.serial)
    ∧ (lifeCodes (.head 0) = 4 ∧ (3 : Nat) ≤ lifeCodes (.spindle 0) ∧ lifeCodes .device < 4 ∧ (live []).dev.hallmarkDead = false)
    ∧ ((live []).dev.metricValue (.head 0) 1 7 = some 7 ∧ (live []).dev.metricValue (.head 0) 4 0 = none ∧ (live []).dev.metricValue (.spindle 0) 1 3 = none)
    ∧ (List.replicate 120 ((0, 0) : Nat × Int)).length ≤ 120 := by decide +kernel

theorem test_inhibit_fails : getF (after (.inhibitTestLaserHalf 0 true false) permitted).dev
      .KP_DIAG_INHIBIT_FAIL 0 = 1
    ∧ getF (after (.inhibitTestLaserHalf 0 true true) permitted).dev .HM_STAT_RELEASED 0 = 1 := by
  decide +kernel

/-! ## Temperature and power -/

theorem witness_thermal :
    (0 < (5 : Nat) ∧ tempDemand 85 5 3 0 (128 * 85) = 1 ∧ tempDemand 85 5 3 0 (128 * 85 - 1) = 0 ∧ tempDemand 85 5 3 0 (128 * 200) = 7
      ∧ tempDemand 85 5 3 2 (128 * 87 + 1) = 2 ∧ tempDemand 85 5 3 2 (128 * 87 - 1) = 1)
    ∧ ((5 : Fin 6).val * 32 + 16 < 177 ∧ bit (2 ^ 16) 16 = true ∧ bit (2 ^ 16) 15 = false)
    ∧ (let s := live [(.TH_CTL_AMB_TIMEOUT, 0, 1)] fun d => { d with thermal := { ambAge := 400 } };
       400 * getF s.dev .TH_CTL_AMB_TIMEOUT 0 ≤ s.dev.thermal.ambAge)
    ∧ (live []).dev.thermal.ambAge < 400 * getF (live []).dev .TH_CTL_AMB_TIMEOUT 0
    ∧ (let s := live [(.TH_STAT_STEP, 0, 7)] fun d => { d with thermal := { dwell := 65535 } };
       getF s.dev .TH_STAT_STEP 0 = 7 ∧ s.dev.demandMax.1 < 7 ∧ getF s.dev .TH_CTL_DWELL 0 ≤ s.dev.thermal.dwell ∧ ∀ x, (s.dev.torc x).startPend = false)
    ∧ (live []).dev.thermal.dwell < getF (live []).dev .TH_CTL_DWELL 0 := by decide +kernel

theorem test_throttle_falls :
    (let t := after .throttleDwellExpiry (live [(.TH_STAT_STEP, 0, 7)] fun d => { d with thermal := { dwell := 65535 } })
     getF t.dev .TH_STAT_STEP 0 = 6 ∧ getF t.dev .LD_POOL_ACTIVE 0 = 12) := by decide +kernel

/-- The device in a power state. -/
def inPower (n : Nat) (f : Power → Power) (p : Pcie → Pcie := id) (fs : List (Fld × Nat × Nat) := []) : State :=
  live ((.PM_STAT_STATE, 0, n) :: (.PM_CFG_MAX_STATE, 0, 4) :: fs) fun d => { d with power := f d.power, pcie := p d.pcie }

theorem witness_power :
    (let s := inPower 0 fun p => { p with idle := 65535 };
     s.dev.pState = 0 ∧ s.dev.ladderMay 1 = true ∧ s.dev.idleNow = true ∧ getF s.dev .PM_CFG_P1_IDLE 0 ≤ s.dev.power.idle)
    ∧ (let s := inPower 0 id;
       s.dev.pcie.d3 = false ∧ s.dev.power.idle < getF s.dev .PM_CFG_P1_IDLE 0 ∧ s.dev.pState ≠ 1)
    ∧ (let s := inPower 1 fun p => { p with inP1 := 400 * 65535 };
       s.dev.pState = 1 ∧ s.dev.ladderMay 2 = true ∧ s.dev.calRuns = false ∧ 400 * getF s.dev .PM_CFG_P2_IDLE 0 ≤ s.dev.power.inP1)
    ∧ (let s := inPower 2 (fun p => { p with inP2 := 24000 }) id [(.PM_CFG_SPINDOWN, 0, 1)];
       s.dev.pState = 2 ∧ s.dev.ladderMay 2 = true ∧ s.dev.power.spunDown = false ∧ s.dev.pcie.d3 = false ∧ getF s.dev .PM_CFG_SPINDOWN 0 ≠ 0
        ∧ 24000 * getF s.dev .PM_CFG_SPINDOWN 0 ≤ s.dev.power.inP2 ∧ s.dev.stagedData = false)
    ∧ (writing aWrite).dev.stagedData = true
    ∧ (inPower 0 id fun p => { p with linkUp := true }).dev.pcie.linkUp = true
    ∧ (let s := inPower 3 id fun p => { p with d3 := true };
       s.dev.pcie.d3 = true ∧ s.dev.power.downTo = none ∧ s.dev.pState = 3 ∧ s.dev.ladderMay 4 = true)
    ∧ (let s := inPower 1 id fun p => { p with d3 := true };
       s.dev.pcie.d3 = true ∧ s.dev.pState < 2 ∧ 0 < s.dev.pState)
    ∧ (let s := inPower 3 fun p => { p with exiting := true, onlyP2 := true };
       s.dev.power.exiting = true ∧ s.dev.power.onlyP2 = true ∧ 3 ≤ s.dev.pState)
    ∧ (inPower 2 fun p => { p with exiting := true }).dev.power.onlyP2 = false
    ∧ (let s := inPower 4 id fun p => { p with d3 := true, d3cold := true };
       3 ≤ s.dev.pState ∧ s.dev.power.exiting = false ∧ s.dev.pcie.d3cold = true) := by decide +kernel

theorem test_power : (after .pmeTurnOff (inPower 3 id fun p => { p with d3 := true })).dev.pState = 4
    ∧ (after .powerExitDone (inPower 3 fun p => { p with exiting := true, onlyP2 := true })).dev.pState = 2
    ∧ (after (.bayWake 0) (inPower 4 id fun p => { p with d3 := true, d3cold := true })).dev.hostOut = [.wakePin] := by decide +kernel

/-! ## Keeper -/

/-- Keeper's record changed, and its record of spindle 0. -/
def kept (f : Keeper → Keeper) (g : KeepSpin → KeepSpin := id) (fs : List (Fld × Nat × Nat) := []) : State :=
  live fs fun d => { d.modKeepSpin 0 g with keeper := f d.keeper }

/-- Spindle 0's link up, with a speed from its bail. -/
def bail (rpm : Nat) (g : KeepSpin → KeepSpin) (fs : List (Fld × Nat × Nat) := []) : State :=
  let s := kept id g ((.SL_STATUS_STATE, 0, 6) :: (.TQ_STAT_STATE, 0, 5) :: fs)
  { s with dev := s.dev.modSpinLink 0 fun x => { x with held := { x.held with speedRpm := rpm, doorClosed := true, lockEngaged := true } } }

theorem witness_dips :
    (live []).dev.keeper.failed = false ∧ (live []).dev.keeper.dip = false ∧ (kept fun k => { k with dip := true }).dev.keeper.dip = true
    ∧ (let s := kept fun k => { k with dip := true, settle := 65535 };
       s.dev.keeper.dip = true ∧ getF s.dev .KP_CFG_DIP_SETTLE 0 ≤ s.dev.keeper.settle)
    ∧ (live []).dev.keeper.settle < getF (live []).dev .KP_CFG_DIP_SETTLE 0
    ∧ (let s := kept id fun k => { k with dip := true, settle := 65535 };
       (s.dev.spin 0).keep.dip = true ∧ getF s.dev .KP_CFG_DIP_SETTLE 0 ≤ (s.dev.spin 0).keep.settle)
    ∧ ((live []).dev.spin 0).keep.settle < getF (live []).dev .KP_CFG_DIP_SETTLE 0
    ∧ (let s := bail 0 (fun k => { k with doorHold := 4000 * 65535, bridge := true, slow := 4000 * 65535 });
       let s := { s with dev := (headsOf 0).foldl (fun d h => d.modHead h fun x => { x with keep := { x.keep with downAge := 8 } }) s.dev }
       s.dev.mayUnlock 0 = true ∧ s.dev.holdTicks ≤ (s.dev.spin 0).keep.doorHold ∧ (s.dev.spin 0).keep.bridge = true
        ∧ s.dev.holdTicks ≤ (s.dev.spin 0).keep.slow)
    ∧ (live []).dev.mayUnlock 0 = false ∧ ((live []).dev.spin 0).keep.bridge = false ∧ ((live []).dev.spin 0).keep.slow < (live []).dev.holdTicks := by
  decide +kernel

theorem witness_losses :
    (live []).dev.devSafe = false ∧ (live [(.KP_STAT_DEV, 0, 1)]).dev.devSafe = true ∧ (live []).dev.clasp.cmds = []
    ∧ bit (getF (live []).dev .KP_CORES_HALLMARK 0) 1 = false ∧ getF (live []).dev .KP_CORES_CROWN 0 = 0
    ∧ getF (live [(.KP_CORES_CROWN, 0, 1)]).dev .KP_CORES_CROWN 0 = 2 ^ (1 - (1 : Fin 2).val) ∧ bit (getF (live []).dev .KP_CORES_CLASP 0) 1 = false
    ∧ (let s := hosted false fun k => { k with cmds := [ioCmd (ioEntry 0x20)] };
       s.dev.clasp.disabling = false ∧ (ioCmd (ioEntry 0x20)).qid % 6 = (1 : Fin 6).val ∧ s.dev.pair? 1 = some (aPair 1)
        ∧ ioCmd (ioEntry 0x20) ∈ s.dev.clasp.cmds)
    ∧ (let s := bail 0 (fun k => { k with cause := 2 }) [(.KP_SPIN_L_BITS, 0, 1)];
       s.dev.spinFree 0 = true ∧ s.dev.spinLatch 0 = true ∧ s.dev.keeper.failed = false ∧ s.dev.causeGone 0 = true ∧ s.dev.spinLatchS 0 = false
        ∧ (s.dev.spin 0).keep.bridge = false ∧ s.dev.strict = false)
    ∧ (kept id (fun k => { k with cause := 2 }) [(.KP_SPIN_L_BITS, 0, 1)]).dev.causeGone 0 = false
    ∧ (kept fun k => { k with failed := true }).dev.keeper.failed = true := by decide +kernel

theorem test_clasp_core_loss : ((after (.coreHeartbeatLoss (.clasp 1)) (hosted false fun k => { k with cmds := [ioCmd (ioEntry 0x20)] })).dev.clasp.cmds) = []
    ∧ ((after (.coreHeartbeatLoss (.clasp 0)) (hosted false fun k => { k with cmds := [ioCmd (ioEntry 0x20)] })).dev.clasp.cmds.length) = 1
    ∧ (after (.clear 0) (bail 0 (fun k => { k with cause := 2 }) [(.KP_SPIN_L_BITS, 0, 1)])).dev.spinLatch 0 = false := by decide +kernel

theorem witness_windows :
    (let s := kept id fun k => { k with winAt := some 0 };
     (s.dev.spin 0).keep.winAt = some 0 ∧ tickOf s.dtime < 0 + 40 ∧ 40 ≤ tickOf ({ s with dtime := 100000 } : State).dtime)
    ∧ ((live []).dev.spin 0).keep.winAt = none
    ∧ (let s := bail 3300 id [(.TQ_STAT_SPEED, 0, 3300)];
       s.dev.torcSource 0 = some 3300 ∧ (∀ y ∈ s.dev.bailSource 0, y.1 ≤ 3300 * y.2 ∧ speedsApart 3300 y = false) ∧ s.dev.bailSource 0 ≠ [])
    ∧ (let s := bail 20 id [(.TQ_STAT_SPEED, 0, 20)];
       s.dev.torcSource 0 = some 20 ∧ s.dev.bailSource 0 ≠ [] ∧ ∀ y ∈ s.dev.bailSource 0, y.1 < 30 * y.2)
    ∧ (let s := bail 3301 (fun k => { k with ovr := 1 }) [(.TQ_STAT_SPEED, 0, 3300)];
       s.dev.spinLatch 0 = false ∧ s.dev.spinLatchS 0 = false ∧ (∃ y ∈ s.dev.bailSource 0, 3300 * y.2 < y.1) ∧ 1 ≤ (s.dev.spin 0).keep.ovr)
    ∧ (let s := bail 3300 id [(.TQ_STAT_SPEED, 0, 3301)];
       s.dev.torcSource 0 = some 3301 ∧ (s.dev.spin 0).keep.ovr = 0 ∧ ∀ y ∈ s.dev.bailSource 0, speedsApart 3301 y = false)
    ∧ (let s := kept id (fun k => { k with failBoth := 9 }) [(.TQ_CORE_FAILED, 0, 1), (.TQ_STAT_STATE, 0, 6)];
       s.dev.torcSource 0 = none ∧ s.dev.bailSource 0 = [] ∧ 9 ≤ (s.dev.spin 0).keep.failBoth ∧ s.dev.torcState 0 = 6)
    ∧ (kept id (fun k => { k with failBoth := 8 }) [(.TQ_CORE_FAILED, 0, 1)]).dev.torcSource 0 = none := by decide +kernel

theorem test_overspeed : (after (.speedWindow 0) (bail 3301 (fun k => { k with ovr := 1 }) [(.TQ_STAT_SPEED, 0, 3300)])).dev.spinLatchS 0 = true
    ∧ (after (.speedWindow 0) (bail 3300 (fun k => { k with ovr := 1 }) [(.TQ_STAT_SPEED, 0, 3300)])).dev.spinLatchS 0 = false
    ∧ getF (after (.dieSensorSample [14080, 14080, 14079, 14079]) (kept fun k => { k with hotRun := 1 })).dev .KP_STAT_DEV 0 = 2
    ∧ getF (after (.dieSensorSample [14080, 14079, 14079, 14079]) (kept fun k => { k with hotRun := 1 })).dev .KP_STAT_DEV 0 = 0 := by decide +kernel

theorem witness_sensors :
    (let temps := [14080, 14080, 14079, 13312]
     let s := kept fun k => { k with hotRun := 1 }
     s.dev.keeper.failed = false ∧ s.dev.keeper.dieAt = none ∧ s.dev.keeper.broken = [false, false, false, false] ∧ (∀ i < 4, deadCode (temps.getD i 0) = false)
      ∧ (∀ i < 4, ∀ j < 4, toSigned 16 (temps.getD i 0) - toSigned 16 (temps.getD j 0) ≤ 768)
      ∧ ((List.range 4).filter fun i => decide (14080 ≤ toSigned 16 (temps.getD i 0))).length = 2 ∧ 1 ≤ s.dev.keeper.hotRun)
    ∧ (live []).dev.keeper.hotRun = 0 ∧ (kept fun k => { k with dieAt := some 0 }).dev.keeper.dieAt = some 0 ∧ tickOf (live []).dtime < 0 + 40
    ∧ (kept fun k => { k with xAge := some 16 }).dev.keeper.xAge = some 16 ∧ (kept fun k => { k with xAge := some 15 }).dev.keeper.xAge = some 15 := by
  decide +kernel

theorem witness_reports :
    (let s := live [] fun d => d.modHead 0 fun x => { x with banks := x.banks.set 1 { layer := some 3, misses := 2 } };
     (s.dev.head 0).banks[(1 : Fin 2)] = { layer := some 3, misses := 2 } ∧ s.dev.wsCrc 0 3 = (s.dev.wsCrc 0 3) % 256
      ∧ s.dev.wsCrc 0 3 ≠ (s.dev.wsCrc 0 3 + 1) % 256)
    ∧ ((live []).dev.head 0).banks[(0 : Fin 2)] = { layer := none } ∧ 8 ≤ ({ layer := some 3, misses := 2 } : WsBank).next
    ∧ ((calibrating fun x => { x with corrPend := true }).dev.head 0).hallmark.corrPend = true
    ∧ ((calibrating fun x => { x with corrPend := true }).dev.port (.head 0)).mbox = []
    ∧ (∃ r ∈ ((live [] fun d => d.modPort (.head 0) fun p => { p with mbox := [{ tag := 1, write := true, addr := 0, data := 0, purpose := .correction }] }).dev.port (.head 0)).mbox,
        r.purpose = .correction)
    ∧ ((live []).dev.head 0).hallmark.corrPend = false
    ∧ (let s := live [] fun d => d.modHead 0 fun x => { x with facet := { x.facet with inSector := true, lanes := x.facet.lanes.set 2 { xs := [(5, false), (6, false)] } } };
       (s.dev.head 0).facet.lanes[(2 : SpotId)].xs = [(5, false), (6, false)] ∧ (s.dev.head 0).facet.inSector = true
        ∧ (s.dev.head 0).facet.lanes[(2 : SpotId)].overflowRaised = false)
    ∧ ((live []).dev.head 0).facet.inSector = false := by decide +kernel

/-! ## Resets and Locket -/

/-- The device at a stage of start-up, its Locket changed. -/
def atStage (b : Boot) (f : Locket → Locket := id) (fs : List (Fld × Nat × Nat) := []) : State :=
  mk fs fun d => d.modLocket fun l => f { l with stage := b }

theorem witness_resets :
    (atStage .rom).dev.locket.stage ≠ .off ∧ (live []).dev.locket.stage = .done ∧ getF (live []).dev .KP_STAT_DEV 0 ≠ 2
    ∧ getF (live [(.KP_STAT_DEV, 0, 2)]).dev .KP_STAT_DEV 0 = 2 ∧ (atStage .rom).dev.locket.stage ≠ .done
    ∧ (let c := aCmd 0 (anEntry 0x1D 0 0)
       let s := hosted false (fun k => { k with cmds := [c] }) [(.KP_STAT_DEV, 0, 1)]
       s.dev.admin? 9 0x1D = some c ∧ s.dev.pair? 0 = some (aPair 0) ∧ getF s.dev .KP_STAT_DEV 0 = 1 ∧ s.dev.keeper.failed = false
        ∧ s.dev.deviceCause = false)
    ∧ (live [(.KP_CORES_CROWN, 0, 3)]).dev.deviceCause = true := by decide +kernel

theorem test_resets : getF (after .hostReset (live [(.KP_CAUSE_CODE, 0, 3), (.CL_CTL_EN, 0, 1)])).dev .CL_CTL_EN 0 = 0
    ∧ getF (after .hostReset (live [(.SY_RESET_HOST_RESETS, 0, 65535)])).dev .SY_RESET_HOST_RESETS 0 = 65535
    ∧ getF (after .functionLevelReset (live [])).dev .SY_RESET_LAST 0 = 4 ∧ getF (after .resetN (live [(.CL_CTL_EN, 0, 1)])).dev .CL_CTL_EN 0 = 0 := by
  decide +kernel

theorem witness_start_up :
    getF (atStage .rom).dev .LK_BOOT_STAT_FAIL0 0 = 0 ∧ getF (atStage .rom id [(.LK_BOOT_STAT_FAIL0, 0, 1)]).dev .LK_BOOT_STAT_FAIL0 0 ≠ 0
    ∧ (atStage .dram).dev.locket.factory = false ∧ (atStage .done fun l => { l with factory := true }).dev.locket.factory = true
    ∧ (atStage .cores).dev.locket.stage = .cores ∧ getF (atStage .cores id [(.LK_BOOT_STAT_RECOVERY, 0, 1)]).dev .LK_BOOT_STAT_RECOVERY 0 = 1
    ∧ (let s := live [(.PM_STAT_STATE, 0, 4)];
       s.dev.pState = 4)
    ∧ (let s := live [] fun d => { d with pcie := { linkUp := true, l0 := some 0 } };
       s.dev.pcie.linkUp = true ∧ s.dev.configReady 1000000 = true ∧ s.dev.configReady 999999 = false ∧ s.dev.pcie.afterH = false) := by decide +kernel

/-- An empty slot fails its first check, if the NOR answers at all: whether it does is a free value. -/
theorem test_empty_slot (d : Dev) (slot : Nat) (h : d.locket.check slot = 1) : d.bootCode slot = 1 ∨ d.bootCode slot = 10 := by
  rw [Dev.bootCode, h]; by_cases e : d.norFails <;> simp [e]

theorem witness_boot_code : (atStage .rom).dev.bootCode 0 ≠ 0 ∧ (atStage .rom id [(.LK_BOOT_STAT_FAIL0, 0, 1)]).dev.bootCode 1 ≠ 0 :=
  ⟨by rcases test_empty_slot (atStage .rom).dev 0 (by decide +kernel) with h | h <;> simp [h],
   by rcases test_empty_slot (atStage .rom id [(.LK_BOOT_STAT_FAIL0, 0, 1)]).dev 1 (by decide +kernel) with h | h <;> simp [h]⟩

/-- The device whose host has the link up, after start-up. -/
def linked : State := live [] fun d => { d with pcie := { linkUp := true, l0 := some 0 } }

theorem witness_linked : linked.dev.pcie.l0 = some 0 ∧ linked.dev.locket.stage = .done := by decide +kernel

theorem witness_attest :
    (let c := aCmd 0 (anEntry 0x1A 0 3156)
     let s := hosted false fun k => { k with cmds := [c] }
     s.dev.admin? 9 0x1A = some c ∧ (s.dev.pair? 0).isSome = true ∧ bits c.e.arg 7 0 = 0 ∧ 3156 ≤ c.e.len ∧ c.e.sgl = false ∧ c.recs = [])
    ∧ (let c := aCmd 0 (anEntry 0x1A 0 3155)
       (hosted false fun k => { k with cmds := [c] }).dev.admin? 9 0x1A = some c ∧ c.e.len < 3156)
    ∧ (let tok := bytesLE 4 0x4B4F5444 ++ zeros 3800
       let l : Locket := { challenge := zeros 32 }
       l.debugDisable = false ∧ tok.length = 3804 ∧ leAt tok 0 4 = 0x4B4F5444 ∧ leAt tok 6 2 = 0 ∧ cut tok 40 32 = l.challenge ∧ leAt tok 4 1 = 0
        ∧ l.keyOk (leAt tok 4 1) = true)
    ∧ (zeros 5).length ≠ 3804 := by decide +kernel

/-! ## Records and the management port -/

/-- Cameo changed. -/
def logging (f : Cameo → Cameo) (fs : List (Fld × Nat × Nat) := []) : State := live fs fun d => { d with cameo := f d.cameo }

theorem witness_recorder :
    (let s := logging fun c => { c with suppressed := [⟨0x300, 5, 1, 2, 400⟩] };
     s.dev.cameo.raised = [] ∧ s.dev.crownDead = false ∧ s.dev.cameo.stopped = false
      ∧ s.dev.cameo.suppressed.find? (·.code == 0x300) = some ⟨0x300, 5, 1, 2, 400⟩ ∧ s.dev.cameo.stage.length < 4096)
    ∧ (∀ x ∈ (logging fun c => { c with suppressed := [⟨0x300, 5, 1, 2, 399⟩] }).dev.cameo.suppressed, x.code = 0x300 → x.age < 400)
    ∧ (let c := aCmd 0 (anEntry 0x1B 1 2)
       let s := hosted false fun k => { k with cmds := [c] }
       s.dev.admin? 9 0x1B = some c ∧ (s.dev.pair? 0).isSome = true ∧ s.dev.crownDead = false ∧ c.e.sgl = false ∧ c.recs = [] ∧ 0 < c.e.len)
    ∧ (live [(.KP_CORES_CROWN, 0, 3)]).dev.crownDead = true := by decide +kernel

theorem test_suppressed : ((after (.suppressedTimeout 0x300) (logging fun c => { c with suppressed := [⟨0x300, 5, 1, 2, 400⟩] })).dev.cameo.stage.map fun r => (r.code, r.params))
    = [(0xE001, [0x300, 5, 1, 2])]
    ∧ ((after (.eventRead 9) { hosted false (fun k => { k with cmds := [aCmd 0 (anEntry 0x1B (1 + 2 ^ 63) 1)] }) with
        dev := { (hosted false fun k => { k with cmds := [aCmd 0 (anEntry 0x1B (1 + 2 ^ 63) 1)] }).dev with cameo := { journal := [⟨1, 0x300, 0, 0, 0, []⟩] } } }).dev.cameo.journal)
      = [] := by decide +kernel

/-- Whether the NOR answers is a free value: both cases stand open. -/
theorem witness_nor (d : Dev) : d.norFails = true ∨ d.norFails = false := by cases d.norFails <;> simp

/-- The device in recovery, with slot 1 begun. -/
def begun : State := { atStage .recovery with dev := { (atStage .recovery).dev with mgmt := { slot := some 1, next := 240 } } }

theorem witness_port :
    (live []).dev.portServed = true ∧ (live []).dev.inRecovery = false ∧ (atStage .recovery).dev.portServed = true ∧ (atStage .recovery).dev.inRecovery = true
    ∧ (atStage .rom).dev.portServed = false ∧ (31 : Nat) < 32 ∧ (live []).dev.mgmt.slot = none
    ∧ (let s := begun;
       s.dev.inRecovery = true ∧ s.dev.mgmt.slot = some 1 ∧ s.dev.mgmt.next ≤ 0x4000000 - 240 ∧ (zeros 240).length ≤ 240 ∧ 1 ≤ (zeros 240).length
        ∧ 0x4000000 - 240 + (zeros 240).length ≤ 0x4000000 ∧ 239 < s.dev.mgmt.next)
    ∧ (live [] fun d => { d with mgmt := { pending := true, resp := [1, 0] } }).dev.mgmt.pending = true ∧ (live []).dev.mgmt.pending = false := by decide +kernel

theorem witness_img_end : begun.dev.bootCode 1 ≠ 0 := by
  rcases test_empty_slot begun.dev 1 (by decide +kernel) with h | h <;> simp [h]

theorem test_port : (after (.health 3 0) (live [])).dev.mgmt.resp = [3, 2] ∧ (after (.health 0 0) (atStage .recovery)).dev.mgmt.resp = [3, 3]
    ∧ (after .mgWake (live [])).dev.mgmt.resp = [5, 0] ∧ (after (.imgBegin 2) (atStage .recovery)).dev.mgmt.resp = [0x10, 2]
    ∧ (after (.imgData 239 [1]) begun).dev.mgmt.resp = [0x11, 2] ∧ (after .imgEnd (live [])).dev.mgmt.resp = [0x12, 3]
    ∧ (after .responseRead (live [(.MG_STAT_LAST_OP, 0, 7)])).dev.mgmt.out = [7, 1] := by decide +kernel

end Sys2Proof.Tests
end

section
/-! PROOFS. The two halves of a 64-bit register (R12): what a read of BAR0 clears and leaves, how the latch of an upper half is set
and consumed, and the frame of a command that acts on the device alone. -/

namespace Sys2Proof.Machine

/-! ## The frame of a command that acts on the device alone -/

/-- Judging the events of a command and sending its message leave the M-tick worked last. -/
@[simp] theorem Dev.flush_mLast (d : Dev) : d.flush.mLast = d.mLast := by
  obtain ⟨c, hjudge⟩ := d.judgeAll_eq
  rw [Dev.flush, hjudge]
  unfold Dev.notifyOwed Dev.msix
  split
  · split <;> rfl
  · rfl

/-- The end of a command leaves every part as the command made it. -/
theorem Part.same_flush (p : Part) (a b : Dev) (h : p.same a b) : p.same a b.flush := by
  cases p <;> simpa [Part.same] using h

/-- A command that acts on the device alone is framed by what its effect on the device changes. -/
theorem State.frame_onDev {regs : Fld → Nat → Prop} {parts : List Part} {heads : List HeadId} {spins : List SpinId} (s : State)
    (g : Dev → Dev) (hregs : ∀ f i, ¬regs f i → getF (g s.dev) f i = getF s.dev f i)
    (hparts : ∀ p, p ∉ parts → p.same s.dev (g s.dev))
    (hheads : ∀ h, h ∉ heads → (g s.dev).head h = s.dev.head h)
    (hspins : ∀ h, h ∉ spins → (g s.dev).spin h = s.dev.spin h) : Frame regs parts heads spins s (s.onDev g) where
  dtime := rfl
  pending := rfl
  registers f i hf hp := (State.onDev_getF s g f i hp).trans (hregs f i hf)
  others p hp := p.same_flush _ _ (hparts p hp)
  headsKept h hh := by simpa [Dev.head] using hheads h hh
  spinsKept h hh := by simpa [Dev.spin] using hspins h hh

/-! ## What a read clears -/

/-- The clearing of one field by a read, as `Dev.readClears` does it. -/
def Dev.clearRc (i : Nat) (d : Dev) (f : Fld) : Dev :=
  if f = .CM_STAT_DROPPED then { d with cameo := { d.cameo with dropped := 0 } } else setF d f i 0

/-- The fields that a read of bits [lo + n − 1 : lo] clears. -/
def Reg.rcFields (r : Reg) (lo n : Nat) : List Fld :=
  r.fields.filter fun f => f.info.access == .RC && decide (lo ≤ f.info.lo) && decide (f.info.lo + f.info.width ≤ lo + n)

theorem Dev.readClears_eq_foldl (d : Dev) (r : Reg) (i lo n : Nat) : d.readClears r i lo n = (r.rcFields lo n).foldl (Dev.clearRc i) d := rfl

/-- A read clears RC fields of its register alone. -/
theorem Reg.mem_rcFields {r : Reg} {lo n : Nat} {f : Fld} (h : f ∈ r.rcFields lo n) : f ∈ r.fields ∧ f.info.access = .RC := by
  obtain ⟨hf, hcond⟩ := List.mem_filter.mp h
  simp only [Bool.and_eq_true, beq_iff_eq] at hcond
  obtain ⟨⟨hrc, -⟩, -⟩ := hcond
  exact ⟨hf, hrc⟩

/-- Clearing a field changes the register file or Cameo. -/
theorem Dev.clearRc_eq (i : Nat) (d : Dev) (f : Fld) : ∃ regs c, d.clearRc i f = { d with regs := regs, cameo := c } := by
  unfold Dev.clearRc
  split
  · exact ⟨d.regs, _, rfl⟩
  · exact ⟨_, d.cameo, rfl⟩

/-- Clearing a field leaves every other field, and the same field of another unit. -/
theorem Dev.getF_clearRc_ne {i j : Nat} {f g : Fld} (d : Dev) (h : ¬(g = f ∧ j = i)) : getF (d.clearRc i f) g j = getF d g j := by
  unfold Dev.clearRc
  split
  · rfl
  · exact getF_setF_ne d 0 h

/-- A read changes the register file and Cameo alone. -/
theorem Dev.readClears_eq (d : Dev) (r : Reg) (i lo n : Nat) : ∃ regs c, d.readClears r i lo n = { d with regs := regs, cameo := c } := by
  rw [Dev.readClears_eq_foldl]
  induction r.rcFields lo n generalizing d with
  | nil => exact ⟨d.regs, d.cameo, rfl⟩
  | cons f fs ih =>
    obtain ⟨regs, c, hrest⟩ := ih (d.clearRc i f)
    obtain ⟨regs', c', hf⟩ := d.clearRc_eq i f
    exact ⟨regs, c, by rw [List.foldl_cons, hrest, hf]⟩

/-- A read leaves every field but the RC fields of the register read. -/
theorem Dev.getF_readClears (d : Dev) (r : Reg) (i lo n : Nat) {g : Fld} {j : Nat} (h : ¬(g ∈ r.fields ∧ g.info.access = .RC ∧ j = i)) :
    getF (d.readClears r i lo n) g j = getF d g j := by
  have hne : ∀ f ∈ r.rcFields lo n, ¬(g = f ∧ j = i) := by
    rintro f hf ⟨rfl, rfl⟩
    obtain ⟨hg, hrc⟩ := Reg.mem_rcFields hf
    exact h ⟨hg, hrc, rfl⟩
  rw [Dev.readClears_eq_foldl]
  generalize r.rcFields lo n = fs at hne ⊢
  induction fs generalizing d with
  | nil => rfl
  | cons f fs ih =>
    exact (ih _ fun f' hf' => hne f' (List.mem_cons_of_mem _ hf')).trans (d.getF_clearRc_ne (hne f List.mem_cons_self))

@[simp] theorem Dev.readClears_latches (d : Dev) (r : Reg) (i lo n : Nat) : (d.readClears r i lo n).latches = d.latches := by
  obtain ⟨regs, c, h⟩ := d.readClears_eq r i lo n
  rw [h]

@[simp] theorem Dev.clearPart_latches (d : Dev) (off : Nat) : (d.clearPart off).latches = d.latches := by
  unfold Dev.clearPart
  split
  · rfl
  · exact Dev.readClears_latches ..

/-! ## The latch of an upper half -/

/-- The device after the upper half at an offset has been latched; an earlier latch of it is replaced. -/
def Dev.latchUpper (d : Dev) (off v : Nat) : Dev := { d with latches := d.latches.filter (·.1 != off) ++ [(off, v)] }

/-- The device after the latch of the upper half at an offset has been consumed. -/
def Dev.consumeLatch (d : Dev) (off : Nat) : Dev := { d with latches := d.latches.filter (·.1 != off) }

@[simp] theorem Dev.latch?_consumeLatch (d : Dev) (off : Nat) : (d.consumeLatch off).latch? off = none := by
  simp [Dev.latch?, Dev.consumeLatch]

@[simp] theorem Dev.latch?_latchUpper (d : Dev) (off v : Nat) : (d.latchUpper off v).latch? off = some v := by
  have hnone : (d.latches.filter (·.1 != off)).find? (·.1 == off) = none := by simp
  simp only [Dev.latch?, Dev.latchUpper, List.find?_append, hnone]
  simp

@[simp] theorem State.onDev_latch? (s : State) (g : Dev → Dev) (off : Nat) : (s.onDev g).dev.latch? off = (g s.dev).latch? off := by
  simp [Dev.latch?]

/-! ## Reads of a 64-bit register -/

/-- A 4-byte read of the lower half returns it and latches the upper half as it stood before the read cleared any field. -/
theorem Dev.read4_lower {off i : Nat} {r : Reg} (d : Dev) (t : Nat) (hat : regAt off = some (r, i, 0)) (hw : r.info.width = 64) :
    d.read4 t off = (d.regSeen t r i % 2 ^ 32, (d.readClears r i 0 32).latchUpper (off + 4) (d.regSeen t r i / 2 ^ 32 % 2 ^ 32)) := by
  simp [Dev.read4, hat, hw, Dev.latchUpper]

/-- A 4-byte read of the upper half returns what is latched, or without a latch the half as it stands, and consumes the latch. -/
theorem Dev.read4_upper {off i : Nat} {r : Reg} (d : Dev) (t : Nat) (hat : regAt off = some (r, i, 4)) (hw : r.info.width = 64) :
    d.read4 t off = ((d.latch? off).getD (d.regSeen t r i / 2 ^ 32 % 2 ^ 32), (d.readClears r i 32 32).consumeLatch off) := by
  simp [Dev.read4, hat, hw, Dev.consumeLatch]

/-- An aligned 4-byte read of BAR0 is answered with its value. -/
theorem Dev.bar0Read_four {off : Nat} (d : Dev) (t : Nat) (h : off % 4 = 0) :
    d.bar0Read t off 4 = { (d.read4 t off).2 with hostRead := some (off, 4, (d.read4 t off).1) } := by
  simp [Dev.bar0Read, h]

/-- An aligned 8-byte read of BAR0 is answered with both of its parts. -/
theorem Dev.bar0Read_eight {off : Nat} (d : Dev) (t : Nat) (h : off % 8 = 0) :
    d.bar0Read t off 8 = { (d.clearPart off).clearPart (off + 4) with
      hostRead := some (off, 8, d.readPart t off + d.readPart t (off + 4) * 2 ^ 32) } := by
  simp [Dev.bar0Read, h]

/-- The two parts of an 8-byte read of one register make its word. -/
theorem Dev.readPart_both {off i : Nat} {r : Reg} (d : Dev) (t : Nat) (hlo : regAt off = some (r, i, 0)) (hhi : regAt (off + 4) = some (r, i, 4)) :
    d.readPart t off + d.readPart t (off + 4) * 2 ^ 32 = d.regSeen t r i % 2 ^ 64 := by
  simp only [Dev.readPart, hlo, hhi]
  omega

/-! ## The commands -/

theorem exec_readClear {s : State} (addr size : Nat) (h : s.dev.answers = true) :
    exec (.readClear addr size) s = .next (s.onDev fun d => d.bar0Read s.dtime addr size) := by
  show execReadClear addr size s = _
  simp [execReadClear, run, State.onDev, h]

theorem exec_lowerHalfRead {s : State} {addr i : Nat} {r : Reg} (h : s.dev.answers = true) (hal : addr % 4 = 0)
    (hat : regAt addr = some (r, i, 0)) (hw : r.info.width = 64) :
    exec (.lowerHalfRead addr) s = .next (s.onDev fun d => d.bar0Read s.dtime addr 4) := by
  have hlow : lowerHalf addr = true := by simp [lowerHalf, hal, hat, hw]
  show execLowerHalfRead addr s = _
  simp [execLowerHalfRead, run, State.onDev, h, hlow]

/-- An 8-byte read of a 64-bit register returns its word and uses no latch. -/
theorem readClear_both_halves {addr i : Nat} {r : Reg} {s : State} (hans : s.dev.answers = true) (hal : addr % 8 = 0)
    (hlo : regAt addr = some (r, i, 0)) (hhi : regAt (addr + 4) = some (r, i, 4)) :
    ∃ t, exec (.readClear addr 8) s = .next t ∧ t.dev.hostRead = some (addr, 8, s.dev.regSeen s.dtime r i % 2 ^ 64)
      ∧ t.dev.latches = s.dev.latches :=
  ⟨_, exec_readClear addr 8 hans, by rw [State.onDev_hostRead, Dev.bar0Read_eight _ _ hal, Dev.readPart_both _ _ hlo hhi],
    by simp [Dev.bar0Read_eight _ _ hal]⟩

/-- A 4-byte read of the lower half changes its RC fields, the latches and the host's answer, and nothing else. -/
theorem frame_lower_half {addr i : Nat} {r : Reg} (s : State) (hal : addr % 4 = 0) (hat : regAt addr = some (r, i, 0))
    (hw : r.info.width = 64) :
    Frame (fun g j => g ∈ r.fields ∧ g.info.access = .RC ∧ j = i) [.hostRead, .latches] [] [] s
      (s.onDev fun d => d.bar0Read s.dtime addr 4) := by
  obtain ⟨regs, c, hclears⟩ := s.dev.readClears_eq r i 0 32
  apply State.frame_onDev <;> simp only [Dev.bar0Read_four _ _ hal, Dev.read4_lower _ _ hat hw]
  case hregs => exact fun g j hg => s.dev.getF_readClears r i 0 32 hg
  all_goals rw [hclears]
  case hparts => intro p hp; cases p <;> simp [Part.same, Dev.latchUpper] at hp ⊢
  case hheads => exact fun h _ => rfl
  case hspins => exact fun h _ => rfl

/-- The read of the lower half of a 64-bit register: its answer, its latch and its frame. -/
theorem lowerHalfRead_latches_upper {addr i : Nat} {r : Reg} {s : State} (hans : s.dev.answers = true) (hal : addr % 4 = 0)
    (hat : regAt addr = some (r, i, 0)) (hw : r.info.width = 64) :
    ∃ t, exec (.lowerHalfRead addr) s = .next t
      ∧ t.dev.hostRead = some (addr, 4, s.dev.regSeen s.dtime r i % 2 ^ 32)
      ∧ t.dev.latch? (addr + 4) = some (s.dev.regSeen s.dtime r i / 2 ^ 32 % 2 ^ 32)
      ∧ Frame (fun g j => g ∈ r.fields ∧ g.info.access = .RC ∧ j = i) [.hostRead, .latches] [] [] s t := by
  refine ⟨_, exec_lowerHalfRead hans hal hat hw, ?answer, ?latched, frame_lower_half s hal hat hw⟩
  case answer => simp [Dev.bar0Read_four _ _ hal, Dev.read4_lower _ _ hat hw]
  case latched =>
    rw [State.onDev_latch?, Dev.bar0Read_four _ _ hal, Dev.read4_lower _ _ hat hw]
    exact Dev.latch?_latchUpper ..

/-- A 4-byte read of the upper half of a 64-bit register answers with the latch, or the half as it stands, and leaves no latch. -/
theorem readClear_upper_half {addr i : Nat} {r : Reg} {s : State} (hans : s.dev.answers = true) (hal : addr % 4 = 0)
    (hat : regAt addr = some (r, i, 4)) (hw : r.info.width = 64) :
    ∃ t, exec (.readClear addr 4) s = .next t
      ∧ t.dev.hostRead = some (addr, 4, (s.dev.latch? addr).getD (s.dev.regSeen s.dtime r i / 2 ^ 32 % 2 ^ 32))
      ∧ t.dev.latch? addr = none := by
  refine ⟨_, exec_readClear addr 4 hans, ?answer, ?consumed⟩
  case answer => simp [Dev.bar0Read_four _ _ hal, Dev.read4_upper _ _ hat hw]
  case consumed =>
    rw [State.onDev_latch?, Dev.bar0Read_four _ _ hal, Dev.read4_upper _ _ hat hw]
    exact Dev.latch?_consumeLatch ..

/-- Settles O9: the value latched is taken from the device before the read clears its RC fields, and the upper half has one read law,
with and without a latch. -/
theorem halvesOfA64BitRegister : Obligations.HalvesOfA64BitRegister := by
  unfold Obligations.HalvesOfA64BitRegister
  refine ⟨fun _ _ _ _ hans hal hlo hhi _ => readClear_both_halves hans hal hlo hhi,
    fun _ _ _ _ hans hal hat hw => lowerHalfRead_latches_upper hans hal hat hw,
    fun _ _ _ _ _ hans hal hat hw hlatch => ?latched, fun _ _ _ _ hans hal hat hw hlatch => ?unlatched⟩
  case latched => simpa [hlatch] using readClear_upper_half hans hal hat hw
  case unlatched =>
    obtain ⟨t, hexec, hread, -⟩ := readClear_upper_half hans hal hat hw
    exact ⟨t, hexec, by simpa [hlatch] using hread⟩

end Sys2Proof.Machine
end

section
/-! PROOFS. Parity members (R235): the arithmetic of GF(2⁸) as bilinear maps on the bits of a byte, and what the parity of a row
holds at a byte position. -/

namespace Sys2Proof.Machine

/-! ## Bits and bytes under XOR -/

theorem bit_eq_testBit (x n : Nat) : bit x n = x.testBit n := Nat.testBit_eq_decide_div_mod_eq.symm

/-- XOR clears a highest bit that two numbers share. -/
theorem xor_lt_two_pow_of_testBit_eq {n x y : Nat} (hx : x < 2 ^ (n + 1)) (hy : y < 2 ^ (n + 1)) (h : x.testBit n = y.testBit n) :
    x ^^^ y < 2 ^ n := by
  refine Nat.lt_pow_two_of_testBit _ fun i hi => ?_
  obtain rfl | hi := hi.eq_or_lt
  · simp [h]
  · have hle : 2 ^ (n + 1) ≤ 2 ^ i := Nat.pow_le_pow_right (by decide) hi
    simp [Nat.testBit_lt_two_pow (hx.trans_le hle), Nat.testBit_lt_two_pow (hy.trans_le hle)]

/-- A statement about a byte holds when it holds of 0 and of each power of two, and XOR keeps it. -/
theorem byte_xor_induction {P : Nat → Prop} (zero : P 0) (pow : ∀ k < 8, P (2 ^ k)) (xor : ∀ a b, P a → P b → P (a ^^^ b)) :
    ∀ a < 256, P a := by
  suffices h : ∀ n ≤ 8, ∀ x < 2 ^ n, P x from h 8 le_rfl
  intro n
  induction n with
  | zero => simpa using zero
  | succ n ih =>
    intro hn x hx
    cases htop : x.testBit n with
    | false => exact ih (by omega) x (by simpa using xor_lt_two_pow_of_testBit_eq (y := 0) hx (by positivity) (by simp [htop]))
    | true =>
      have hrest : x ^^^ 2 ^ n < 2 ^ n :=
        xor_lt_two_pow_of_testBit_eq hx (Nat.pow_lt_pow_right (by decide) n.lt_succ_self) (by simp [htop])
      have hback : x ^^^ 2 ^ n ^^^ 2 ^ n = x := by simp
      exact hback ▸ xor _ _ (ih (by omega) _ hrest) (pow n (by omega))

/-- XOR of sums taken over one list is the sum of the XORs. -/
theorem foldl_xor_xor {α : Type} (f g : α → Nat) (l : List α) (x y : Nat) :
    l.foldl (fun acc k => acc ^^^ (f k ^^^ g k)) (x ^^^ y)
      = l.foldl (fun acc k => acc ^^^ f k) x ^^^ l.foldl (fun acc k => acc ^^^ g k) y := by
  induction l generalizing x y with
  | nil => rfl
  | cons k l ih => simp only [List.foldl_cons, ← ih, Nat.xor_assoc, Nat.xor_left_comm (f k)]

/-- A sum of bytes is a byte. -/
theorem foldl_xor_lt {α : Type} {f : α → Nat} (hf : ∀ k, f k < 256) (l : List α) {x : Nat} (hx : x < 256) :
    l.foldl (fun acc k => acc ^^^ f k) x < 256 := by
  induction l generalizing x with
  | nil => exact hx
  | cons k l ih => exact ih (Nat.xor_lt_two_pow (n := 8) hx (hf k))

/-! ## Doubling and its powers -/

theorem iter_eq_iterate {α : Type} (f : α → α) (n : Nat) (a : α) : iter f n a = f^[n] a := by
  induction n generalizing a with
  | zero => rfl
  | succ n ih => exact ih (f a)

/-- Doubling is a shift, reduced by 0x11D when bit 7 leaves the byte. -/
theorem gfDouble_eq (a : Nat) : gfDouble a = (a % 2 ^ 8) <<< 1 ^^^ if a.testBit 7 then 0x11D else 0 := by
  have hbit : a.testBit 7 = decide (128 ≤ a % 256) := by
    rw [Nat.testBit_eq_decide_div_mod_eq, decide_eq_decide]; omega
  by_cases h : 128 ≤ a % 256 <;> simp [gfDouble, hbit, h, Nat.shiftLeft_eq, Nat.mul_comm]

theorem gfDouble_lt (a : Nat) : gfDouble a < 256 := by
  have hshift : (a % 2 ^ 8) <<< 1 < 2 ^ 9 := by rw [Nat.shiftLeft_eq]; omega
  rw [gfDouble_eq]
  refine xor_lt_two_pow_of_testBit_eq (n := 8) hshift (by split <;> decide) ?_
  have hmod : (a % 256).testBit 7 = a.testBit 7 := by simpa using Nat.testBit_mod_two_pow a 8 7
  cases h : a.testBit 7 <;> simp [hmod, h]
  decide

theorem gfDouble_xor (a b : Nat) : gfDouble (a ^^^ b) = gfDouble a ^^^ gfDouble b := by
  have hpoly : (if (a ^^^ b).testBit 7 then 0x11D else 0)
      = (if a.testBit 7 then 0x11D else 0) ^^^ (if b.testBit 7 then 0x11D else 0) := by
    rw [Nat.testBit_xor]
    cases a.testBit 7 <;> cases b.testBit 7 <;> rfl
  rw [gfDouble_eq, gfDouble_eq, gfDouble_eq, hpoly, Nat.xor_mod_two_pow, Nat.shiftLeft_xor_distrib]
  ac_rfl

theorem gfShift_zero (a : Nat) : gfShift 0 a = a % 256 := rfl

theorem gfShift_succ (i a : Nat) : gfShift (i + 1) a = gfDouble (gfShift i a) := by
  simp only [gfShift, iter_eq_iterate, Function.iterate_succ_apply']

theorem gfShift_lt (i a : Nat) : gfShift i a < 256 := by
  cases i with
  | zero => exact Nat.mod_lt _ (by decide)
  | succ i => rw [gfShift_succ]; exact gfDouble_lt _

theorem gfShift_xor (i a b : Nat) : gfShift i (a ^^^ b) = gfShift i a ^^^ gfShift i b := by
  induction i with
  | zero => exact Nat.xor_mod_two_pow (n := 8)
  | succ i ih => simp only [gfShift_succ, ih, gfDouble_xor]

theorem gfShift_gfShift (i j a : Nat) : gfShift i (gfShift j a) = gfShift (i + j) a := by
  rw [gfShift, Nat.mod_eq_of_lt (gfShift_lt j a)]
  simp only [gfShift, iter_eq_iterate, Function.iterate_add_apply]

/-- The first eight powers of g are not reduced. -/
theorem gfShift_one_eq_two_pow : ∀ k < 8, gfShift k 1 = 2 ^ k := by decide

/-! ## The product -/

/-- What bit k of the second factor adds to a product. -/
def gfTerm (a b k : Nat) : Nat := if b.testBit k then gfShift k a else 0

theorem gfMul_eq (a b : Nat) : gfMul a b = (List.range 8).foldl (fun acc k => acc ^^^ gfTerm a b k) 0 := by
  have hstep : ∀ acc k, (if bit b k then Nat.xor acc (gfShift k a) else acc) = acc ^^^ gfTerm a b k := by
    intro acc k
    cases hb : b.testBit k <;> simp [gfTerm, bit_eq_testBit, hb]
  simp only [gfMul, hstep]

theorem gfMul_lt (a b : Nat) : gfMul a b < 256 := by
  rw [gfMul_eq]
  refine foldl_xor_lt (fun k => ?_) _ (by decide)
  unfold gfTerm
  split
  · exact gfShift_lt k a
  · decide

theorem gfMul_xor_right (a b c : Nat) : gfMul a (b ^^^ c) = gfMul a b ^^^ gfMul a c := by
  have hterm : ∀ k, gfTerm a (b ^^^ c) k = gfTerm a b k ^^^ gfTerm a c k := by
    intro k
    simp only [gfTerm, Nat.testBit_xor]
    cases b.testBit k <;> cases c.testBit k <;> simp
  simp only [gfMul_eq, hterm, ← foldl_xor_xor, Nat.xor_self]

theorem gfMul_xor_left (a b c : Nat) : gfMul (a ^^^ b) c = gfMul a c ^^^ gfMul b c := by
  have hterm : ∀ k, gfTerm (a ^^^ b) c k = gfTerm a c k ^^^ gfTerm b c k := by
    intro k
    cases hc : c.testBit k <;> simp [gfTerm, hc, gfShift_xor]
  simp only [gfMul_eq, hterm, ← foldl_xor_xor, Nat.xor_self]

theorem gfMul_zero_right (a : Nat) : gfMul a 0 = 0 := by simpa using gfMul_xor_right a 0 0

theorem gfMul_zero_left (a : Nat) : gfMul 0 a = 0 := by simpa using gfMul_xor_left 0 0 a

/-- A power of two as the second factor has one bit, so one term. -/
theorem gfMul_two_pow (a : Nat) {k : Nat} (hk : k < 8) : gfMul a (2 ^ k) = gfShift k a := by
  simp only [gfMul_eq, gfTerm, Nat.testBit_two_pow]
  interval_cases k <;> simp [List.range_succ]

/-- The product of two powers of g depends on the sum of their exponents alone. -/
theorem gfMul_two_pow_two_pow {j k : Nat} (hj : j < 8) (hk : k < 8) : gfMul (2 ^ j) (2 ^ k) = gfShift (k + j) 1 := by
  rw [gfMul_two_pow _ hk, ← gfShift_one_eq_two_pow j hj, gfShift_gfShift]

/-- The product commutes: both orders are bilinear under XOR and agree on the powers of two. -/
theorem gfMul_comm {a b : Nat} (ha : a < 256) (hb : b < 256) : gfMul a b = gfMul b a := by
  refine byte_xor_induction (P := fun a => gfMul a b = gfMul b a) ?zero ?pow ?xor a ha
  case zero => rw [gfMul_zero_left, gfMul_zero_right]
  case xor => intro a c iha ihc; rw [gfMul_xor_left, gfMul_xor_right, iha, ihc]
  case pow =>
    intro j hj
    refine byte_xor_induction (P := fun b => gfMul (2 ^ j) b = gfMul b (2 ^ j)) ?zero ?pow ?xor b hb
    case zero => rw [gfMul_zero_left, gfMul_zero_right]
    case xor => intro b c ihb ihc; rw [gfMul_xor_left, gfMul_xor_right, ihb, ihc]
    case pow => intro k hk; rw [gfMul_two_pow_two_pow hj hk, gfMul_two_pow_two_pow hk hj, Nat.add_comm]

theorem gfMul_one {a : Nat} (ha : a < 256) : gfMul a 1 = a :=
  (gfMul_two_pow a (k := 0) (by decide)).trans (Nat.mod_eq_of_lt ha)

theorem gfMul_two {a : Nat} (ha : a < 256) : gfMul 2 a = gfDouble a := by
  rw [gfMul_comm (by decide) ha, ← pow_one 2, gfMul_two_pow a (by decide), gfShift_succ, gfShift_zero, Nat.mod_eq_of_lt ha]

theorem gfDouble_of_lt {a : Nat} (ha : a < 256) : gfDouble a = if a < 128 then 2 * a else Nat.xor (2 * a) 0x11D := by
  rw [gfDouble, Nat.mod_eq_of_lt ha]
  simp only [← not_lt, ite_not]

/-! ## Parity at a byte position -/

theorem xorBytes_nil_right (a : List Byte) : xorBytes a [] = a := by cases a <;> rfl

theorem length_xorBytes (a b : List Byte) : (xorBytes a b).length = max a.length b.length := by
  induction a generalizing b with
  | nil => simp [xorBytes]
  | cons x a ih =>
    cases b with
    | nil => simp [xorBytes]
    | cons y b => simp [xorBytes, ih]

theorem getD_xorBytes (a b : List Byte) (j : Nat) : (xorBytes a b).getD j 0 = a.getD j 0 ^^^ b.getD j 0 := by
  induction a generalizing b j with
  | nil => simp [xorBytes]
  | cons x a ih =>
    cases b with
    | nil => simp [xorBytes]
    | cons y b =>
      cases j with
      | zero => simp [xorBytes]
      | succ j => simpa [xorBytes] using ih b j

theorem getD_scaleBytes (c : Nat) (a : List Byte) (j : Nat) :
    (scaleBytes c a).getD j 0 = BitVec.ofNat 8 (gfMul c (a.getD j 0).toNat) := by
  rw [scaleBytes, List.getD_eq_getElem?_getD, List.getD_eq_getElem?_getD, List.getElem?_map]
  cases a[j]? with
  | none => simp [gfMul_zero_right]
  | some x => rfl

section
variable {α : Type} (f : α → List Byte)

theorem length_foldl_xorBytes {n : Nat} {l : List α} (hl : ∀ x ∈ l, (f x).length = n) {a : List Byte} (ha : a.length = n) :
    (l.foldl (fun a x => xorBytes a (f x)) a).length = n := by
  induction l generalizing a with
  | nil => exact ha
  | cons x l ih =>
    obtain ⟨hx, hrest⟩ := List.forall_mem_cons.1 hl
    exact ih hrest (by rw [length_xorBytes, ha, hx, max_self])

theorem getD_foldl_xorBytes (l : List α) (a : List Byte) (j : Nat) :
    (l.foldl (fun a x => xorBytes a (f x)) a).getD j 0 = l.foldl (fun b x => b ^^^ (f x).getD j 0) (a.getD j 0) := by
  induction l generalizing a with
  | nil => rfl
  | cons x l ih => simp only [List.foldl_cons, ih, getD_xorBytes]

/-- Byte j of the XOR of byte lists of one length n is the XOR of their bytes j. -/
theorem getElem?_foldl_xorBytes {n j : Nat} {l : List α} (hne : l ≠ []) (hl : ∀ x ∈ l, (f x).length = n) (hj : j < n) :
    (l.foldl (fun a x => xorBytes a (f x)) [])[j]? = some (l.foldl (fun b x => b ^^^ (f x).getD j 0) 0) := by
  have hlen : (l.foldl (fun a x => xorBytes a (f x)) []).length = n := by
    cases l with
    | nil => exact absurd rfl hne
    | cons x l =>
      obtain ⟨hx, hrest⟩ := List.forall_mem_cons.1 hl
      exact length_foldl_xorBytes f hrest hx
  have hget := getD_foldl_xorBytes f l [] j
  rw [List.getD_eq_getElem _ _ (hlen.symm ▸ hj)] at hget
  rw [List.getElem?_eq_getElem (hlen.symm ▸ hj), hget]
  rfl

end

/-- The data members of a row, listed by their indices. -/
def dataMembers (k : Nat) (D : Nat → List Byte) : List (Nat × List Byte) := (List.range k).map fun i => (i, D i)

/-- The parity of a first write is taken over all data members. -/
theorem rowParity_dataMembers (k : Nat) (D : Nat → List Byte) :
    rowParity false k (dataMembers k D) [] = (chainP (dataMembers k D), chainQ (dataMembers k D)) := by
  have hall : (dataMembers k D).filter (fun x => decide (x.1 < k)) = dataMembers k D :=
    List.filter_eq_self.2 (by simp [dataMembers])
  simp [rowParity, hall]

section
variable {k n j : Nat} {D : Nat → List Byte} (hk : 0 < k) (hD : ∀ i < k, (D i).length = n) (hj : j < n)
include hk hD hj

theorem chainP_getElem? :
    (chainP (dataMembers k D))[j]? = some ((List.range k).foldl (fun a i => a ^^^ (D i).getD j 0) 0) := by
  have hne : List.range k ≠ [] := by simpa using hk.ne'
  rw [chainP, dataMembers, List.foldl_map]
  exact getElem?_foldl_xorBytes D hne (fun i hi => hD i (List.mem_range.1 hi)) hj

theorem chainQ_getElem? :
    (chainQ (dataMembers k D))[j]?
      = some ((List.range k).foldl (fun a i => a ^^^ BitVec.ofNat 8 (gfMul (gfShift i 1) ((D i).getD j 0).toNat)) 0) := by
  have hne : List.range k ≠ [] := by simpa using hk.ne'
  have hlen : ∀ i ∈ List.range k, (scaleBytes (gfShift i 1) (D i)).length = n := by
    intro i hi; simpa [scaleBytes] using hD i (List.mem_range.1 hi)
  rw [chainQ, dataMembers, List.foldl_map, getElem?_foldl_xorBytes (fun i => scaleBytes (gfShift i 1) (D i)) hne hlen hj]
  simp only [getD_scaleBytes]

end

/-- Settles O39: parity is taken position by position, and the product is bilinear under XOR, so that its laws follow from those of
the powers of two. -/
theorem parityOfARow : Obligations.ParityOfARow := by
  unfold Obligations.ParityOfARow
  refine ⟨fun k D hk _ hD j hj => ?row, fun a b c ha hb _ => ?field, fun i => ?powers, ?bytes⟩
  case row =>
    change (rowParity false k (dataMembers k D) []).1[j]? = _ ∧ (rowParity false k (dataMembers k D) []).2[j]? = _
    rw [rowParity_dataMembers]
    exact ⟨chainP_getElem? hk hD hj, chainQ_getElem? hk hD hj⟩
  case field =>
    exact ⟨gfMul_lt a b, gfMul_comm ha hb, gfMul_xor_right a b c, gfMul_one ha, (gfMul_two ha).trans (gfDouble_of_lt ha)⟩
  case powers => exact ⟨rfl, by rw [gfShift_succ, gfMul_two (gfShift_lt i 1)]⟩
  case bytes => decide

end Sys2Proof.Machine
end

section
/-! PROOFS. Lost members of a row (R236): powers of g and their inverses, sums of bytes over the members of a row, and that the
members left determine the members lost. -/

namespace Sys2Proof.Machine

/-! ## Powers of g -/

/-- A power of g times a byte is the shifted byte. -/
theorem gfMul_gfShift_one (i : Nat) {a : Nat} (ha : a < 256) : gfMul (gfShift i 1) a = gfShift i a := by
  refine byte_xor_induction (P := fun a => gfMul (gfShift i 1) a = gfShift i a) ?zero ?pow ?xor a ha
  case zero =>
    have hzero : gfShift i 0 = 0 := by simpa using gfShift_xor i 0 0
    rw [gfMul_zero_right, hzero]
  case pow =>
    intro k hk
    rw [gfMul_two_pow _ hk, ← gfShift_one_eq_two_pow k hk, gfShift_gfShift, gfShift_gfShift, Nat.add_comm]
  case xor => intro a b iha ihb; rw [gfMul_xor_right, gfShift_xor, iha, ihb]

theorem gfShift_mul_gfShift (i j : Nat) : gfMul (gfShift i 1) (gfShift j 1) = gfShift (i + j) 1 := by
  rw [gfMul_gfShift_one i (gfShift_lt j 1), gfShift_gfShift]

/-- The order of g is 255. -/
theorem gfShift_order : gfShift 255 1 = 1 := by decide +kernel

/-- Multiplying by a power of g whose exponent is a multiple of 255 leaves a byte. -/
theorem gfShift_mul_order (n : Nat) {a : Nat} (ha : a < 256) : gfShift (255 * n) a = a := by
  have hone : gfShift (255 * n) 1 = 1 := by
    induction n with
    | zero => rfl
    | succ n ih => rw [Nat.mul_succ, ← gfShift_gfShift, gfShift_order, ih]
  rw [← gfMul_gfShift_one _ ha, hone, gfMul_comm (by decide) ha, gfMul_one ha]

/-- The inverse of a power of g is a power of g. -/
theorem gfInv_gfShift (i : Nat) : gfInv (gfShift i 1) = gfShift (254 * i) 1 := by
  have hpow : ∀ n j, (fun x => gfMul x (gfShift i 1))^[n] (gfShift j 1) = gfShift (j + n * i) 1 := by
    intro n
    induction n with
    | zero => intro j; simp
    | succ n ih =>
      intro j
      rw [Function.iterate_succ_apply, gfShift_mul_gfShift, ih]
      congr 1
      ring
  rw [gfInv, Nat.mod_eq_of_lt (gfShift_lt i 1), iter_eq_iterate, hpow]
  congr 1
  ring

/-- The inverse of a power of g undoes the product with it. -/
theorem gfMul_gfInv_gfShift (i : Nat) {a : Nat} (ha : a < 256) : gfMul (gfInv (gfShift i 1)) (gfMul (gfShift i 1) a) = a := by
  rw [gfInv_gfShift, gfMul_gfShift_one i ha, gfMul_gfShift_one _ (gfShift_lt i a), gfShift_gfShift]
  rw [show 254 * i + i = 255 * i by ring, gfShift_mul_order i ha]

/-- The exponents of 1 + g^d, for d from 1 to 15. -/
def gfLogs : List Nat := [25, 50, 223, 100, 138, 191, 112, 200, 120, 21, 245, 127, 99, 224, 33]

theorem one_xor_gfShift : ∀ d < 15, 1 ^^^ gfShift (d + 1) 1 = gfShift (gfLogs.getD d 0) 1 := by decide +kernel

/-- The sum of two different powers of g below g^16 is a power of g. -/
theorem gfShift_xor_gfShift {x y : Nat} (hxy : x < y) (hy : y < 16) : ∃ i, gfShift x 1 ^^^ gfShift y 1 = gfShift i 1 := by
  obtain ⟨d, rfl⟩ : ∃ d, y = x + (d + 1) := ⟨y - x - 1, by omega⟩
  exact ⟨x + gfLogs.getD d 0, by rw [← gfShift_gfShift x (d + 1), ← gfShift_xor, one_xor_gfShift d (by omega), gfShift_gfShift]⟩

/-! ## A constant times a byte -/

/-- The byte that a constant times a byte gives. -/
def gfByte (c : Nat) (b : Byte) : Byte := BitVec.ofNat 8 (gfMul c b.toNat)

theorem toNat_gfByte (c : Nat) (b : Byte) : (gfByte c b).toNat = gfMul c b.toNat := by
  rw [gfByte, BitVec.toNat_ofNat]
  exact Nat.mod_eq_of_lt (gfMul_lt _ _)

theorem gfByte_xor (c : Nat) (a b : Byte) : gfByte c (a ^^^ b) = gfByte c a ^^^ gfByte c b := by
  apply BitVec.eq_of_toNat_eq
  simp only [toNat_gfByte, BitVec.toNat_xor, gfMul_xor_right]

theorem gfByte_xor_left (c d : Nat) (b : Byte) : gfByte (c ^^^ d) b = gfByte c b ^^^ gfByte d b := by
  apply BitVec.eq_of_toNat_eq
  simp only [toNat_gfByte, BitVec.toNat_xor, gfMul_xor_left]

theorem gfByte_gfInv (i : Nat) (b : Byte) : gfByte (gfInv (gfShift i 1)) (gfByte (gfShift i 1) b) = b := by
  apply BitVec.eq_of_toNat_eq
  simp only [toNat_gfByte, gfMul_gfInv_gfShift i b.isLt]

/-- Two lost bytes are those that their P and their Q determine. -/
theorem gfByte_two_lost {x y : Nat} (hxy : x < y) (hy : y < 16) (a b : Byte) :
    gfByte (gfInv (Nat.xor (gfShift x 1) (gfShift y 1)))
      (gfByte (gfShift y 1) (a ^^^ b) ^^^ (gfByte (gfShift x 1) a ^^^ gfByte (gfShift y 1) b)) = a := by
  obtain ⟨i, hi⟩ := gfShift_xor_gfShift hxy hy
  have hsum : gfByte (gfShift y 1) (a ^^^ b) ^^^ (gfByte (gfShift x 1) a ^^^ gfByte (gfShift y 1) b) = gfByte (gfShift i 1) a := by
    rw [← hi, gfByte_xor_left, gfByte_xor]
    generalize gfByte (gfShift y 1) a = u
    generalize gfByte (gfShift y 1) b = v
    generalize gfByte (gfShift x 1) a = w
    rw [BitVec.xor_comm w v, BitVec.xor_assoc, ← BitVec.xor_assoc v v w, BitVec.xor_self, BitVec.zero_xor, BitVec.xor_comm]
  rw [hsum, show Nat.xor (gfShift x 1) (gfShift y 1) = gfShift i 1 from hi, gfByte_gfInv]

/-! ## Sums over the members of a row -/

/-- The XOR of one byte of each listed member. -/
def byteSum (f : Nat → Byte) (l : List Nat) : Byte := l.foldl (fun a i => a ^^^ f i) 0

theorem byteSum_cons (f : Nat → Byte) (i : Nat) (l : List Nat) : byteSum f (i :: l) = f i ^^^ byteSum f l := by
  have hacc : ∀ (l : List Nat) (a b : Byte), l.foldl (fun a i => a ^^^ f i) (a ^^^ b) = a ^^^ l.foldl (fun a i => a ^^^ f i) b := by
    intro l
    induction l with
    | nil => intro a b; rfl
    | cons j l ih => intro a b; rw [List.foldl_cons, List.foldl_cons, BitVec.xor_assoc, ih]
  rw [byteSum, List.foldl_cons, BitVec.xor_comm]
  exact hacc l (f i) 0

theorem byteSum_singleton (f : Nat → Byte) (i : Nat) : byteSum f [i] = f i := BitVec.zero_xor

theorem byteSum_pair (f : Nat → Byte) (i j : Nat) : byteSum f [i, j] = f i ^^^ f j := by rw [byteSum_cons, byteSum_singleton]

theorem byteSum_append (f : Nat → Byte) (l l' : List Nat) : byteSum f (l ++ l') = byteSum f l ^^^ byteSum f l' := by
  induction l with
  | nil => simp [byteSum]
  | cons i l ih => rw [List.cons_append, byteSum_cons, byteSum_cons, ih, BitVec.xor_assoc]

theorem byteSum_perm (f : Nat → Byte) {l l' : List Nat} (h : l.Perm l') : byteSum f l = byteSum f l' := by
  induction h with
  | nil => rfl
  | cons i _ ih => rw [byteSum_cons, byteSum_cons, ih]
  | swap i j l => simp only [byteSum_cons, ← BitVec.xor_assoc, BitVec.xor_comm (f i)]
  | trans _ _ ih ih' => rw [ih, ih']

/-- Two byte lists of one length are the same when their bytes are. -/
theorem bytes_eq_of_getD {a b : List Byte} (hlen : a.length = b.length) (h : ∀ j, a.getD j 0 = b.getD j 0) : a = b := by
  refine List.ext_getElem hlen fun j ha hb => ?_
  simpa [ha, hb] using h j

/-- The listed data members of a row, with their indices. -/
def membersAt (D : Nat → List Byte) (l : List Nat) : List (Nat × List Byte) := l.map fun i => (i, D i)

theorem getD_chainP (D : Nat → List Byte) (l : List Nat) (j : Nat) :
    (chainP (membersAt D l)).getD j 0 = byteSum (fun i => (D i).getD j 0) l := by
  rw [chainP, membersAt, List.foldl_map, getD_foldl_xorBytes]
  rfl

theorem getD_chainQ (D : Nat → List Byte) (l : List Nat) (j : Nat) :
    (chainQ (membersAt D l)).getD j 0 = byteSum (fun i => gfByte (gfShift i 1) ((D i).getD j 0)) l := by
  rw [chainQ, membersAt, List.foldl_map, getD_foldl_xorBytes (fun i => scaleBytes (gfShift i 1) (D i))]
  simp only [getD_scaleBytes]
  rfl

/-- A fold of byte lists of one length has that length, unless it is of none. -/
theorem length_foldl_xorBytes_nil (f : Nat → List Byte) {n : Nat} {l : List Nat} (hl : ∀ i ∈ l, (f i).length = n) :
    (l.foldl (fun a i => xorBytes a (f i)) []).length = if l = [] then 0 else n := by
  cases l with
  | nil => rfl
  | cons i l =>
    obtain ⟨hi, hrest⟩ := List.forall_mem_cons.1 hl
    exact length_foldl_xorBytes f hrest hi

section
variable {D : Nat → List Byte} {n : Nat} {l : List Nat} (hl : ∀ i ∈ l, (D i).length = n)
include hl

theorem length_chainP : (chainP (membersAt D l)).length = if l = [] then 0 else n := by
  rw [chainP, membersAt, List.foldl_map]
  exact length_foldl_xorBytes_nil D hl

theorem length_chainQ : (chainQ (membersAt D l)).length = if l = [] then 0 else n := by
  rw [chainQ, membersAt, List.foldl_map]
  exact length_foldl_xorBytes_nil (fun i => scaleBytes (gfShift i 1) (D i)) (by simpa [scaleBytes] using hl)

end

/-- The parity over members in another order is the same. -/
theorem chainP_perm {D : Nat → List Byte} {n : Nat} {l l' : List Nat} (hl : ∀ i ∈ l, (D i).length = n) (h : l.Perm l') :
    chainP (membersAt D l) = chainP (membersAt D l') := by
  refine bytes_eq_of_getD ?_ fun j => by rw [getD_chainP, getD_chainP, byteSum_perm _ h]
  have hnil : l = [] ↔ l' = [] := ⟨fun e => by simpa [e] using h, fun e => by simpa [e] using h⟩
  rw [length_chainP hl, length_chainP fun i hi => hl i (h.mem_iff.2 hi)]
  simp only [hnil]

theorem chainQ_perm {D : Nat → List Byte} {n : Nat} {l l' : List Nat} (hl : ∀ i ∈ l, (D i).length = n) (h : l.Perm l') :
    chainQ (membersAt D l) = chainQ (membersAt D l') := by
  refine bytes_eq_of_getD ?_ fun j => by rw [getD_chainQ, getD_chainQ, byteSum_perm _ h]
  have hnil : l = [] ↔ l' = [] := ⟨fun e => by simpa [e] using h, fun e => by simpa [e] using h⟩
  rw [length_chainQ hl, length_chainQ fun i hi => hl i (h.mem_iff.2 hi)]
  simp only [hnil]

/-! ## What the members left determine -/

section
variable {D : Nat → List Byte} {n : Nat} {all left miss : List Nat} (hD : ∀ i ∈ all, (D i).length = n) (hperm : (left ++ miss).Perm all)
  (hmiss : miss ≠ [])
include hD hperm hmiss

/-- The parity P and the members left have between them the XOR of the members lost. -/
theorem chainP_residue : (xorBytes (chainP (membersAt D all)) (chainP (membersAt D left))).length = n
    ∧ ∀ j, (xorBytes (chainP (membersAt D all)) (chainP (membersAt D left))).getD j 0 = byteSum (fun i => (D i).getD j 0) miss := by
  have hleft : ∀ i ∈ left, (D i).length = n := fun i hi => hD i (hperm.subset (List.mem_append_left _ hi))
  have hne : all ≠ [] := by rintro rfl; simp_all
  refine ⟨?_, fun j => ?_⟩
  · rw [length_xorBytes, length_chainP hD, length_chainP hleft, if_neg hne]
    split <;> simp
  · rw [getD_xorBytes, getD_chainP, getD_chainP, ← byteSum_perm _ hperm, byteSum_append, BitVec.xor_comm, ← BitVec.xor_assoc,
      BitVec.xor_self, BitVec.zero_xor]

/-- The parity Q and the members left have between them the weighted XOR of the members lost. -/
theorem chainQ_residue : (xorBytes (chainQ (membersAt D all)) (chainQ (membersAt D left))).length = n
    ∧ ∀ j, (xorBytes (chainQ (membersAt D all)) (chainQ (membersAt D left))).getD j 0
        = byteSum (fun i => gfByte (gfShift i 1) ((D i).getD j 0)) miss := by
  have hleft : ∀ i ∈ left, (D i).length = n := fun i hi => hD i (hperm.subset (List.mem_append_left _ hi))
  have hne : all ≠ [] := by rintro rfl; simp_all
  refine ⟨?_, fun j => ?_⟩
  · rw [length_xorBytes, length_chainQ hD, length_chainQ hleft, if_neg hne]
    split <;> simp
  · rw [getD_xorBytes, getD_chainQ, getD_chainQ, ← byteSum_perm _ hperm, byteSum_append, BitVec.xor_comm, ← BitVec.xor_assoc,
      BitVec.xor_self, BitVec.zero_xor]

end

section
variable {D : Nat → List Byte} {n : Nat} {all left : List Nat} (hD : ∀ i ∈ all, (D i).length = n)
include hD

/-- P gives the one data member lost. -/
theorem one_lost_of_P {x : Nat} (hperm : (left ++ [x]).Perm all) :
    xorBytes (chainP (membersAt D all)) (chainP (membersAt D left)) = D x := by
  obtain ⟨hlen, hget⟩ := chainP_residue hD hperm (by simp)
  exact bytes_eq_of_getD (hlen.trans (hD x (hperm.subset (by simp))).symm) fun j => by rw [hget, byteSum_singleton]

/-- Q gives the one data member lost. -/
theorem one_lost_of_Q {x : Nat} (hperm : (left ++ [x]).Perm all) :
    scaleBytes (gfInv (gfShift x 1)) (xorBytes (chainQ (membersAt D all)) (chainQ (membersAt D left))) = D x := by
  obtain ⟨hlen, hget⟩ := chainQ_residue hD hperm (by simp)
  refine bytes_eq_of_getD ?_ fun j => ?_
  · rw [scaleBytes, List.length_map, hlen, hD x (hperm.subset (by simp))]
  · rw [getD_scaleBytes, hget, byteSum_singleton]
    exact gfByte_gfInv x ((D x).getD j 0)

/-- P and Q give the first of two data members lost. -/
theorem two_lost_of_PQ {x y : Nat} (hxy : x < y) (hy : y < 16) (hperm : (left ++ [x, y]).Perm all) :
    scaleBytes (gfInv (Nat.xor (gfShift x 1) (gfShift y 1)))
        (xorBytes (scaleBytes (gfShift y 1) (xorBytes (chainP (membersAt D all)) (chainP (membersAt D left))))
          (xorBytes (chainQ (membersAt D all)) (chainQ (membersAt D left)))) = D x
      ∧ xorBytes (xorBytes (chainP (membersAt D all)) (chainP (membersAt D left))) (D x) = D y := by
  obtain ⟨hlenP, hgetP⟩ := chainP_residue hD hperm (by simp)
  obtain ⟨hlenQ, hgetQ⟩ := chainQ_residue hD hperm (by simp)
  have hx : (D x).length = n := hD x (hperm.subset (by simp))
  have hy' : (D y).length = n := hD y (hperm.subset (by simp))
  refine ⟨bytes_eq_of_getD ?_ fun j => ?_, bytes_eq_of_getD ?_ fun j => ?_⟩
  · simp only [scaleBytes, List.length_map, length_xorBytes] at hlenP hlenQ ⊢
    omega
  · rw [getD_scaleBytes, getD_xorBytes, getD_scaleBytes, hgetP, hgetQ, byteSum_pair, byteSum_pair]
    exact gfByte_two_lost hxy hy ((D x).getD j 0) ((D y).getD j 0)
  · rw [length_xorBytes, hlenP, hx, hy', max_self]
  · rw [getD_xorBytes, hgetP, byteSum_pair, BitVec.xor_comm, ← BitVec.xor_assoc, BitVec.xor_self, BitVec.zero_xor]

end

/-! ## Members lost and members left -/

section
variable {k m n : Nat} {D : Nat → List Byte} {lost : List Nat}

/-- The data members lost. -/
def lostData (k : Nat) (lost : List Nat) : List Nat := (List.range k).filter fun j => lost.contains j

/-- The data members left. -/
def leftData (k : Nat) (lost : List Nat) : List Nat := (List.range k).filter fun j => !lost.contains j

/-- The row of a chain: its data members, P, and with two parity members Q. -/
def rowOf (k m : Nat) (D : Nat → List Byte) : List (Nat × List Byte) :=
  dataMembers k D ++ [(k, chainP (dataMembers k D))] ++ (if m = 2 then [(k + 1, chainQ (dataMembers k D))] else [])

/-- The members of a row that are left. -/
def rowLeft (k m : Nat) (D : Nat → List Byte) (lost : List Nat) : List (Nat × List Byte) :=
  (rowOf k m D).filter fun x => !lost.contains x.1

theorem leftData_append_lostData (k : Nat) (lost : List Nat) : (leftData k lost ++ lostData k lost).Perm (List.range k) := by
  have h := List.filter_append_perm (fun j => !lost.contains j) (List.range k)
  simpa only [leftData, lostData, Bool.not_not] using h

/-- The row left is the data members left, and each parity member that is not lost. -/
theorem rowLeft_eq (k m : Nat) (D : Nat → List Byte) (lost : List Nat) :
    rowLeft k m D lost = membersAt D (leftData k lost)
      ++ (if k ∈ lost then [] else [(k, chainP (dataMembers k D))])
      ++ (if m = 2 ∧ k + 1 ∉ lost then [(k + 1, chainQ (dataMembers k D))] else []) := by
  have hdata : (dataMembers k D).filter (fun x => !lost.contains x.1) = membersAt D (leftData k lost) := by
    rw [dataMembers, List.filter_map]
    rfl
  rw [rowLeft, rowOf, List.filter_append, List.filter_append, hdata]
  congr 2
  · by_cases h : k ∈ lost <;> simp [h]
  · by_cases h2 : m = 2 <;> by_cases h : k + 1 ∈ lost <;> simp [h2, h]

theorem mem_leftData_lt {i : Nat} (h : i ∈ leftData k lost) : i < k := List.mem_range.1 (List.mem_filter.1 h).1

theorem filter_rowLeft_data : (rowLeft k m D lost).filter (fun x => decide (x.1 < k)) = membersAt D (leftData k lost) := by
  have hkeep : (membersAt D (leftData k lost)).filter (fun x => decide (x.1 < k)) = membersAt D (leftData k lost) := by
    refine List.filter_eq_self.2 fun x hx => ?_
    obtain ⟨i, hi, rfl⟩ := List.mem_map.1 hx
    exact decide_eq_true (mem_leftData_lt hi)
  rw [rowLeft_eq, List.filter_append, List.filter_append, hkeep]
  split <;> split <;> simp

/-- What is found of a parity member among the members left. -/
theorem find?_rowLeft_P : (rowLeft k m D lost).find? (·.1 == k) = if k ∈ lost then none else some (k, chainP (dataMembers k D)) := by
  have hno : (membersAt D (leftData k lost)).find? (·.1 == k) = none := by
    refine List.find?_eq_none.2 fun x hx => ?_
    obtain ⟨i, hi, rfl⟩ := List.mem_map.1 hx
    have := mem_leftData_lt hi
    simp; omega
  rw [rowLeft_eq, List.find?_append, List.find?_append, hno]
  split <;> split <;> simp

theorem find?_rowLeft_Q : (rowLeft k m D lost).find? (·.1 == k + 1)
    = if m = 2 ∧ k + 1 ∉ lost then some (k + 1, chainQ (dataMembers k D)) else none := by
  have hno : (membersAt D (leftData k lost)).find? (·.1 == k + 1) = none := by
    refine List.find?_eq_none.2 fun x hx => ?_
    obtain ⟨i, hi, rfl⟩ := List.mem_map.1 hx
    have := mem_leftData_lt hi
    simp; omega
  rw [rowLeft_eq, List.find?_append, List.find?_append, hno]
  split <;> split <;> simp

theorem any_eq_isSome_find? {α : Type} (p : α → Bool) (l : List α) : l.any p = (l.find? p).isSome := by
  rw [Bool.eq_iff_iff, List.find?_isSome, List.any_eq_true]

/-- The members that rebuilding finds missing are the data members lost. -/
theorem missing_eq_lostData : ((List.range k).filter fun j => !(membersAt D (leftData k lost)).any (·.1 == j)) = lostData k lost := by
  refine List.filter_congr fun j hj => ?_
  rw [List.mem_range] at hj
  have hany : (membersAt D (leftData k lost)).any (·.1 == j) = !lost.contains j := by
    rw [Bool.eq_iff_iff]
    simp [membersAt, leftData, hj]
  rw [hany, Bool.not_not]

section
variable (hD : ∀ i < k, (D i).length = n) (hm : m = 1 ∨ m = 2) (hkm : k + m ≤ 16) (hcount : lost.length ≤ m)
include hD hm hkm hcount

/-- The data members lost are rebuilt (R236). -/
theorem rebuildData_rowLeft : rebuildData k (rowLeft k m D lost) = membersAt D (lostData k lost) := by
  have hall : ∀ i ∈ List.range k, (D i).length = n := fun i hi => hD i (List.mem_range.1 hi)
  have hperm := leftData_append_lostData k lost
  have hsub : ∀ j ∈ lostData k lost, j ∈ lost := fun j hj => by simpa using (List.mem_filter.1 hj).2
  have hlt : ∀ j ∈ lostData k lost, j < k := fun j hj => List.mem_range.1 (List.mem_filter.1 hj).1
  have hsorted : (lostData k lost).Pairwise (· < ·) := List.Pairwise.filter _ List.pairwise_lt_range
  have hsub3 : ∀ l : List Nat, l.Nodup → (∀ j ∈ l, j ∈ lost) → l.length ≤ 2 := fun l hl hl' =>
    ((List.subperm_of_subset hl hl').length_le.trans hcount).trans (by omega)
  unfold rebuildData
  simp only [missing_eq_lostData, filter_rowLeft_data, find?_rowLeft_P, find?_rowLeft_Q]
  generalize lostData k lost = miss at *
  match miss with
  | [] => simp [membersAt]
  | [x] =>
    by_cases hk : k ∈ lost
    · have hm2 : m = 2 := by
        have := (List.subperm_of_subset (l₁ := [x, k]) (by simpa using (hlt x (by simp)).ne) (by simpa using ⟨hsub x (by simp), hk⟩)).length_le
        simp at this; omega
      have hq : k + 1 ∉ lost := by
        intro hq
        have hx := hlt x (by simp)
        have := hsub3 [x, k, k + 1] (by simp; omega) (by simpa using ⟨hsub x (by simp), hk, hq⟩)
        simp at this
      simpa [hk, hm2, hq, membersAt, dataMembers] using one_lost_of_Q hall hperm
    · simpa [hk, membersAt, dataMembers] using one_lost_of_P hall hperm
  | [x, y] =>
    have hxy : x < y := by simpa using hsorted
    have hy := hlt y (by simp)
    have hthree : ∀ z, k ≤ z → z ∉ lost := by
      intro z hz hzl
      have := hsub3 [x, y, z] (by simp; omega) (by simpa using ⟨hsub x (by simp), hsub y (by simp), hzl⟩)
      simp at this
    have hm2 : m = 2 := by
      have := (List.subperm_of_subset (l₁ := [x, y]) (by simpa using hxy.ne) (by simpa using ⟨hsub x (by simp), hsub y (by simp)⟩)).length_le
      simp at this; omega
    obtain ⟨hx', hy'⟩ := two_lost_of_PQ hall hxy (by omega) hperm
    simp only [hthree k le_rfl, hthree (k + 1) (by omega), hm2, if_false, if_true, not_false_eq_true, and_self, Option.map_some, dataMembers]
    simp only [membersAt] at hx' hy' ⊢
    rw [hx', hy']
    rfl
  | x :: y :: z :: l =>
    have := hsub3 (x :: y :: z :: l) (hsorted.imp (fun h => h.ne)) hsub
    simp at this

/-- Every member lost is rebuilt, its parity formed anew from the data (R236). -/
theorem rebuildAll_rowLeft : rebuildAll k m (rowLeft k m D lost) = membersAt D (lostData k lost)
    ++ (if k ∈ lost then [(k, chainP (dataMembers k D))] else [])
    ++ (if m = 2 ∧ k + 1 ∈ lost then [(k + 1, chainQ (dataMembers k D))] else []) := by
  have hperm := leftData_append_lostData k lost
  have hlen : ∀ i ∈ leftData k lost ++ lostData k lost, (D i).length = n := fun i hi => hD i (List.mem_range.1 (hperm.subset hi))
  have hds : membersAt D (leftData k lost) ++ membersAt D (lostData k lost) = membersAt D (leftData k lost ++ lostData k lost) := by
    simp [membersAt]
  unfold rebuildAll
  simp only [rebuildData_rowLeft hD hm hkm hcount, filter_rowLeft_data, hds, chainP_perm hlen hperm, chainQ_perm hlen hperm,
    any_eq_isSome_find?, find?_rowLeft_P, find?_rowLeft_Q]
  congr 2
  · by_cases h : k ∈ lost <;> simp [h, dataMembers, membersAt]
  · by_cases h2 : m = 2 <;> by_cases h : k + 1 ∈ lost <;> simp [h2, h, dataMembers]

/-- A member that was lost is found among the rebuilt as it stood in the row. -/
theorem find?_rebuildAll {j : Nat} (hj : j ∈ lost) (hjk : j < k + m) :
    (rebuildAll k m (rowLeft k m D lost)).find? (·.1 == j) = (rowOf k m D).find? (·.1 == j) := by
  have hfind : ∀ l : List Nat, (membersAt D l).find? (·.1 == j) = if j ∈ l then some (j, D j) else none := by
    intro l
    induction l with
    | nil => rfl
    | cons i l ih =>
      by_cases h : i = j
      · simp [membersAt, h]
      · have hne : j ≠ i := fun e => h e.symm
        simpa [membersAt, h, hne] using ih
  have hdata : dataMembers k D = membersAt D (List.range k) := rfl
  have hmem : j ∈ lostData k lost ↔ j < k := by simp [lostData, hj]
  rw [rebuildAll_rowLeft hD hm hkm hcount, rowOf, List.find?_append, List.find?_append, List.find?_append, List.find?_append,
    hdata, hfind, hfind]
  obtain hlt | rfl | ⟨rfl, rfl⟩ : j < k ∨ j = k ∨ (j = k + 1 ∧ m = 2) := by omega
  · simp [hmem, hlt]
  · simp [hmem, hj]
  · by_cases h : k ∈ lost <;> simp [hmem, hj, h]

end
end

/-- Settles O40: the members lost and those left make up the row, so the parity less the part of the members left is the part of the
members lost; P gives one of them, Q the other, since the sum of two different powers of g is a power of g and has its inverse. -/
theorem lostMembersAreRecovered : Obligations.LostMembersAreRecovered := by
  unfold Obligations.LostMembersAreRecovered
  intro k m n D lost _ hm hkm hD _ hcount hlost ds row j hj
  exact congrArg (Option.map (·.2)) (find?_rebuildAll hD hm hkm hcount hj (hlost j hj))

end Sys2Proof.Machine
end

section
/-! PROOFS. The LDPC encoder (R194): the staircase of parity blocks, where each bit of an encoded word comes from, and that every
check sums to zero. -/

namespace Sys2Proof.Machine

/-! ## The staircase -/

/-- The parity block before block row r, p_(r−1); none before the first. -/
def stairBefore (a : Array Bool) : Nat → List Bool
  | 0 => List.replicate 256 false
  | r + 1 => List.zipWith (fun x y => x != y) (sigma a r) (stairBefore a r)

theorem length_sigma (a : Array Bool) (r : Nat) : (sigma a r).length = 256 := by simp [sigma]

theorem length_stairBefore (a : Array Bool) (r : Nat) : (stairBefore a r).length = 256 := by
  induction r with
  | zero => exact List.length_replicate
  | succ r ih => rw [stairBefore, List.length_zipWith, length_sigma, ih, Nat.min_self]

/-- The parity bits are the blocks of the staircase one after another. -/
theorem ldpcParity_eq (info : List Bool) : ldpcParity info = (List.range 16).flatMap fun r => stairBefore info.toArray (r + 1) := by
  have hfold : ∀ n, (List.range n).foldl (fun (acc : List Bool × List Bool) r =>
      let p := List.zipWith (fun x y => x != y) (sigma info.toArray r) acc.1
      (p, acc.2 ++ p)) (List.replicate 256 false, [])
      = (stairBefore info.toArray n, (List.range n).flatMap fun r => stairBefore info.toArray (r + 1)) := by
    intro n
    induction n with
    | zero => rfl
    | succ n ih => rw [List.range_succ, List.foldl_append, ih, List.flatMap_append, List.flatMap_singleton]; rfl
  exact congrArg Prod.snd (hfold 16)

section
variable {α : Type} {f : Nat → List α} {c : Nat} (hf : ∀ r, (f r).length = c)
include hf

theorem length_flatMap_blocks (n : Nat) : ((List.range n).flatMap f).length = c * n := by
  simp [List.length_flatMap, hf, Nat.mul_comm]

/-- A place in blocks of one length that stand one after another is a place in its block. -/
theorem getD_flatMap_blocks {n r t : Nat} (hr : r < n) (ht : t < c) (d : α) :
    ((List.range n).flatMap f).getD (c * r + t) d = (f r).getD t d := by
  induction n with
  | zero => omega
  | succ n ih =>
    rw [List.range_succ, List.flatMap_append, List.flatMap_singleton]
    obtain hlt | rfl := Nat.lt_succ_iff_lt_or_eq.1 hr
    · have hle : c * (r + 1) ≤ c * n := Nat.mul_le_mul_left c hlt
      rw [List.getD_append _ _ _ _ (by rw [length_flatMap_blocks hf]; rw [Nat.mul_succ] at hle; omega)]
      exact ih hlt
    · rw [List.getD_append_right _ _ _ _ (by rw [length_flatMap_blocks hf]; omega), length_flatMap_blocks hf, Nat.add_sub_cancel_left]

end

/-! ## The bits of a word -/

section
variable {info : List Bool} (hinfo : info.length = 32768)
include hinfo

/-- A bit of an information column is an information bit. -/
theorem word_info_bit {j t : Nat} (hj : j < 128) (ht : t < 256) :
    (info ++ ldpcParity info).toArray.getD (256 * j + t) false = info.toArray.getD (256 * j + t) false := by
  have hlt : 256 * j + t < info.length := by omega
  simp [hlt, List.getElem?_append_left]

/-- A bit of a parity column is a bit of the staircase. -/
theorem word_parity_bit {r t : Nat} (hr : r < 16) (ht : t < 256) :
    (info ++ ldpcParity info).toArray.getD (256 * (128 + r) + t) false = (stairBefore info.toArray (r + 1)).getD t false := by
  have hge : info.length ≤ 256 * (128 + r) + t := by omega
  have hplace : 256 * (128 + r) + t - info.length = 256 * r + t := by omega
  rw [← getD_flatMap_blocks (fun r => length_stairBefore info.toArray (r + 1)) hr ht, ← ldpcParity_eq, ← hplace]
  simp [List.getElem?_append_right hge]

end

/-- A bit of a parity block is the syndrome bit of its row plus the bit of the block before. -/
theorem stairBefore_succ_bit (a : Array Bool) (r : Nat) {t : Nat} (ht : t < 256) :
    (stairBefore a (r + 1)).getD t false
      = (((infoCols r).foldl (fun b x => b != a.getD (256 * x.1 + (t + x.2) % 256) false) false) != (stairBefore a r).getD t false) := by
  have hbefore : (stairBefore a r)[t]? = some ((stairBefore a r).getD t false) := by
    simp [length_stairBefore, ht]
  rw [stairBefore, List.getD_eq_getElem?_getD, List.getElem?_zipWith, hbefore, sigma, List.getElem?_map, List.getElem?_range ht]
  rfl

theorem infoCols_lt {r : Nat} {x : Nat × Nat} (h : x ∈ infoCols r) : x.1 < 128 := by
  obtain ⟨j, hj, hx⟩ := List.mem_filterMap.1 h
  dsimp only at hx
  split at hx
  · cases hx; exact List.mem_range.1 hj
  · cases hx

/-! ## The checks -/

/-- Every check of an encoded word sums to zero: its information bits are the syndrome, its parity bits two steps of the staircase. -/
theorem checkBits_encoded {info : List Bool} (hinfo : info.length = 32768) {r t : Nat} (hr : r < 16) (ht : t < 256) :
    (checkBits r t).foldl (fun a m => a != (info ++ ldpcParity info).toArray.getD m false) false = false := by
  have hsyn : ∀ l : List (Nat × Nat), (∀ x ∈ l, x.1 < 128) → ∀ b,
      l.foldl (fun b x => b != (info ++ ldpcParity info).toArray.getD (256 * x.1 + (t + x.2) % 256) false) b
        = l.foldl (fun b x => b != info.toArray.getD (256 * x.1 + (t + x.2) % 256) false) b := by
    intro l hl b
    refine List.foldl_ext _ _ b fun b x hx => ?_
    rw [word_info_bit hinfo (hl x hx) (Nat.mod_lt _ (by decide))]
  rw [checkBits, List.foldl_map, List.foldl_append, hsyn _ fun x hx => infoCols_lt hx]
  have hstair := stairBefore_succ_bit info.toArray r ht
  have hlast := word_parity_bit hinfo hr ht
  generalize (infoCols r).foldl (fun b x => b != info.toArray.getD (256 * x.1 + (t + x.2) % 256) false) false = syn at hstair ⊢
  cases r with
  | zero =>
    have hzero : (stairBefore info.toArray 0).getD t false = false  := List.getD_replicate _ ht
    simp only [parityCols, if_true, List.nil_append, List.foldl_cons, List.foldl_nil, Nat.add_zero, Nat.mod_eq_of_lt ht] at hlast ⊢
    rw [hlast, hstair, hzero]
    cases syn <;> rfl
  | succ r =>
    have hbefore := word_parity_bit hinfo (r := r) (by omega) ht
    rw [show 128 + r = 127 + (r + 1) by omega] at hbefore
    simp only [parityCols, Nat.succ_ne_zero, if_false, List.cons_append, List.nil_append, List.foldl_cons, List.foldl_nil, Nat.add_zero,
      Nat.mod_eq_of_lt ht]
    rw [hbefore, hlast, hstair]
    generalize (stairBefore info.toArray (r + 1)).getD t false = before
    cases syn <;> cases before <;> rfl

theorem length_bitsOfBytes (bs : List Byte) : (bitsOfBytes bs).length = 8 * bs.length := by
  simp [bitsOfBytes, bitsBE, List.length_flatMap, Nat.mul_comm]

/-- Settles O31: every check of the word has the syndrome of its block row and two neighbouring bits of the staircase, whose
difference the syndrome is. -/
theorem encodedWordsPassEveryCheck : Obligations.EncodedWordsPassEveryCheck := by
  unfold Obligations.EncodedWordsPassEveryCheck
  intro info hinfo
  have hbits : (bitsOfBytes info).length = 32768 := by rw [length_bitsOfBytes, hinfo]
  refine ⟨?len, ?front, ?checks⟩
  case len =>
    rw [ldpcEncode, List.length_append, hbits, ldpcParity_eq, length_flatMap_blocks (fun r => length_stairBefore _ (r + 1))]
  case front => rw [ldpcEncode, List.take_left' hbits]
  case checks =>
    rw [unsatisfied, ldpcEncode]
    refine List.sum_eq_zero fun n hn => ?_
    obtain ⟨r, hr, rfl⟩ := List.mem_map.1 hn
    rw [List.length_eq_zero_iff, List.filter_eq_nil_iff]
    intro t ht
    simp only [checkBits_encoded hbits (List.mem_range.1 hr) (List.mem_range.1 ht), Bool.false_eq_true, not_false_eq_true]

end Sys2Proof.Machine
end

section
/-! PROOFS. Casket (R318 to R325): what an overlay gives, the value of a line out of the buffers and DRAM, which operations keep every
value, what a write does to it, and that every command keeps Casket coherent. -/

namespace Sys2Proof.Machine

/-! ## Overlays -/

theorem getD_overlay {mask : List Bool} {new old : List Byte} {i : Nat} (h : i < 128) :
    (overlay mask new old).getD i 0 = if mask.getD i false then new.getD i 0 else old.getD i 0 := by
  simp [overlay, h]

/-- An overlay is told by its 128 bytes. -/
theorem overlay_eq_overlay {mask mask' : List Bool} {new old new' old' : List Byte}
    (h : ∀ i < 128, (if mask.getD i false then new.getD i 0 else old.getD i 0) = if mask'.getD i false then new'.getD i 0 else old'.getD i 0) :
    overlay mask new old = overlay mask' new' old' :=
  List.map_congr_left fun i hi => h i (List.mem_range.1 hi)

/-- Laying the same bytes over twice is laying them over once. -/
theorem overlay_overlay_same (mask : List Bool) (new old : List Byte) : overlay mask new (overlay mask new old) = overlay mask new old := by
  refine overlay_eq_overlay fun i hi => ?_
  rw [getD_overlay hi]
  split <;> rfl

theorem getD_fullMask {i : Nat} (h : i < 128) : fullMask.getD i false = true := List.getD_replicate _ h

/-- Under the full mask nothing is left of what was below. -/
theorem overlay_fullMask (new old old' : List Byte) : overlay fullMask new old = overlay fullMask new old' := by
  refine overlay_eq_overlay fun i hi => ?_
  rw [getD_fullMask hi, if_pos rfl, if_pos rfl]

theorem overlay_fullMask_zeros (old : List Byte) : overlay fullMask (zeros 128) old = zeros 128 := by
  have hget : ∀ i < 128, (if fullMask.getD i false then (zeros 128).getD i 0 else old.getD i 0) = 0 := by
    intro i hi
    rw [getD_fullMask hi, if_pos rfl]
    exact List.getD_replicate _ hi
  rw [overlay, List.map_congr_left fun i hi => hget i (List.mem_range.1 hi), List.map_const', List.length_range]
  rfl

theorem length_overlay (mask : List Bool) (new old : List Byte) : (overlay mask new old).length = 128 := by simp [overlay]

/-! ## The value of a line -/

/-- The newest bytes of a line without the array: the merging buffer over the eviction buffer or DRAM. -/
def Mem.value (m : Mem) (line : Nat) : List Byte := m.overMerge line (m.fill line)

theorem Mem.dramLine_congr {m n : Mem} (hdram : n.dram = m.dram) (line : Nat) : n.dramLine line = m.dramLine line := by
  simp only [Mem.dramLine, Mem.dramByte, hdram]

/-- The value of a line comes from the buffers and DRAM alone. -/
theorem Mem.value_congr {m n : Mem} (hmerge : n.merge = m.merge) (hevict : n.evict = m.evict) (hdram : n.dram = m.dram) (line : Nat) :
    n.value line = m.value line := by
  simp only [Mem.value, Mem.overMerge, Mem.merge?, Mem.fill, Mem.evict?, Mem.dramLine, Mem.dramByte, hmerge, hevict, hdram]

theorem Mem.hit?_mem {m : Mem} {line : Nat} {a : ArrLine} (h : m.hit? line = some a) : a ∈ m.array ∧ a.line = line :=
  ⟨List.mem_of_find?_eq_some h, by simpa using List.find?_some h⟩

theorem Mem.merge?_mem {m : Mem} {line : Nat} {e : BufLine} (h : m.merge? line = some e) : e ∈ m.merge ∧ e.line = line :=
  ⟨List.mem_of_find?_eq_some h, by simpa using List.find?_some h⟩

theorem Mem.evict?_mem {m : Mem} {line : Nat} {e : EvictLine} (h : m.evict? line = some e) : e ∈ m.evict ∧ e.line = line :=
  ⟨List.mem_of_find?_eq_some h, by simpa using List.find?_some h⟩

/-- A line that the array holds has its value there. -/
theorem Mem.Coherent.hit_bytes {m : Mem} (h : m.Coherent) {line : Nat} {a : ArrLine} (ha : m.hit? line = some a) : a.bytes = m.value line := by
  obtain ⟨hmem, rfl⟩ := Mem.hit?_mem ha
  exact h.array a hmem

/-- The merging buffer laid over a value changes nothing. -/
theorem Mem.overMerge_value (m : Mem) (line : Nat) : m.overMerge line (m.value line) = m.value line := by
  unfold Mem.value Mem.overMerge
  cases m.merge? line with
  | none => rfl
  | some e => exact overlay_overlay_same ..

/-- In a coherent Casket a read gives the value of the line, whether or not the array holds it (R318). -/
theorem Mem.Coherent.lineBytes_eq {m : Mem} (h : m.Coherent) (line : Nat) : m.lineBytes line = m.value line := by
  unfold Mem.lineBytes
  cases hev : m.evict? line with
  | some e => simp only [Mem.value, Mem.fill, hev]
  | none =>
    cases hhit : m.hit? line with
    | some a => simp only [h.hit_bytes hhit, Mem.overMerge_value]
    | none => simp only [Mem.value, Mem.fill, hev]

/-! ## Operations that keep every value -/

/-- From `m` to `n` Casket stays coherent, what waits stays, and every line keeps its value. -/
structure Mem.Keeps (m n : Mem) : Prop where
  coherent : n.Coherent
  waiting : n.waiting = m.waiting
  value : ∀ line, n.value line = m.value line

theorem Mem.Keeps.refl {m : Mem} (h : m.Coherent) : m.Keeps m := ⟨h, rfl, fun _ => rfl⟩

theorem Mem.Keeps.trans {m n o : Mem} (h : m.Keeps n) (h' : n.Keeps o) : m.Keeps o :=
  ⟨h'.coherent, h'.waiting.trans h.waiting, fun l => (h'.value l).trans (h.value l)⟩

/-- A fold of steps that keep every value keeps every value. -/
theorem Mem.foldl_keeps {α : Type} {f : Mem → α → Mem} (hf : ∀ (m : Mem) (x : α), m.Coherent → m.Keeps (f m x)) (l : List α) {m : Mem} (h : m.Coherent) :
    m.Keeps (l.foldl f m) := by
  induction l generalizing m with
  | nil => exact .refl h
  | cons x l ih => exact (hf m x h).trans (ih (hf m x h).coherent)

/-- What leaves the buffers, DRAM and the waiting writes, and puts into the array only lines with their values, keeps every value. -/
theorem Mem.keeps_of_array {m n : Mem} (h : m.Coherent) (hmerge : n.merge = m.merge) (hevict : n.evict = m.evict) (hdram : n.dram = m.dram)
    (hwait : n.waiting = m.waiting) (harray : ∀ a ∈ n.array, a.bytes = m.value a.line) : m.Keeps n where
  waiting := hwait
  value := Mem.value_congr hmerge hevict hdram
  coherent :=
    { mergeOnce := hmerge ▸ h.mergeOnce
      evictOnce := hevict ▸ h.evictOnce
      whole := hevict ▸ h.whole
      zeroed := hwait ▸ h.zeroed
      array := fun a ha => (harray a ha).trans (Mem.value_congr hmerge hevict hdram a.line).symm }

/-- What leaves the array too. -/
theorem Mem.keeps_of_same {m n : Mem} (h : m.Coherent) (hmerge : n.merge = m.merge) (hevict : n.evict = m.evict) (hdram : n.dram = m.dram)
    (hwait : n.waiting = m.waiting) (harray : n.array = m.array) : m.Keeps n :=
  Mem.keeps_of_array h hmerge hevict hdram hwait fun a ha => h.array a (harray ▸ ha)

/-- An allocation finds no way, or takes one for its line; the line that was there is dropped. -/
theorem Mem.allocate_eq (m : Mem) (line : Nat) (bytes : List Byte) : m.allocate line bytes = m
    ∨ ∃ w, m.allocate line bytes = Mem.touch (lineSet line) w { m with
        array := (m.array.filter fun a => !(a.line == line || (a.set == lineSet line && a.way == w))) ++ [⟨lineSet line, w, line, bytes⟩] } := by
  cases hway : ((m.hit? line).map (·.way)).or (m.wayFor (lineSet line)) with
  | none => exact .inl (by simp only [Mem.allocate, hway])
  | some w => exact .inr ⟨w, by simp only [Mem.allocate, hway]⟩

/-- An allocation leaves the buffers, DRAM and what waits; its line is among those of the array with the bytes given, every other line as
it was. -/
theorem Mem.allocate_spec (m : Mem) (line : Nat) (bytes : List Byte) :
    (m.allocate line bytes).merge = m.merge ∧ (m.allocate line bytes).evict = m.evict ∧ (m.allocate line bytes).dram = m.dram
      ∧ (m.allocate line bytes).waiting = m.waiting
      ∧ ∀ a ∈ (m.allocate line bytes).array, a ∈ m.array ∨ (a.line = line ∧ a.bytes = bytes) := by
  obtain hn | ⟨w, hn⟩ := m.allocate_eq line bytes <;> rw [hn]
  · exact ⟨rfl, rfl, rfl, rfl, fun a ha => .inl ha⟩
  · refine ⟨rfl, rfl, rfl, rfl, fun a ha => ?_⟩
    obtain ha | ha := List.mem_append.1 (show a ∈ _ ++ _ from ha)
    · exact .inl (List.mem_filter.1 ha).1
    · rw [List.mem_singleton.1 ha]
      exact .inr ⟨rfl, rfl⟩

/-- Allocating a line with its value. -/
theorem Mem.allocate_keeps {m : Mem} (h : m.Coherent) (line : Nat) : m.Keeps (m.allocate line (m.value line)) := by
  obtain ⟨hmerge, hevict, hdram, hwait, harray⟩ := m.allocate_spec line (m.value line)
  refine Mem.keeps_of_array h hmerge hevict hdram hwait fun a ha => ?_
  obtain ha | ⟨rfl, hbytes⟩ := harray a ha
  · exact h.array a ha
  · exact hbytes

theorem Mem.readLine_keeps {m : Mem} (h : m.Coherent) (line : Nat) : m.Keeps (m.readLine line) := by
  unfold Mem.readLine
  split
  · exact Mem.keeps_of_same h rfl rfl rfl rfl rfl
  · split
    · exact .refl h
    · exact Mem.allocate_keeps h line

/-! ## The eviction buffer -/

/-- What a fill brings when the eviction buffer's entries keep their lines and bytes. -/
theorem Mem.fill_congr {m n : Mem} (hdram : n.dram = m.dram) {line : Nat} (hevict : (n.evict? line).map (·.bytes) = (m.evict? line).map (·.bytes)) :
    n.fill line = m.fill line := by
  unfold Mem.fill
  cases hn : n.evict? line <;> cases hm : m.evict? line <;> simp_all [Mem.dramLine, Mem.dramByte]

theorem Mem.issue_frame (m : Mem) : m.issue.merge = m.merge ∧ m.issue.dram = m.dram ∧ m.issue.waiting = m.waiting ∧ m.issue.array = m.array
    ∧ m.issue.drainWait = m.drainWait := by
  unfold Mem.issue
  split <;> exact ⟨rfl, rfl, rfl, rfl, rfl⟩

/-- Issuing the oldest entry leaves its line and its bytes. -/
theorem Mem.issue_evict (m : Mem) : m.issue.evict.map (fun e => (e.line, e.bytes)) = m.evict.map fun e => (e.line, e.bytes) := by
  unfold Mem.issue
  split <;> simp_all

theorem find?_bytes (l : List EvictLine) (line : Nat) :
    (l.find? (·.line == line)).map (·.bytes) = ((l.map fun e => (e.line, e.bytes)).find? (·.1 == line)).map (·.2) := by
  rw [List.find?_map, Option.map_map]
  rfl

theorem Mem.issue_value (m : Mem) (line : Nat) : m.issue.value line = m.value line := by
  obtain ⟨hmerge, hdram, -⟩ := m.issue_frame
  have hfill : m.issue.fill line = m.fill line :=
    Mem.fill_congr hdram (by rw [Mem.evict?, Mem.evict?, find?_bytes, find?_bytes, Mem.issue_evict])
  simp only [Mem.value, Mem.overMerge, Mem.merge?, hmerge, hfill]

theorem Mem.issue_keeps {m : Mem} (h : m.Coherent) : m.Keeps m.issue := by
  obtain ⟨hmerge, -, hwait, harray, -⟩ := m.issue_frame
  have hpairs := m.issue_evict
  have hlines : m.issue.evict.map (·.line) = m.evict.map (·.line) := by
    simpa [Function.comp_def] using congrArg (List.map Prod.fst) hpairs
  have hbytes : m.issue.evict.map (·.bytes) = m.evict.map (·.bytes) := by
    simpa [Function.comp_def] using congrArg (List.map Prod.snd) hpairs
  refine ⟨⟨hmerge ▸ h.mergeOnce, hlines ▸ h.evictOnce, fun e he => ?_, fun a ha => ?_, hwait ▸ h.zeroed⟩, hwait, m.issue_value⟩
  · obtain ⟨x, hx, hxe⟩ := List.mem_map.1 (hbytes ▸ List.mem_map_of_mem (f := EvictLine.bytes) he)
    rw [← hxe]
    exact h.whole x hx
  · exact (h.array a (harray ▸ ha)).trans (m.issue_value a.line).symm

/-! ## Draining an entry -/

/-- Once its entry has left the merging buffer, nothing lies over a line. -/
theorem Mem.merge?_drop (m : Mem) (l line : Nat) {n : Mem} (hn : n.merge = m.merge.filter (·.line != line)) :
    n.merge? l = if l = line then none else m.merge? l := by
  rw [Mem.merge?, hn, List.find?_filter]
  split
  next h =>
    subst h
    refine List.find?_eq_none.2 fun e _ => ?_
    simp
  next h =>
    refine List.find?_congr fun e _ => ?_
    by_cases he : e.line = l <;> simp [he, h]

/-- A drain's outcome: the line's entry has left the merging buffer, and the eviction buffer holds the line's value. -/
theorem Mem.keeps_of_drained {m n : Mem} (h : m.Coherent) {line : Nat} (hmerge : n.merge = m.merge.filter (·.line != line))
    (harray : n.array = m.array) (hwait : n.waiting = m.waiting) (hfill : ∀ l, n.fill l = if l = line then m.value line else m.fill l)
    (honce : (n.evict.map (·.line)).Nodup) (hwhole : ∀ e ∈ n.evict, e.bytes.length = 128) : m.Keeps n := by
  have hvalue : ∀ l, n.value l = m.value l := by
    intro l
    rw [Mem.value, Mem.overMerge, Mem.merge?_drop m l line hmerge, hfill]
    by_cases hl : l = line
    · simp [hl]
    · simp [hl, Mem.value, Mem.overMerge]
  refine ⟨⟨?_, honce, hwhole, fun a ha => ?_, hwait ▸ h.zeroed⟩, hwait, hvalue⟩
  · rw [hmerge]
    exact h.mergeOnce.sublist (List.filter_sublist.map _)
  · exact (h.array a (harray ▸ ha)).trans (hvalue a.line).symm

/-- The entry found of a key in a list whose entries keep their keys under a map is the image of the one found before. -/
theorem find?_map_key {α : Type} (key : α → Nat) {f : α → α} (hf : ∀ x, key (f x) = key x) (l : List α) (k : Nat) :
    (l.map f).find? (key · == k) = (l.find? (key · == k)).map f := by
  rw [List.find?_map]
  exact congrArg (fun p => (l.find? p).map f) (funext fun x => by rw [Function.comp_apply, hf])

/-- The entries of one line are changed, the others kept. -/
def onLineOf {α : Type} (key : α → Nat) (line : Nat) (g : α → α) (x : α) : α := if key x = line then g x else x

theorem key_onLineOf {α : Type} {key : α → Nat} {line : Nat} {g : α → α} (hg : ∀ x, key (g x) = key x) (x : α) :
    key (onLineOf key line g x) = key x := by
  unfold onLineOf
  split
  · exact hg x
  · rfl

/-- A changed list of keys without repetition has none still. -/
theorem map_key_onLineOf {α : Type} {key : α → Nat} {line : Nat} {g : α → α} (hg : ∀ x, key (g x) = key x) (l : List α) :
    (l.map (onLineOf key line g)).map key = l.map key := by
  rw [List.map_map]
  exact List.map_congr_left fun x _ => key_onLineOf hg x

/-- An entry of the eviction buffer with other bytes. -/
def EvictLine.holding (bs : List Byte) (e : EvictLine) : EvictLine := { e with bytes := bs }

theorem EvictLine.line_holding (bs : List Byte) (e : EvictLine) : (e.holding bs).line = e.line := rfl

/-- An eviction entry that takes bytes, all else as it was. -/
theorem Mem.fill_set (m : Mem) {line : Nat} {x : EvictLine} (hx : m.evict? line = some x) (bs : List Byte) {n : Mem} (hdram : n.dram = m.dram)
    (hn : n.evict = m.evict.map (onLineOf EvictLine.line line (EvictLine.holding bs))) (l : Nat) :
    n.fill l = if l = line then bs else m.fill l := by
  have hfind : n.evict? l = (m.evict? l).map (onLineOf EvictLine.line line (EvictLine.holding bs)) := by
    rw [Mem.evict?, hn]
    exact find?_map_key EvictLine.line (key_onLineOf (EvictLine.line_holding bs)) m.evict l
  unfold Mem.fill
  rw [hfind]
  by_cases hl : l = line
  · subst hl
    simp [hx, onLineOf, EvictLine.holding, (Mem.evict?_mem hx).2]
  · rw [if_neg hl]
    cases hf : m.evict? l with
    | none => simp [Mem.dramLine, Mem.dramByte, hdram]
    | some y => simp [onLineOf, (Mem.evict?_mem hf).2, hl]

/-- A new eviction entry, all else as it was. -/
theorem Mem.fill_append (m : Mem) {line : Nat} (hnone : m.evict? line = none) (bs : List Byte) {n : Mem} (hdram : n.dram = m.dram)
    (hn : n.evict = m.evict ++ [⟨line, bs, false⟩]) (l : Nat) : n.fill l = if l = line then bs else m.fill l := by
  have hfind : n.evict? l = (m.evict? l).or (if line = l then some ⟨line, bs, false⟩ else none) := by
    rw [Mem.evict?, hn, List.find?_append, ← Mem.evict?]
    by_cases h : line = l <;> simp [h]
  unfold Mem.fill
  rw [hfind]
  by_cases hl : l = line
  · subst hl
    simp [hnone]
  · rw [if_neg hl, if_neg fun e => hl e.symm, Option.or_none]
    cases m.evict? l with
    | none => simp [Mem.dramLine, Mem.dramByte, hdram]
    | some y => rfl

/-- An entry that has to wait for its drain. -/
def Mem.drainWaits (m : Mem) (line : Nat) : Mem := if m.drainWait.contains line then m else { m with drainWait := m.drainWait ++ [line] }

/-- The whole line that a drain makes of an entry: over the array's line, or else over what a fill brings. -/
def Mem.drained (m : Mem) (line : Nat) (e : BufLine) (fill : List Byte) : List Byte :=
  overlay e.mask e.bytes (((m.hit? line).map (·.bytes)).getD fill)

/-- Casket with the entry of a line gone from the merging buffer, and another eviction buffer. -/
def Mem.moved (m : Mem) (line : Nat) (evict : List EvictLine) : Mem :=
  { m with merge := m.merge.filter (·.line != line), drainWait := m.drainWait.filter (· != line), evict }

/-- What a drain of an entry can do (R320, R321): wait, merge into the entry of its line that is not issued, or take a new one. -/
theorem Mem.drainOver_cases (m : Mem) {line : Nat} {e : BufLine} (he : m.merge? line = some e) (fill : List Byte) :
    (m.drainOver line fill = m.drainWaits line ∧ ((∃ x, m.evict? line = some x ∧ x.issued = true) ∨ 32 ≤ m.evict.length))
      ∨ (∃ x, m.evict? line = some x ∧ x.issued = false ∧ m.drainOver line fill
          = m.moved line (m.evict.map (onLineOf EvictLine.line line (EvictLine.holding (m.drained line e fill)))))
      ∨ (m.evict? line = none ∧ m.evict.length < 32 ∧ m.drainOver line fill
          = (m.moved line (m.evict ++ [⟨line, m.drained line e fill, false⟩])).issue) := by
  have hbase : m.drainOver line fill = match m.evict? line with
      | some x => if x.issued then m.drainWaits line
        else m.moved line (m.evict.map (onLineOf EvictLine.line line (EvictLine.holding (m.drained line e fill))))
      | none => if 32 ≤ m.evict.length then m.drainWaits line
        else (m.moved line (m.evict ++ [⟨line, m.drained line e fill, false⟩])).issue := by
    cases hhit : m.hit? line <;> simp only [Mem.drainOver, Mem.drained, he, hhit] <;> rfl
  cases hx : m.evict? line with
  | some x =>
    rw [hx] at hbase
    cases hi : x.issued with
    | true => exact .inl ⟨by simpa [hi] using hbase, .inl ⟨x, rfl, hi⟩⟩
    | false => exact .inr (.inl ⟨x, rfl, hi, by simpa [hi] using hbase⟩)
  | none =>
    rw [hx] at hbase
    by_cases hfull : 32 ≤ m.evict.length
    · exact .inl ⟨by simpa [hfull] using hbase, .inr hfull⟩
    · exact .inr (.inr ⟨rfl, by omega, by simpa [hfull] using hbase⟩)

theorem Mem.drainWaits_keeps {m : Mem} (h : m.Coherent) (line : Nat) : m.Keeps (m.drainWaits line) := by
  unfold Mem.drainWaits
  split
  · exact .refl h
  · exact Mem.keeps_of_same h rfl rfl rfl rfl rfl

/-- A drain makes the line's value of its entry. -/
theorem Mem.drained_eq_value {m : Mem} (h : m.Coherent) {line : Nat} {e : BufLine} (he : m.merge? line = some e) :
    m.drained line e (m.fill line) = m.value line := by
  have hval : m.value line = overlay e.mask e.bytes (m.fill line) := by simp only [Mem.value, Mem.overMerge, he]
  cases hhit : m.hit? line with
  | none => simp [Mem.drained, hhit, hval]
  | some a => simp [Mem.drained, hhit, h.hit_bytes hhit, hval, overlay_overlay_same]

theorem Mem.drain_keeps {m : Mem} (h : m.Coherent) (line : Nat) : m.Keeps (m.drain line) := by
  cases he : m.merge? line with
  | none => simpa only [Mem.drain, Mem.drainOver, he] using Mem.Keeps.refl h
  | some e =>
    have hlen : (m.value line).length = 128 := by rw [← Mem.drained_eq_value h he, Mem.drained, length_overlay]
    obtain ⟨hn, -⟩ | ⟨x, hx, -, hn⟩ | ⟨hnone, -, hn⟩ := m.drainOver_cases he (m.fill line) <;>
      rw [Mem.drain, hn]
    · exact Mem.drainWaits_keeps h line
    · rw [Mem.drained_eq_value h he]
      refine Mem.keeps_of_drained h rfl rfl rfl (m.fill_set hx _ rfl rfl) ?_ fun y hy => ?_
      · exact (map_key_onLineOf (EvictLine.line_holding (m.value line)) m.evict).symm ▸ h.evictOnce
      · obtain ⟨z, hz, rfl⟩ := List.mem_map.1 hy
        unfold onLineOf
        split
        · exact hlen
        · exact h.whole z hz
    · rw [Mem.drained_eq_value h he]
      have hnew : ∀ y ∈ m.evict, y.line ≠ line := by simpa [Mem.evict?] using hnone
      have hmoved : m.Keeps (m.moved line (m.evict ++ [⟨line, m.value line, false⟩])) := by
        refine Mem.keeps_of_drained h rfl rfl rfl (m.fill_append hnone _ rfl rfl) ?_ fun y hy => ?_
        · simpa [Mem.moved, List.nodup_append, h.evictOnce] using fun y hy => hnew y hy
        · obtain hy | hy := List.mem_append.1 hy
          · exact h.whole y hy
          · rw [List.mem_singleton.1 hy]
            exact hlen
      exact hmoved.trans (Mem.issue_keeps hmoved.coherent)

/-! ## The disable and a completed write -/

theorem Mem.drainCheck_keeps {m : Mem} (h : m.Coherent) : m.Keeps m.drainCheck := by
  unfold Mem.drainCheck
  split
  · exact Mem.keeps_of_same h rfl rfl rfl rfl rfl
  · exact .refl h

theorem Mem.startDrain_keeps {m : Mem} (h : m.Coherent) : m.Keeps m.startDrain := by
  have hbegin : m.Keeps { m with noAlloc := true, invalidating := false, drainSet := (m.drainSet ++ m.merge.map (·.line)).eraseDups } :=
    Mem.keeps_of_same h rfl rfl rfl rfl rfl
  have hdrains := Mem.foldl_keeps (fun m line hm => Mem.drain_keeps (m := m) hm line) (m.merge.map (·.line)) hbegin.coherent
  exact (hbegin.trans hdrains).trans (Mem.drainCheck_keeps hdrains.coherent)

/-- DRAM has taken an entry, and the eviction buffer holds the rest. -/
def Mem.taken (m : Mem) (e : EvictLine) (l : List EvictLine) (set : List Nat) : Mem :=
  { m.writeDram e.line e.bytes with evict := l, drainSet := set }

/-- When DRAM has taken the oldest entry, its line reads from DRAM as it did from the entry. -/
theorem Mem.taken_fill {m : Mem} (h : m.Coherent) {e : EvictLine} {l : List EvictLine} (he : m.evict = e :: l) (set : List Nat) (line : Nat) :
    (m.taken e l set).fill line = m.fill line := by
  have hdram : (m.taken e l set).dramLine line = (m.writeDram e.line e.bytes).dramLine line := Mem.dramLine_congr (by rw [Mem.taken]) line
  have hevict : (m.taken e l set).evict? line = l.find? (·.line == line) := rfl
  have honce := h.evictOnce
  rw [he, List.map_cons, List.nodup_cons] at honce
  unfold Mem.fill
  rw [hevict, hdram, Mem.evict?, he, List.find?_cons]
  by_cases hline : e.line = line
  · subst hline
    have hnone : l.find? (·.line == e.line) = none := by
      refine List.find?_eq_none.2 fun x hx => ?_
      have hne : x.line ≠ e.line := fun hxe => honce.1 (List.mem_map.2 ⟨x, hx, hxe⟩)
      simpa using hne
    simp only [beq_self_eq_true, hnone]
    exact m.writeDram_dramLine e.line e.bytes (h.whole e (he ▸ List.mem_cons_self))
  · have hne : (e.line == line) = false := by simpa using hline
    simp only [hne]
    cases l.find? (·.line == line) with
    | some x => rfl
    | none => exact m.writeDram_dramLine_ne e.bytes fun hl => hline hl.symm

theorem Mem.taken_keeps {m : Mem} (h : m.Coherent) {e : EvictLine} {l : List EvictLine} (he : m.evict = e :: l) (set : List Nat) :
    m.Keeps (m.taken e l set) := by
  have honce := h.evictOnce
  rw [he, List.map_cons, List.nodup_cons] at honce
  have hvalue : ∀ line, (m.taken e l set).value line = m.value line := fun line =>
    congrArg (Mem.overMerge m line) (Mem.taken_fill h he set line)
  exact ⟨⟨h.mergeOnce, honce.2, fun x hx => h.whole x (he ▸ List.mem_cons_of_mem e hx), fun a ha => (h.array a ha).trans (hvalue a.line).symm,
    h.zeroed⟩, rfl, hvalue⟩

/-! ## Writes -/

/-- A write of a line: what it does to the value of every line. -/
structure Mem.Writes (m n : Mem) (line : Nat) (mask : List Bool) (bs : List Byte) : Prop where
  coherent : n.Coherent
  waiting : n.waiting = m.waiting
  value : n.value line = overlay mask bs (m.value line)
  others : ∀ l, l ≠ line → n.value l = m.value l

/-- An entry of the merging buffer into which a write merges. -/
def BufLine.merged (mask : List Bool) (bs : List Byte) (e : BufLine) : BufLine :=
  { e with bytes := overlay mask bs e.bytes, mask := (List.range 128).map fun i => e.mask.getD i false || mask.getD i false }

theorem BufLine.line_merged (mask : List Bool) (bs : List Byte) (e : BufLine) : (e.merged mask bs).line = e.line := rfl

/-- The entry that a write takes when its line has none. -/
def BufLine.fresh (t line : Nat) (mask : List Bool) (bs : List Byte) : BufLine :=
  ⟨line, overlay mask bs (zeros 128), (List.range 128).map fun i => mask.getD i false, t⟩

/-- The merging buffer after a write: its line's entry merged, or a new one at the end. -/
theorem Mem.writeMerge_merge (m : Mem) (t line : Nat) (mask : List Bool) (bs : List Byte) : (m.writeMerge t line mask bs).merge
    = if (m.merge? line).isSome then m.merge.map (onLineOf BufLine.line line (BufLine.merged mask bs))
      else m.merge ++ [BufLine.fresh t line mask bs] := by
  cases he : m.merge? line <;> simp only [Mem.writeMerge, he] <;> rfl

/-- The merging buffer's entry of a line after a write of it. -/
theorem Mem.writeMerge_merge? (m : Mem) (t line : Nat) (mask : List Bool) (bs : List Byte) (l : Nat) :
    (m.writeMerge t line mask bs).merge? l
      = if l = line then some (((m.merge? line).map (BufLine.merged mask bs)).getD (BufLine.fresh t line mask bs)) else m.merge? l := by
  have hmerge := m.writeMerge_merge t line mask bs
  cases he : m.merge? line with
  | some e =>
    rw [he, Option.isSome_some, if_pos rfl] at hmerge
    rw [Mem.merge?, hmerge, find?_map_key BufLine.line (key_onLineOf (BufLine.line_merged mask bs)), ← Mem.merge?]
    split
    next hl => simp [hl, he, onLineOf, (Mem.merge?_mem he).2]
    next hl =>
      cases hf : m.merge? l with
      | none => rfl
      | some x => simp [onLineOf, (Mem.merge?_mem hf).2, hl]
  | none =>
    rw [he, Option.isSome_none, if_neg Bool.false_ne_true] at hmerge
    rw [Mem.merge?, hmerge, List.find?_append, ← Mem.merge?]
    split
    next hl => simp [hl, he, BufLine.fresh]
    next hl =>
      have hne : ¬line = l := fun e => hl e.symm
      simp [hne, BufLine.fresh]

/-- What a fill brings after the eviction buffer has taken a write, byte by byte outside the mask. -/
theorem Mem.writeEvict_fill (m : Mem) (line : Nat) (mask : List Bool) (bs : List Byte) :
    (∀ l, l ≠ line → (m.writeEvict line mask bs).fill l = m.fill l)
      ∧ ∀ i < 128, mask.getD i false = false → ((m.writeEvict line mask bs).fill line).getD i 0 = (m.fill line).getD i 0 := by
  have hfind : ∀ l, (m.writeEvict line mask bs).evict? l
      = (m.evict? l).map fun e => if e.line = line ∧ !e.issued then { e with bytes := overlay mask bs e.bytes } else e := fun l =>
    find?_map_key EvictLine.line (fun e => by split <;> rfl) m.evict l
  constructor
  · intro l hl
    unfold Mem.fill
    rw [hfind]
    cases hf : m.evict? l with
    | none => rfl
    | some e => simp [(Mem.evict?_mem hf).2, hl]
  · intro i hi hmask
    unfold Mem.fill
    rw [hfind]
    cases hf : m.evict? line with
    | none => rfl
    | some e =>
      simp only [Option.map_some]
      split
      · simp only [getD_overlay hi, hmask, Bool.false_eq_true, if_false]
      · rfl

/-- The three places of a write, once the array holds the line with the masked bytes or not at all. -/
theorem Mem.writes_of_array {m n : Mem} (h : m.Coherent) {t line : Nat} {mask : List Bool} {bs : List Byte} (hmerge : n.merge = m.merge)
    (hevict : n.evict = m.evict) (hdram : n.dram = m.dram) (hwait : n.waiting = m.waiting)
    (hthere : ∀ a ∈ n.array, a.line = line → a.bytes = overlay mask bs (m.value line))
    (hother : ∀ a ∈ n.array, a.line ≠ line → a.bytes = m.value a.line) :
    m.Writes ((n.writeEvict line mask bs).writeMerge t line mask bs) line mask bs := by
  set o := (n.writeEvict line mask bs).writeMerge t line mask bs with ho
  have hframe : o.array = n.array ∧ o.evict = (n.writeEvict line mask bs).evict ∧ o.dram = n.dram ∧ o.waiting = n.waiting := by
    rw [ho]
    unfold Mem.writeMerge
    split <;> exact ⟨rfl, rfl, rfl, rfl⟩
  obtain ⟨hoarray, hoevict, hodram, howait⟩ := hframe
  obtain ⟨hfillne, hfill⟩ := n.writeEvict_fill line mask bs
  have hfilln : ∀ l, n.fill l = m.fill l := fun l => Mem.fill_congr hdram (by rw [Mem.evict?, Mem.evict?, hevict])
  have hfillo : ∀ l, o.fill l = (n.writeEvict line mask bs).fill l := fun l =>
    Mem.fill_congr (m := n.writeEvict line mask bs) hodram (by rw [Mem.evict?, hoevict, ← Mem.evict?])
  have hmergen : ∀ l, (n.writeEvict line mask bs).merge? l = m.merge? l := fun l => by
    rw [Mem.merge?, Mem.merge?, ← hmerge]; rfl
  have hentry : ∀ l, o.merge? l = _ := fun l => (n.writeEvict line mask bs).writeMerge_merge? t line mask bs l
  have hvalue : o.value line = overlay mask bs (m.value line) := by
    rw [Mem.value, Mem.overMerge, hentry, if_pos rfl, hmergen, hfillo]
    have hold : ∀ i < 128, (m.value line).getD i 0 = (match m.merge? line with
        | some e => if e.mask.getD i false then e.bytes.getD i 0 else (m.fill line).getD i 0
        | none => (m.fill line).getD i 0) := by
      intro i hi
      cases he : m.merge? line with
      | some e => simp only [Mem.value, Mem.overMerge, he, getD_overlay hi]
      | none => simp only [Mem.value, Mem.overMerge, he]
    cases he : m.merge? line with
    | some e =>
      refine overlay_eq_overlay fun i hi => ?_
      have hbit : ((List.range 128).map fun i => e.mask.getD i false || mask.getD i false).getD i false
          = (e.mask.getD i false || mask.getD i false) := by simp [hi]
      simp only [Option.map_some, Option.getD_some, BufLine.merged, hbit, getD_overlay hi, hold i hi, he]
      cases hm : mask.getD i false with
      | true => simp
      | false => simp only [Bool.or_false, Bool.false_eq_true, if_false, hfill i hi hm, hfilln]
    | none =>
      refine overlay_eq_overlay fun i hi => ?_
      have hbit : ((List.range 128).map fun i => mask.getD i false).getD i false = mask.getD i false := by simp [hi]
      simp only [Option.map_none, Option.getD_none, BufLine.fresh, hbit, getD_overlay hi, hold i hi, he]
      cases hm : mask.getD i false with
      | true => simp
      | false => simp only [Bool.false_eq_true, if_false, hfill i hi hm, hfilln]
  have hothers : ∀ l, l ≠ line → o.value l = m.value l := by
    intro l hl
    simp only [Mem.value, Mem.overMerge, hentry, if_neg hl, hmergen, hfillo, hfillne l hl, hfilln]
  refine ⟨⟨?_, ?_, ?_, ?_, ?_⟩, howait.trans hwait, hvalue, hothers⟩
  · rw [ho, Mem.writeMerge_merge]
    have hmerge' : (n.writeEvict line mask bs).merge = m.merge := hmerge
    rw [hmerge', hmergen]
    cases he : m.merge? line with
    | some e =>
      rw [Option.isSome_some, if_pos rfl, map_key_onLineOf (BufLine.line_merged mask bs)]
      exact h.mergeOnce
    | none =>
      have hnew : ∀ y ∈ m.merge, y.line ≠ line := by simpa [Mem.merge?] using he
      simpa [List.nodup_append, h.mergeOnce, BufLine.fresh] using fun y hy => hnew y hy
  · have hlines : (n.writeEvict line mask bs).evict.map (·.line) = m.evict.map (·.line) := by
      rw [Mem.writeEvict, hevict, List.map_map]
      refine List.map_congr_left fun y _ => ?_
      dsimp only [Function.comp]
      split <;> rfl
    rw [hoevict, hlines]
    exact h.evictOnce
  · intro y hy
    rw [hoevict, Mem.writeEvict, hevict] at hy
    obtain ⟨z, hz, rfl⟩ := List.mem_map.1 hy
    split
    · exact length_overlay ..
    · exact h.whole z hz
  · intro a ha
    rw [hoarray] at ha
    by_cases hl : a.line = line
    · exact (hthere a ha hl).trans (hl.symm ▸ hvalue.symm : _ = o.value a.line)
    · exact (hother a ha hl).trans (hothers a.line hl).symm
  · rw [howait, hwait]
    exact h.zeroed

/-- The array after a write: its lines at the address take the masked bytes, the others stay. -/
theorem Mem.writeArray_spec (m : Mem) (line : Nat) (mask : List Bool) (bs : List Byte) :
    ((m.writeArray line mask bs).merge = m.merge ∧ (m.writeArray line mask bs).evict = m.evict ∧ (m.writeArray line mask bs).dram = m.dram
      ∧ (m.writeArray line mask bs).waiting = m.waiting)
      ∧ ∀ a ∈ (m.writeArray line mask bs).array, if a.line = line then ∃ x ∈ m.array, x.line = line ∧ a.bytes = overlay mask bs x.bytes
          else a ∈ m.array := by
  unfold Mem.writeArray
  split
  next hnone =>
    refine ⟨⟨rfl, rfl, rfl, rfl⟩, fun a ha => ?_⟩
    have hne : a.line ≠ line := by
      have hall : ∀ a ∈ m.array, a.line ≠ line := by simpa [Mem.hit?] using hnone
      exact hall a ha
    rw [if_neg hne]
    exact ha
  next x _ =>
    refine ⟨⟨rfl, rfl, rfl, rfl⟩, fun a ha => ?_⟩
    obtain ⟨y, hy, rfl⟩ := List.mem_map.1 (show a ∈ m.array.map _ from ha)
    by_cases hline : y.line = line
    · rw [if_pos hline, if_pos hline]
      exact ⟨y, hy, hline, rfl⟩
    · rw [if_neg hline, if_neg hline]
      exact hy

/-- A write that is accepted changes the masked bytes of its line (R319); a ZLINE, whose mask is full, may allocate first (R323). -/
theorem Mem.accept_writes {m : Mem} (h : m.Coherent) (t : Nat) (w : WaitWrite) (hzero : w.zero = true → w.mask = fullMask) :
    m.Writes (m.accept t w) w.line w.mask w.bytes := by
  rw [Mem.accept]
  by_cases hz : w.zero = true ∧ (!m.off) = true
  · rw [if_pos hz]
    obtain ⟨hmerge, hevict, hdram, hwait, halloc⟩ := m.allocate_spec w.line (zeros 128)
    obtain ⟨⟨hmerge', hevict', hdram', hwait'⟩, harray⟩ := (m.allocate w.line (zeros 128)).writeArray_spec w.line w.mask w.bytes
    refine Mem.writes_of_array h (hmerge'.trans hmerge) (hevict'.trans hevict) (hdram'.trans hdram) (hwait'.trans hwait) ?_ ?_
    · intro a ha hl
      obtain ⟨x, -, -, hx⟩ := (if_pos hl).mp (harray a ha)
      rw [hx, hzero hz.1]
      exact overlay_fullMask ..
    · intro a ha hl
      obtain ha | ⟨hline, -⟩ := halloc a ((if_neg hl).mp (harray a ha))
      · exact h.array a ha
      · exact absurd hline hl
  · rw [if_neg hz]
    obtain ⟨⟨hmerge, hevict, hdram, hwait⟩, harray⟩ := m.writeArray_spec w.line w.mask w.bytes
    refine Mem.writes_of_array h hmerge hevict hdram hwait ?_ ?_
    · intro a ha hl
      obtain ⟨x, hx, hxl, hbytes⟩ := (if_pos hl).mp (harray a ha)
      rw [hbytes, h.array x hx, hxl]
      rfl
    · intro a ha hl
      exact h.array a ((if_neg hl).mp (harray a ha))

/-- A shorter queue of waiting writes. -/
theorem Mem.Coherent.fewer {m : Mem} (h : m.Coherent) {l : List WaitWrite} (hl : ∀ w ∈ l, w ∈ m.waiting) : Mem.Coherent { m with waiting := l } :=
  ⟨h.mergeOnce, h.evictOnce, h.whole, h.array, fun w hw => h.zeroed w (hl w hw)⟩

theorem Mem.admitWaiting_coherent (t fuel : Nat) {m : Mem} (h : m.Coherent) : (Mem.admitWaiting t fuel m).Coherent := by
  induction fuel generalizing m with
  | zero => exact h
  | succ fuel ih =>
    unfold Mem.admitWaiting
    split
    · exact h
    next w l hw =>
      split
      · have hfewer := h.fewer (l := l) fun x hx => hw ▸ List.mem_cons_of_mem w hx
        exact ih (Mem.accept_writes hfewer t w (h.zeroed w (hw ▸ List.mem_cons_self))).coherent
      · exact h

/-- With nothing waiting nothing is admitted. -/
theorem Mem.admitWaiting_nil (t fuel : Nat) {m : Mem} (h : m.waiting = []) : Mem.admitWaiting t fuel m = m := by
  cases fuel <;> simp [Mem.admitWaiting, h]

/-- A write or ZLINE arrives: it is accepted, or waits (R319). -/
theorem Mem.write_coherent {m : Mem} (h : m.Coherent) (t : Nat) (w : WaitWrite) (hzero : w.zero = true → w.mask = fullMask) :
    (m.write t w).Coherent := by
  unfold Mem.write
  split
  · exact (Mem.accept_writes h t w hzero).coherent
  · refine ⟨h.mergeOnce, h.evictOnce, h.whole, h.array, fun x hx => ?_⟩
    obtain hx | hx := List.mem_append.1 hx
    · exact h.zeroed x hx
    · rw [List.mem_singleton.1 hx]
      exact hzero

/-- With room and nothing waiting a write is accepted. -/
theorem Mem.write_eq_accept {m : Mem} {t : Nat} {w : WaitWrite} (hroom : m.roomFor w.line = true) (hwait : m.waiting = []) :
    m.write t w = m.accept t w := by simp [Mem.write, hroom, hwait]

/-! ## The commands -/

/-- Casket after the write of its oldest entry: the next is issued, and the drains that waited go on. -/
def Mem.afterWrite (m : Mem) (e : EvictLine) (l : List EvictLine) : Mem :=
  let n := (m.taken e l (if m.drainWait.contains e.line then m.drainSet else m.drainSet.filter (· != e.line))).issue
  n.drainWait.foldl Mem.drain n

theorem Mem.afterWrite_keeps {m : Mem} (h : m.Coherent) {e : EvictLine} {l : List EvictLine} (he : m.evict = e :: l) :
    m.Keeps (m.afterWrite e l) := by
  have htaken := Mem.taken_keeps h he (if m.drainWait.contains e.line then m.drainSet else m.drainSet.filter (· != e.line))
  have hissued := htaken.trans (Mem.issue_keeps htaken.coherent)
  exact hissued.trans (Mem.foldl_keeps (fun m line hm => Mem.drain_keeps (m := m) hm line) _ hissued.coherent)

theorem Mem.writeDone_eq (m : Mem) (t : Nat) {e : EvictLine} {l : List EvictLine} (he : m.evict = e :: l) (hissued : e.issued = true) :
    m.writeDone t e.line = (Mem.admitWaiting t (m.afterWrite e l).waiting.length (m.afterWrite e l)).drainCheck := by
  simp only [Mem.writeDone, he, hissued, and_self, if_true]
  rfl

/-- A completed DRAM write keeps Casket coherent, and with nothing waiting every value (R321). -/
theorem Mem.writeDone_keeps {m : Mem} (h : m.Coherent) (t line : Nat) :
    (m.writeDone t line).Coherent ∧ (m.waiting = [] → m.Keeps (m.writeDone t line)) := by
  have hsame : m.Coherent ∧ (m.waiting = [] → m.Keeps m) := ⟨h, fun _ => .refl h⟩
  cases he : m.evict with
  | nil => simpa only [Mem.writeDone, he] using hsame
  | cons e l =>
    by_cases hdone : e.line = line ∧ e.issued = true
    · obtain ⟨rfl, hissued⟩ := hdone
      have hafter := Mem.afterWrite_keeps h he
      rw [Mem.writeDone_eq m t he hissued]
      refine ⟨(Mem.drainCheck_keeps (Mem.admitWaiting_coherent _ _ hafter.coherent)).coherent, fun hwait => ?_⟩
      rw [Mem.admitWaiting_nil _ _ (hafter.waiting.trans hwait)]
      exact hafter.trans (Mem.drainCheck_keeps hafter.coherent)
    · simpa only [Mem.writeDone, he, if_neg hdone] using hsame

/-- A drain, and the acceptance of what waited for its room. -/
theorem Dev.drainMb_keeps {d : Dev} (h : d.mem.Coherent) (t line : Nat) :
    (d.drainMb t line (d.mem.fill line)).mem.Coherent
      ∧ (d.mem.waiting = [] → d.mem.Keeps (d.drainMb t line (d.mem.fill line)).mem) := by
  have hdrain := Mem.drain_keeps h line
  refine ⟨Mem.admitWaiting_coherent _ _ hdrain.coherent, fun hwait => ?_⟩
  have hnil : (d.drainMb t line (d.mem.fill line)).mem = d.mem.drain line := Mem.admitWaiting_nil _ _ (hdrain.waiting.trans hwait)
  rw [hnil]
  exact hdrain

theorem Dev.mbDrain_keeps {d : Dev} (h : d.mem.Coherent) (t line : Nat) (region : Region) :
    (d.mbDrain t line region .good).mem.Coherent ∧ (d.mem.waiting = [] → d.mem.Keeps (d.mbDrain t line region .good).mem) := by
  unfold Dev.mbDrain
  split
  · exact ⟨h, fun _ => .refl h⟩
  · split
    · exact ⟨h, fun _ => .refl h⟩
    · exact Dev.drainMb_keeps h t line

theorem Dev.casketRead_good (d : Dev) (t line : Nat) (region : Region) :
    d.casketRead t line region .good = d.modMem fun m => m.readLine line := by
  unfold Dev.casketRead
  split <;> rfl

theorem Dev.casketDisable_keeps {d : Dev} (h : d.mem.Coherent) : d.mem.Keeps d.casketDisable.mem := by
  unfold Dev.casketDisable
  dsimp only
  split
  · exact .refl h
  · have hflag : d.mem.Keeps { d.mem with disabling := true } := Mem.keeps_of_same h rfl rfl rfl rfl rfl
    exact hflag.trans (Mem.startDrain_keeps hflag.coherent)

theorem Dev.casketEnable_keeps {d : Dev} (h : d.mem.Coherent) : d.mem.Keeps d.casketEnable.mem := by
  unfold Dev.casketEnable
  dsimp only
  split
  · exact .refl h
  · exact Mem.keeps_of_same h rfl rfl rfl rfl rfl

/-- The invalidation drops lines of the array alone. -/
theorem Dev.invalidated_keeps {d : Dev} (h : d.mem.Coherent) : d.mem.Keeps d.invalidated.mem := by
  have hempty : ∀ a b : Bool, d.mem.Keeps { d.mem with
      array := [], plru := [], invalidating := false, drainSet := [], disabling := false, p3Drain := false, noAlloc := a || b } := fun a b =>
    Mem.keeps_of_array h rfl rfl rfl rfl fun a ha => absurd ha List.not_mem_nil
  unfold Dev.invalidated
  dsimp only
  split
  · exact .refl h
  · split <;> exact hempty _ _

/-- A command of Casket on a line that answers a next state did its effect on the device. -/
theorem onLine_next {s t : State} {line : Nat} {f : Dev → Dev} (h : onLine s line f = .next t) : t.dev.mem = (f s.dev).mem := by
  unfold onLine at h
  split at h
  · cases h
    exact State.onDev_mem s f
  · cases h

theorem run_next {s t : State} {f : Dev → Dev} (h : run s f = .next t) : t.dev.mem = (f s.dev).mem := by
  cases h
  exact State.onDev_mem s f

/-- A command of Casket that is no write leaves it coherent, and with nothing waiting every line its value. -/
theorem casket_keeps {c : Instr} {line : Nat} {region : Region} {s t : State}
    (hc : c ∈ [Instr.casketRead line region .good, .mbDrain line region .good, .evictionWriteDone line, .casketDisable, .casketEnable,
      .invalidateDone])
    (h : s.dev.mem.Coherent) (hexec : exec c s = .next t) :
    t.dev.mem.Coherent ∧ (s.dev.mem.waiting = [] → s.dev.mem.Keeps t.dev.mem) := by
  simp only [List.mem_cons, List.not_mem_nil, or_false] at hc
  have hboth : ∀ {n : Mem}, s.dev.mem.Keeps n → n.Coherent ∧ (s.dev.mem.waiting = [] → s.dev.mem.Keeps n) := fun hn => ⟨hn.coherent, fun _ => hn⟩
  obtain rfl | rfl | rfl | rfl | rfl | rfl := hc
  · rw [onLine_next hexec, Dev.casketRead_good]
    exact hboth (Mem.readLine_keeps h line)
  · rw [onLine_next hexec]
    exact Dev.mbDrain_keeps h s.dtime line region
  · rw [onLine_next hexec]
    exact Mem.writeDone_keeps h s.dtime line
  · rw [run_next hexec]
    exact hboth (Dev.casketDisable_keeps h)
  · rw [run_next hexec]
    exact hboth (Dev.casketEnable_keeps h)
  · rw [run_next hexec]
    exact hboth (Dev.invalidated_keeps h)

/-- Settles O50: the value of a line out of the buffers and DRAM is what every command but a write keeps, and what the array holds. -/
theorem casketStaysCoherent : Obligations.CasketStaysCoherent := by
  unfold Obligations.CasketStaysCoherent
  refine ⟨fun c line region mask bs s t hc h hexec => ?stays, fun m line h => h.lineBytes_eq line,
    fun c line region s t hc h hwait hexec l => ?reads, fun line mask bs s hline h hwait hroom => ⟨?write, ?zline⟩⟩
  case stays =>
    simp only [List.mem_cons, List.not_mem_nil, or_false] at hc
    obtain rfl | rfl | rfl | rfl | rfl | hc := hc
    · exact (casket_keeps (line := line) (region := region) (by simp) h hexec).1
    · rw [onLine_next hexec]
      exact Mem.write_coherent h _ _ fun hz => absurd hz Bool.false_ne_true
    · exact (casket_keeps (line := line) (region := region) (by simp) h hexec).1
    · exact (casket_keeps (line := line) (region := region) (by simp) h hexec).1
    · rw [onLine_next hexec]
      exact Mem.write_coherent h _ _ fun _ => rfl
    · exact (casket_keeps (line := line) (region := region) (by simp [hc]) h hexec).1
  case reads =>
    obtain ⟨hcoherent, hkeeps⟩ := casket_keeps hc h hexec
    rw [hcoherent.lineBytes_eq, h.lineBytes_eq, (hkeeps hwait).value]
  case write =>
    have hw := Mem.accept_writes h s.dtime ⟨line, mask, bs, false⟩ fun hz => absurd hz Bool.false_ne_true
    refine ⟨s.onDev fun d => d.modMem fun m => m.write s.dtime ⟨line, mask, bs, false⟩, if_pos hline, ?_⟩
    rw [State.onDev_mem, Dev.modMem, Mem.write_eq_accept hroom hwait]
    exact ⟨by rw [hw.coherent.lineBytes_eq, h.lineBytes_eq, hw.value],
      fun l hl => by rw [hw.coherent.lineBytes_eq, h.lineBytes_eq, hw.others l hl]⟩
  case zline =>
    have hw := Mem.accept_writes h s.dtime ⟨line, fullMask, zeros 128, true⟩ fun _ => rfl
    refine ⟨s.onDev fun d => d.modMem fun m => m.write s.dtime ⟨line, fullMask, zeros 128, true⟩, if_pos hline, ?_⟩
    rw [State.onDev_mem, Dev.modMem, Mem.write_eq_accept hroom hwait]
    exact ⟨by rw [hw.coherent.lineBytes_eq, hw.value, overlay_fullMask_zeros],
      fun l hl => by rw [hw.coherent.lineBytes_eq, h.lineBytes_eq, hw.others l hl]⟩

end Sys2Proof.Machine
end

section
/-! PROOFS. A log one record short of full, with suppressed events of the code to come: the report of R441 takes the last place of
R444, and the event is heard but not recorded. -/

namespace Sys2Proof.Machine

/-- Cameo one record short of the stop of R444, with a token for `code` and one suppressed event of it to be reported first. -/
def Cameo.brim (code : Nat) (journal : List EventRec) (raised : List Raised) : Cameo :=
  { raised := raised, journal := journal, buckets := [(code, 1)], suppressed := [⟨code, 1, 0, 0, 0⟩] }

/-- As many records as leave room for one (R444). -/
def Cameo.almostFull : List EventRec := List.replicate 262141 ⟨0, 0, 0, 0, 0, []⟩

/-- The device with Cameo at the brim for an event. -/
def Dev.atBrim (d : Dev) (e : Event) : Dev := { d with cameo := Cameo.brim e.code Cameo.almostFull [] }

/-- The device right after a cold reset, but for the registers listed: field, number of its unit, value. -/
def Dev.holding (l : List (Fld × Nat × Nat)) : Dev := l.foldl (fun d x => setF d x.1 x.2.1 x.2.2) {}

theorem Cameo.length_almostFull : Cameo.almostFull.length = 262141 := List.length_replicate

theorem Dev.getF_atBrim (d : Dev) (e : Event) (f : Fld) (i : Nat) : getF (d.atBrim e) f i = getF d f i := rfl

/-- At the brim Cameo hears the event: every condition of `Hears` holds. -/
theorem Dev.hears_atBrim {d : Dev} (e : Event) (halive : d.crownDead = false) (hawake : getF d .PM_STAT_STATE 0 ≠ 4) :
    (d.atBrim e).Hears e where
  alive := halive
  awake := hawake
  none := rfl
  running := rfl
  room := by simp [Dev.atBrim, Cameo.brim]
  unlost := rfl
  held := by simp [Dev.atBrim, Cameo.brim, Cameo.held, Cameo.length_almostFull]
  token := by simp [Dev.atBrim, Cameo.brim, Cameo.tokens]

/-- With one place left in the log, admitting an event whose code has suppressed events stages their report and, in the event's
own place, CM_LOG_FULL. -/
theorem Cameo.admitOne_brim (sev n : Nat) (r : Raised) :
    (Cameo.admitOne sev { Cameo.brim r.code Cameo.almostFull [] with buckets := [(r.code, n)] } r).stage.map (·.code)
      = [Event.CM_SUPPRESSED.code, Event.CM_LOG_FULL.code] := by
  simp [Cameo.brim, Cameo.admitOne, Cameo.report, Cameo.stageOne, Cameo.putOne, Cameo.put, Cameo.held, Cameo.length_almostFull,
    Cameo.own]

/-- Judging one event at the brim admits it, with a token taken where its code is rate-limited. -/
theorem Cameo.judge_brim (sev : Nat) (r : Raised) :
    ((Cameo.brim r.code Cameo.almostFull []).judge sev r).stage.map (·.code) = [Event.CM_SUPPRESSED.code, Event.CM_LOG_FULL.code] := by
  have htoken : (Cameo.brim r.code Cameo.almostFull []).tokens r.code = 1 := by simp [Cameo.brim, Cameo.tokens]
  unfold Cameo.judge
  cases hlim : Event.limited.contains r.code with
  | false => exact Cameo.admitOne_brim sev 1 r
  | true =>
    rw [htoken]
    have hadmit := Cameo.admitOne_brim sev 0 r
    simpa [Cameo.brim] using hadmit

/-- The notification's message leaves the stage as it is. -/
theorem Dev.notifyOwed_stage (d : Dev) : d.notifyOwed.cameo.stage = d.cameo.stage := by
  unfold Dev.notifyOwed
  split
  · unfold Dev.msix
    split <;> rfl
  · rfl

/-- The stage after the events of a command have been judged is that of the judging. -/
theorem Dev.flush_stage {d : Dev} (halive : d.crownDead = false) (hawake : getF d .PM_STAT_STATE 0 ≠ 4) :
    d.flush.cameo.stage
      = ((sortRaised d.cameo.raised).foldl (Cameo.judge (getF d .CM_CFG_NOTIFY_SEV 0)) { d.cameo with raised := [] }).stage := by
  rw [Dev.flush, Dev.notifyOwed_stage, Dev.judgeAll, if_neg hawake]
  simp only [halive, Bool.false_eq_true, if_false]

/-- An effect that raises one event at its brim, and nothing else of Cameo, does not get it recorded. -/
theorem not_recorded_at_brim {e : Event} {d : Dev} {s : State} {g : Dev → Dev} {time inst j : Nat} {params ps : List Nat}
    (hs : s.dev = d.atBrim e) (hone : e.code ≠ Event.CM_SUPPRESSED.code ∧ e.code ≠ Event.CM_LOG_FULL.code)
    (halive : (g s.dev).crownDead = false) (hawake : getF (g s.dev) .PM_STAT_STATE 0 ≠ 4)
    (hcameo : (g s.dev).cameo = (s.dev.event time e inst params).cameo) :
    ¬ Recorded e j ps s (s.onDev g) := by
  rintro ⟨x, hx, hxcode, -⟩
  have hstage : (s.onDev g).dev.cameo.stage.map (·.code) = [Event.CM_SUPPRESSED.code, Event.CM_LOG_FULL.code] := by
    simp only [State.onDev]
    rw [Dev.flush_stage halive hawake, hcameo, hs]
    exact Cameo.judge_brim _ ⟨e.code, e.severity, _, time, _⟩
  have hmem : e.code ∈ (s.onDev g).dev.cameo.stage.map (·.code) := hxcode ▸ List.mem_map_of_mem hx
  simp [hstage, hone] at hmem

/-- So a promise to record what is heard fails of a command that raises the event at its brim. -/
theorem brim_refutes {e : Event} {d : Dev} {c : Instr} {s t : State} {g : Dev → Dev} {time inst j : Nat} {params ps : List Nat}
    (hrec : s.dev.Hears e → Recorded e j ps s t)
    (hnext : exec c s = .next t) (hs : s.dev = d.atBrim e) (hrun : exec c s = run s g)
    (hone : e.code ≠ Event.CM_SUPPRESSED.code ∧ e.code ≠ Event.CM_LOG_FULL.code)
    (halive : d.crownDead = false ∧ getF d .PM_STAT_STATE 0 ≠ 4)
    (hstill : (g s.dev).crownDead = false ∧ getF (g s.dev) .PM_STAT_STATE 0 ≠ 4)
    (hcameo : (g s.dev).cameo = (s.dev.event time e inst params).cameo) : False := by
  have ht : s.onDev g = t := by
    rw [hrun] at hnext
    exact Host.Outcome.next.inj hnext
  have hears : s.dev.Hears e := hs ▸ Dev.hears_atBrim e halive.1 halive.2
  exact not_recorded_at_brim hs hone hstill.1 hstill.2 hcameo (ht ▸ hrec hears)

/-- Refutes O34: a rejected strategy entry raises FC_WS_REJECT, which a log at the brim hears but does not record. -/
theorem not_strategyEntriesAndLaserHandover : ¬ Obligations.StrategyEntriesAndLaserHandover := by
  unfold Obligations.StrategyEntriesAndLaserHandover
  rintro ⟨-, hreject, -⟩
  obtain ⟨t, hnext, hrec, -⟩ := hreject 0 0 0 0 { dev := Dev.atBrim {} .FC_WS_REJECT } (by decide)
  exact brim_refutes hrec hnext rfl rfl (by decide) (by decide) (by decide) rfl

end Sys2Proof.Machine
end

section
/-! PROOFS. Refutations at the brim of the log: the links, the loops, the heads and the spindles. -/

namespace Sys2Proof.Machine

-- evaluating a command on a concrete device runs through its register file and its vectors of heads and spindles
set_option maxRecDepth 8000

/-- A mailbox with one request, issued and without an answer, that has been re-issued three times. -/
def Dev.lastIssue (d : Dev) (h : HeadId) : Dev :=
  d.modHead h fun x => { x with link := { x.link with port := { x.link.port with
    mbox := [{ tag := 0, write := false, addr := 0, data := 0, purpose := .guard, queued := false, age := 4, reissues := 3 }] } } }

/-- Refutes O10: an answer with STATUS 1 raises HL_MAILBOX_FAIL, which a log at the brim hears but does not record. -/
theorem not_mailboxAnswers : ¬ Obligations.MailboxAnswers := by
  unfold Obligations.MailboxAnswers
  rintro ⟨-, -, hfail, -⟩
  obtain ⟨t, hnext, -, hrec, -⟩ := hfail (.head 0) 0 0 0 { dev := (Dev.lastIssue {} 0).atBrim .HL_MAILBOX_FAIL } _ rfl rfl
  exact brim_refutes (hrec rfl) hnext rfl rfl (by decide) (by decide) (by decide) rfl

/-- Refutes O11: a request re-issued three times raises HL_MAILBOX_FAIL, which a log at the brim hears but does not record. -/
theorem not_mailboxRetries : ¬ Obligations.MailboxRetries := by
  unfold Obligations.MailboxRetries
  rintro ⟨-, hfail, -⟩
  obtain ⟨t, hnext, -, hrec, -⟩ :=
    hfail (.head 0) 0 { dev := (Dev.lastIssue {} 0).atBrim .HL_MAILBOX_FAIL } _ rfl rfl (by decide) (by decide)
  exact brim_refutes (hrec rfl) hnext rfl rfl (by decide) (by decide) (by decide) rfl

/-- Refutes O12: the lockout of a head link raises HL_LINK_LOCKOUT, which a log at the brim hears but does not record. -/
theorem not_linkBringUpSteps : ¬ Obligations.LinkBringUpSteps := by
  unfold Obligations.LinkBringUpSteps
  rintro ⟨-, -, -, -, -, -, -, hlock, -⟩
  obtain ⟨t, hnext, -, hrec, -⟩ :=
    hlock (.head 0) { dev := (Dev.holding [(.HL_STATUS_STATE, 0, 1), (.HL_CTL_RETRY_MAX, 0, 1)]).atBrim .HL_LINK_LOCKOUT }
      (by decide) (by decide) (by decide)
  exact brim_refutes hrec hnext rfl rfl (by decide) (by decide) (by decide) rfl

/-- Refutes O13: a pendant lost raises HL_PENDANT_LOST, which a log at the brim hears but does not record. -/
theorem not_linkLossStopsLaserAndWrites : ¬ Obligations.LinkLossStopsLaserAndWrites := by
  unfold Obligations.LinkLossStopsLaserAndWrites
  rintro ⟨hloss, -⟩
  obtain ⟨t, hnext, -, -, -, -, -, -, -, -, hrec⟩ :=
    hloss 0 { dev := (Dev.holding [(.HL_STATUS_STATE, 0, 6)]).atBrim .HL_PENDANT_LOST } (by decide)
  exact brim_refutes hrec hnext rfl rfl (by decide) (by decide) (by decide) rfl

/-- Refutes O16: the COMMIT of an empty law raises BZ_LAW_REJECT, which a log at the brim hears but does not record. -/
theorem not_lawSlotWrites : ¬ Obligations.LawSlotWrites := by
  unfold Obligations.LawSlotWrites
  rintro ⟨-, hreject, -⟩
  obtain ⟨t, hnext, -, hrec, -⟩ :=
    hreject 0 0 0 0 { dev := (Dev.holding [(.BZ_LAW_STRUCT_WORD, 0, 0)]).atBrim .BZ_LAW_REJECT } (by decide) (by decide) (by decide)
  exact brim_refutes hrec hnext rfl rfl (by decide) (by decide) (by decide) rfl

/-- Refutes O20: the last focus sweep without capture raises MO_FOCUS_FAIL, which a log at the brim hears but does not record. -/
theorem not_focusAcquisitionSteps : ¬ Obligations.FocusAcquisitionSteps := by
  unfold Obligations.FocusAcquisitionSteps
  rintro ⟨-, -, hfail, -⟩
  obtain ⟨t, hnext, -, hrec, -⟩ :=
    hfail 0 { dev := ((Dev.holding [(.MO_MODE_MODE, 0, 2), (.MO_FOCUS_CFG_FOCUS_TRIES, 0, 1)]).modHead 0 fun x =>
        { x with motion := { x.motion with acq := .sweep, sweep := 24576 } }).atBrim .MO_FOCUS_FAIL }
      (by decide) (by decide) (by decide) (by decide) (by decide)
  exact brim_refutes hrec hnext rfl rfl (by decide) (by decide) (by decide) rfl

/-- Refutes O21: a coast beyond COAST_MAX raises MO_JUMP_FAIL, which a log at the brim hears but does not record. -/
theorem not_layerJumpSteps : ¬ Obligations.LayerJumpSteps := by
  unfold Obligations.LayerJumpSteps
  rintro ⟨-, hcoast, -⟩
  obtain ⟨t, hnext, -, -, -, hrec, -⟩ :=
    hcoast 0 ⟨true, 1, .coast, 1, 0, true, true⟩
      { dev := ((Dev.holding [(.MO_JUMP_CFG_COAST_MAX, 0, 0)]).modHead 0 fun x =>
        { x with motion := { x.motion with jump := some ⟨true, 1, .coast, 1, 0, true, true⟩ } }).atBrim .MO_JUMP_FAIL }
      (by decide) (by decide) (by decide)
  exact brim_refutes hrec hnext rfl rfl (by decide) (by decide) (by decide) rfl

/-- Refutes O25: a start on a low bus raises TQ_START_REFUSED, which a log at the brim hears but does not record. -/
theorem not_spindleStartSequence : ¬ Obligations.SpindleStartSequence := by
  unfold Obligations.SpindleStartSequence
  rintro ⟨-, hrefused, -⟩
  obtain ⟨t, hnext, -, -, hrec, -⟩ :=
    hrefused 0 { dev := ((Dev.holding [(.TQ_DOOR_DOOR_CLOSED, 0, 1), (.TQ_DOOR_LOCK_ENGAGED, 0, 1), (.TQ_DOOR_TRAY_IN, 0, 1),
          (.TQ_DOOR_CART_PRESENT, 0, 1)]).modSpin 0 fun x => { x with torc := { x.torc with doorWait := true, fourOk := 80000, busWarn := true } }).atBrim .TQ_START_REFUSED }
      (by decide) (by decide) (by decide) (by decide) (by decide) (by decide) (by decide) (by decide) (by decide) (by decide)
  exact brim_refutes hrec hnext rfl rfl (by decide) (by decide) (by decide) rfl

/-- Refutes O26: test pulses without an estimate a second time raise TQ_START_FAIL, which a log at the brim hears but does not
record. -/
theorem not_rotorEstimateAndHandover : ¬ Obligations.RotorEstimateAndHandover := by
  unfold Obligations.RotorEstimateAndHandover
  rintro ⟨-, -, hfail, -⟩
  obtain ⟨t, hnext, -, -, hrec, -⟩ :=
    hfail 0 [] { dev := ((Dev.holding [(.TQ_STAT_STATE, 0, 2)]).modSpin 0 fun x =>
        { x with torc := { x.torc with age := 192, testTwice := true } }).atBrim .TQ_START_FAIL }
      (by decide) (by decide) (by decide) (by decide)
  exact brim_refutes hrec hnext rfl rfl (by decide) (by decide) (by decide) rfl

/-- Refutes O29: a chopper fault raises TQ_CHOP_FAULT, which a log at the brim hears but does not record. -/
theorem not_chopperAndMotorChecks : ¬ Obligations.ChopperAndMotorChecks := by
  unfold Obligations.ChopperAndMotorChecks
  rintro ⟨-, -, -, -, hfault, -⟩
  obtain ⟨t, hnext, -, -, hrec, -⟩ :=
    hfault 0 { dev := (Dev.modSpin {} 0 fun x => { x with torc := { x.torc with chopHigh := 80 } }).atBrim .TQ_CHOP_FAULT }
      (by decide) (by decide)
  exact brim_refutes hrec hnext rfl rfl (by decide) (by decide) (by decide) rfl

/-- Refutes O30: a tray that does not arrive raises TQ_TRAY_FAIL, which a log at the brim hears but does not record. -/
theorem not_bayAndCoreFailures : ¬ Obligations.BayAndCoreFailures := by
  unfold Obligations.BayAndCoreFailures
  rintro ⟨-, -, -, hfail, -⟩
  obtain ⟨t, hnext, -, -, -, -, hrec, -⟩ :=
    hfail 0 { dev := (Dev.modSpin {} 0 fun x =>
        { x with torc := { x.torc with doorSeq := .trayIn, trayAge := 1600000 } }).atBrim .TQ_TRAY_FAIL }
      (by decide) (by decide)
  exact brim_refutes hrec hnext rfl rfl (by decide) (by decide) (by decide) rfl

end Sys2Proof.Machine
end

section
/-! PROOFS. Refutations at the brim of the log: the data path, the chains, Clasp, Filigree, Hallmark, Keeper and the management
port. -/

namespace Sys2Proof.Machine

-- evaluating a command on a concrete device runs through its register file and its vectors of heads and spindles
set_option maxRecDepth 8000

/-- Refutes O38: the end of a remap scan raises SY_REMAP_SCAN_DONE, which a log at the brim hears but does not record. -/
theorem not_surfacesMountAndFormat : ¬ Obligations.SurfacesMountAndFormat := by
  unfold Obligations.SurfacesMountAndFormat
  rintro ⟨-, -, -, -, -, -, -, hscan, -⟩
  obtain ⟨t, hnext, -, -, hrec⟩ :=
    hscan 0 [] { dev := (Dev.modSurf {} 0 fun x => { x with mount := .scanning }).atBrim .SY_REMAP_SCAN_DONE } (by decide)
  exact brim_refutes hrec hnext rfl rfl (by decide) (by decide) (by decide) rfl

/-- Refutes O42: the end of a rebuild raises CH_REBUILD_DONE, which a log at the brim hears but does not record. -/
theorem not_rebuildAndResynchronization : ¬ Obligations.RebuildAndResynchronization := by
  unfold Obligations.RebuildAndResynchronization
  rintro ⟨-, -, -, -, hdone⟩
  obtain ⟨t, hnext, -, -, hrec, -⟩ :=
    hdone 0 0 { dev := (Dev.modChain {} 0 fun x => { x with rebuilding := some 0 }).atBrim .CH_REBUILD_DONE }
      (by decide) (by decide) (by decide) (by decide)
  exact brim_refutes hrec hnext rfl rfl (by decide) (by decide) (by decide) rfl

/-- Refutes O44: an index beyond the depth of a pair raises CL_DOORBELL_BAD, which a log at the brim hears but does not record. -/
theorem not_doorbellsFetchingAndLocks : ¬ Obligations.DoorbellsFetchingAndLocks := by
  unfold Obligations.DoorbellsFetchingAndLocks
  rintro ⟨hdoorbell, -⟩
  obtain ⟨-, -, hbad, -⟩ :=
    hdoorbell 0 0 ⟨0, 0, 0, 0, 0, false, 0, 0, 0, 0, 0, 0, true, false, [], 0, 0⟩
      { dev := (Dev.modClasp {} fun x => { x with
          queues := [⟨0, 0, 0, 0, 0, false, 0, 0, 0, 0, 0, 0, true, false, [], 0, 0⟩] }).atBrim .CL_DOORBELL_BAD }
      (by decide) (by decide)
  obtain ⟨t, hnext, hrec, -⟩ := hbad (by decide) false
  exact brim_refutes hrec hnext rfl rfl (by decide) (by decide) (by decide) rfl

/-- Refutes O52: a journal unit that fails its check raises MI_JOURNAL_ERR, which a log at the brim hears but does not record. -/
theorem not_badLinesScrubberAndJournal : ¬ Obligations.BadLinesScrubberAndJournal := by
  unfold Obligations.BadLinesScrubberAndJournal
  rintro ⟨-, -, -, hjournal, -⟩
  obtain ⟨-, t, hnext, hrec, -⟩ :=
    hjournal 0x30800 245760 { dev := Dev.atBrim {} .MI_JOURNAL_ERR } (by decide) (by decide)
  exact brim_refutes hrec hnext rfl rfl (by decide) (by decide) (by decide) rfl

/-- Refutes O55: the time-out of TH_AMBIENT raises TH_AMBIENT_STALE, which a log at the brim hears but does not record. -/
theorem not_thermalAndThrottle : ¬ Obligations.ThermalAndThrottle := by
  unfold Obligations.ThermalAndThrottle
  rintro ⟨-, -, -, hambient, -⟩
  obtain ⟨hstale, -⟩ := hambient
    { dev := (Dev.holding [(.TH_CTL_AMB_TIMEOUT, 0, 0), (.TH_STAT_AMB_STALE, 0, 0)]).atBrim .TH_AMBIENT_STALE }
  obtain ⟨t, hnext, -, -, hrec, -⟩ := hstale (by decide)
  exact brim_refutes (hrec (by decide)) hnext rfl rfl (by decide) (by decide) (by decide) rfl

/-- Refutes O57: a dip of the core supply raises KP_DIP, which a log at the brim hears but does not record. -/
theorem not_keeperDipsDoorsAndLosses : ¬ Obligations.KeeperDipsDoorsAndLosses := by
  unfold Obligations.KeeperDipsDoorsAndLosses
  rintro ⟨hdips, -⟩
  obtain ⟨hdip, -⟩ := hdips { dev := Dev.atBrim {} .KP_DIP } (by decide)
  obtain ⟨t, hnext, -, -, -, -, -, -, -, hrec, -⟩ := hdip (by decide)
  exact brim_refutes hrec hnext rfl rfl (by decide) (by decide) (by decide) rfl

/-- Refutes O58: a FIFO that overflows raises SY_FIFO_OVERFLOW, which a log at the brim hears but does not record. -/
theorem not_speedDiesAndPendantReports : ¬ Obligations.SpeedDiesAndPendantReports := by
  unfold Obligations.SpeedDiesAndPendantReports
  rintro ⟨-, -, -, -, -, -, -, -, hother⟩
  obtain ⟨t, hnext, -, hnone⟩ := hother 0 [] { dev := Dev.atBrim {} .SY_FIFO_OVERFLOW }
  obtain ⟨-, hrec⟩ := hnone rfl
  exact brim_refutes hrec hnext rfl rfl (by decide) (by decide) (by decide) rfl

/-- Refutes O60: a bad request to the management port raises MG_BAD_MESSAGE, which a log at the brim hears but does not record. -/
theorem not_eventRecordsAndManagementPort : ¬ Obligations.EventRecordsAndManagementPort := by
  unfold Obligations.EventRecordsAndManagementPort
  rintro ⟨-, -, -, -, -, -, -, -, -, -, -, -, -, -, -, hbad⟩
  obtain ⟨-, ⟨t, hnext, -, hrec, -⟩, -⟩ :=
    hbad 0 { dev := (Dev.modLocket {} fun x => { x with stage := .done }).atBrim .MG_BAD_MESSAGE } (by decide) (by decide)
  exact brim_refutes (hrec (by decide)) hnext rfl rfl (by decide) (by decide) (by decide) rfl

/-- A sector armed on spot 0 of head 0 whose gate has failed. -/
def WriteJob.failing : WriteJob :=
  { id := 0, owner := none, surf := 0, head := 0, home := 0, target := 0, kind := 1, volume := 0, flags := 0, epoch := 0, logical := 0,
    time := 0, chain := 0xFF, member := 0xFF, seq := 0, reason := 0, data := [], state := .writing, bad := true }

/-- Refutes O36: a sector abandoned ABANDON_MAX times in a row raises FC_WRITE_STUCK, which a log at the brim hears but does not
record. -/
theorem not_gatesDecideASector : ¬ Obligations.GatesDecideASector := by
  unfold Obligations.GatesDecideASector
  intro hends
  obtain ⟨-, -, -, hstuck⟩ := hends 0 0 WriteJob.failing
    { dev := ((Dev.holding [(.FC_WR_CFG_ABANDON_MAX, 0, 1)]).modData fun x => { x with writes := [WriteJob.failing] }).atBrim .FC_WRITE_STUCK }
    (by decide) (by decide) (by decide) (by decide) (by decide)
  obtain ⟨t, w', hnext, -, -, -, -, -, hrec⟩ := hstuck (by decide) (by decide)
  exact brim_refutes (hrec (by decide)) hnext rfl rfl (by decide) (by decide) (by decide) rfl

/-- A sector read for a command, recovered and to be written to a new place. -/
def ReadJob.recovered : ReadJob :=
  { id := 0, why := .cmd 1 0, surf := 0, head := 0, psa := 0, home := 0, lsn := 0, kinds := [1], volume := 0, logical := 0, epoch := 0,
    realloc := true }

/-- Refutes O37: a reallocation with the remap area full raises FC_REALLOC_FAIL, which a log at the brim hears but does not
record. -/
theorem not_verificationAndRetries : ¬ Obligations.VerificationAndRetries := by
  unfold Obligations.VerificationAndRetries
  rintro ⟨-, -, -, -, -, -, hfull⟩
  obtain ⟨t, hnext, -, -, hrec, -⟩ := hfull 0 ReadJob.recovered
    { dev := ((Dev.modSurf {} 0 fun x => { x with remapFull := true }).modData fun x =>
        { x with reads := [ReadJob.recovered] }).atBrim .FC_REALLOC_FAIL }
    (by decide) (by decide) (by decide)
  exact brim_refutes hrec hnext rfl rfl (by decide) (by decide) (by decide) rfl

/-- A sector read whose codeword 1 is under its E0 decode. -/
def ReadJob.decoding : ReadJob := { ReadJob.recovered with realloc := false, frame := some 512 }

/-- Refutes O32: a codeword that fails with the soft hold full raises LD_HOLD_FULL, which a log at the brim hears but does not
record. -/
theorem not_codewordsInThePool : ¬ Obligations.CodewordsInThePool := by
  unfold Obligations.CodewordsInThePool
  rintro ⟨-, -, -, -, hfail, -⟩
  obtain ⟨t, hnext, -, -, -, hfull, -⟩ := hfail 0 1 (0, 1, 0) ReadJob.decoding []
    { dev := ((Dev.holding [(.LD_POOL_E0_ITER, 0, 0), (.LD_POOL_ACTIVE, 0, 48)]).modData fun x =>
        { x with reads := [ReadJob.decoding], queue := [(0, 1, 0)], hold := List.replicate 128 (0, 2, 0) }).atBrim .LD_HOLD_FULL }
    (by decide) (by decide) (by decide) (by decide) (by decide) (by decide) (by decide) (by decide) rfl
  obtain ⟨-, -, hrec⟩ := hfull (by decide)
  exact brim_refutes (hrec (by decide)) hnext rfl rfl (by decide) (by decide) (by decide) rfl

/-- A READ_EXTENT with nothing stored: the decoder finds no object. -/
def Cmd.emptyExtent : Cmd :=
  { qid := 1, order := 0, e := { opc := 0x25, flags := 0, tag := 0, volume := 0, rsvd := 0, budget := 0, addr := 0, addr2 := 0, len := 0,
                                 dptr := 0, rptr := 0, xptr := 0, arg := 0 } }

/-- Refutes O49: a decoder fault raises FG_BAD_STREAM, which a log at the brim hears but does not record. -/
theorem not_enginesAndObjects : ¬ Obligations.EnginesAndObjects := by
  unfold Obligations.EnginesAndObjects
  rintro ⟨-, -, -, -, -, hfault⟩
  obtain ⟨t, hnext, -, hrec, -⟩ := hfault 0 ⟨1, 0, false, true⟩ Cmd.emptyExtent _ _ _
    { dev := (Dev.modClasp { filigree := { engines := (Vector.replicate 16 none).set 0 (some ⟨1, 0, false, true⟩) } } fun x => { x with
        queues := [⟨1, 0, 0, 16, 0, false, 0, 0, 0, 0, 0, 0, true, false, [], 0, 0⟩], cmds := [Cmd.emptyExtent] }).atBrim .FG_BAD_STREAM }
    (by decide) (by decide) (by decide) (by decide) (by decide) rfl (by decide) (by decide) (by decide)
  exact brim_refutes hrec hnext rfl rfl (by decide) (by decide) (by decide) rfl

/-- Refutes O53: laser points off a line raise HM_LASER_FIT, which a log at the brim hears but does not record. -/
theorem not_calibrationRuns : ¬ Obligations.CalibrationRuns := by
  unfold Obligations.CalibrationRuns
  rintro ⟨-, -, -, -, -, hlaser, -⟩
  obtain ⟨-, hoff⟩ := hlaser 0 1 1 0 1 0 0
    { dev := ((Dev.holding [(.HL_STATUS_STATE, 0, 6)]).modHead 0 fun x => { x with
        hallmark := { x.hallmark with kinds := [.laser] }
        link := { x.link with flags := { x.link.flags with laserOn := true } } }).atBrim .HM_LASER_FIT }
    (by decide) (by decide)
  obtain ⟨t, hnext, hrec, -⟩ := hoff (by decide) (by decide) (by decide)
  exact brim_refutes hrec hnext rfl rfl (by decide) (by decide) (by decide) rfl

/-- Refutes O54: a laser half that fails raises KP_DIAG_FAULT, which a log at the brim hears but does not record. -/
theorem not_inhibitTestsSavingAndAgeing : ¬ Obligations.InhibitTestsSavingAndAgeing := by
  unfold Obligations.InhibitTestsSavingAndAgeing
  rintro ⟨hlaser, -⟩
  obtain ⟨-, hfail⟩ := hlaser 0
    { dev := ((Dev.holding [(.HL_STATUS_STATE, 0, 6), (.KP_SPIN_L_BITS, 0, 1), (.MO_MODE_MODE, 0, 0)]).modSpin 0 fun x =>
        { x with keep := { x.keep with clearing := true } }).atBrim .KP_DIAG_FAULT }
    (by decide)
  obtain ⟨t, hnext, -, -, -, -, -, hrec⟩ := hfail false false rfl
  exact brim_refutes hrec hnext rfl rfl (by decide) (by decide) (by decide) rfl

/-- Refutes O59: start-up after a recovery raises MG_RECOVERY_WRITE, which a log at the brim hears but does not record. -/
theorem not_resetsAndStartUp : ¬ Obligations.ResetsAndStartUp := by
  unfold Obligations.ResetsAndStartUp
  rintro ⟨-, -, -, -, -, -, htested, -⟩
  obtain ⟨t, hnext, -, -, hrecovered⟩ := htested []
    { dev := (setF { locket := { stage := .cores }, mgmt := { slot := some 0 } } .LK_BOOT_STAT_RECOVERY 0 1).atBrim .MG_RECOVERY_WRITE }
    (by decide)
  have hrec := hrecovered 0 rfl (by decide) (by decide)
  exact brim_refutes hrec hnext rfl rfl (by decide) (by decide) (by decide) rfl

end Sys2Proof.Machine
end

section
/-! PROOFS. What an effect on the device may change, as a relation that its updates keep step by step: the registers, parts, heads and
spindles outside a budget stay. At the end of a command it gives the frame of the statements. -/

namespace Sys2Proof.Machine

theorem Part.same_refl (p : Part) (d : Dev) : p.same d d := by cases p <;> rfl

theorem Part.same_trans {p : Part} {a b c : Dev} (hab : p.same a b) (hbc : p.same b c) : p.same a c := by
  cases p <;> exact Eq.trans hbc hab

/-- From `a` to `b` nothing has changed but the registers of `R`, the parts `P`, the heads `H` and the spindles `S`. The pending bits
of MSI-X, Cameo and what has been sent are left open, as `Frame` leaves them. -/
structure Dev.Only (R : Fld → Nat → Prop) (P : List Part) (H : List HeadId) (S : List SpinId) (a b : Dev) : Prop where
  registers : ∀ f i, ¬R f i → f ≠ .MSIX_PBA_BITS → getF b f i = getF a f i
  others : ∀ p, p ∉ P → p.same a b
  headsKept : ∀ h, h ∉ H → b.head h = a.head h
  spinsKept : ∀ x, x ∉ S → b.spin x = a.spin x

/-- A command that acts on the device alone is framed by the budget of its effect. -/
theorem Dev.Only.frame {R : Fld → Nat → Prop} {P : List Part} {H : List HeadId} {S : List SpinId} {s : State} {g : Dev → Dev}
    (h : Dev.Only R P H S s.dev (g s.dev)) : Frame R P H S s (s.onDev g) where
  dtime := rfl
  pending := rfl
  registers f i hf hp := (State.onDev_getF s g f i hp).trans (h.registers f i hf hp)
  others p hp := p.same_flush _ _ (h.others p hp)
  headsKept x hx := by simpa [Dev.head] using h.headsKept x hx
  spinsKept x hx := by simpa [Dev.spin] using h.spinsKept x hx

namespace Dev.Only

variable {R R' : Fld → Nat → Prop} {P P' : List Part} {H H' : List HeadId} {S S' : List SpinId} {a b c : Dev}

theorem refl (d : Dev) : Dev.Only R P H S d d := ⟨fun _ _ _ _ => rfl, fun p _ => p.same_refl d, fun _ _ => rfl, fun _ _ => rfl⟩

theorem trans (hab : Dev.Only R P H S a b) (hbc : Dev.Only R P H S b c) : Dev.Only R P H S a c where
  registers f i hf hp := (hbc.registers f i hf hp).trans (hab.registers f i hf hp)
  others p hp := Part.same_trans (hab.others p hp) (hbc.others p hp)
  headsKept x hx := (hbc.headsKept x hx).trans (hab.headsKept x hx)
  spinsKept x hx := (hbc.spinsKept x hx).trans (hab.spinsKept x hx)

/-- A larger budget. -/
theorem mono (h : Dev.Only R P H S a b) (hR : ∀ f i, R f i → R' f i) (hP : P ⊆ P') (hH : H ⊆ H') (hS : S ⊆ S') :
    Dev.Only R' P' H' S' a b where
  registers f i hf hp := h.registers f i (fun hr => hf (hR f i hr)) hp
  others p hp := h.others p fun hm => hp (hP hm)
  headsKept x hx := h.headsKept x fun hm => hx (hH hm)
  spinsKept x hx := h.spinsKept x fun hm => hx (hS hm)

/-- An update of one part. -/
theorem update {q : Part} (h : Dev.Only R P H S a b) (hq : q ∈ P) (hregs : c.regs = b.regs) (hheads : c.heads = b.heads)
    (hspins : c.spindles = b.spindles) (hothers : ∀ p, p ≠ q → p.same b c) : Dev.Only R P H S a c where
  registers f i hf hp := by
    have hsame : getF c f i = getF b f i := by simp only [getF, hregs]
    exact hsame.trans (h.registers f i hf hp)
  others p hp := Part.same_trans (h.others p hp) (hothers p fun e => hp (e ▸ hq))
  headsKept x hx := by
    have hsame : c.head x = b.head x := by simp only [Dev.head, hheads]
    exact hsame.trans (h.headsKept x hx)
  spinsKept x hx := by
    have hsame : c.spin x = b.spin x := by simp only [Dev.spin, hspins]
    exact hsame.trans (h.spinsKept x hx)

/-- An update of nothing that a frame speaks of. -/
theorem updateNone (h : Dev.Only R P H S a b) (hregs : ∀ f i, f ≠ .MSIX_PBA_BITS → getF c f i = getF b f i) (hheads : c.heads = b.heads)
    (hspins : c.spindles = b.spindles) (hothers : ∀ p : Part, p.same b c) : Dev.Only R P H S a c where
  registers f i hf hp := (hregs f i hp).trans (h.registers f i hf hp)
  others p hp := Part.same_trans (h.others p hp) (hothers p)
  headsKept x hx := by
    have hsame : c.head x = b.head x := by simp only [Dev.head, hheads]
    exact hsame.trans (h.headsKept x hx)
  spinsKept x hx := by
    have hsame : c.spin x = b.spin x := by simp only [Dev.spin, hspins]
    exact hsame.trans (h.spinsKept x hx)

theorem setF (h : Dev.Only R P H S a b) {f : Fld} {i : Nat} (hr : R f i) (v : Nat) : Dev.Only R P H S a (setF b f i v) where
  registers g j hg hp := by
    have hne : ¬(g = f ∧ j = i) := fun e => hg (e.1 ▸ e.2 ▸ hr)
    exact (getF_setF_ne b v hne).trans (h.registers g j hg hp)
  others p hp := Part.same_trans (h.others p hp) (by cases p <;> rfl)
  headsKept := h.headsKept
  spinsKept := h.spinsKept

theorem setB (h : Dev.Only R P H S a b) {f : Fld} {i : Nat} (hr : R f i) (v : Bool) : Dev.Only R P H S a (setB b f i v) := h.setF hr _

theorem setI (h : Dev.Only R P H S a b) {f : Fld} {i : Nat} (hr : R f i) (v : Int) : Dev.Only R P H S a (setI b f i v) := h.setF hr _

theorem incF (h : Dev.Only R P H S a b) {f : Fld} {i : Nat} (hr : R f i) (n top : Nat) : Dev.Only R P H S a (incF b f i n top) := h.setF hr _

theorem putBit (h : Dev.Only R P H S a b) {f : Fld} {i : Nat} (hr : R f i) (k : Nat) (v : Bool) :
    Dev.Only R P H S a (b.putBit f i k v) := h.setF hr _

theorem resetF (h : Dev.Only R P H S a b) {f : Fld} {i : Nat} (hr : R f i) : Dev.Only R P H S a (resetF b f i) where
  registers g j hg hp := by
    have hne : ¬(g = f ∧ j = i) := fun e => hg (e.1 ▸ e.2 ▸ hr)
    exact (getF_resetF_ne b hne).trans (h.registers g j hg hp)
  others p hp := Part.same_trans (h.others p hp) (by cases p <;> rfl)
  headsKept := h.headsKept
  spinsKept := h.spinsKept

theorem setPend (h : Dev.Only R P H S a b) (hrv : .rvPend ∈ P) (hhm : .hmPend ∈ P) (f : Fld) (i v : Nat) :
    Dev.Only R P H S a (setPend b f i v) where
  registers := h.registers
  others p hp := by
    have hne : p ≠ .rvPend ∧ p ≠ .hmPend := ⟨fun e => hp (e ▸ hrv), fun e => hp (e ▸ hhm)⟩
    refine Part.same_trans (h.others p hp) ?_
    cases p <;> simp_all [Part.same]
  headsKept := h.headsKept
  spinsKept := h.spinsKept

theorem modHead (h : Dev.Only R P H S a b) {x : HeadId} (hx : x ∈ H) (f : Head → Head) : Dev.Only R P H S a (b.modHead x f) where
  registers := h.registers
  others p hp := Part.same_trans (h.others p hp) (by cases p <;> rfl)
  headsKept y hy := by
    have hne : y ≠ x := fun e => hy (e ▸ hx)
    exact (Dev.head_modHead_ne b f hne).trans (h.headsKept y hy)
  spinsKept := h.spinsKept

theorem modSpin (h : Dev.Only R P H S a b) {x : SpinId} (hx : x ∈ S) (f : Spindle → Spindle) : Dev.Only R P H S a (b.modSpin x f) where
  registers := h.registers
  others p hp := Part.same_trans (h.others p hp) (by cases p <;> rfl)
  headsKept := h.headsKept
  spinsKept y hy := by
    have hne : y ≠ x := fun e => hy (e ▸ hx)
    exact (Dev.spin_modSpin_ne b f hne).trans (h.spinsKept y hy)

theorem modLink (h : Dev.Only R P H S a b) {x : HeadId} (hx : x ∈ H) (f : HeadLink → HeadLink) : Dev.Only R P H S a (b.modLink x f) := h.modHead hx _

theorem modDown (h : Dev.Only R P H S a b) {x : HeadId} (hx : x ∈ H) (f : HeadDown → HeadDown) : Dev.Only R P H S a (b.modDown x f) := h.modHead hx _

theorem modMotion (h : Dev.Only R P H S a b) {x : HeadId} (hx : x ∈ H) (f : Motion → Motion) : Dev.Only R P H S a (b.modMotion x f) := h.modHead hx _

theorem modFacet (h : Dev.Only R P H S a b) {x : HeadId} (hx : x ∈ H) (f : Facet → Facet) : Dev.Only R P H S a (b.modFacet x f) := h.modHead hx _

theorem modCal (h : Dev.Only R P H S a b) {x : HeadId} (hx : x ∈ H) (f : Hallmark → Hallmark) : Dev.Only R P H S a (b.modCal x f) := h.modHead hx _

theorem modKeepHead (h : Dev.Only R P H S a b) {x : HeadId} (hx : x ∈ H) (f : KeepHead → KeepHead) : Dev.Only R P H S a (b.modKeepHead x f) := h.modHead hx _

theorem modLoop (h : Dev.Only R P H S a b) {x : HeadId} (hx : x ∈ H) (l : LoopId) (f : LoopSt → LoopSt) :
    Dev.Only R P H S a (b.modLoop x l f) := h.modHead hx _

theorem modTorc (h : Dev.Only R P H S a b) {x : SpinId} (hx : x ∈ S) (f : Torc → Torc) : Dev.Only R P H S a (b.modTorc x f) := h.modSpin hx _

theorem modSpinLink (h : Dev.Only R P H S a b) {x : SpinId} (hx : x ∈ S) (f : SpinLink → SpinLink) : Dev.Only R P H S a (b.modSpinLink x f) := h.modSpin hx _

theorem modSpinDown (h : Dev.Only R P H S a b) {x : SpinId} (hx : x ∈ S) (f : SpinDown → SpinDown) : Dev.Only R P H S a (b.modSpinDown x f) := h.modSpin hx _

theorem modKeepSpin (h : Dev.Only R P H S a b) {x : SpinId} (hx : x ∈ S) (f : KeepSpin → KeepSpin) : Dev.Only R P H S a (b.modKeepSpin x f) := h.modSpin hx _

theorem send (h : Dev.Only R P H S a b) (m : HostMsg) : Dev.Only R P H S a (b.send m) :=
  h.updateNone (fun _ _ _ => rfl) rfl rfl fun p => by cases p <;> rfl

theorem msix (h : Dev.Only R P H S a b) (v : Nat) : Dev.Only R P H S a (b.msix v) :=
  h.updateNone (fun f i hf => Dev.msix_getF b v f i hf) (by unfold Dev.msix; split <;> rfl) (by unfold Dev.msix; split <;> rfl)
    fun p => by unfold Dev.msix; cases p <;> (split <;> rfl)

theorem event (h : Dev.Only R P H S a b) (t : Nat) (e : Event) (inst : Nat) (params : List Nat) :
    Dev.Only R P H S a (b.event t e inst params) :=
  h.updateNone (fun _ _ _ => rfl) rfl rfl fun p => by cases p <;> rfl

theorem ite {p : Prop} {_ : Decidable p} (hb : p → Dev.Only R P H S a b) (hc : ¬p → Dev.Only R P H S a c) :
    Dev.Only R P H S a (if p then b else c) := by
  split
  · exact hb ‹_›
  · exact hc ‹_›

theorem eventIf (h : Dev.Only R P H S a b) (p : Bool) (t : Nat) (e : Event) (inst : Nat) (params : List Nat) :
    Dev.Only R P H S a (b.eventIf p t e inst params) := ite (fun _ => h.event t e inst params) fun _ => h

/-- A budget kept by the work for each element of a list is kept by that for all of them. -/
theorem foldl {α : Type} (h : Dev.Only R P H S a b) {f : Dev → α → Dev} (l : List α)
    (hf : ∀ x ∈ l, ∀ d, Dev.Only R P H S a d → Dev.Only R P H S a (f d x)) : Dev.Only R P H S a (l.foldl f b) := by
  induction l generalizing b with
  | nil => exact h
  | cons x l ih =>
    exact ih (hf x (List.mem_cons_self ..) b h) fun y hy => hf y (List.mem_cons_of_mem _ hy)

theorem modKeeper (h : Dev.Only R P H S a b) (hp : .keeper ∈ P) (f : Keeper → Keeper) : Dev.Only R P H S a (b.modKeeper f) :=
  h.update hp rfl rfl rfl fun p hp => by cases p <;> simp_all [Part.same]

theorem modClasp (h : Dev.Only R P H S a b) (hp : .clasp ∈ P) (f : Clasp → Clasp) : Dev.Only R P H S a (b.modClasp f) :=
  h.update hp rfl rfl rfl fun p hp => by cases p <;> simp_all [Part.same]

theorem modData (h : Dev.Only R P H S a b) (hp : .data ∈ P) (f : Data → Data) : Dev.Only R P H S a (b.modData f) :=
  h.update hp rfl rfl rfl fun p hp => by cases p <;> simp_all [Part.same]

theorem modMem (h : Dev.Only R P H S a b) (hp : .mem ∈ P) (f : Mem → Mem) : Dev.Only R P H S a (b.modMem f) :=
  h.update hp rfl rfl rfl fun p hp => by cases p <;> simp_all [Part.same]

theorem modLocket (h : Dev.Only R P H S a b) (hp : .locket ∈ P) (f : Locket → Locket) : Dev.Only R P H S a (b.modLocket f) :=
  h.update hp rfl rfl rfl fun p hp => by cases p <;> simp_all [Part.same]

theorem modPower (h : Dev.Only R P H S a b) (hp : .power ∈ P) (f : Power → Power) : Dev.Only R P H S a (b.modPower f) :=
  h.update hp rfl rfl rfl fun p hp => by cases p <;> simp_all [Part.same]

theorem modSurf (h : Dev.Only R P H S a b) (hp : .surfaces ∈ P) (x : SurfId) (f : Surface → Surface) : Dev.Only R P H S a (b.modSurf x f) :=
  h.update hp rfl rfl rfl fun p hp => by cases p <;> simp_all [Part.same]

theorem modChain (h : Dev.Only R P H S a b) (hp : .chains ∈ P) (x : Fin 16) (f : Chain → Chain) : Dev.Only R P H S a (b.modChain x f) :=
  h.update hp rfl rfl rfl fun p hp => by cases p <;> simp_all [Part.same]

theorem modBezel (h : Dev.Only R P H S a b) (hp : .bezels ∈ P) (x : BezelId) (f : Bezel → Bezel) : Dev.Only R P H S a (b.modBezel x f) :=
  h.update hp rfl rfl rfl fun p hp => by cases p <;> simp_all [Part.same]

end Dev.Only

end Sys2Proof.Machine
end

section
/-! PROOFS. What every step does to time and to the queue (O1 to O4). -/

namespace Sys2Proof.Machine

theorem run_eq_next {s t : State} {f : Dev → Dev} (h : run s f = .next t) : t = s.onDev f := (Host.Outcome.next.inj h).symm

theorem onLine_eq_next {s t : State} {line : Nat} {f : Dev → Dev} (h : onLine s line f = .next t) : t = s.onDev f := by
  unfold onLine at h
  split at h
  · exact run_eq_next h
  · cases h

/-- With the supplies on TICK takes DTIME to the next boundary. -/
theorem execTick_on {s : State} (hon : s.dev.locket.stage ≠ .off) :
    exec .tick s = .next { s.onDev (fun d => d.tick s.dtime) with dtime := nextTick s.dtime } := by
  have hstage : (s.dev.locket.stage == .off) = false := by simp [hon]
  show execTick s = _
  simp only [execTick, hstage, Bool.false_eq_true, if_false]

/-- With the supplies off TICK does nothing. -/
theorem execTick_off {s : State} (hoff : s.dev.locket.stage = .off) : exec .tick s = run s id := by
  show execTick s = _
  simp [execTick, hoff]

/-- Every command but TICK and COLD_POWER_ON acts on the device alone. -/
theorem exec_next_onDev {c : Instr} {s t : State} (htick : c ≠ .tick) (hcold : ∀ x, c ≠ .coldPowerOn x) (h : exec c s = .next t) :
    ∃ f, t = s.onDev f := by
  cases c with
  | tick => exact absurd rfl htick
  | coldPowerOn x => exact absurd rfl (hcold x)
  | casketWrite | evictionWriteDone | zline | casketRead | mbDrain => exact ⟨_, onLine_eq_next h⟩
  | _ => exact ⟨_, run_eq_next h⟩

/-- An answered TICK takes DTIME to the next boundary, or with the supplies off leaves it. -/
theorem exec_tick_next {s t : State} (h : exec .tick s = .next t) :
    t.pending = s.pending ∧ (t.dtime = nextTick s.dtime ∧ s.dev.locket.stage ≠ .off ∨ t.dtime = s.dtime ∧ s.dev.locket.stage = .off) := by
  by_cases hoff : s.dev.locket.stage = .off
  · rw [execTick_off hoff] at h
    cases run_eq_next h
    exact ⟨rfl, .inr ⟨rfl, hoff⟩⟩
  · rw [execTick_on hoff] at h
    cases h
    exact ⟨rfl, .inl ⟨rfl, hoff⟩⟩

theorem exec_coldPowerOn_next {x : Straps} {s t : State} (h : exec (.coldPowerOn x) s = .next t) : t.pending = s.pending ∧ t.dtime = 0 := by
  cases Host.Outcome.next.inj h
  exact ⟨rfl, rfl⟩

/-- Settles O2: TICK and COLD_POWER_ON apart, a command acts on the device alone. -/
theorem onlyTickAndPowerOnMoveTime : Obligations.OnlyTickAndPowerOnMoveTime := by
  unfold Obligations.OnlyTickAndPowerOnMoveTime
  intro c s t h
  by_cases htick : c = .tick
  · subst htick
    obtain ⟨hpending, htime⟩ := exec_tick_next h
    refine ⟨hpending, fun _ => ?_, fun _ hne => absurd rfl hne, nofun⟩
    rcases htime with ⟨htime, -⟩ | ⟨htime, -⟩
    · rw [htime, nextTick]
      omega
    · exact le_of_eq htime.symm
  · by_cases hcold : ∃ x, c = .coldPowerOn x
    · obtain ⟨x, rfl⟩ := hcold
      obtain ⟨hpending, htime⟩ := exec_coldPowerOn_next h
      exact ⟨hpending, fun hne => absurd rfl (hne x), fun hne => absurd rfl (hne x), fun _ _ => htime⟩
    · have hne : ∀ x, c ≠ .coldPowerOn x := fun x hx => hcold ⟨x, hx⟩
      obtain ⟨f, rfl⟩ := exec_next_onDev htick hne h
      exact ⟨rfl, fun _ => le_refl _, fun _ _ => rfl, fun x hx => absurd hx (hne x)⟩

/-! ## With the PLL stopped Keeper alone goes on -/

variable {R : Fld → Nat → Prop} {P : List Part} {a b : Dev}

theorem Dev.Only.stopSpots {H : List HeadId} {S : List SpinId} (h : Dev.Only R P H S a b) (hdata : .data ∈ P) {x : HeadId} (hx : x ∈ H)
    (which : WriteJob → Bool) : Dev.Only R P H S a (b.stopSpots x which) :=
  h.foldl _ fun _ _ _ hd => (hd.modData hdata _).modDown hx _

theorem Dev.Only.showInhibit {H : List HeadId} {S : List SpinId} (h : Dev.Only R P H S a b) (hdata : .data ∈ P) {x : HeadId} (hx : x ∈ H) :
    Dev.Only R P H S a (b.showInhibit x) := by
  unfold Dev.showInhibit
  dsimp only
  refine Dev.Only.modDown ?_ hx _
  exact ite (fun _ => (h.modData hdata _).stopSpots hdata hx _) fun _ => h

/-- What Keeper may change in a Tick: its latches, permits and locks, and the sectors that an inhibit spoils. -/
def keepRegs : Fld → Nat → Prop :=
  theRegs [(.KP_LOCK_HOLD_BITS, 0), (.KP_PERMIT_BITS, 0), (.KP_SPIN_L_BITS, 0), (.KP_SPIN_S_BITS, 0)]

theorem Dev.Only.unlatch (h : Dev.Only keepRegs [.data] allHeads allSpins a b) (x : SpinId) :
    Dev.Only keepRegs [.data] allHeads allSpins a (b.unlatch x) := by
  have hspin : x ∈ allSpins := List.mem_finRange x
  refine Dev.Only.putBit (Dev.Only.foldl (.modSpinDown (.modKeepSpin (.putBit (.putBit h ?_ _ _) ?_ _ _) hspin _) hspin _) _ ?_) ?_ _ _
  case refine_3 => exact fun y _ _ hd => hd.showInhibit (by simp) (List.mem_finRange y)
  all_goals simp [keepRegs, theRegs]

theorem Dev.Only.keepSpinTick (h : Dev.Only keepRegs [.data] allHeads allSpins a b) (x : SpinId) :
    Dev.Only keepRegs [.data] allHeads allSpins a (b.keepSpinTick x) := by
  have hspin : x ∈ allSpins := List.mem_finRange x
  refine Dev.Only.putBit (ite (fun _ => Dev.Only.unlatch ?_ x) fun _ => ?_) (by simp [keepRegs, theRegs]) _ _ <;>
  · refine ite (fun _ => ?_) fun _ => .modSpinDown (.putBit ?_ (by simp [keepRegs, theRegs]) _ _) hspin _ <;>
    · refine Dev.Only.modKeepSpin (.foldl h _ fun y _ _ hd => ?_) hspin _
      exact hd.modKeepHead (List.mem_finRange y) _

/-- A running Keeper's work of a Tick moves its own record on and changes no part of the device beside, but the sectors in flight. -/
theorem Dev.keepTick_only {d : Dev} (hrun : d.keeper.failed = false) :
    Dev.Only keepRegs [.data] allHeads allSpins (d.modKeeper fun k => { k with beat := (k.beat + 1) % 4096, xAge := k.xAge.map (· + 1) })
      d.keepTick := by
  unfold Dev.keepTick
  simp only [hrun, Bool.false_eq_true, if_false]
  refine Dev.Only.foldl (Dev.Only.foldl (Dev.Only.foldl (.refl _) _ fun x _ _ hd => ?_) _ fun x _ _ hd => ?_) _ fun x _ _ hd => ?_
  · exact hd.modDown (List.mem_finRange x) _
  · exact hd.modSpinDown (List.mem_finRange x) _
  · exact hd.keepSpinTick x

/-! ## Ticks -/

theorem nextTick_mod (t : Nat) : nextTick t % 2500 = 0 := by
  unfold nextTick
  omega

theorem nextTick_of_boundary {t : Nat} (h : t % 2500 = 0) : nextTick t = t + 2500 := by
  unfold nextTick
  omega

/-- A command that is answered on a Tick boundary leaves DTIME on one. -/
theorem exec_keeps_boundary {c : Instr} {s t : State} (hs : s.dtime % 2500 = 0) (h : exec c s = .next t) : t.dtime % 2500 = 0 := by
  obtain ⟨-, -, hother, hcold⟩ := onlyTickAndPowerOnMoveTime c s t h
  by_cases hc : ∃ x, c = .coldPowerOn x
  · obtain ⟨x, rfl⟩ := hc
    simp [hcold x rfl]
  · by_cases htick : c = .tick
    · subst htick
      rcases (exec_tick_next h).2 with ⟨htime, -⟩ | ⟨htime, -⟩
      · rw [htime, nextTick_mod]
      · rw [htime, hs]
    · rw [hother (fun x hx => hc ⟨x, hx⟩) htick, hs]

theorem step_keeps_boundary {s t : State} (hs : s.dtime % 2500 = 0) (h : step s = .next t) : t.dtime % 2500 = 0 := by
  unfold step at h
  split at h
  · cases h
    exact hs
  · next rest _ => exact exec_keeps_boundary (s := { s with pending := rest }) hs h

/-- Settles O3: of the commands TICK alone moves DTIME on, from any time to the next boundary. -/
theorem tickBoundaryInvariant : Obligations.TickBoundaryInvariant := by
  unfold Obligations.TickBoundaryInvariant
  refine ⟨fun s t hs h => step_keeps_boundary hs h, fun s t hs hon h => ?_, fun s hon => ?_, fun s hon hstop hrun => ?_, fun s hoff => ?_⟩
  · rcases (exec_tick_next h).2 with ⟨htime, -⟩ | ⟨-, hoff⟩
    · rw [htime, nextTick_of_boundary hs]
    · exact absurd hoff hon
  · exact ⟨_, execTick_on hon, rfl, rfl⟩
  · have htick : s.dev.tick s.dtime = s.dev.keepTick := by simp [Dev.tick, hstop]
    have hkeep := s.dev.keepTick_only hrun
    have hpart (p : Part) (hp : p ≠ .data) : p.same _ s.dev.keepTick.flush := p.same_flush _ _ (hkeep.others p (by simpa using hp))
    refine ⟨_, execTick_on hon, rfl, ?_, ?_, ?_, ?_⟩ <;> simp only [State.onDev, htick]
    · exact congrArg Keeper.beat (hpart .keeper (by decide))
    · exact hpart .surfaces (by decide)
    · exact hpart .clasp (by decide)
    · exact hpart .mem (by decide)
  · exact ⟨_, execTick_off hoff, Dev.Only.frame (g := id) (.refl _)⟩

/-! ## The step and the reset state -/

/-- Settles O1: by the definition of a step. -/
theorem stepRunsTheFrontCommand : Obligations.StepRunsTheFrontCommand := by
  unfold Obligations.StepRunsTheFrontCommand
  refine ⟨fun c rest s => rfl, fun s hs => ?_⟩
  unfold step
  rw [hs]

/-- Settles O4: the register file lists nothing after reset, so every field reads as its default. -/
theorem resetMeetsTheInvariants : Obligations.ResetMeetsTheInvariants := by
  unfold Obligations.ResetMeetsTheInvariants
  exact ⟨rfl, rfl, rfl, keyDefault_regKey⟩

end Sys2Proof.Machine
end

section
/-! PROOFS. What staging a sector may change: sectors in flight and chain rows. -/

namespace Sys2Proof.Machine

namespace Dev.Only

variable {R : Fld → Nat → Prop} {P : List Part} {H : List HeadId} {S : List SpinId} {a b : Dev}

theorem modWrite (h : Dev.Only R P H S a b) (hdata : .data ∈ P) (id : Nat) (f : WriteJob → WriteJob) : Dev.Only R P H S a (b.modWrite id f) :=
  h.modData hdata _

theorem dropWrite (h : Dev.Only R P H S a b) (hdata : .data ∈ P) (id : Nat) : Dev.Only R P H S a (b.dropWrite id) := h.modData hdata _

theorem addWrite (h : Dev.Only R P H S a b) (hdata : .data ∈ P) (w : WriteJob) : Dev.Only R P H S a (b.addWrite w).1 := by
  unfold Dev.addWrite
  dsimp only
  exact h.modData hdata _

theorem modVolume (h : Dev.Only R P H S a b) (hclasp : .clasp ∈ P) (n : Nat) (f : Volume → Volume) : Dev.Only R P H S a (b.modVolume n f) :=
  h.modClasp hclasp _

theorem modCmd (h : Dev.Only R P H S a b) (hclasp : .clasp ∈ P) (q tag : Nat) (f : Cmd → Cmd) : Dev.Only R P H S a (b.modCmd q tag f) :=
  h.modClasp hclasp _

theorem modPair (h : Dev.Only R P H S a b) (hclasp : .clasp ∈ P) (q : Nat) (f : QueuePair → QueuePair) : Dev.Only R P H S a (b.modPair q f) :=
  h.modClasp hclasp _

theorem enterRow (h : Dev.Only R P H S a b) (hchains : .chains ∈ P) (p : Place) (vol : Nat) (stream needed : Bool) (id budget : Nat) :
    Dev.Only R P H S a (b.enterRow p vol stream needed id budget) := h.modChain hchains _ _

theorem reopenRow (h : Dev.Only R P H S a b) (hdata : .data ∈ P) (hchains : .chains ∈ P) (c id : Nat) :
    Dev.Only R P H S a (b.reopenRow c id) := by
  unfold Dev.reopenRow
  split
  · exact h
  · exact (h.modData hdata _).modChain hchains _ _

theorem stageSector (h : Dev.Only R P H S a b) (hdata : .data ∈ P) (hchains : .chains ∈ P) (owner : Option (Nat × Nat)) (fua : Bool)
    (order time : Nat) (v : Volume) (n : Nat) (comp : Bool) (data : List Byte) :
    Dev.Only R P H S a (b.stageSector owner fua order time v n comp data).1 := by
  unfold Dev.stageSector
  cases b.locate v n with
  | none => exact h
  | some p =>
    dsimp only
    by_cases hst : b.stageStatus p ≠ 0
    · rw [if_pos hst]
      exact h
    · rw [if_neg hst]
      cases b.replaceable v.id p with
      | some w => exact ite (fun _ => h.modWrite hdata _ _) fun _ => (h.modWrite hdata _ _).reopenRow hdata hchains _ _
      | none => exact ite (fun _ => h.addWrite hdata _) fun _ => (h.addWrite hdata _).enterRow hchains _ _ _ _ _ _

theorem padTail (h : Dev.Only R P H S a b) (hdata : .data ∈ P) (hchains : .chains ∈ P) (hclasp : .clasp ∈ P) (owner : Option (Nat × Nat))
    (fua : Bool) (order time vol : Nat) : Dev.Only R P H S a (b.padTail owner fua order time vol).1 := by
  unfold Dev.padTail
  cases b.volume? vol with
  | none => exact h
  | some v =>
    dsimp only
    by_cases htail : v.tail.isEmpty = true
    · rw [if_pos htail]
      exact h
    · rw [if_neg htail]
      split
      · exact h
      · exact (h.stageSector hdata hchains _ _ _ _ _ _ _ _).modVolume hclasp _ _

end Dev.Only

end Sys2Proof.Machine
end

section
/-! PROOFS. Library time: PTM dialogues and the offset (O5, O6). -/

namespace Sys2Proof.Machine

/-! ## What the end of a command sends -/

theorem Dev.mem_hostOut_msix {d : Dev} {m : HostMsg} (h : m ∈ d.hostOut) (v : Nat) : m ∈ (d.msix v).hostOut := by
  unfold Dev.msix
  split
  · exact h
  · exact List.mem_append_left _ h

/-- The end of a command sends nothing but notifications: what the command has sent stays. -/
theorem Dev.mem_hostOut_flush {d : Dev} {m : HostMsg} (h : m ∈ d.hostOut) : m ∈ d.flush.hostOut := by
  have hjudged : m ∈ d.judgeAll.hostOut := by
    unfold Dev.judgeAll
    split
    · exact h
    · dsimp only
      split <;> exact h
  unfold Dev.flush Dev.notifyOwed
  split
  · refine Dev.mem_hostOut_msix ?_ _
    exact hjudged
  · exact hjudged

/-! ## PTM dialogues -/

/-- Budgets with library time in them. -/
theorem Dev.Only.setLibTime {R : Fld → Nat → Prop} {P : List Part} {H : List HeadId} {S : List SpinId} {a b : Dev} (h : Dev.Only R P H S a b)
    (hp : .libTime ∈ P) (l : LibTime) : Dev.Only R P H S a { b with libTime := l } :=
  h.update hp rfl rfl rfl fun p hp => by cases p <;> simp_all [Part.same]

/-- Above P3, with the link in L0 and no dialogue running, a dialogue starts and its request goes out. -/
theorem Dev.ptmStart_eq {d : Dev} (hstate : getF d .PM_STAT_STATE 0 < 3) (hlink : d.pcie.linkUp = true) (hidle : d.libTime.run = false) :
    d.ptmStart = { d with libTime := { d.libTime with run := true, due := false } }.send .ptmRequest := by
  unfold Dev.ptmStart
  rw [if_neg (by simp [hlink]; omega), if_neg (by simp [hidle])]

/-- So a command that starts a dialogue does what O5 says of it. -/
theorem ptmStart_spec {s : State} (hstate : getF s.dev .PM_STAT_STATE 0 < 3) (hlink : s.dev.pcie.linkUp = true)
    (hidle : s.dev.libTime.run = false) {g : Dev → Dev} (hg : g s.dev = s.dev.ptmStart) :
    (s.onDev g).dev.libTime = { s.dev.libTime with run := true, due := false } ∧ HostMsg.ptmRequest ∈ (s.onDev g).dev.hostOut
      ∧ Frame noRegs [.libTime] [] [] s (s.onDev g) := by
  rw [Dev.ptmStart_eq hstate hlink hidle] at hg
  refine ⟨by simp [hg], ?_, Dev.Only.frame ?_⟩
  · simp only [State.onDev, hg]
    exact Dev.mem_hostOut_flush (by simp [Dev.send])
  · rw [hg]
    exact ((Dev.Only.refl _).setLibTime (by simp) _).send _

theorem Dev.ptmResponse_running {d : Dev} (hrun : d.libTime.run = true) (tm tl : Nat) :
    d.ptmResponse tm tl = { d with libTime := { d.libTime with
        run := false, fails := 0, ptm := some (ofSigned 64 ((tm : Int) - (tl : Int))) } } := by
  unfold Dev.ptmResponse
  rw [if_pos hrun]

/-- A dialogue that has failed, before the run of failures is judged. -/
def Dev.ptmFailed (d : Dev) : Dev :=
  incF { d with libTime := { d.libTime with run := false, fails := d.libTime.fails + 1 } } .SY_TIME_CTL_PTM_FAILS 0

theorem Dev.ptmTimeout_running {d : Dev} (hrun : d.libTime.run = true) :
    d.ptmTimeout = if 2 ≤ d.libTime.fails then setF d.ptmFailed .SY_TIME_CTL_LT_VALID 0 0 else d.ptmFailed := by
  unfold Dev.ptmTimeout
  rw [if_pos hrun]
  by_cases hthird : 2 ≤ d.libTime.fails
  · rw [if_pos hthird]
    exact if_pos (Nat.succ_le_succ hthird)
  · rw [if_neg hthird]
    exact if_neg fun h => hthird (Nat.le_of_succ_le_succ h)

theorem Dev.ptmFailed_only (d : Dev) :
    Dev.Only (theRegs [(.SY_TIME_CTL_PTM_FAILS, 0), (.SY_TIME_CTL_LT_VALID, 0)]) [.libTime] [] [] d d.ptmFailed :=
  ((Dev.Only.refl _).setLibTime (by simp) _).incF (by simp [theRegs]) _ _

theorem Dev.ptmFailed_fails (d : Dev) : getF d.ptmFailed .SY_TIME_CTL_PTM_FAILS 0 = min 255 (getF d .SY_TIME_CTL_PTM_FAILS 0 + 1) :=
  getF_incF _ _ _ _ _ (by decide)

theorem Dev.ptmFailed_valid (d : Dev) : getF d.ptmFailed .SY_TIME_CTL_LT_VALID 0 = getF d .SY_TIME_CTL_LT_VALID 0 :=
  getF_incF_ne _ _ _ (by decide)

/-- Settles O5, by the case of each dialogue step that its clause describes. -/
theorem ptmDialogues : Obligations.PtmDialogues := by
  unfold Obligations.PtmDialogues
  refine ⟨fun s hen hperiod hstate hlink hidle => ?_, fun s hen hstate hlink hidle => ?_, fun tm tl s hrun => ?_, fun s hrun _ => ?_⟩
  · refine ⟨_, rfl, ptmStart_spec hstate hlink hidle ?_⟩
    simp [Dev.ptmPeriod, getB, hen, hperiod]
  · refine ⟨_, rfl, ptmStart_spec hstate hlink hidle ?_⟩
    simp [Dev.ptmNow, getB, hen]
  · have hresponse := Dev.ptmResponse_running hrun tm tl
    refine ⟨_, rfl, by simp [hresponse], by simp [hresponse], by simp [hresponse, ofSigned], Dev.Only.frame ?_⟩
    rw [hresponse]
    exact (Dev.Only.refl _).setLibTime (by simp) _
  · have htimeout := Dev.ptmTimeout_running hrun
    refine ⟨_, rfl, ?_, ?_, ?_, ?_, Dev.Only.frame ?_⟩
    · rw [State.onDev_libTime, htimeout]
      split <;> rfl
    · rw [State.onDev_libTime, htimeout]
      split <;> rfl
    · rw [State.onDev_getF _ _ _ _ (by decide), htimeout]
      split
      · rw [getF_setF_ne _ _ (by decide), Dev.ptmFailed_fails]
      · exact Dev.ptmFailed_fails _
    · rw [State.onDev_getF _ _ _ _ (by decide), htimeout]
      split
      · simp
      · exact Dev.ptmFailed_valid _
    · rw [htimeout]
      exact .ite (fun _ => (Dev.ptmFailed_only _).setF (by simp [theRegs]) _) fun _ => Dev.ptmFailed_only _

/-! ## The offset -/

theorem Dev.libTick_eq {d : Dev} {v : Nat} (h : d.libTime.host = some v ∨ d.libTime.host = none ∧ d.libTime.ptm = some v) :
    d.libTick = setF (setF { d with libTime := { d.libTime with host := none, ptm := none } } .SY_LIBTIME_OFS_OFFSET 0 v)
      .SY_TIME_CTL_LT_VALID 0 1 := by
  have hdue : d.libTime.host.or d.libTime.ptm = some v := by
    rcases h with h | ⟨h, hptm⟩
    · simp [h]
    · simp [h, hptm]
  unfold Dev.libTick
  simp only [hdue]

theorem Dev.libTick_offset {d : Dev} {v : Nat} (hv : v < 2 ^ 64)
    (h : d.libTime.host = some v ∨ d.libTime.host = none ∧ d.libTime.ptm = some v) : getF d.libTick .SY_LIBTIME_OFS_OFFSET 0 = v := by
  rw [Dev.libTick_eq h, getF_setF_ne _ _ (by decide), getF_setF]
  exact Nat.mod_eq_of_lt hv

theorem Dev.libTick_valid {d : Dev} {v : Nat} (h : d.libTime.host = some v ∨ d.libTime.host = none ∧ d.libTime.ptm = some v) :
    getF d.libTick .SY_TIME_CTL_LT_VALID 0 = 1 := by
  rw [Dev.libTick_eq h, getF_setF]
  decide

theorem Dev.libTick_libTime {d : Dev} {v : Nat} (h : d.libTime.host = some v ∨ d.libTime.host = none ∧ d.libTime.ptm = some v) :
    d.libTick.libTime = { d.libTime with host := none, ptm := none } := by
  rw [Dev.libTick_eq h]
  rfl

theorem Dev.libTick_getF {d : Dev} {v : Nat} (h : d.libTime.host = some v ∨ d.libTime.host = none ∧ d.libTime.ptm = some v) {f : Fld}
    (i : Nat) (hofs : f ≠ .SY_LIBTIME_OFS_OFFSET) (hvalid : f ≠ .SY_TIME_CTL_LT_VALID) : getF d.libTick f i = getF d f i := by
  rw [Dev.libTick_eq h, getF_setF_ne _ _ (fun e => hvalid e.1), getF_setF_ne _ _ (fun e => hofs e.1)]
  rfl

namespace Dev.Only

variable {R : Fld → Nat → Prop} {P : List Part} {H : List HeadId} {S : List SpinId} {a b : Dev}

theorem ageWrites (h : Dev.Only R P H S a b) (hdata : .data ∈ P) : Dev.Only R P H S a b.ageWrites := h.modData hdata _

theorem ageRows (h : Dev.Only R P H S a b) (hchains : .chains ∈ P) : Dev.Only R P H S a b.ageRows :=
  h.foldl _ fun _ _ _ hd => hd.modChain hchains _ _

theorem ageTails (h : Dev.Only R P H S a b) (hdata : .data ∈ P) (hchains : .chains ∈ P) (hclasp : .clasp ∈ P) (t : Nat) :
    Dev.Only R P H S a (b.ageTails t) := by
  unfold Dev.ageTails
  exact (h.modClasp hclasp _).foldl _ fun _ _ _ hd => hd.padTail hdata hchains hclasp _ _ _ _ _

theorem ageAll (h : Dev.Only R P H allSpins a b) (hdata : .data ∈ P) (hchains : .chains ∈ P) (hclasp : .clasp ∈ P) (t : Nat) :
    Dev.Only R P H allSpins a (b.ageAll t) := by
  unfold Dev.ageAll
  refine Dev.Only.modData (.foldl (((h.ageWrites hdata).ageRows hchains).ageTails hdata hchains hclasp t) _ fun x _ _ hd => ?_) hdata _
  exact hd.modTorc (List.mem_finRange x) _

theorem keepMTick (h : Dev.Only R P allHeads allSpins a b) (hkeeper : .keeper ∈ P) : Dev.Only R P allHeads allSpins a b.keepMTick := by
  unfold Dev.keepMTick
  refine .foldl (.foldl (h.modKeeper hkeeper _) _ fun x _ _ hd => ?_) _ fun x _ _ hd => ?_
  · exact hd.modKeepHead (List.mem_finRange x) _
  · exact hd.modKeepSpin (List.mem_finRange x) _

end Dev.Only

/-- The ages of an M-tick touch no register, and of the parts those that hold what waits. -/
theorem Dev.coreTick_only (d : Dev) (t : Nat) :
    Dev.Only noRegs [.data, .chains, .clasp, .keeper] allHeads allSpins d (d.coreTick t) := by
  unfold Dev.coreTick
  exact .ite (fun _ => .refl d) fun _ => ((Dev.Only.refl d).ageAll (by simp) (by simp) (by simp) t).keepMTick (by simp)

/-- Away from the boundary of an M-tick, or a second time at one, M_TICK does nothing. -/
theorem Dev.mTick_notDue {d : Dev} {t : Nat} (h : t % 2500000 ≠ 0 ∨ d.mLast = some (t / 2500000)) (power : Nat) (zones die : List Nat) :
    d.mTick t power zones die = d := by
  have hdue : d.mDue t = false := by
    rcases h with h | h <;> simp [Dev.mDue, h]
  unfold Dev.mTick
  simp [hdue]

/-- The device with an M-tick counted. -/
def Dev.mCounted (d : Dev) (t : Nat) : Dev := { d with mLast := some (t / 2500000), lifeClock := d.lifeClock + 1 }

/-- At a boundary with the Crown and the Hallmark cores failed only library time and the ages of what waits go on. -/
theorem Dev.mTick_dead {d : Dev} {t v : Nat} (hcores : d.coresRun = true) (hpll : d.keeper.pllStopped = false) (ht : t % 2500000 = 0)
    (hlast : d.mLast ≠ some (t / 2500000)) (hstate : d.pState < 3) (hcrown : d.crownDead = true) (hhallmark : d.hallmarkDead = true)
    (hhost : d.libTime.host = some v) (power : Nat) (zones die : List Nat) :
    d.mTick t power zones die = (d.mCounted t).libTick.coreTick t := by
  have hdue : d.mDue t = true := by simp [Dev.mDue, ht, hlast]
  have hlib : (d.mCounted t).libTime.host = some v ∨ (d.mCounted t).libTime.host = none ∧ (d.mCounted t).libTime.ptm = some v := .inl hhost
  have hgetF (f : Fld) (hf : f = .KP_CORES_CROWN ∨ f = .KP_CORES_HALLMARK ∨ f = .PM_STAT_STATE) :
      getF ((d.mCounted t).libTick.coreTick t) f 0 = getF d f 0 := by
    rw [(Dev.coreTick_only _ t).registers f 0 (fun h => h) (by rcases hf with rfl | rfl | rfl <;> decide),
      Dev.libTick_getF hlib 0 (by rcases hf with rfl | rfl | rfl <;> decide) (by rcases hf with rfl | rfl | rfl <;> decide)]
    rfl
  have hcrown' : ((d.mCounted t).libTick.coreTick t).crownDead = true := by
    rw [Dev.crownDead, hgetF _ (.inl rfl)]
    exact hcrown
  have hhallmark' : ((d.mCounted t).libTick.coreTick t).hallmarkDead = true := by
    rw [Dev.hallmarkDead, hgetF _ (.inr (.inl rfl))]
    exact hhallmark
  have hcrownTick : ((d.mCounted t).libTick.coreTick t).crownTick t power zones die = (d.mCounted t).libTick.coreTick t := by
    simp [Dev.crownTick, hcrown']
  have hawake : ¬4 ≤ (d.mCounted t).pState := fun h => by
    have hle : 4 ≤ d.pState := h
    omega
  unfold Dev.mTick
  have hrunning : ¬(d.mCounted t).keeper.pllStopped = true := by simp [Dev.mCounted, hpll]
  refine (if_neg (by simp [hdue, hcores])).trans ((if_neg hrunning).trans ((if_neg hawake).trans ((if_pos (.inl ?_)).trans hcrownTick)))
  exact hcrownTick.symm ▸ hhallmark'

/-- Settles O6. -/
theorem libraryTimeOffset : Obligations.LibraryTimeOffset := by
  unfold Obligations.LibraryTimeOffset
  have hwrite (half : Half) (v : Nat) (s : State) : Frame noRegs [.libTime] [] [] s (s.onDev fun d => d.libWrite half v) :=
    Dev.Only.frame ((Dev.Only.refl _).setLibTime (by simp) _)
  refine ⟨fun v s hv => ?_, fun v w s hv hw hlower => ?_, fun v s hv => ?_, fun v d hv h => ?_, fun _ _ _ s => ⟨_, rfl, rfl, rfl⟩,
    fun power v zones die s hv hcores hpll ht hlast hstate hcrown hhallmark hhost => ?_, fun power zones die s h => ?_⟩
  · refine ⟨_, rfl, ?_, hwrite .lower v s⟩
    simp only [State.onDev_libTime, Dev.libWrite, Nat.mod_eq_of_lt hv]
  · refine ⟨_, rfl, ?_, hwrite .upper v s⟩
    simp only [State.onDev_libTime, Dev.libWrite, Nat.mod_eq_of_lt hv, hlower, Option.getD_some]
  · refine ⟨_, rfl, ?_, hwrite .both v s⟩
    simp only [State.onDev_libTime, Dev.libWrite, Nat.mod_eq_of_lt hv]
  · refine ⟨Dev.libTick_offset hv h, Dev.libTick_valid h, Dev.libTick_libTime h, fun n => ?_⟩
    rw [Dev.libNow, Dev.libTick_offset hv h]
  · have htick := Dev.mTick_dead hcores hpll ht hlast hstate hcrown hhallmark hhost power zones die
    have hlib : (s.dev.mCounted s.dtime).libTime.host = some v ∨ (s.dev.mCounted s.dtime).libTime.host = none ∧ (s.dev.mCounted s.dtime).libTime.ptm = some v :=
      .inl hhost
    have honly := (s.dev.mCounted s.dtime).libTick.coreTick_only s.dtime
    have hpart (p : Part) (hp : p ∉ ([.data, .chains, .clasp, .keeper] : List Part)) :
        p.same (s.dev.mCounted s.dtime).libTick (s.onDev fun d => d.mTick s.dtime power zones die).dev := by
      refine p.same_flush _ _ ?_
      dsimp only
      rw [htick]
      exact honly.others p hp
    have hcounted := Dev.libTick_eq hlib
    refine ⟨_, rfl, ?_, ?_, ?_, ?_, ?_⟩
    · rw [State.onDev_getF _ _ _ _ (by decide), htick, honly.registers _ _ (fun h => h) (by decide), Dev.libTick_offset hv hlib]
    · rw [State.onDev_getF _ _ _ _ (by decide), htick, honly.registers _ _ (fun h => h) (by decide), Dev.libTick_valid hlib]
    · exact (congrArg LibTime.ptm (hpart .libTime (by decide))).trans (congrArg LibTime.ptm (Dev.libTick_libTime hlib))
    · exact (hpart .lifeClock (by decide)).trans (congrArg Dev.lifeClock hcounted)
    · exact (hpart .mLast (by decide)).trans (congrArg Dev.mLast hcounted)
  · refine ⟨_, rfl, Dev.Only.frame ?_⟩
    rw [Dev.mTick_notDue h]
    exact .refl _

end Sys2Proof.Machine
end

section
/-! PROOFS. A 4-byte read of a 32-bit register returns it and clears its RC fields (O8). -/

namespace Sys2Proof.Machine

theorem Dev.Only.setHostRead {R : Fld → Nat → Prop} {P : List Part} {H : List HeadId} {S : List SpinId} {a b : Dev} (h : Dev.Only R P H S a b)
    (hp : .hostRead ∈ P) (x : Option (Nat × Nat × Nat)) : Dev.Only R P H S a { b with hostRead := x } :=
  h.update hp rfl rfl rfl fun p hp => by cases p <;> simp_all [Part.same]

/-- A read changes no register but the RC fields of the one read. -/
theorem Dev.readClears_only (d : Dev) (r : Reg) (i lo n : Nat) {P : List Part} {H : List HeadId} {S : List SpinId} :
    Dev.Only (fun g j => g ∈ r.fields ∧ g.info.access = .RC ∧ j = i) P H S d (d.readClears r i lo n) where
  registers _ _ hg _ := d.getF_readClears r i lo n hg
  others p _ := by
    obtain ⟨regs, c, hclears⟩ := d.readClears_eq r i lo n
    rw [hclears]
    cases p <;> rfl
  headsKept _ _ := by
    obtain ⟨regs, c, hclears⟩ := d.readClears_eq r i lo n
    rw [hclears]
    rfl
  spinsKept _ _ := by
    obtain ⟨regs, c, hclears⟩ := d.readClears_eq r i lo n
    rw [hclears]
    rfl

/-- Clearing a list of fields leaves 0 in each of them but CM_STAT.DROPPED, which Cameo keeps. -/
theorem Dev.getF_foldl_clearRc {i : Nat} {f : Fld} {fs : List Fld} (d : Dev) (hf : f ∈ fs) (hne : f ≠ .CM_STAT_DROPPED) :
    getF (fs.foldl (Dev.clearRc i) d) f i = 0 := by
  have hzero : ∀ (fs : List Fld) (d : Dev), getF d f i = 0 → getF (fs.foldl (Dev.clearRc i) d) f i = 0 := by
    intro fs
    induction fs with
    | nil => exact fun d hd => hd
    | cons g fs ih =>
      refine fun d hd => ih _ ?_
      unfold Dev.clearRc
      split
      · exact hd
      · rw [getF_setF_if]
        split
        · exact Nat.zero_mod _
        · exact hd
  induction fs generalizing d with
  | nil => cases hf
  | cons g fs ih =>
    rcases List.mem_cons.mp hf with rfl | hmem
    · refine hzero fs _ ?_
      simp [Dev.clearRc, hne]
    · exact ih _ hmem

/-- Clearing CM_STAT.DROPPED with other fields leaves Cameo's counter at 0, and leaves what has been raised. -/
theorem Dev.cameo_foldl_clearRc {i : Nat} {fs : List Fld} (d : Dev) (hf : .CM_STAT_DROPPED ∈ fs) :
    (fs.foldl (Dev.clearRc i) d).cameo = { d.cameo with dropped := 0 } := by
  have hstays : ∀ (fs : List Fld) (d : Dev), d.cameo.dropped = 0 → (fs.foldl (Dev.clearRc i) d).cameo = d.cameo := by
    intro fs
    induction fs with
    | nil => exact fun d _ => rfl
    | cons g fs ih =>
      intro d hd
      have hhead : (d.clearRc i g).cameo = d.cameo := by
        unfold Dev.clearRc
        split
        · show { d.cameo with dropped := 0 } = d.cameo
          rw [← hd]
        · rfl
      exact (ih _ (hhead ▸ hd)).trans hhead
  induction fs generalizing d with
  | nil => cases hf
  | cons g fs ih =>
    by_cases hg : g = .CM_STAT_DROPPED
    · subst hg
      exact (hstays fs _ rfl).trans rfl
    · have hmem : Fld.CM_STAT_DROPPED ∈ fs := (List.mem_cons.mp hf).resolve_left fun e => hg e.symm
      have hhead : (d.clearRc i g).cameo = d.cameo := by simp [Dev.clearRc, hg]
      rw [List.foldl_cons, ih _ hmem, hhead]

/-- Every RC field of a 32-bit register lies in its 32 bits, so the read of the register clears it. -/
theorem Reg.rc_mem_rcFields {r : Reg} {f : Fld} (hw : r.info.width = 32) (hf : f ∈ r.fields) (hrc : f.info.access = .RC) :
    f ∈ r.rcFields 0 32 := by
  have hfits : ∀ r : Reg, r.info.width = 32 → ∀ f ∈ r.fields, f.info.access = .RC → f.info.lo + f.info.width ≤ 32 := by
    intro r
    cases r <;> decide
  exact List.mem_filter.mpr ⟨hf, by simp [hrc, hfits r hw f hf hrc]⟩

/-- A 4-byte read of a 32-bit register. -/
theorem Dev.bar0Read_word {off i : Nat} {r : Reg} (d : Dev) (t : Nat) (hal : off % 4 = 0) (hat : regAt off = some (r, i, 0))
    (hw : r.info.width = 32) :
    d.bar0Read t off 4 = { d.readClears r i 0 32 with hostRead := some (off, 4, d.regSeen t r i % 2 ^ 32) } := by
  rw [Dev.bar0Read_four _ _ hal]
  simp [Dev.read4, hat, hw]

/-- With nothing raised the end of a command leaves Cameo's count of dropped events. -/
theorem Dev.flush_dropped {d : Dev} (h : d.cameo.raised = []) : d.flush.cameo.dropped = d.cameo.dropped := by
  have hjudged : d.judgeAll.cameo.dropped = d.cameo.dropped := by
    unfold Dev.judgeAll
    rw [h]
    split
    · rfl
    · dsimp only
      split <;> rfl
  rw [← hjudged]
  unfold Dev.flush Dev.notifyOwed
  split
  · unfold Dev.msix
    split <;> rfl
  · rfl

/-- Settles O8. -/
theorem readClearsItsRcFields : Obligations.ReadClearsItsRcFields := by
  unfold Obligations.ReadClearsItsRcFields
  refine ⟨fun addr r i s hans hal hat hw => ?_, fun addr i s hans hal hat hraised => ?_, fun addr s hans hno => ?_⟩
  · have hread := s.dev.bar0Read_word s.dtime hal hat hw
    refine ⟨_, exec_readClear addr 4 hans, by simp [hread], fun f hf hrc hne => ?_, Dev.Only.frame ?_⟩
    · have hpba : f ≠ .MSIX_PBA_BITS := by
        rintro rfl
        exact absurd hrc (by decide)
      rw [State.onDev_getF _ _ _ _ hpba, hread]
      exact Dev.getF_foldl_clearRc s.dev (Reg.rc_mem_rcFields hw hf hrc) hne
    · rw [hread]
      exact (s.dev.readClears_only r i 0 32).setHostRead (by simp) _
  · have hread := s.dev.bar0Read_word s.dtime hal hat (by decide)
    have hcameo : (s.dev.bar0Read s.dtime addr 4).cameo = { s.dev.cameo with dropped := 0 } := by
      rw [hread]
      exact Dev.cameo_foldl_clearRc s.dev (by decide)
    refine ⟨_, exec_readClear addr 4 hans, ?_⟩
    show (s.dev.bar0Read s.dtime addr 4).flush.cameo.dropped = 0
    rw [Dev.flush_dropped (by rw [hcameo]; exact hraised), hcameo]
  · have hread : s.dev.bar0Read s.dtime addr 4 = { s.dev with hostRead := some (addr, 4, 2 ^ 32 - 1) } := by
      rcases hno with hmis | hnone
      · simp [Dev.bar0Read, hmis]
      · by_cases hal : addr % 4 = 0
        · rw [Dev.bar0Read_four _ _ hal]
          simp [Dev.read4, hnone]
        · simp [Dev.bar0Read, hal]
    refine ⟨_, exec_readClear addr 4 hans, by simp [hread], Dev.Only.frame ?_⟩
    rw [hread]
    exact (Dev.Only.refl _).setHostRead (by simp) _

end Sys2Proof.Machine
end

section
/-! PROOFS. A 4-byte write of a plain 32-bit register sets its RW fields (O7). -/

namespace Sys2Proof.Machine

theorem Sparse.map_insert {β γ : Type} (g : β → γ) (l : List (Nat × β)) (k : Nat) (v : β) :
    (Sparse.insert l k v).map (fun p => (p.1, g p.2)) = Sparse.insert (l.map fun p => (p.1, g p.2)) k (g v) := by
  induction l with
  | nil => rfl
  | cons x l ih =>
    obtain ⟨j, w⟩ := x
    by_cases hlt : k < j
    · simp [Sparse.insert, hlt]
    · by_cases hk : k = j <;> simp [Sparse.insert, hlt, hk, ih]

/-- A pending value leaves those of every other field. -/
theorem pendF_setPend_ne (d : Dev) {f g : Fld} {i j : Nat} (v : Nat) (h : ¬(f = g ∧ i = j)) :
    pendF (setPend d g j v) f i = pendF d f i := by
  simp only [pendF, setPend, Sparse.map_insert some]
  exact Sparse.get_insert_ne _ _ _ (regKey_ne h)

/-- Clearing bits of a field changes that field alone. -/
theorem Dev.clearBits_only {R : Fld → Nat → Prop} {P : List Part} {H : List HeadId} {S : List SpinId} {a b : Dev} {f : Fld} {i : Nat}
    (h : Dev.Only R P H S a b) (hr : R f i) (c : Nat → Bool) (w : Nat) :
    Dev.Only R P H S a ((List.range w).foldl (fun d k => if c k then setF d f i (putBits (getF d f i) k 1 0) else d) b) :=
  Dev.Only.foldl h _ fun _ _ _ hd => Dev.Only.ite (fun _ => Dev.Only.setF hd hr _) fun _ => hd

/-- A write of a field changes at most the field and its waiting value. -/
theorem Dev.putField_only {R : Fld → Nat → Prop} {P : List Part} {H : List HeadId} {S : List SpinId} {a b : Dev} {f : Fld} {i : Nat}
    (h : Dev.Only R P H S a b) (hr : R f i) (hrv : .rvPend ∈ P) (hhm : .hmPend ∈ P) (lo n v : Nat) :
    Dev.Only R P H S a (b.putField f i lo n v) := by
  unfold Dev.putField
  split
  · exact h
  split
  · exact Dev.Only.ite (fun _ => h.setF hr _) fun _ => h
  · exact Dev.Only.ite (fun _ => h.setF hr _) fun _ => h
  · exact Dev.Only.ite (fun _ => h.setPend hrv hhm _ _ _) fun _ => h
  · exact Dev.clearBits_only h hr _ _
  · exact h

/-- A write of fields changes at most those fields and the waiting values. -/
theorem Dev.putFields_only {P : List Part} {H : List HeadId} {S : List SpinId} (d : Dev) (fs : List Fld) (i lo n v : Nat)
    (hrv : .rvPend ∈ P) (hhm : .hmPend ∈ P) : Dev.Only (fun g j => g ∈ fs ∧ j = i) P H S d (d.putFields fs i lo n v) :=
  Dev.Only.foldl (Dev.Only.refl d) fs fun _ hg _ hd => Dev.putField_only hd ⟨hg, rfl⟩ hrv hhm lo n v

/-- A write of one field leaves what another is held as. -/
theorem fieldHeld_putField_ne (d : Dev) {f g : Fld} (i lo n v : Nat) (hne : f ≠ g) (hpba : f ≠ .MSIX_PBA_BITS) :
    fieldHeld (d.putField g i lo n v) f i = fieldHeld d f i := by
  have hkey : ¬(f = g ∧ i = i) := fun e => hne e.1
  have honly : Dev.Only (fun f' j => f' = g ∧ j = i) [.rvPend, .hmPend] [] [] d (d.putField g i lo n v) :=
    Dev.putField_only (Dev.Only.refl d) ⟨rfl, rfl⟩ (by simp) (by simp) lo n v
  have hbits : ∀ (c : Nat → Bool) (l : List Nat) (d : Dev),
      pendF (l.foldl (fun d k => if c k then setF d g i (putBits (getF d g i) k 1 0) else d) d) f i = pendF d f i := by
    intro c l
    induction l with
    | nil => exact fun _ => rfl
    | cons k l ih =>
      intro d
      refine (ih _).trans ?_
      dsimp only
      split <;> rfl
  have hpend : pendF (d.putField g i lo n v) f i = pendF d f i := by
    unfold Dev.putField
    split
    · rfl
    split
    · split <;> rfl
    · split <;> rfl
    · split
      · exact pendF_setPend_ne d _ hkey
      · rfl
    · exact hbits _ _ _
    · rfl
  unfold fieldHeld
  rw [hpend, honly.registers f i hkey hpba]

/-- A 32-bit write gives a field that lies in its 32 bits, and holds no more than its width, its bits of the value. -/
theorem writtenF_word {held : Nat} {f : Fld} (v : Nat) (hheld : held < 2 ^ f.info.width) (hw : 0 < f.info.width)
    (hfits : f.info.lo + f.info.width ≤ 32) : writtenF held f 0 32 v = some (fieldOf f v) := by
  have hlo : max 0 f.info.lo = f.info.lo := Nat.max_eq_right (Nat.zero_le _)
  have hhi : min (0 + 32) (f.info.lo + f.info.width) = f.info.lo + f.info.width := by omega
  have hlen : f.info.lo + f.info.width - f.info.lo = f.info.width := by omega
  have hlt : f.info.lo < f.info.lo + f.info.width := by omega
  simp only [writtenF, hlo, hhi, hlen, hlt, if_true, Nat.sub_self, Nat.sub_zero]
  simp [putBits, fieldOf, Nat.div_eq_of_lt hheld, Nat.mod_one]

/-- A 32-bit write of a plain register gives each of its RW fields its bits of the value, when these lie in its range. -/
theorem getF_putFields_rw {f : Fld} {fs : List Fld} {d : Dev} {i v : Nat} (hnd : fs.Nodup) (hf : f ∈ fs) (hrw : f.info.access = .RW)
    (hheld : fieldHeld d f i < 2 ^ f.info.width) (hw : 0 < f.info.width) (hfits : f.info.lo + f.info.width ≤ 32) :
    getF (d.putFields fs i 0 32 v) f i = if Sys2Proof.Machine.rangeOk f (fieldOf f v) then fieldOf f v else getF d f i := by
  have hpba : f ≠ .MSIX_PBA_BITS := by
    rintro rfl
    exact absurd hrw (by decide)
  induction fs generalizing d with
  | nil => cases hf
  | cons g fs ih =>
    obtain ⟨hg, hnd⟩ := List.nodup_cons.mp hnd
    show getF ((d.putField g i 0 32 v).putFields fs i 0 32 v) f i = _
    by_cases hfg : f = g
    · subst hfg
      have hrest : getF ((d.putField f i 0 32 v).putFields fs i 0 32 v) f i = getF (d.putField f i 0 32 v) f i :=
        (Dev.putFields_only (P := [.rvPend, .hmPend]) (H := []) (S := []) _ fs i 0 32 v (by simp) (by simp)).registers f i (fun e => hg e.1) hpba
      have hlt : fieldOf f v < 2 ^ f.info.width := Nat.mod_lt _ (by positivity)
      rw [hrest]
      simp only [Dev.putField, writtenF_word v hheld hw hfits, hrw]
      split
      · rw [getF_setF, Nat.mod_eq_of_lt hlt]
      · rfl
    · have hmem : f ∈ fs := (List.mem_cons.mp hf).resolve_left hfg
      have honly : Dev.Only (fun f' j => f' = g ∧ j = i) [.rvPend, .hmPend] [] [] d (d.putField g i 0 32 v) :=
        Dev.putField_only (Dev.Only.refl d) ⟨rfl, rfl⟩ (by simp) (by simp) 0 32 v
      rw [ih hnd hmem (by rw [fieldHeld_putField_ne d i 0 32 v hfg hpba]; exact hheld), honly.registers f i (fun e => hfg e.1) hpba]

/-- A write of an RO field does nothing. -/
theorem Dev.putField_ro (d : Dev) {f : Fld} (i lo n v : Nat) (hro : f.info.access = .RO) : d.putField f i lo n v = d := by
  unfold Dev.putField
  rw [hro]
  split <;> rfl

/-- A write of a register leaves its RO fields. -/
theorem getF_putFields_ro {f : Fld} (fs : List Fld) (d : Dev) (i v : Nat) (hro : f.info.access = .RO) (hpba : f ≠ .MSIX_PBA_BITS) :
    getF (d.putFields fs i 0 32 v) f i = getF d f i := by
  induction fs generalizing d with
  | nil => rfl
  | cons g fs ih =>
    refine (ih _).trans ?_
    by_cases hfg : f = g
    · subst hfg
      exact congrArg (getF · f i) (d.putField_ro i 0 32 v hro)
    · have honly : Dev.Only (fun f' j => f' = g ∧ j = i) [.rvPend, .hmPend] [] [] d (d.putField g i 0 32 v) :=
        Dev.putField_only (Dev.Only.refl d) ⟨rfl, rfl⟩ (by simp) (by simp) 0 32 v
      exact honly.registers f i (fun e => hfg e.1) hpba

theorem Reg.fields_nodup (r : Reg) : r.fields.Nodup := by cases r <;> decide

/-- The fields of a 32-bit register lie in its 32 bits. -/
theorem Reg.fields_fit {r : Reg} {f : Fld} (hw : r.info.width = 32) (hf : f ∈ r.fields) :
    0 < f.info.width ∧ f.info.lo + f.info.width ≤ 32 := by
  have hfits : ∀ r : Reg, r.info.width = 32 → ∀ f ∈ r.fields, 0 < f.info.width ∧ f.info.lo + f.info.width ≤ 32 := by
    intro r
    cases r <;> decide
  exact hfits r hw f hf

/-- The write of a register without an action of its own. -/
theorem Dev.writeReg_plain {r : Reg} (d : Dev) (t i lo n v : Nat) (h : r.plain = true) :
    d.writeReg t r i lo n v = d.putFields r.fields i lo n v := by
  unfold Dev.writeReg
  dsimp only
  split
  pick_goal 33
  · rfl
  all_goals exact absurd h (by decide)

/-- A 4-byte write of the lowest 32 bits of a register. -/
theorem Dev.bar0Write_word {off i v : Nat} {r : Reg} {d : Dev} (t : Nat) (hans : d.answers = true) (hal : off % 4 = 0) (hv : v < 2 ^ 32)
    (hat : regAt off = some (r, i, 0)) : d.bar0Write t off 4 v = d.writeReg t r i 0 32 v := by
  have hpart : d.writePart t off v = d.writeReg t r i 0 32 (v % 2 ^ 32) := by
    unfold Dev.writePart
    rw [hat]
  rw [Nat.mod_eq_of_lt hv] at hpart
  simp [Dev.bar0Write, hans, hal, hpart]

/-- A 4-byte write at an offset that no map names does nothing. -/
theorem Dev.bar0Write_none {off : Nat} (d : Dev) (t v : Nat) (hat : regAt off = none) : d.bar0Write t off 4 v = d := by
  have hpart : d.writePart t off v = d := by
    unfold Dev.writePart
    rw [hat]
  simp [Dev.bar0Write, hpart]

/-- Settles O7. -/
theorem registerWriteSetsFields : Obligations.RegisterWriteSetsFields := by
  unfold Obligations.RegisterWriteSetsFields
  refine ⟨fun addr v r i s hans hal hv hat hw hplain hheld => ?_, fun addr v s hal hat => ?_⟩
  · have hwrite : s.dev.bar0Write s.dtime addr 4 v = s.dev.putFields r.fields i 0 32 v :=
      (Dev.bar0Write_word s.dtime hans hal hv hat).trans (s.dev.writeReg_plain _ _ _ _ _ hplain)
    refine ⟨_, rfl, fun f hf hrw => ?_, fun f hf hro hpba => ?_, Dev.Only.frame ?_⟩
    · have hpba : f ≠ .MSIX_PBA_BITS := by
        rintro rfl
        exact absurd hrw (by decide)
      obtain ⟨hpos, hfits⟩ := Reg.fields_fit hw hf
      rw [State.onDev_getF _ _ _ _ hpba, hwrite]
      exact getF_putFields_rw r.fields_nodup hf hrw (hheld f hf) hpos hfits
    · rw [State.onDev_getF _ _ _ _ hpba, hwrite]
      exact getF_putFields_ro r.fields s.dev i v hro hpba
    · rw [hwrite]
      exact s.dev.putFields_only r.fields i 0 32 v (by simp) (by simp)
  · refine ⟨_, rfl, Dev.Only.frame ?_⟩
    rw [s.dev.bar0Write_none _ _ hat]
    exact Dev.Only.refl _

end Sys2Proof.Machine
end

section
/-! PROOFS. The write guard, its limits and the requests of MO_CTL (O24). -/

namespace Sys2Proof.Machine

variable {R : Fld → Nat → Prop} {P : List Part} {H : List HeadId} {S : List SpinId} {a b : Dev}

theorem State.onDev_head (s : State) (g : Dev → Dev) (h : HeadId) : (s.onDev g).dev.head h = (g s.dev).head h :=
  congrArg (·[h]) (State.onDev_heads s g)

theorem State.onDev_spin (s : State) (g : Dev → Dev) (p : SpinId) : (s.onDev g).dev.spin p = (g s.dev).spin p :=
  congrArg (·[p]) (State.onDev_spindles s g)

theorem State.onDev_torc (s : State) (g : Dev → Dev) (p : SpinId) : (s.onDev g).dev.torc p = (g s.dev).torc p :=
  congrArg Spindle.torc (s.onDev_spin g p)

/-- A change of a link's port is one of its head or spindle. -/
theorem Dev.Only.modPort (h : Dev.Only R P H S a b) {l : LinkId} (hh : linkHeads l ⊆ H) (hs : linkSpins l ⊆ S) (f : Port → Port) :
    Dev.Only R P H S a (b.modPort l f) := by
  unfold Dev.modPort
  cases l with
  | head x => exact h.modLink (x := x) (hh (by simp [linkHeads])) _
  | spin x => exact h.modSpinLink (x := x) (hs (by simp [linkSpins])) _

theorem Dev.Only.mail (h : Dev.Only R P H S a b) {l : LinkId} (hh : linkHeads l ⊆ H) (hs : linkSpins l ⊆ S) (p : Purpose) (k : Nat) :
    Dev.Only R P H S a (b.mail l p k) := by
  unfold Dev.mail
  exact h.modPort hh hs _

/-- The end of a guard episode of a head, and GUARD_OK as it then shows. -/
def Dev.guardTurn (d : Dev) (h : HeadId) : Dev := (d.guardSettled h).showGuard h

theorem Dev.guardTurn_only (hab : Dev.Only R P H S a b) {h : HeadId} (hr : R .MO_MODE_GUARD_OK h) (hh : h ∈ H) :
    Dev.Only R P H S a (b.guardTurn h) := by
  refine Dev.Only.setB ?_ hr _
  exact Dev.Only.ite (fun _ => hab.modMotion hh _) fun _ => hab

/-- Whether the conditions of a head are clear is not changed by the end of another head's episode. -/
theorem Dev.guardQuiet_guardTurn_ne (d : Dev) {g h : HeadId} (hne : h ≠ g) : (d.guardTurn g).guardQuiet h = d.guardQuiet h := by
  have honly : Dev.Only (theRegs [(.MO_MODE_GUARD_OK, g)]) [] [g] [] d (d.guardTurn g) :=
    Dev.guardTurn_only (Dev.Only.refl d) (by simp [theRegs]) (by simp)
  unfold Dev.guardQuiet
  rw [honly.registers _ _ (by simp [theRegs]) (by decide), honly.registers _ _ (by simp [theRegs]) (by decide),
    honly.headsKept h (by simpa using hne), honly.spinsKept _ (by simp)]

theorem Dev.guardTurn_motion {d : Dev} {h : HeadId} (hq : d.guardQuiet h = true) :
    ((d.guardTurn h).head h).motion = { (d.head h).motion with episode := false } := by
  simp [Dev.guardTurn, Dev.showGuard, Dev.guardSettled, hq, Dev.modMotion, setB]

theorem Dev.guardTurn_ok {d : Dev} {h : HeadId} (hq : d.guardQuiet h = true) :
    getF (d.guardTurn h) .MO_MODE_GUARD_OK h = if d.mode h = 3 ∧ d.inHandover h = false then 1 else 0 := by
  have hsettled : d.guardSettled h = d.modMotion h fun x => { x with episode := false } := by simp [Dev.guardSettled, hq]
  have hquiet : (d.guardSettled h).guardQuiet h = true := by
    rw [hsettled, ← hq]
    simp [Dev.guardQuiet, Dev.modMotion]
    rfl
  have hhand : (d.guardSettled h).inHandover h = d.inHandover h := by
    rw [hsettled]
    simp [Dev.inHandover, Dev.loop, Dev.modMotion]
  have hmode : (d.guardSettled h).mode h = d.mode h := by
    rw [hsettled]
    rfl
  unfold Dev.guardTurn Dev.showGuard setB
  rw [getF_setF, hquiet, hhand, hmode]
  by_cases hm : d.mode h = 3 <;> cases d.inHandover h <;> simp [hm, b2n, Fld.info]

/-- With a condition that has not been clear long enough, the episode goes on and GUARD_OK shows 0. -/
theorem Dev.guardTurn_loud {d : Dev} {h : HeadId} (hq : d.guardQuiet h = false) : d.guardTurn h = setB d .MO_MODE_GUARD_OK h false := by
  simp [Dev.guardTurn, Dev.showGuard, Dev.guardSettled, hq]

/-- The ends of the episodes of several heads: each head and its GUARD_OK as its own end alone leaves them. -/
theorem Dev.foldl_guardTurn {d : Dev} {l : List HeadId} (hnd : l.Nodup) {h : HeadId} (hh : h ∈ l) (hq : ∀ h ∈ l, d.guardQuiet h = true) :
    ((l.foldl Dev.guardTurn d).head h).motion = { (d.head h).motion with episode := false }
      ∧ getF (l.foldl Dev.guardTurn d) .MO_MODE_GUARD_OK h = if d.mode h = 3 ∧ d.inHandover h = false then 1 else 0 := by
  induction l generalizing d with
  | nil => cases hh
  | cons g l ih =>
    obtain ⟨hg, hnd⟩ := List.nodup_cons.mp hnd
    by_cases hgh : h = g
    · subst hgh
      have hrest : Dev.Only (fun f i => f = .MO_MODE_GUARD_OK ∧ ∃ x ∈ l, i = (x : Nat)) [] l [] (d.guardTurn h) (l.foldl Dev.guardTurn (d.guardTurn h)) :=
        Dev.Only.foldl (Dev.Only.refl _) l fun x hx d hd => Dev.guardTurn_only hd ⟨rfl, x, hx, rfl⟩ hx
      have hkept : ¬((.MO_MODE_GUARD_OK : Fld) = .MO_MODE_GUARD_OK ∧ ∃ x ∈ l, (h : Nat) = (x : Nat)) := by
        rintro ⟨-, x, hx, he⟩
        exact hg (Fin.ext he ▸ hx)
      rw [List.foldl_cons, hrest.headsKept h hg, hrest.registers _ _ hkept (by decide)]
      exact ⟨Dev.guardTurn_motion (hq h hh), Dev.guardTurn_ok (hq h hh)⟩
    · have hmem : h ∈ l := (List.mem_cons.mp hh).resolve_left hgh
      have hother : ∀ x ∈ l, (d.guardTurn g).guardQuiet x = true := fun x hx => by
        rw [d.guardQuiet_guardTurn_ne (ne_of_mem_of_not_mem hx hg)]
        exact hq x (List.mem_cons_of_mem _ hx)
      have honly : Dev.Only (theRegs [(.MO_MODE_GUARD_OK, g)]) [] [g] [] d (d.guardTurn g) :=
        Dev.guardTurn_only (Dev.Only.refl d) (by simp [theRegs]) (by simp)
      have hhead : (d.guardTurn g).head h = d.head h := honly.headsKept h (by simpa using hgh)
      have hmode : (d.guardTurn g).mode h = d.mode h := honly.registers _ _ (by simp [theRegs]) (by decide)
      have hhand : (d.guardTurn g).inHandover h = d.inHandover h := by simp [Dev.inHandover, Dev.loop, hhead]
      have hrec := ih (d := d.guardTurn g) hnd hmem hother
      rw [hhead, hmode, hhand] at hrec
      exact hrec

theorem headsOf_nodup (p : SpinId) : (headsOf p).Nodup := by revert p; decide

theorem headsOf_div {p : SpinId} {h : HeadId} (hh : h ∈ headsOf p) : (h : Nat) / 4 = p := by
  simp only [headsOf, headOf, List.mem_cons, List.not_mem_nil, or_false] at hh
  rcases hh with rfl | rfl | rfl | rfl <;> simp <;> omega

/-- A request that takes effect. -/
theorem Dev.request_taken {d : Dev} {h : HeadId} {byHost : Bool} (f : Motion → Motion) (hfree : byHost = false ∨ d.headBusy h = false) :
    d.request h byHost f = d.modMotion h f := by
  unfold Dev.request
  rcases hfree with e | e <;> simp [e]

/-- A request that takes effect changes the motion of its head and nothing else. -/
theorem request_taken_spec {s : State} {h : HeadId} {byHost : Bool} (f : Motion → Motion) (hfree : byHost = false ∨ s.dev.headBusy h = false) :
    ((s.onDev fun d => d.request h byHost f).dev.head h).motion = f (s.dev.head h).motion
      ∧ Frame noRegs [] [h] [] s (s.onDev fun d => d.request h byHost f) := by
  refine ⟨?_, Dev.Only.frame ?_⟩
  · rw [State.onDev_head, Dev.request_taken f hfree]
    exact congrArg Head.motion (s.dev.head_modHead h _)
  · rw [Dev.request_taken f hfree]
    exact (Dev.Only.refl _).modMotion (by simp) f

/-- A request of the host while the head is busy only counts. -/
theorem request_rejected_spec {s : State} {h : HeadId} (f : Motion → Motion) (hbusy : s.dev.headBusy h = true) :
    getF (s.onDev fun d => d.request h true f).dev .MO_STAT_CTL_REJ h = min 255 (getF s.dev .MO_STAT_CTL_REJ h + 1)
      ∧ Frame (theRegs [(.MO_STAT_CTL_REJ, h)]) [] [] [] s (s.onDev fun d => d.request h true f) := by
  have hcount : s.dev.request h true f = incF s.dev .MO_STAT_CTL_REJ h := by simp [Dev.request, hbusy]
  refine ⟨?_, Dev.Only.frame ?_⟩
  · rw [State.onDev_getF _ _ _ _ (by decide), hcount]
    exact getF_incF _ _ _ _ _ (by decide)
  · rw [hcount]
    exact (Dev.Only.refl _).incF (by simp [theRegs]) _ _

/-- What a write of MO_GUARD changes. -/
theorem Dev.guardWrite_only (d : Dev) (h : HeadId) (word : Nat) :
    Dev.Only (theRegs [(.MO_GUARD_WG_TE, h), (.MO_GUARD_WG_FE, h)]) [] [h] [] d (d.guardWrite h word) := by
  unfold Dev.guardWrite Dev.guardMail
  dsimp only
  have hport : Dev.Only (theRegs [(.MO_GUARD_WG_TE, h), (.MO_GUARD_WG_FE, h)]) [] [h] [] d
      (((setF (setF d .MO_GUARD_WG_TE h (bits word 31 16)) .MO_GUARD_WG_FE h (bits word 15 0)).modMotion h fun x =>
        { x with guardAck := false }).modPort (.head h) fun p => { p with mbox := p.mbox.filter fun r => r.purpose != .guard }) := by
    refine Dev.Only.modPort (Dev.Only.modMotion (Dev.Only.setF (Dev.Only.setF (Dev.Only.refl d) ?_ _) ?_ _) ?_ _) ?_ ?_ _ <;>
      simp [theRegs, linkHeads, linkSpins]
  exact Dev.Only.ite (fun _ => hport.mail (by simp [linkHeads]) (by simp [linkSpins]) _ _) fun _ => hport

/-- The registers after a write of MO_GUARD are those with the two limits stored. -/
theorem Dev.guardMail_getF (d : Dev) (h : HeadId) (f : Fld) (i : Nat) : getF (d.guardMail h) f i = getF d f i := by
  unfold Dev.guardMail
  dsimp only
  split <;> rfl

theorem Dev.guardMail_ack (d : Dev) (h : HeadId) : ((d.guardMail h).head h).motion.guardAck = false := by
  unfold Dev.guardMail
  dsimp only
  split <;> simp [Dev.mail, Dev.modPort, Dev.modLink, Dev.modMotion]

/-- Settles O24. -/
theorem writeGuardAndRequests : Obligations.WriteGuardAndRequests := by
  unfold Obligations.WriteGuardAndRequests
  refine ⟨fun h s hq => ?_, fun p s hq => ?_, fun h s hq => ?_, fun h word s hword => ?_, fun h byHost s hfree => ?_, fun h s hbusy c hc => ?_⟩
  · refine ⟨_, rfl, ?_, ?_, Dev.Only.frame (Dev.guardTurn_only (Dev.Only.refl _) (by simp [theRegs]) (by simp))⟩
    · rw [State.onDev_head]
      exact Dev.guardTurn_motion hq
    · rw [State.onDev_getF _ _ _ _ (by decide)]
      exact Dev.guardTurn_ok hq
  · have hspec := fun h (hh : h ∈ headsOf p) => Dev.foldl_guardTurn (headsOf_nodup p) hh hq
    refine ⟨_, rfl, fun h hh => ⟨?_, ?_⟩, Dev.Only.frame ?_⟩
    · rw [State.onDev_head]
      exact (hspec h hh).1
    · rw [State.onDev_getF _ _ _ _ (by decide)]
      exact (hspec h hh).2
    · exact Dev.Only.foldl (Dev.Only.refl _) _ fun h hh d hd => Dev.guardTurn_only hd ⟨rfl, headsOf_div hh⟩ hh
  · have hloud := Dev.guardTurn_loud hq
    refine ⟨_, rfl, ?_, ?_, Dev.Only.frame (Dev.guardTurn_only (Dev.Only.refl _) (by simp [theRegs]) (by simp))⟩
    · rw [State.onDev_head]
      exact (congrArg (Dev.head · h) hloud).trans (Dev.setF_head ..)
    · rw [State.onDev_getF _ _ _ _ (by decide)]
      refine (congrArg (getF · _ _) hloud).trans ?_
      simp [setB, b2n]
  · refine ⟨_, rfl, ?_, ?_, ?_, Dev.Only.frame (s.dev.guardWrite_only h word)⟩
    · rw [State.onDev_getF _ _ _ _ (by decide)]
      refine (Dev.guardMail_getF _ _ _ _).trans ?_
      rw [getF_setF_ne _ _ (by simp), getF_setF]
      simp only [bits, Fld.info]
      omega
    · rw [State.onDev_getF _ _ _ _ (by decide)]
      refine (Dev.guardMail_getF _ _ _ _).trans ?_
      rw [getF_setF]
      simp only [bits, Fld.info]
      omega
    · rw [State.onDev_head]
      exact Dev.guardMail_ack _ h
  · have htaken := fun f => request_taken_spec (s := s) (byHost := byHost) f hfree
    exact ⟨⟨_, rfl, htaken _⟩, ⟨_, rfl, htaken _⟩, ⟨_, rfl, htaken _⟩, ⟨_, rfl, htaken _⟩⟩
  · have hrejected := fun f => request_rejected_spec (s := s) f hbusy
    simp only [List.mem_cons, List.not_mem_nil, or_false] at hc
    rcases hc with rfl | rfl | rfl | rfl <;> exact ⟨_, rfl, hrejected _⟩

end Sys2Proof.Machine
end

section
/-! PROOFS. The requests to a spindle, and how it stops (O27, O28). -/

namespace Sys2Proof.Machine

variable {R : Fld → Nat → Prop} {P : List Part} {H : List HeadId} {S : List SpinId} {a b : Dev} {p : SpinId}

/-! ## Entering a state -/

theorem State.onDev_torcState (s : State) (g : Dev → Dev) (p : SpinId) : (s.onDev g).dev.torcState p = (g s.dev).torcState p :=
  State.onDev_getF s g _ _ (by decide)

theorem Dev.Only.notAtSpeed (h : Dev.Only R P H S a b) (hr : R .TQ_STAT_AT_SPEED p) (hp : p ∈ S) : Dev.Only R P H S a (b.notAtSpeed p) :=
  (h.setF hr _).modTorc hp _

/-- What entering a state changes: the spindle, STATE, AT_SPEED unless RUN is entered, DEPTH_LIM unless it is RUN or DECEL, and the
speed where it becomes 0. -/
theorem Dev.Only.torcEnter (h : Dev.Only R P H S a b) {n : Nat} (hstate : R .TQ_STAT_STATE p) (hp : p ∈ S)
    (hat : n ≠ 5 → R .TQ_STAT_AT_SPEED p) (hdepth : torcService n = false → R .TQ_STAT_DEPTH_LIM p)
    (hspeed : n = 0 ∨ n = 2 ∨ n = 3 → R .TQ_STAT_SPEED p) : Dev.Only R P H S a (b.torcEnter p n) := by
  unfold Dev.torcEnter
  dsimp only
  refine Dev.Only.ite (fun hn => Dev.Only.setF ?_ (hspeed hn) _) fun _ => ?_
  all_goals
    refine Dev.Only.modSpinDown (Dev.Only.ite (fun _ => ?_) fun hn => Dev.Only.setF ?_ (hdepth (by simpa using hn)) _) hp _
  all_goals
    exact Dev.Only.modTorc (Dev.Only.setF (Dev.Only.ite (fun _ => h) fun hn => h.notAtSpeed (hat hn) hp) hstate _) hp _

@[simp] theorem Dev.modTorc_torcState (d : Dev) (q p : SpinId) (f : Torc → Torc) : (d.modTorc q f).torcState p = d.torcState p := rfl

@[simp] theorem Dev.modSpinDown_torcState (d : Dev) (q p : SpinId) (f : SpinDown → SpinDown) : (d.modSpinDown q f).torcState p = d.torcState p := rfl

@[simp] theorem Dev.torc_modTorc (d : Dev) (p : SpinId) (f : Torc → Torc) : (d.modTorc p f).torc p = f (d.torc p) := by
  simp [Dev.torc, Dev.modTorc]

@[simp] theorem Dev.torc_modSpinDown (d : Dev) (q p : SpinId) (f : SpinDown → SpinDown) : (d.modSpinDown q f).torc p = d.torc p := by
  by_cases h : p = q
  · subst h
    simp [Dev.torc, Dev.modSpinDown]
  · simp [Dev.torc, Dev.modSpinDown, Dev.spin_modSpin_ne d _ h]

@[simp] theorem Dev.torc_setF (d : Dev) (f : Fld) (i v : Nat) (p : SpinId) : (setF d f i v).torc p = d.torc p := rfl

/-- The state entered is the one shown. -/
theorem Dev.torcEnter_state (d : Dev) (p : SpinId) {n : Nat} (hn : n < 16) : (d.torcEnter p n).torcState p = n := by
  unfold Dev.torcEnter
  dsimp only
  split <;> split <;> simp [Dev.torcState, getF_setF_if, Fld.info, Dev.modSpinDown, Dev.modTorc, Nat.mod_eq_of_lt hn]

/-- What entering a state leaves of Torc's record. -/
theorem Dev.torcEnter_keeps (d : Dev) (p : SpinId) (n : Nat) :
    ((d.torcEnter p n).torc p).startPend = (d.torc p).startPend ∧ ((d.torcEnter p n).torc p).barred = (d.torc p).barred
      ∧ ((d.torcEnter p n).torc p).forced = (d.torc p).forced := by
  unfold Dev.torcEnter
  dsimp only
  split <;> split <;> split <;> simp [Dev.notAtSpeed]

/-- The bridge as the row of the state entered says. -/
theorem Dev.torcEnter_bridge (d : Dev) (p : SpinId) (n : Nat) :
    ((d.torcEnter p n).spin p).down.bridgeEn = (decide (2 ≤ n) && decide (n ≤ 7)) ∧ ((d.torcEnter p n).spin p).down.shortBrake = (n == 7) := by
  unfold Dev.torcEnter
  dsimp only
  split <;> simp [Dev.modSpinDown]

/-- A spindle that enters another state than RUN is not at speed. -/
theorem Dev.torcEnter_atSpeed (d : Dev) (p : SpinId) {n : Nat} (hn : n ≠ 5) : getF (d.torcEnter p n) .TQ_STAT_AT_SPEED p = 0 := by
  unfold Dev.torcEnter Dev.notAtSpeed
  dsimp only
  rw [if_neg hn]
  split <;> split <;> simp [getF_setF_if, Dev.modSpinDown, Dev.modTorc]

/-- The speed shown is 0 once OFF is entered. -/
theorem Dev.torcEnter_off_speed (d : Dev) (p : SpinId) : getF (d.torcEnter p 0) .TQ_STAT_SPEED p = 0 := by
  simp [Dev.torcEnter]

/-! ## Stopping -/

/-- What a start that the throttle step holds changes, and that it then waits. -/
theorem Dev.torcStart_held {d : Dev} (t : Nat) (hstep : 6 ≤ getF d .TH_STAT_STEP 0) (hbar : (d.torc p).barred = false)
    (hforced : (d.torc p).forced = false) : d.torcStart t p = d.modTorc p fun x => { x with startPend := true } := by
  simp [Dev.torcStart, hbar, hforced, hstep]

/-- The spindle has come to rest: OFF, LOW30 set, no speed. -/
def Dev.spinRest (d : Dev) (p : SpinId) : Dev :=
  (setF (setF (d.torcEnter p 0) .TQ_STAT_LOW30 p 1) .TQ_STAT_REVERSE p 0).modTorc p fun x =>
    { x with rested := true, speed := 0, startPend := false }

theorem Dev.standstill_eq {d : Dev} (t : Nat) (hstate : d.torcState p = 7) (hstill : 80000 ≤ (d.torc p).still) (hdead : d.torcDead p = false) :
    d.standstill t p = if ((d.torc p).startPend && getB (d.spinRest p) .TQ_CTL_RUN p) = true then (d.spinRest p).torcStart t p else d.spinRest p := by
  have hgo : ¬(d.torcState p ≠ 7 ∨ (d.torc p).still < 80000 ∨ d.torcDead p = true) := by
    simp [hstate, hdead, hstill]
  unfold Dev.standstill
  rw [if_neg hgo]
  rfl

theorem Dev.spinRest_state (d : Dev) (p : SpinId) : (d.spinRest p).torcState p = 0 := by
  unfold Dev.spinRest
  rw [Dev.modTorc_torcState, Dev.torcState, getF_setF_ne _ _ (by simp), getF_setF_ne _ _ (by simp)]
  exact d.torcEnter_state p (by decide)

theorem Dev.spinRest_only (d : Dev) (p : SpinId) :
    Dev.Only (theRegs [(.TQ_STAT_STATE, p), (.TQ_STAT_AT_SPEED, p), (.TQ_STAT_DEPTH_LIM, p), (.TQ_STAT_SPEED, p), (.TQ_STAT_LOW30, p), (.TQ_STAT_REVERSE, p)])
      [] [] [p] d (d.spinRest p) := by
  refine Dev.Only.modTorc (Dev.Only.setF (Dev.Only.setF (Dev.Only.torcEnter (Dev.Only.refl d) ?_ ?_ ?_ ?_ ?_) ?_ _) ?_ _) ?_ _ <;> simp [theRegs]

/-- The spindle brakes. -/
theorem Dev.torcBrake_spec (d : Dev) (p : SpinId) :
    (d.torcBrake p).torcState p = 7 ∧ getF (d.torcBrake p) .TQ_STAT_AT_SPEED p = 0
      ∧ ((d.torcBrake p).spin p).down.bridgeEn = true ∧ ((d.torcBrake p).spin p).down.shortBrake = true := by
  unfold Dev.torcBrake
  refine ⟨?_, ?_, ?_, ?_⟩
  · rw [Dev.modTorc_torcState]
    exact d.torcEnter_state p (by decide)
  · rw [Dev.modTorc_getF]
    exact d.torcEnter_atSpeed p (by decide)
  · rw [Dev.modTorc_spin_down]
    exact (d.torcEnter_bridge p 7).1
  · rw [Dev.modTorc_spin_down]
    exact (d.torcEnter_bridge p 7).2

/-- Settles O28. -/
theorem stoppingASpindle : Obligations.StoppingASpindle := by
  unfold Obligations.StoppingASpindle
  refine ⟨fun p s hstate hslow => ?_, fun p s hstate hstill hdead hpend => ?_, fun p s hdead => ?_,
    fun p s hstep hstate hstill hdead hpend hbar hforced => ?_⟩
  · have hbrake : s.dev.decelEnd p = s.dev.torcBrake p := if_pos ⟨hstate, hslow⟩
    obtain ⟨hseven, hslowed, hen, hshort⟩ := s.dev.torcBrake_spec p
    refine ⟨_, rfl, ?_, ?_, ?_, ?_, Dev.Only.frame ?_⟩
    · rw [State.onDev_torcState, hbrake]
      exact hseven
    · rw [State.onDev_getF _ _ _ _ (by decide), hbrake]
      exact hslowed
    · rw [State.onDev_spin, hbrake]
      exact hen
    · rw [State.onDev_spin, hbrake]
      exact hshort
    · rw [hbrake]
      refine Dev.Only.modTorc (Dev.Only.torcEnter (Dev.Only.refl _) ?_ ?_ ?_ ?_ ?_) ?_ _ <;> simp [theRegs]
  · have hrest : s.dev.standstill s.dtime p = s.dev.spinRest p := by simp [Dev.standstill_eq s.dtime hstate hstill hdead, hpend]
    refine ⟨_, rfl, ?_, ?_, ?_, ?_, ?_, ?_, Dev.Only.frame ?_⟩
    · rw [State.onDev_torcState, hrest]
      exact s.dev.spinRest_state p
    · rw [State.onDev_getF _ _ _ _ (by decide), hrest]
      simp [Dev.spinRest, Dev.modTorc, getF_setF_if, Fld.info]
    · rw [State.onDev_getF _ _ _ _ (by decide), hrest]
      simpa [Dev.spinRest, Dev.modTorc, getF_setF_if] using s.dev.torcEnter_off_speed p
    · rw [State.onDev_torc, hrest]
      simp [Dev.spinRest]
    · rw [State.onDev_spin, hrest]
      simp [Dev.spinRest, Dev.torcEnter_bridge]
    · rw [State.onDev_spin, hrest]
      simp [Dev.spinRest, Dev.torcEnter_bridge]
    · rw [hrest]
      exact s.dev.spinRest_only p
  · have hnone : s.dev.standstill s.dtime p = s.dev := by simp [Dev.standstill, hdead]
    refine ⟨_, rfl, ?_, Dev.Only.frame ?_⟩
    · rw [State.onDev_torcState, hnone]
    · rw [hnone]
      exact Dev.Only.refl _
  · have honly := s.dev.spinRest_only p
    have hstepRest : 6 ≤ getF (s.dev.spinRest p) .TH_STAT_STEP 0 := by
      rw [honly.registers _ _ (by simp [theRegs]) (by decide)]
      exact hstep
    have hrun : getF (s.dev.spinRest p) .TQ_CTL_RUN p = getF s.dev .TQ_CTL_RUN p := honly.registers _ _ (by simp [theRegs]) (by decide)
    obtain ⟨-, hbarKept, hforcedKept⟩ := s.dev.torcEnter_keeps p 0
    have hheld : (s.dev.spinRest p).torcStart s.dtime p = (s.dev.spinRest p).modTorc p fun x => { x with startPend := true } :=
      Dev.torcStart_held _ hstepRest (by simp [Dev.spinRest, hbarKept, hbar]) (by simp [Dev.spinRest, hforcedKept, hforced])
    have hstand : s.dev.standstill s.dtime p = if getF s.dev .TQ_CTL_RUN p = 1 then
        (s.dev.spinRest p).modTorc p fun x => { x with startPend := true } else s.dev.spinRest p := by
      simp [Dev.standstill_eq s.dtime hstate hstill hdead, hpend, getB, hrun, hheld]
    refine ⟨_, rfl, ?_, ?_⟩
    · rw [State.onDev_torcState, hstand]
      split
      · exact (Dev.modTorc_torcState ..).trans (s.dev.spinRest_state p)
      · exact s.dev.spinRest_state p
    · rw [State.onDev_torc, hstand]
      by_cases hgo : getF s.dev .TQ_CTL_RUN p = 1
      · rw [if_pos hgo, Dev.torc_modTorc, decide_eq_true hgo]
      · rw [if_neg hgo, Dev.spinRest, Dev.torc_modTorc, decide_eq_false hgo]

end Sys2Proof.Machine
end

section
/-! PROOFS. The requests to a spindle: RUN, SPEED_CMD, CLEAR, and AT_SPEED (O27). -/

namespace Sys2Proof.Machine

variable {R : Fld → Nat → Prop} {P : List Part} {H : List HeadId} {S : List SpinId} {a b : Dev} {p : SpinId}

/-! ## The target -/

theorem Dev.Only.retarget (h : Dev.Only R P H S a b) (hr : R .TQ_STAT_AT_SPEED p) (hp : p ∈ S) : Dev.Only R P H S a (b.retarget p) := by
  unfold Dev.retarget
  dsimp only
  exact Dev.Only.ite (fun _ => h) fun _ => (h.notAtSpeed hr hp).modTorc hp _

/-- The target taken anew is the effective one; a change of it ends AT_SPEED, and nothing else of the record that is looked at here. -/
theorem Dev.retarget_spec (d : Dev) (p : SpinId) :
    ((d.retarget p).torc p).target = d.torcTarget p ∧ ((d.retarget p).torc p).ref = (d.torc p).ref
      ∧ (d.retarget p).torcState p = d.torcState p
      ∧ (((d.retarget p).torc p).target ≠ (d.torc p).target → getF (d.retarget p) .TQ_STAT_AT_SPEED p = 0) := by
  unfold Dev.retarget Dev.notAtSpeed
  dsimp only
  split
  · exact ⟨‹_›, rfl, rfl, fun hne => absurd rfl hne⟩
  · refine ⟨by simp, by simp, ?_, fun _ => by simp⟩
    rw [Dev.modTorc_torcState, Dev.modTorc_torcState, Dev.torcState, getF_setF_ne _ _ (by simp)]
    rfl

/-! ## RUN -/

/-- A host request while no head is busy, or one of the firmware. -/
theorem Dev.hostTorc_free {d : Dev} {byHost : Bool} (f : Dev → Dev) (hfree : byHost = true → d.spinFree p = true) :
    (if byHost then d.hostTorc p f else f d) = f d := by
  cases byHost
  · rfl
  · simp [Dev.hostTorc, hfree rfl]

/-- A request to stop. -/
theorem Dev.torcHalt_only (h : Dev.Only R P H S a b) (hp : p ∈ S) (hstate : R .TQ_STAT_STATE p) (hat : R .TQ_STAT_AT_SPEED p)
    (hdepth : R .TQ_STAT_DEPTH_LIM p) (hspeed : R .TQ_STAT_SPEED p) : Dev.Only R P H S a (b.torcHalt p) := by
  have hclear := h.modTorc hp fun x => { x with startPend := false, doorWait := false }
  have henter : ∀ n, Dev.Only R P H S a ((b.modTorc p fun x => { x with startPend := false, doorWait := false }).torcEnter p n) := fun n =>
    hclear.torcEnter hstate hp (fun _ => hat) (fun _ => hdepth) fun _ => hspeed
  unfold Dev.torcHalt
  dsimp only
  split
  · exact hclear
  · split
    · exact henter 0
    · exact henter 0
    · exact henter 0
    · exact henter 7
    · exact hclear

/-- The state after a request to stop, and that no start is pending. -/
theorem Dev.torcHalt_spec {d : Dev} (hdead : d.torcDead p = false) :
    ((d.torcHalt p).torc p).startPend = false
      ∧ (d.torcHalt p).torcState p = if d.torcState p ∈ [1, 2, 3] then 0 else if d.torcState p = 4 then 7 else d.torcState p := by
  have henter : ∀ n < 16, (((d.modTorc p fun x => { x with startPend := false, doorWait := false }).torcEnter p n).torc p).startPend = false
      ∧ ((d.modTorc p fun x => { x with startPend := false, doorWait := false }).torcEnter p n).torcState p = n := fun n hn =>
    ⟨by rw [(Dev.torcEnter_keeps _ p n).1, Dev.torc_modTorc], Dev.torcEnter_state _ p hn⟩
  have hdead' : (d.modTorc p fun x => { x with startPend := false, doorWait := false }).torcDead p = false := hdead
  unfold Dev.torcHalt
  dsimp only
  rw [if_neg (by simp [hdead']), Dev.modTorc_torcState]
  split
  · simp [*]
  · simp [*]
  · simp [*]
  · simp [*]
  · rename_i h1 h2 h3 h4
    have hne : d.torcState p ≠ 1 ∧ d.torcState p ≠ 2 ∧ d.torcState p ≠ 3 ∧ d.torcState p ≠ 4 := ⟨h1, h2, h3, h4⟩
    simp [hne]

/-- RUN at 1 brings DECEL back to RUN at the present speed. -/
theorem Dev.torcGo_decel {d : Dev} (t : Nat) (hdead : d.torcDead p = false) (hforced : (d.torc p).forced = false) (hstate : d.torcState p = 6)
    (hredir : (d.torc p).redir = false) : d.torcGo t p = d.torcRun p (d.torc p).speed false := by
  simp [Dev.torcGo, hdead, hforced, hstate, hredir]

theorem Dev.torcTarget_torcEnter (d : Dev) (p : SpinId) (n : Nat) : (d.torcEnter p n).torcTarget p = d.torcTarget p := by
  have honly : Dev.Only (theRegs [(.TQ_STAT_STATE, p), (.TQ_STAT_AT_SPEED, p), (.TQ_STAT_DEPTH_LIM, p), (.TQ_STAT_SPEED, p)]) [] [] [p] d (d.torcEnter p n) := by
    refine Dev.Only.torcEnter (Dev.Only.refl d) ?_ ?_ ?_ ?_ ?_ <;> simp [theRegs]
  unfold Dev.torcTarget getB
  rw [honly.registers _ _ (by simp [theRegs]) (by decide), honly.registers _ _ (by simp [theRegs]) (by decide)]

@[simp] theorem Dev.modTorc_torcTarget (d : Dev) (q p : SpinId) (f : Torc → Torc) : (d.modTorc q f).torcTarget p = d.torcTarget p := rfl

/-- Entering RUN at a speed. -/
theorem Dev.torcRun_spec (d : Dev) (p : SpinId) (rpm : Nat) (e : Bool) :
    (d.torcRun p rpm e).torcState p = 5 ∧ ((d.torcRun p rpm e).torc p).ref = rpm * 2000000
      ∧ ((d.torcRun p rpm e).torc p).target = d.torcTarget p := by
  unfold Dev.torcRun
  obtain ⟨htarget, href, hstate, -⟩ := Dev.retarget_spec
    ((d.torcEnter p 5).modTorc p fun x => { x with ref := rpm * 2000000, newEpoch := x.newEpoch || e, retry := false }) p
  refine ⟨?_, ?_, ?_⟩
  · rw [hstate, Dev.modTorc_torcState]
    exact d.torcEnter_state p (by decide)
  · rw [href, Dev.torc_modTorc]
  · rw [htarget, Dev.modTorc_torcTarget]
    exact d.torcTarget_torcEnter p 5

theorem Dev.Only.torcRun (h : Dev.Only R P H S a b) (hp : p ∈ S) (hstate : R .TQ_STAT_STATE p) (hat : R .TQ_STAT_AT_SPEED p) (rpm : Nat) (e : Bool) :
    Dev.Only R P H S a (b.torcRun p rpm e) := by
  refine Dev.Only.retarget (Dev.Only.modTorc (Dev.Only.torcEnter h hstate hp ?_ ?_ ?_) hp _) hat hp <;> simp [torcService]

/-- The bar of R176 as a RUN request leaves it. -/
def Dev.unbarred (d : Dev) (p : SpinId) : Dev :=
  if !bit (getF d .KP_SPIN_L_BITS 0) p then d.modTorc p fun x => { x with barred := false } else d

theorem Dev.writeRun_true (d : Dev) (t : Nat) (p : SpinId) : d.writeRun t p true = ((setB d .TQ_CTL_RUN p true).unbarred p).torcGo t p := by
  simp [Dev.writeRun, Dev.unbarred]

theorem Dev.unbarred_spec (d : Dev) (p : SpinId) :
    ((d.unbarred p).torc p).forced = (d.torc p).forced ∧ ((d.unbarred p).torc p).redir = (d.torc p).redir
      ∧ ((d.unbarred p).torc p).speed = (d.torc p).speed ∧ (∀ f i, getF (d.unbarred p) f i = getF d f i) := by
  unfold Dev.unbarred
  split <;> simp

theorem Dev.Only.unbarred (h : Dev.Only R P H S a b) (hp : p ∈ S) : Dev.Only R P H S a (b.unbarred p) :=
  Dev.Only.ite (fun _ => h.modTorc hp _) fun _ => h

/-! ## SPEED_CMD -/

theorem Dev.torcStart_doorWait {d : Dev} (t : Nat) (hbar : (d.torc p).barred = false) (hforced : (d.torc p).forced = false)
    (hstep : getF d .TH_STAT_STEP 0 < 6) (hin : d.fourIn p = true) (hchop : getF d .TQ_STAT_CHOP_FAULT p = 0)
    (hke : 3 * getF d .TQ_MOTOR_KE_NOM p < 24000) (hbus : (d.torc p).busWarn = false) (hwait : (d.torc p).fourOk < 80000) :
    d.torcStart t p = d.modTorc p fun x => { x with doorWait := true } := by
  have hcold : ¬6 ≤ getF d .TH_STAT_STEP 0 := by omega
  have hnom : ¬24000 ≤ getF d .TQ_MOTOR_KE_NOM p * 3 := by omega
  simp [Dev.torcStart, hbar, hforced, hcold, hin, getB, hchop, hnom, hbus, hwait]

/-- A SPEED_CMD in its range while RUN is 0 is stored. -/
theorem Dev.writeSpeed_stored {d : Dev} (t : Nat) {rpm : Nat} (hlo : 600 ≤ rpm) (hhi : rpm ≤ 3000) (hrun : getF d .TQ_CTL_RUN p = 0) :
    d.writeSpeed t p rpm = setF d .TQ_CTL_SPEED_CMD p rpm := by
  have hin : ¬(rpm < 600 ∨ 3000 < rpm) := by omega
  have hoff : getF (setF d .TQ_CTL_SPEED_CMD p rpm) .TQ_CTL_RUN p = 0 := (getF_setF_ne _ _ (by simp)).trans hrun
  unfold Dev.writeSpeed
  rw [if_neg hin]
  simp [getB, hoff]

/-- A SPEED_CMD in its range while RUN is 1 acts by the state. -/
theorem Dev.writeSpeed_acts {d : Dev} (t : Nat) {rpm : Nat} (hlo : 600 ≤ rpm) (hhi : rpm ≤ 3000) (hrun : getF d .TQ_CTL_RUN p = 1)
    (hdead : d.torcDead p = false) (hforced : (d.torc p).forced = false) :
    (d.torcState p = 5 → d.writeSpeed t p rpm = (setF d .TQ_CTL_SPEED_CMD p rpm).retarget p)
      ∧ (d.torcState p = 0 → (d.torc p).doorWait = false → d.writeSpeed t p rpm = (setF d .TQ_CTL_SPEED_CMD p rpm).torcStart t p) := by
  have hin : ¬(rpm < 600 ∨ 3000 < rpm) := by omega
  have hon : getF (setF d .TQ_CTL_SPEED_CMD p rpm) .TQ_CTL_RUN p = 1 := (getF_setF_ne _ _ (by simp)).trans hrun
  have hlive : (setF d .TQ_CTL_SPEED_CMD p rpm).torcDead p = false := by
    rw [← hdead]
    exact congrArg (· == 1) (getF_setF_ne _ _ (by simp))
  have hstate : (setF d .TQ_CTL_SPEED_CMD p rpm).torcState p = d.torcState p := getF_setF_ne _ _ (by simp)
  have hgo : ¬((!getB (setF d .TQ_CTL_SPEED_CMD p rpm) .TQ_CTL_RUN p) = true ∨ (setF d .TQ_CTL_SPEED_CMD p rpm).torcDead p = true
      ∨ ((setF d .TQ_CTL_SPEED_CMD p rpm).torc p).forced = true) := by
    simp [getB, hon, hlive, hforced]
  unfold Dev.writeSpeed
  rw [if_neg hin, if_neg hgo, hstate]
  exact ⟨fun h => by simp [h], fun h hdoor => by simp [h, hdoor]⟩

/-- Settles O27. -/
theorem spindleRequests : Obligations.SpindleRequests := by
  unfold Obligations.SpindleRequests
  refine ⟨fun p byHost s hfree hdead => ?_, fun p byHost s hfree hdead hstate hredir hforced => ?_, fun p go s hbusy => ?_,
    fun p rpm s hfree hlo hhi hrun => ?_, fun p rpm s hfree hlo hhi hrun hdead hstate hforced => ?_,
    fun p rpm s hfree hlo hhi hrun hdead hstate hdoor hforced hbar hstep hin hchop hke hbus hwait => ?_,
    fun p rpm s hfree hout => ?_, fun p s hfree hstate hlatch => ?_, fun p s hstate htol => ?_⟩
  · have hhost := Dev.hostTorc_free (d := s.dev) (fun d => d.writeRun s.dtime p false) hfree
    have hwrite : s.dev.writeRun s.dtime p false = (setB s.dev .TQ_CTL_RUN p false).torcHalt p := by simp [Dev.writeRun]
    have hlive : (setB s.dev .TQ_CTL_RUN p false).torcDead p = false := by
      rw [← hdead]
      exact congrArg (· == 1) (getF_setF_ne _ _ (by simp))
    have hsame : (setB s.dev .TQ_CTL_RUN p false).torcState p = s.dev.torcState p := getF_setF_ne _ _ (by simp)
    obtain ⟨hpend, hnext⟩ := Dev.torcHalt_spec hlive
    have hrun : getF ((setB s.dev .TQ_CTL_RUN p false).torcHalt p) .TQ_CTL_RUN p = 0 := by
      have honly : Dev.Only (theRegs [(.TQ_STAT_STATE, p), (.TQ_STAT_AT_SPEED, p), (.TQ_STAT_DEPTH_LIM, p), (.TQ_STAT_SPEED, p)]) [] [] [p]
          (setB s.dev .TQ_CTL_RUN p false) ((setB s.dev .TQ_CTL_RUN p false).torcHalt p) := by
        refine Dev.torcHalt_only (Dev.Only.refl _) ?_ ?_ ?_ ?_ ?_ <;> simp [theRegs]
      rw [honly.registers _ _ (by simp [theRegs]) (by decide)]
      simp [setB, b2n]
    refine ⟨_, rfl, ?_, ?_, ?_, Dev.Only.frame ?_⟩
    · rw [State.onDev_getF _ _ _ _ (by decide), hhost, hwrite]
      exact hrun
    · rw [State.onDev_torc, hhost, hwrite]
      exact hpend
    · rw [State.onDev_torcState, hhost, hwrite, hnext, hsame]
    · rw [hhost, hwrite]
      refine Dev.torcHalt_only (Dev.Only.setB (Dev.Only.refl _) ?_ _) ?_ ?_ ?_ ?_ ?_ <;> simp [theRegs]
  · have hhost := Dev.hostTorc_free (d := s.dev) (fun d => d.writeRun s.dtime p true) hfree
    obtain ⟨hforcedKept, hredirKept, hspeedKept, hregs⟩ := (setB s.dev .TQ_CTL_RUN p true).unbarred_spec p
    have hkept : ∀ f, f ≠ .TQ_CTL_RUN → ∀ i, getF ((setB s.dev .TQ_CTL_RUN p true).unbarred p) f i = getF s.dev f i := fun f hf i =>
      (hregs f i).trans (getF_setF_ne _ _ fun e => hf e.1)
    have hlive : ((setB s.dev .TQ_CTL_RUN p true).unbarred p).torcDead p = false := by
      rw [← hdead]
      exact congrArg (· == 1) (hkept _ (by decide) _)
    have htarget : ((setB s.dev .TQ_CTL_RUN p true).unbarred p).torcTarget p = s.dev.torcTarget p := by
      unfold Dev.torcTarget getB
      rw [hkept _ (by decide), hkept _ (by decide)]
    have hwrite : s.dev.writeRun s.dtime p true = ((setB s.dev .TQ_CTL_RUN p true).unbarred p).torcRun p (s.dev.torc p).speed false := by
      rw [Dev.writeRun_true, Dev.torcGo_decel _ hlive (hforcedKept.trans hforced) ((hkept _ (by decide) _).trans hstate)
        (hredirKept.trans hredir), hspeedKept]
      rfl
    obtain ⟨hfive, href, haim⟩ := Dev.torcRun_spec ((setB s.dev .TQ_CTL_RUN p true).unbarred p) p (s.dev.torc p).speed false
    refine ⟨_, rfl, ?_, ?_, ?_, ?_, Dev.Only.frame ?_⟩
    · have honly : Dev.Only (theRegs [(.TQ_STAT_STATE, p), (.TQ_STAT_AT_SPEED, p)]) [] [] [p] ((setB s.dev .TQ_CTL_RUN p true).unbarred p)
          (((setB s.dev .TQ_CTL_RUN p true).unbarred p).torcRun p (s.dev.torc p).speed false) := by
        refine Dev.Only.torcRun (Dev.Only.refl _) ?_ ?_ ?_ _ _ <;> simp [theRegs]
      rw [State.onDev_getF _ _ _ _ (by decide), hhost, hwrite, honly.registers _ _ (by simp [theRegs]) (by decide), hregs]
      simp [setB, b2n, Fld.info]
    · rw [State.onDev_torcState, hhost, hwrite]
      exact hfive
    · rw [State.onDev_torc, hhost, hwrite]
      exact href
    · rw [State.onDev_torc, hhost, hwrite]
      exact haim.trans htarget
    · rw [hhost, hwrite]
      refine Dev.Only.torcRun (Dev.Only.unbarred (Dev.Only.setB (Dev.Only.refl _) ?_ _) ?_) ?_ ?_ ?_ _ _ <;> simp [theRegs]
  · have hcount : s.dev.hostTorc p (fun d => d.writeRun s.dtime p go) = incF s.dev .TQ_ERR_CTL_REJ p := by simp [Dev.hostTorc, hbusy]
    refine ⟨_, rfl, ?_, Dev.Only.frame ?_⟩
    · rw [State.onDev_getF _ _ _ _ (by decide), if_pos rfl, hcount]
      exact getF_incF _ _ _ _ _ (by decide)
    · rw [if_pos rfl, hcount]
      exact (Dev.Only.refl _).incF (by simp [theRegs]) _ _
  · have hwrite : s.dev.hostTorc p (fun d => d.writeSpeed s.dtime p rpm) = setF s.dev .TQ_CTL_SPEED_CMD p rpm := by
      simp [Dev.hostTorc, hfree, Dev.writeSpeed_stored s.dtime hlo hhi hrun]
    refine ⟨_, rfl, ?_, Dev.Only.frame ?_⟩
    · rw [State.onDev_getF _ _ _ _ (by decide), hwrite, getF_setF]
      exact Nat.mod_eq_of_lt (by simp only [Fld.info]; omega)
    · rw [hwrite]
      exact (Dev.Only.refl _).setF (by simp [theRegs]) _
  · have hwrite : s.dev.hostTorc p (fun d => d.writeSpeed s.dtime p rpm) = (setF s.dev .TQ_CTL_SPEED_CMD p rpm).retarget p := by
      simp [Dev.hostTorc, hfree, (Dev.writeSpeed_acts s.dtime hlo hhi hrun hdead hforced).1 hstate]
    have hcmd : getF (setF s.dev .TQ_CTL_SPEED_CMD p rpm) .TQ_CTL_SPEED_CMD p = rpm := by
      rw [getF_setF]
      exact Nat.mod_eq_of_lt (by simp only [Fld.info]; omega)
    obtain ⟨haim, -, -, hslow⟩ := (setF s.dev .TQ_CTL_SPEED_CMD p rpm).retarget_spec p
    have honly : Dev.Only (theRegs [(.TQ_STAT_AT_SPEED, p)]) [] [] [p] (setF s.dev .TQ_CTL_SPEED_CMD p rpm)
        ((setF s.dev .TQ_CTL_SPEED_CMD p rpm).retarget p) := by
      refine Dev.Only.retarget (Dev.Only.refl _) ?_ ?_ <;> simp [theRegs]
    refine ⟨_, rfl, ?_, ?_, ?_, Dev.Only.frame ?_⟩
    · rw [State.onDev_getF _ _ _ _ (by decide), hwrite, honly.registers _ _ (by simp [theRegs]) (by decide)]
      exact hcmd
    · rw [State.onDev_torc, hwrite, haim, Dev.torcTarget, hcmd]
      simp only [getB, beq_iff_eq]
      rw [getF_setF_ne _ _ (by simp)]
    · rw [State.onDev_torc, State.onDev_getF _ _ _ _ (by decide), hwrite]
      exact hslow
    · rw [hwrite]
      refine Dev.Only.retarget (Dev.Only.setF (Dev.Only.refl _) ?_ _) ?_ ?_ <;> simp [theRegs]
  · have hregs : ∀ f, f ≠ .TQ_CTL_SPEED_CMD → ∀ i, getF (setF s.dev .TQ_CTL_SPEED_CMD p rpm) f i = getF s.dev f i := fun f hf i =>
      getF_setF_ne _ _ fun e => hf e.1
    have hplace : (setF s.dev .TQ_CTL_SPEED_CMD p rpm).fourIn p = true := by
      rw [← hin]
      unfold Dev.fourIn getB
      rw [hregs _ (by decide), hregs _ (by decide), hregs _ (by decide), hregs _ (by decide)]
    have hwrite : s.dev.hostTorc p (fun d => d.writeSpeed s.dtime p rpm)
        = (setF s.dev .TQ_CTL_SPEED_CMD p rpm).modTorc p fun x => { x with doorWait := true } := by
      have hstart := Dev.torcStart_doorWait (d := setF s.dev .TQ_CTL_SPEED_CMD p rpm) (p := p) s.dtime hbar hforced
        (by rw [hregs _ (by decide)]; exact hstep) hplace (by rw [hregs _ (by decide)]; exact hchop)
        (by rw [hregs _ (by decide)]; exact hke) hbus hwait
      simp only [Dev.hostTorc, hfree, if_true]
      rw [(Dev.writeSpeed_acts s.dtime hlo hhi hrun hdead hforced).2 hstate hdoor, hstart]
    refine ⟨_, rfl, ?_, ?_, Dev.Only.frame ?_⟩
    · rw [State.onDev_getF _ _ _ _ (by decide), hwrite, Dev.modTorc_getF, getF_setF]
      exact Nat.mod_eq_of_lt (by simp only [Fld.info]; omega)
    · rw [State.onDev_torc, hwrite, Dev.torc_modTorc]
    · rw [hwrite]
      exact ((Dev.Only.refl _).setF (by simp [theRegs]) _).modTorc (by simp) _
  · have hwrite : s.dev.hostTorc p (fun d => d.writeSpeed s.dtime p rpm) = s.dev := by
      simp [Dev.hostTorc, hfree, Dev.writeSpeed, hout]
    refine ⟨_, rfl, Dev.Only.frame ?_⟩
    rw [hwrite]
    exact Dev.Only.refl _
  · have hwrite : s.dev.hostTorc p (fun d => d.clearWrite p) = s.dev.modTorc p fun x => { x with cleared := true } := by
      simp [Dev.hostTorc, hfree, Dev.clearWrite, hlatch, Dev.torcClear, hstate]
    refine ⟨_, rfl, ?_, Dev.Only.frame ?_⟩
    · rw [State.onDev_torc, hwrite, Dev.torc_modTorc]
    · rw [hwrite]
      exact (Dev.Only.refl _).modTorc (by simp) _
  · have hat : s.dev.atSpeed p = setF s.dev .TQ_STAT_AT_SPEED p 1 := if_pos ⟨hstate, htol⟩
    refine ⟨_, rfl, ?_, Dev.Only.frame ?_⟩
    · rw [State.onDev_getF _ _ _ _ (by decide), hat]
      simp [Fld.info]
    · rw [hat]
      exact (Dev.Only.refl _).setF (by simp [theRegs]) _

end Sys2Proof.Machine
end

section
/-! PROOFS. Rate switches, relocks and margin scans of a link (O14). -/

namespace Sys2Proof.Machine

variable {R : Fld → Nat → Prop} {P : List Part} {H : List HeadId} {S : List SpinId} {a b : Dev} {h : HeadId} {l : LinkId}

/-! ## Links -/

theorem linkFld_ne {hl sl g : Fld} (l : LinkId) (hhl : hl ≠ g) (hsl : sl ≠ g) : linkFld l hl sl ≠ g := by
  cases l <;> assumption

theorem State.onDev_linkState (s : State) (g : Dev → Dev) (l : LinkId) : (s.onDev g).dev.linkState l = (g s.dev).linkState l :=
  State.onDev_getF s g _ _ (linkFld_ne l (by decide) (by decide))

theorem State.onDev_port (s : State) (g : Dev → Dev) (l : LinkId) : (s.onDev g).dev.port l = (g s.dev).port l := by
  cases l with
  | head x => exact congrArg (·.link.port) (s.onDev_head g x)
  | spin x => exact congrArg (·.link.port) (s.onDev_spin g x)

@[simp] theorem Dev.modPort_getF (d : Dev) (l : LinkId) (f : Port → Port) (g : Fld) (j : Nat) : getF (d.modPort l f) g j = getF d g j := by
  cases l <;> rfl

@[simp] theorem Dev.port_modPort (d : Dev) (l : LinkId) (f : Port → Port) : (d.modPort l f).port l = f (d.port l) := by
  cases l <;> simp [Dev.port, Dev.modPort]

@[simp] theorem Dev.port_setF (d : Dev) (f : Fld) (i v : Nat) (l : LinkId) : (setF d f i v).port l = d.port l := by
  cases l <;> rfl

theorem Dev.Only.setLink (hab : Dev.Only R P H S a b) (hr : R (linkFld l .HL_STATUS_STATE .SL_STATUS_STATE) (linkIx l)) (hh : linkHeads l ⊆ H)
    (hs : linkSpins l ⊆ S) (n : Nat) : Dev.Only R P H S a (b.setLink l n) := (hab.setF hr _).modPort hh hs _

theorem Dev.setLink_linkState (d : Dev) (l : LinkId) {n : Nat} (hn : n < 16) : (d.setLink l n).linkState l = n := by
  have hw : n % 2 ^ (linkFld l .HL_STATUS_STATE .SL_STATUS_STATE).info.width = n := by
    cases l <;> exact Nat.mod_eq_of_lt hn
  unfold Dev.linkState Dev.setLink
  rw [Dev.modPort_getF, getF_setF, hw]

theorem Dev.startBringUp_linkState (d : Dev) (l : LinkId) : (d.startBringUp l).linkState l = 1 :=
  (Dev.modPort_getF _ l _ _ _).trans (d.setLink_linkState l (by decide))

/-! ## What a change of one head leaves of a link -/

theorem Dev.modCal_link_kept (d : Dev) (o h : HeadId) (f : Hallmark → Hallmark) : ((d.modCal o f).head h).link = (d.head h).link := by
  by_cases e : h = o
  · subst e
    exact d.modCal_head_link h f
  · rw [d.modCal_head_ne f e]

theorem Dev.modDown_link_kept (d : Dev) (o h : HeadId) (f : HeadDown → HeadDown) : ((d.modDown o f).head h).link = (d.head h).link := by
  by_cases e : h = o
  · subst e
    exact d.modDown_head_link h f
  · rw [d.modDown_head_ne f e]

theorem Dev.stopSpots_link (d : Dev) (o h : HeadId) (which : WriteJob → Bool) : ((d.stopSpots o which).head h).link = (d.head h).link := by
  unfold Dev.stopSpots
  generalize d.data.writes.filter _ = ws
  induction ws generalizing d with
  | nil => rfl
  | cons w ws ih =>
    refine (ih _).trans ?_
    exact Dev.modDown_link_kept _ o h _

theorem Dev.Only.facetVoid (hab : Dev.Only R P H S a b) (hdata : .data ∈ P) (hh : h ∈ H) : Dev.Only R P H S a (b.facetVoid h) := by
  unfold Dev.facetVoid
  dsimp only
  exact (hab.modData hdata _).modFacet hh _

theorem Dev.facetVoid_head (d : Dev) (h : HeadId) :
    ((d.facetVoid h).head h).link = (d.head h).link ∧ ((d.facetVoid h).head h).down = (d.head h).down := by
  unfold Dev.facetVoid
  dsimp only
  rw [Dev.modFacet_head_link, Dev.modFacet_head_down]
  exact ⟨rfl, rfl⟩

/-! ## Switching the rate -/

/-- The switch boundary before the lanes are told: RATE, the countdown, and the relock that a change of the lane rate needs. -/
def Dev.rateTaken (d : Dev) (h : HeadId) (rate : Nat) : Dev :=
  let e := (setF d .HL_STATUS_RATE h rate).modDown h fun y => { y with switchIn := 0 }
  if getF d .HL_STATUS_RATE h ≠ rate ∧ (getF d .HL_STATUS_RATE h = 2 ∨ rate = 2) then
    e.modLink h fun x => { x with relock := some 0, badServo := false, badTiming := false, badHdr := false }
  else e

theorem Dev.rateSwitch_eq {d : Dev} {rate : Nat} (hup : d.linkState (.head h) = 6) (hsw : (d.head h).down.switchIn = 1)
    (hnext : (d.head h).down.rateNext = rate) :
    d.rateSwitch h = if rate = 0 then (d.rateTaken h rate).facetReload h else (d.rateTaken h rate).facetVoid h := by
  unfold Dev.rateSwitch
  dsimp only
  rw [if_neg (by simp [hup, hsw]), hnext]
  rfl

theorem Dev.rateTaken_head (d : Dev) (h : HeadId) (rate : Nat) :
    ((d.rateTaken h rate).head h).down.switchIn = 0
      ∧ ((d.rateTaken h rate).head h).link.relock = (if getF d .HL_STATUS_RATE h ≠ rate ∧ (getF d .HL_STATUS_RATE h = 2 ∨ rate = 2)
            then some 0 else (d.head h).link.relock) := by
  unfold Dev.rateTaken
  dsimp only
  split <;> simp

theorem Dev.rateTaken_only (d : Dev) (h : HeadId) (rate : Nat) :
    Dev.Only (theRegs [(.HL_STATUS_RATE, h)]) [.data] [h] [] d (d.rateTaken h rate) := by
  have hset : Dev.Only (theRegs [(.HL_STATUS_RATE, h)]) [.data] [h] [] d
      ((setF d .HL_STATUS_RATE h rate).modDown h fun y => { y with switchIn := 0 }) :=
    ((Dev.Only.refl d).setF (by simp [theRegs]) _).modDown (by simp) _
  exact Dev.Only.ite (fun _ => hset.modLink (by simp) _) fun _ => hset

theorem Dev.rateTaken_rate (d : Dev) (h : HeadId) {rate : Nat} (hr : rate < 3) : getF (d.rateTaken h rate) .HL_STATUS_RATE h = rate := by
  have hw : rate % 2 ^ (Fld.info .HL_STATUS_RATE).width = rate := Nat.mod_eq_of_lt (by simp only [Fld.info]; omega)
  unfold Dev.rateTaken
  dsimp only
  split <;> simp [hw]

theorem Dev.rateTaken_reads (d : Dev) (h : HeadId) (rate : Nat) : (d.rateTaken h rate).data = d.data := by
  unfold Dev.rateTaken
  dsimp only
  split <;> rfl

theorem Dev.facetReload_head (d : Dev) (h : HeadId) :
    ((d.facetReload h).head h).link = (d.head h).link ∧ ((d.facetReload h).head h).down = (d.head h).down :=
  ⟨Dev.modFacet_head_link .., Dev.modFacet_head_down ..⟩

/-! ## A head that is faulted -/

theorem Dev.headFaulted_only (d : Dev) (h : HeadId) : Dev.Only (theRegs [(.HM_STAT_RELEASED, h)]) [.data] [h, otherHead h] [] d (d.headFaulted h) := by
  have hstopped : Dev.Only (theRegs [(.HM_STAT_RELEASED, h)]) [.data] [h, otherHead h] [] d
      (((d.modLink h fun x => { x with faulted := true, relock := none, rateMiss := false }).stopHead h).facetVoid h) := by
    refine Dev.Only.facetVoid (Dev.Only.stopSpots (Dev.Only.modLink (Dev.Only.refl d) ?_ _) ?_ ?_ _) ?_ ?_ <;> simp
  unfold Dev.headFaulted
  dsimp only
  refine Dev.Only.ite (fun _ => Dev.Only.modDown (Dev.Only.modCal ?_ (by simp) _) (by simp) _) fun _ => ?_
  all_goals
    refine Dev.Only.modMotion (Dev.Only.modPort (Dev.Only.modHead (Dev.Only.modCal (Dev.Only.setF (hstopped.modDown ?_ _) ?_ _) ?_ _) ?_ _) ?_ ?_ _) ?_ _ <;>
      simp [theRegs, linkHeads, linkSpins]

theorem Dev.headFaulted_link (d : Dev) (h : HeadId) :
    ((d.headFaulted h).head h).link.faulted = true ∧ ((d.headFaulted h).head h).link.relock = none := by
  have hmost : ((((d.modLink h fun x => { x with faulted := true, relock := none, rateMiss := false }).stopHead h).facetVoid h).head h).link
      = { (d.head h).link with faulted := true, relock := none, rateMiss := false } := by
    rw [(Dev.facetVoid_head _ h).1]
    refine (Dev.stopSpots_link _ h h _).trans ?_
    simp
  unfold Dev.headFaulted
  dsimp only
  split
  · rw [Dev.modDown_link_kept, Dev.modCal_link_kept]
    simp [Dev.modPort, hmost]
  · simp [Dev.modPort, hmost]

/-- Whether a link may come up rests on registers, the start-up and the power ladder. -/
theorem Dev.Only.mayBringUp_eq (hab : Dev.Only R P H S a b) (hreg : ∀ f i, f ≠ .HM_STAT_RELEASED → ¬R f i) (hlocket : .locket ∉ P) (hpower : .power ∉ P)
    (l : LinkId) : b.mayBringUp l = a.mayBringUp l ∧ b.signal? l = a.signal? l := by
  have hget : ∀ f, f ≠ .HM_STAT_RELEASED → f ≠ .MSIX_PBA_BITS → ∀ i, getF b f i = getF a f i := fun f hf hp i => hab.registers f i (hreg f i hf) hp
  have hstage : b.locket = a.locket := hab.others .locket hlocket
  have hpow : b.power = a.power := hab.others .power hpower
  have hen := hget (linkFld l .HL_CTL_LINK_EN .SL_CTL_LINK_EN) (linkFld_ne l (by decide) (by decide)) (linkFld_ne l (by decide) (by decide)) (linkIx l)
  have hsig := hget (linkFld l .HL_STATUS_PRESENT .SL_STATUS_PRESENT) (linkFld_ne l (by decide) (by decide)) (linkFld_ne l (by decide) (by decide)) (linkIx l)
  have hpop : b.populated l = a.populated l := by
    unfold Dev.populated Dev.bitF
    cases l with
    | head x => exact congrArg (bit · _) (hget .SY_POP_HEAD (by decide) (by decide) _)
    | spin x => exact congrArg (bit · _) (hget .SY_POP_SPIN (by decide) (by decide) _)
  have hp : b.pState = a.pState := hget _ (by decide) (by decide) _
  refine ⟨?_, ?_⟩
  · unfold Dev.mayBringUp getB
    rw [hstage, hen, hpop, hp, hpow]
  · unfold Dev.signal? getB
    rw [hsig]

/-! ## Margin scans -/

/-- The start of a scan. -/
theorem Dev.marginStart_eq {d : Dev} (hup : d.linkState l = 6) (hno : (d.port l).margin = none) :
    d.marginStart l = ((setF d (linkFld l .HL_STATUS_MARGIN_DONE .SL_STATUS_MARGIN_DONE) (linkIx l) 0).modPort l fun p =>
      { p with margin := some 0 }).mail l .margin := by
  simp [Dev.marginStart, hup, hno]

@[simp] theorem Dev.mail_getF (d : Dev) (l : LinkId) (p : Purpose) (k : Nat) (f : Fld) (i : Nat) : getF (d.mail l p k) f i = getF d f i :=
  Dev.modPort_getF ..

@[simp] theorem Dev.mail_margin (d : Dev) (l : LinkId) (p : Purpose) (k : Nat) : ((d.mail l p k).port l).margin = (d.port l).margin := by
  unfold Dev.mail
  dsimp only
  rw [Dev.port_modPort]

/-- The results of a scan in the registers of its link. -/
def Dev.showMargin (d : Dev) (l : LinkId) (w h cw ch : Nat) : Dev :=
  let i := linkIx l
  let d := setF d (linkFld l .HL_STATUS_MARGIN_DONE .SL_STATUS_MARGIN_DONE) i 1
  let d := setF (setF d (linkFld l .HL_MARGIN_EYE_W .SL_MARGIN_EYE_W) i w) (linkFld l .HL_MARGIN_EYE_H .SL_MARGIN_EYE_H) i h
  setF (setF d (linkFld l .HL_MARGIN_PEND_EYE_W .SL_MARGIN_PEND_EYE_W) i cw) (linkFld l .HL_MARGIN_PEND_EYE_H .SL_MARGIN_PEND_EYE_H) i ch

/-- The registers show the results of a scan. -/
def Dev.ShowsMargin (d : Dev) (l : LinkId) (w h cw ch : Nat) : Prop :=
  getF d (linkFld l .HL_STATUS_MARGIN_DONE .SL_STATUS_MARGIN_DONE) (linkIx l) = 1
    ∧ getF d (linkFld l .HL_MARGIN_EYE_W .SL_MARGIN_EYE_W) (linkIx l) = w
    ∧ getF d (linkFld l .HL_MARGIN_EYE_H .SL_MARGIN_EYE_H) (linkIx l) = h
    ∧ getF d (linkFld l .HL_MARGIN_PEND_EYE_W .SL_MARGIN_PEND_EYE_W) (linkIx l) = cw
    ∧ getF d (linkFld l .HL_MARGIN_PEND_EYE_H .SL_MARGIN_PEND_EYE_H) (linkIx l) = ch

theorem Dev.showMargin_shows (d : Dev) (l : LinkId) {w h cw ch : Nat} (hw : w < 256) (hh : h < 256) (hcw : cw < 256) (hch : ch < 256) :
    (d.showMargin l w h cw ch).ShowsMargin l w h cw ch := by
  unfold Dev.ShowsMargin Dev.showMargin
  cases l <;>
    simp [linkFld, linkIx, getF_setF_if, Fld.info, Nat.mod_eq_of_lt hw, Nat.mod_eq_of_lt hh, Nat.mod_eq_of_lt hcw, Nat.mod_eq_of_lt hch]

theorem Dev.marginDone_eq {d : Dev} {n : Nat} (w h cw ch : Nat) (hup : d.linkState l = 6) (hm : (d.port l).margin = some n) (hn : 81920 ≤ n) :
    d.marginDone l w h cw ch = (d.modPort l fun p => { p with margin := none }).showMargin l w h cw ch := by
  simp [Dev.marginDone, hup, hm, hn, Dev.showMargin]

/-- A scan's end changes no register but those of its results, and leaves what Hallmark keeps of the heads. -/
theorem Dev.marginDone_regs {d : Dev} (w h cw ch : Nat) {f : Fld}
    (hf : f ∉ [linkFld l .HL_STATUS_MARGIN_DONE .SL_STATUS_MARGIN_DONE, linkFld l .HL_MARGIN_EYE_W .SL_MARGIN_EYE_W, linkFld l .HL_MARGIN_EYE_H .SL_MARGIN_EYE_H,
      linkFld l .HL_MARGIN_PEND_EYE_W .SL_MARGIN_PEND_EYE_W, linkFld l .HL_MARGIN_PEND_EYE_H .SL_MARGIN_PEND_EYE_H]) (i : Nat) :
    getF (d.marginDone l w h cw ch) f i = getF d f i := by
  simp only [List.mem_cons, List.not_mem_nil, or_false, not_or] at hf
  unfold Dev.marginDone
  dsimp only
  split
  · simp [getF_setF_if, hf]
  · rfl

theorem Dev.marginDone_head (d : Dev) (w e cw ch : Nat) (o : HeadId) :
    ((d.marginDone l w e cw ch).head o).hallmark = (d.head o).hallmark
      ∧ ((d.marginDone l w e cw ch).head o).link.faulted = (d.head o).link.faulted
      ∧ ((d.marginDone l w e cw ch).head o).link.port.lost = (d.head o).link.port.lost := by
  have hport : ((d.modPort l fun p => { p with margin := none }).head o).hallmark = (d.head o).hallmark
      ∧ ((d.modPort l fun p => { p with margin := none }).head o).link.faulted = (d.head o).link.faulted
      ∧ ((d.modPort l fun p => { p with margin := none }).head o).link.port.lost = (d.head o).link.port.lost := by
    cases l with
    | spin x => exact ⟨rfl, rfl, rfl⟩
    | head x =>
      by_cases hox : o = x
      · subst hox
        simp [Dev.modPort]
      · simp [Dev.modPort, Dev.modLink_head_ne _ _ hox]
  unfold Dev.marginDone
  dsimp only
  split
  · exact hport
  · exact ⟨rfl, rfl, rfl⟩

/-- The end of a scan leaves which calibration of a head may run. -/
theorem Dev.marginDone_calAt (d : Dev) (w e cw ch : Nat) (o : HeadId) (k : CalKind) :
    (d.marginDone l w e cw ch).calAt o k = d.calAt o k := by
  have hcan : ∀ (x : HeadId) (k : CalKind), (d.marginDone l w e cw ch).calCan x k = d.calCan x k := by
    intro x k
    obtain ⟨hcal, hfaulted, hlost⟩ := d.marginDone_head (l := l) w e cw ch x
    have hlink : (d.marginDone l w e cw ch).linkUp x = d.linkUp x := by
      unfold Dev.linkUp
      rw [Dev.marginDone_regs w e cw ch (by cases l <;> simp [linkFld]), hfaulted, hlost]
    have hpower : (d.marginDone l w e cw ch).pState = d.pState := Dev.marginDone_regs w e cw ch (by cases l <;> simp [linkFld]) 0
    unfold Dev.calCan
    rw [hcal, hlink, hpower]
  have hfun : ∀ x : HeadId, (d.marginDone l w e cw ch).calCan x = d.calCan x := fun x => funext (hcan x)
  have hcores : getF (d.marginDone l w e cw ch) .KP_CORES_HALLMARK 0 = getF d .KP_CORES_HALLMARK 0 :=
    Dev.marginDone_regs w e cw ch (by cases l <;> simp [linkFld]) 0
  have hcals : ∀ x : HeadId, ((d.marginDone l w e cw ch).head x).hallmark = (d.head x).hallmark := fun x => (d.marginDone_head w e cw ch x).1
  unfold Dev.calAt Dev.hallmarkDead Dev.calTurn
  rw [hcores, hcan]
  simp only [hcals, hfun]

/-- A scan that no link run of Hallmark made ends in its results; Hallmark adds coefficients at most. -/
theorem Dev.scanEnd_shows {d : Dev} {n w e cw ch : Nat} (hup : d.linkState l = 6) (hm : (d.port l).margin = some n) (hn : 81920 ≤ n)
    (hcal : ∀ x, l = .head x → d.calAt x .link = false) (hw : w < 256) (he : e < 256) (hcw : cw < 256) (hch : ch < 256) :
    (d.scanEnd l w e cw ch).ShowsMargin l w e cw ch := by
  have hdone : (d.marginDone l w e cw ch).ShowsMargin l w e cw ch := by
    rw [Dev.marginDone_eq w e cw ch hup hm hn]
    exact Dev.showMargin_shows _ l hw he hcw hch
  unfold Dev.scanEnd
  dsimp only
  split
  · exact hdone
  · cases l with
    | head x =>
      dsimp only
      rw [Dev.marginDone_calAt, hcal x rfl]
      exact hdone
    | spin x =>
      dsimp only
      split
      · exact hdone
      · exact hdone

/-- Settles O14. -/
theorem linkRatesAndMargins : Obligations.LinkRatesAndMargins := by
  unfold Obligations.LinkRatesAndMargins
  refine ⟨fun h rate s hup hsw hnext hrate => ?_, fun h n s hre hn => ?_, fun h n s hre => ?_, fun l s hup hno => ?_,
    fun l n w e cw ch s hup hm hn hcal hw he hcw hch => ?_⟩
  · have hswitch : (if (s.dev.head h).down.rateNext = rate then s.dev.rateSwitch h else s.dev)
        = if rate = 0 then (s.dev.rateTaken h rate).facetReload h else (s.dev.rateTaken h rate).facetVoid h := by
      rw [if_pos hnext, Dev.rateSwitch_eq hup hsw hnext]
    obtain ⟨hcount, hrelock⟩ := s.dev.rateTaken_head h rate
    have hrates := s.dev.rateTaken_rate h hrate
    have honly : Dev.Only (theRegs [(.HL_STATUS_RATE, h)]) [.data] [h] [] s.dev
        (if rate = 0 then (s.dev.rateTaken h rate).facetReload h else (s.dev.rateTaken h rate).facetVoid h) :=
      Dev.Only.ite (fun _ => (s.dev.rateTaken_only h rate).modFacet (by simp) _) fun _ => (s.dev.rateTaken_only h rate).facetVoid (by simp) (by simp)
    refine ⟨_, rfl, ?_, ?_, ?_, ?_, ?_, Dev.Only.frame (hswitch ▸ honly)⟩
    · rw [State.onDev_getF _ _ _ _ (by decide), hswitch]
      split <;> exact hrates
    · rw [State.onDev_linkState, hswitch, ← hup]
      exact honly.registers _ _ (by simp [theRegs, linkFld]) (linkFld_ne _ (by decide) (by decide))
    · rw [State.onDev_head, hswitch]
      split
      · rw [(Dev.facetReload_head _ h).2]
        exact hcount
      · rw [(Dev.facetVoid_head _ h).2]
        exact hcount
    · rw [State.onDev_head, hswitch, ← hrelock]
      split
      · rw [(Dev.facetReload_head _ h).1]
      · rw [(Dev.facetVoid_head _ h).1]
    · rw [State.onDev_data, hswitch, ← congrArg Data.reads (s.dev.rateTaken_reads h rate)]
      split <;> rfl
  · have hdone : s.dev.relockDone h true = s.dev.modLink h fun x => { x with relock := none } := by simp [Dev.relockDone, hre, hn]
    refine ⟨_, rfl, ?_, Dev.Only.frame ?_⟩
    · rw [State.onDev_head, hdone]
      exact s.dev.head_modHead h _
    · rw [hdone]
      exact (Dev.Only.refl _).modLink (by simp) _
  · obtain ⟨hmay, hsig⟩ := (s.dev.headFaulted_only h).mayBringUp_eq (by simp [theRegs]; grind) (by decide) (by decide) (.head h)
    obtain ⟨hfaulted, hrelock⟩ := s.dev.headFaulted_link h
    have hdone : s.dev.relockDone h false = if s.dev.signal? (.head h) ∧ s.dev.mayBringUp (.head h) then (s.dev.headFaulted h).startBringUp (.head h)
        else (s.dev.headFaulted h).setLink (.head h) 0 := by
      simp [Dev.relockDone, hre, hmay, hsig]
    refine ⟨_, rfl, ?_, ?_, ?_⟩
    · rw [State.onDev_head, hdone]
      split <;> simp [Dev.startBringUp, Dev.setLink, Dev.modPort, hfaulted]
    · rw [State.onDev_head, hdone]
      split <;> simp [Dev.startBringUp, Dev.setLink, Dev.modPort, hrelock]
    · rw [State.onDev_linkState, hdone]
      split
      · exact Dev.startBringUp_linkState _ _
      · exact Dev.setLink_linkState _ _ (by decide)
  · have hstart := Dev.marginStart_eq hup hno
    refine ⟨_, rfl, ?_, ?_, Dev.Only.frame ?_⟩
    · rw [State.onDev_port, hstart, Dev.mail_margin, Dev.port_modPort]
    · rw [State.onDev_getF _ _ _ _ (linkFld_ne l (by decide) (by decide)), hstart, Dev.mail_getF, Dev.modPort_getF, getF_setF, Nat.zero_mod]
    · rw [hstart]
      exact (((Dev.Only.refl _).setF (by simp [theRegs]) _).modPort (fun _ => id) (fun _ => id) _).mail (fun _ => id) (fun _ => id) _ _
  · have hshows := Dev.scanEnd_shows hup hm hn hcal hw he hcw hch
    have hget : ∀ hl sl : Fld, hl ≠ .MSIX_PBA_BITS → sl ≠ .MSIX_PBA_BITS →
        getF (s.onDev fun d => d.scanEnd l w e cw ch).dev (linkFld l hl sl) (linkIx l) = getF (s.dev.scanEnd l w e cw ch) (linkFld l hl sl) (linkIx l) :=
      fun hl sl hhl hsl => State.onDev_getF _ _ _ _ (linkFld_ne l hhl hsl)
    obtain ⟨hdone, hew, heh, hcomp, hcompH⟩ := hshows
    refine ⟨_, rfl, ?_, ?_, ?_, ?_, ?_⟩
    · exact (hget _ _ (by decide) (by decide)).trans hdone
    · exact (hget _ _ (by decide) (by decide)).trans hew
    · exact (hget _ _ (by decide) (by decide)).trans heh
    · exact (hget _ _ (by decide) (by decide)).trans hcomp
    · exact (hget _ _ (by decide) (by decide)).trans hcompH

end Sys2Proof.Machine
end

section
/-! PROOFS. Upstream frames: what intact blocks give, what damaged ones count (O15). -/

namespace Sys2Proof.Machine

variable {h : HeadId} {p : SpinId}

/-! ## The head link -/

/-- The servo values that a frame shows of FE: those of slot S0 when it is intact, else those held. -/
theorem HeadIn.take_fe (x : HeadIn) (bs : List Block) :
    (x.take bs).fe = if servoOk bs 0 then toSigned 16 (bits (pay bs 2) 63 48) else x.fe := by
  unfold HeadIn.take
  dsimp only
  cases servoOk bs 0 <;> cases servoOk bs 1 <;> cases servoOk bs 2 <;> cases servoOk bs 3 <;> rfl

/-- The counts of a frame with damaged servo and timing blocks. -/
def Dev.headCounts (d : Dev) (h : HeadId) (bs : List Block) : Dev :=
  let d := if !(List.range 4).all (servoOk bs) then incF d .HL_ERR_SERVO_BAD h else d
  if !hdrOk bs || !timingOk bs then incF d .HL_ERR_TIMING_BAD h else d

theorem Dev.headCounts_spec (d : Dev) (h : HeadId) (bs : List Block) :
    getF (d.headCounts h bs) .HL_ERR_SERVO_BAD h
        = (if (List.range 4).all (servoOk bs) then getF d .HL_ERR_SERVO_BAD h else min 255 (getF d .HL_ERR_SERVO_BAD h + 1))
      ∧ getF (d.headCounts h bs) .HL_ERR_TIMING_BAD h
        = (if hdrOk bs && timingOk bs then getF d .HL_ERR_TIMING_BAD h else min 255 (getF d .HL_ERR_TIMING_BAD h + 1)) := by
  have hservo : getF (incF d .HL_ERR_SERVO_BAD h) .HL_ERR_SERVO_BAD h = min 255 (getF d .HL_ERR_SERVO_BAD h + 1) := getF_incF _ _ _ _ _ (by decide)
  have htiming : ∀ e, getF (incF e .HL_ERR_TIMING_BAD h) .HL_ERR_TIMING_BAD h = min 255 (getF e .HL_ERR_TIMING_BAD h + 1) := fun e =>
    getF_incF _ _ _ _ _ (by decide)
  have hkept : getF (incF d .HL_ERR_SERVO_BAD h) .HL_ERR_TIMING_BAD h = getF d .HL_ERR_TIMING_BAD h := getF_incF_ne _ _ _ (by simp)
  have hkept' : ∀ e, getF (incF e .HL_ERR_TIMING_BAD h) .HL_ERR_SERVO_BAD h = getF e .HL_ERR_SERVO_BAD h := fun e => getF_incF_ne _ _ _ (by simp)
  unfold Dev.headCounts
  dsimp only
  cases (List.range 4).all (servoOk bs) <;> cases hdrOk bs <;> cases timingOk bs <;> simp [hservo, htiming, hkept, hkept']

/-- The values and flags of a frame over those held. -/
def Dev.headHeld (d : Dev) (h : HeadId) (bs : List Block) : Dev :=
  (d.headCounts h bs).modLink h fun x => { x with
    badServo := !(List.range 4).all (servoOk bs), badTiming := !timingOk bs, badHdr := !hdrOk bs, held := x.held.take bs
    flags := if !hdrOk bs then x.flags else headFlags (pay bs 0) }

/-- What an intact header shows beyond the flags. -/
def Dev.headHeader (d : Dev) (h : HeadId) (bs : List Block) : Dev :=
  let d := setB d .HL_STATUS_PEND_SAFE h (bit (pay bs 0) 31)
  let d := if bits (pay bs 0) 43 40 = (d.head h).down.epoch then d.modDown h fun y => { y with epochAdv := false } else d
  let miss := (d.head h).down.switchIn == 0 && bits (pay bs 0) 39 38 != getF d .HL_STATUS_RATE h
  d.modLink h fun x => { x with rateMiss := miss }

theorem Dev.headInput_eq (d : Dev) (h : HeadId) (bs : List Block) :
    (d.headInput h bs).1 = if !hdrOk bs then d.headHeld h bs else (d.headHeld h bs).headHeader h bs := rfl

theorem Dev.headHeader_spec (d : Dev) (h : HeadId) (bs : List Block) :
    (∀ f, f ≠ .HL_STATUS_PEND_SAFE → ∀ i, getF (d.headHeader h bs) f i = getF d f i)
      ∧ ((d.headHeader h bs).head h).link.held = (d.head h).link.held := by
  unfold Dev.headHeader
  dsimp only
  refine ⟨fun f hf i => ?_, ?_⟩
  · have hsafe : getF (setB d .HL_STATUS_PEND_SAFE h (bit (pay bs 0) 31)) f i = getF d f i := getF_setF_ne _ _ fun e => hf e.1
    rw [Dev.modLink_getF]
    split
    · rw [Dev.modDown_getF]
      exact hsafe
    · exact hsafe
  · rw [Dev.modLink_link]
    split
    · rw [Dev.modDown_head_link]
      rfl
    · rfl

theorem Dev.headHeld_spec (d : Dev) (h : HeadId) (bs : List Block) :
    (∀ f i, getF (d.headHeld h bs) f i = getF (d.headCounts h bs) f i)
      ∧ ((d.headHeld h bs).head h).link.held = (d.head h).link.held.take bs := by
  have hhead : (d.headCounts h bs).head h = d.head h := by
    unfold Dev.headCounts
    dsimp only
    split <;> split <;> rfl
  unfold Dev.headHeld
  rw [Dev.modLink_link, hhead]
  exact ⟨fun _ _ => rfl, rfl⟩

/-- Beyond its counts a frame changes of the registers the pendant's safe flag alone, and of the values held what its blocks give. -/
theorem Dev.headInput_spec (d : Dev) (h : HeadId) (bs : List Block) :
    (∀ f, f ≠ .HL_STATUS_PEND_SAFE → ∀ i, getF (d.headInput h bs).1 f i = getF (d.headCounts h bs) f i)
      ∧ ((d.headInput h bs).1.head h).link.held = (d.head h).link.held.take bs := by
  obtain ⟨hregs, hheld⟩ := d.headHeld_spec h bs
  obtain ⟨hregs', hheld'⟩ := (d.headHeld h bs).headHeader_spec h bs
  rw [Dev.headInput_eq]
  split
  · exact ⟨fun f _ i => hregs f i, hheld⟩
  · exact ⟨fun f hf i => (hregs' f hf i).trans (hregs f i), hheld'.trans hheld⟩

/-! ## The spindle link -/

/-- Of a frame that did not come no block is intact. -/
theorem spinOk_nil (k : Nat) : spinOk [] k = false := rfl

theorem SpinIn.take_nil (x : SpinIn) : x.take [] = x := rfl

/-- A frame that did not come: four blocks count, and the values held stay. -/
theorem Dev.spinInput_nil (d : Dev) (p : SpinId) :
    (d.spinInput p []).2 = ((d.spin p).link.badV || (d.spin p).link.badM || (d.spin p).link.badIO)
      ∧ (d.spinInput p []).1 = (incF d .SL_ERR_FRAME_BAD p 4).modSpinLink p fun x => { x with badV := true, badM := true, badIO := true } := by
  refine ⟨?_, ?_⟩
  · simp [Dev.spinInput, spinOk_nil]
  · simp [Dev.spinInput, spinOk_nil, SpinIn.take_nil]

/-- A property that the work for one head brings about in that head, the work for the others leaving it, holds of the head after the work
for all of a list. -/
theorem Dev.foldl_head {Q : Head → Prop} {f : Dev → HeadId → Dev} {l : List HeadId} (hh : h ∈ l) (hown : ∀ d, Q ((f d h).head h))
    (hother : ∀ d x, x ≠ h → (f d x).head h = d.head h) (d : Dev) : Q ((l.foldl f d).head h) := by
  have hkept : ∀ (l : List HeadId) (d : Dev), Q (d.head h) → Q ((l.foldl f d).head h) := by
    intro l
    induction l with
    | nil => exact fun _ hd => hd
    | cons x l ih =>
      refine fun d hd => ih _ ?_
      by_cases hx : x = h
      · exact hx ▸ hown d
      · exact (hother d x hx).symm ▸ hd
  induction l generalizing d with
  | nil => cases hh
  | cons x l ih =>
    rcases List.mem_cons.mp hh with rfl | hmem
    · exact hkept l _ (hown d)
    · exact ih hmem _

theorem Dev.stopSpots_head_ne (d : Dev) {x : HeadId} (which : WriteJob → Bool) (hne : x ≠ h) : (d.stopSpots x which).head h = d.head h := by
  have honly : Dev.Only noRegs [.data] [x] [] d (d.stopSpots x which) := Dev.Only.stopSpots (Dev.Only.refl d) (by simp) (by simp) which
  exact honly.headsKept h (by simpa using hne.symm)

/-- The gates of a head close and its laser goes to 0. -/
def Dev.headDarkened (d : Dev) (h : HeadId) : Dev :=
  (d.stopHead h).modDown h fun x => { x with laserSet := 0, wStop := 15, wArm := 0, armReq := 0 }

theorem Dev.foldl_headDarkened (d : Dev) (hh : h ∈ headsOf p) :
    (((headsOf p).foldl Dev.headDarkened d).head h).down.laserSet = 0 ∧ (((headsOf p).foldl Dev.headDarkened d).head h).down.wStop = 15 := by
  refine Dev.foldl_head (Q := fun x => x.down.laserSet = 0 ∧ x.down.wStop = 15) hh (fun d => ?_) (fun d x hx => ?_) d
  · unfold Dev.headDarkened
    rw [Dev.modDown_down]
    exact ⟨rfl, rfl⟩
  · unfold Dev.headDarkened
    rw [Dev.modDown_head_ne _ _ hx.symm]
    exact d.stopSpots_head_ne _ hx

theorem Dev.Only.torcCoast {R : Fld → Nat → Prop} {P : List Part} {H : List HeadId} {S : List SpinId} {a b : Dev} (hab : Dev.Only R P H S a b)
    (hp : p ∈ S) (hstate : R .TQ_STAT_STATE p) (hat : R .TQ_STAT_AT_SPEED p) (hdepth : R .TQ_STAT_DEPTH_LIM p) :
    Dev.Only R P H S a (b.torcCoast p) := by
  unfold Dev.torcCoast
  dsimp only
  exact (hab.torcEnter hstate hp (fun _ => hat) (fun _ => hdepth) (by omega)).modTorc hp _

/-- The loss of a bail beyond the heads: the spindle coasts, its mailbox is emptied and its permit shown anew. -/
theorem Dev.bailGone_only (d : Dev) (p : SpinId) :
    Dev.Only (theRegs [(.TQ_STAT_STATE, p), (.TQ_STAT_AT_SPEED, p), (.TQ_STAT_DEPTH_LIM, p), (.KP_PERMIT_BITS, 0)]) [] [] [p]
      ((headsOf p).foldl Dev.headDarkened d) (d.bailGone p) := by
  have hgone : d.bailGone p = ((((headsOf p).foldl Dev.headDarkened d).torcCoast p).modPort (.spin p) fun x => { x with mbox := [], margin := none }).showPermit p := rfl
  have hcoast : Dev.Only (theRegs [(.TQ_STAT_STATE, p), (.TQ_STAT_AT_SPEED, p), (.TQ_STAT_DEPTH_LIM, p), (.KP_PERMIT_BITS, 0)]) [] [] [p]
      ((headsOf p).foldl Dev.headDarkened d) (((headsOf p).foldl Dev.headDarkened d).torcCoast p) := by
    refine Dev.Only.torcCoast (Dev.Only.refl _) ?_ ?_ ?_ ?_ <;> simp [theRegs]
  rw [hgone]
  unfold Dev.showPermit
  refine Dev.Only.putBit (Dev.Only.modPort hcoast ?_ ?_ _) ?_ _ _ <;> simp [theRegs, linkHeads, linkSpins]

/-- What the loss of a bail leaves: the heads dark, and its link's state. -/
theorem Dev.bailGone_spec (d : Dev) (p : SpinId) :
    (d.bailGone p).linkState (.spin p) = d.linkState (.spin p)
      ∧ ∀ h ∈ headsOf p, ((d.bailGone p).head h).down.laserSet = 0 ∧ ((d.bailGone p).head h).down.wStop = 15 := by
  have hdark : Dev.Only noRegs [.data] (headsOf p) [] d ((headsOf p).foldl Dev.headDarkened d) :=
    Dev.Only.foldl (Dev.Only.refl d) _ fun x hx _ hd => Dev.Only.modDown (Dev.Only.stopSpots hd (by simp) hx _) hx _
  have hrest := d.bailGone_only p
  refine ⟨?_, fun h hh => ?_⟩
  · exact (hrest.registers _ _ (by simp [theRegs, linkFld]) (by simp [linkFld])).trans (hdark.registers _ _ (by simp [noRegs]) (by simp [linkFld]))
  · rw [hrest.headsKept h (by simp)]
    exact d.foldl_headDarkened hh

/-- A fault of a spindle link: FAULT, and the lasers and gates of the four heads closed. -/
theorem Dev.linkFault_spin (d : Dev) (t : Nat) (p : SpinId) :
    (d.linkFault t (.spin p)).linkState (.spin p) = 7
      ∧ ∀ h ∈ headsOf p, ((d.linkFault t (.spin p)).head h).down.laserSet = 0 ∧ ((d.linkFault t (.spin p)).head h).down.wStop = 15 := by
  unfold Dev.linkFault
  dsimp only
  obtain ⟨hstate, hdark⟩ := Dev.bailGone_spec (((d.event t (linkEv (.spin p) .HL_LINK_FAULT .SL_LINK_FAULT) (linkIx (.spin p))).setLink (.spin p) 7).modPort
    (.spin p) fun p => { p with retryWait := false }) p
  refine ⟨?_, hdark⟩
  rw [hstate]
  exact (Dev.modPort_getF _ _ _ _ _).trans (Dev.setLink_linkState _ _ (by decide))

theorem Dev.spinUp_linkState {d : Dev} (hup : d.spinUp p = true) : d.linkState (.spin p) = 6 := by
  have h := (Bool.and_eq_true _ _ ▸ hup).1
  exact beq_iff_eq.mp h

/-- A frame that did not come, on a link that is UP: its input, then the fault when V, M or IO was corrupt before. -/
theorem Dev.spinFrame_nil {d : Dev} (t : Nat) (hup : d.spinUp p = true) (hseen : (d.spin p).link.frameSeen = false) :
    d.spinFrame t p [] =
      let r := (d.modSpinLink p fun x => { x with frameSeen := true }).spinInput p []
      if r.2 then r.1.linkFault t (.spin p) else r.1 := by
  have hstate : ¬d.linkState (.spin p) = 5 := by rw [Dev.spinUp_linkState hup]; decide
  have hgo : ¬((!d.spinUp p) = true ∨ (d.spin p).link.frameSeen = true) := by simp [hup, hseen]
  unfold Dev.spinFrame
  rw [if_neg hstate, if_neg hgo]
  rfl

/-- Settles O15. -/
theorem upstreamFrames : Obligations.UpstreamFrames := by
  unfold Obligations.UpstreamFrames
  refine ⟨fun h bs s hverify hok => ?_, fun h bs d => ?_, fun p bs s hverify hok => ?_, fun p s hup hseen hv hm hio => ?_, fun p s hup hseen hv => ?_⟩
  · have hframe : s.dev.headFrame s.dtime h bs = s.dev.modLink h fun x => { x with frameSeen := true, held := x.held.take bs, flags := headFlags (pay bs 0) } := by
      simp [Dev.headFrame, Dev.verifyFrame, hverify, hok]
    refine ⟨_, rfl, ?_, Dev.Only.frame ?_⟩
    · rw [State.onDev_head, hframe]
      exact s.dev.head_modHead h _
    · rw [hframe]
      exact (Dev.Only.refl _).modLink (by simp) _
  · obtain ⟨hregs, hheld⟩ := d.headInput_spec h bs
    obtain ⟨hservo, htiming⟩ := d.headCounts_spec h bs
    refine ⟨(hregs _ (by decide) _).trans hservo, (hregs _ (by decide) _).trans htiming, fun hbad => ?_, fun hgood => ?_⟩
    · rw [hheld, HeadIn.take_fe, hbad]
      rfl
    · rw [hheld, HeadIn.take_fe, hgood]
      rfl
  · have hframe : s.dev.spinFrame s.dtime p bs = s.dev.modSpinLink p fun x => { x with frameSeen := true, held := x.held.take bs } := by
      unfold Dev.spinFrame
      rw [if_pos hverify, if_pos hok]
    refine ⟨_, rfl, ?_, Dev.Only.frame ?_⟩
    · rw [State.onDev_spin, hframe]
      exact s.dev.spin_modSpin p _
    · rw [hframe]
      exact (Dev.Only.refl _).modSpinLink (by simp) _
  · obtain ⟨htwice, hinput⟩ := (s.dev.modSpinLink p fun x => { x with frameSeen := true }).spinInput_nil p
    have hframe : s.dev.spinFrame s.dtime p [] = (incF (s.dev.modSpinLink p fun x => { x with frameSeen := true }) .SL_ERR_FRAME_BAD p 4).modSpinLink p fun x =>
        { x with badV := true, badM := true, badIO := true } := by
      rw [Dev.spinFrame_nil s.dtime hup hseen]
      simp only [htwice, hinput, Dev.modSpinLink_link, hv, hm, hio]
      rfl
    refine ⟨_, rfl, ?_, ?_, ?_, ?_, Dev.Only.frame ?_⟩
    · rw [State.onDev_linkState, hframe, ← Dev.spinUp_linkState hup]
      exact getF_incF_ne _ _ _ (by simp [linkFld])
    · rw [State.onDev_spin, hframe, Dev.modSpinLink_link]
    · have hkept : ((incF (s.dev.modSpinLink p fun x => { x with frameSeen := true }) .SL_ERR_FRAME_BAD p 4).spin p).link.held = (s.dev.spin p).link.held := by
        unfold incF
        rw [Dev.setF_spin, Dev.modSpinLink_link]
      rw [State.onDev_spin, hframe, Dev.modSpinLink_link]
      exact hkept
    · rw [State.onDev_getF _ _ _ _ (by decide), hframe, Dev.modSpinLink_getF]
      exact getF_incF _ _ _ _ _ (by decide)
    · rw [hframe]
      exact ((((Dev.Only.refl _).modSpinLink (by simp) _).incF (by simp [theRegs]) _ _).modSpinLink (by simp) _)
  · obtain ⟨htwice, -⟩ := (s.dev.modSpinLink p fun x => { x with frameSeen := true }).spinInput_nil p
    have hframe : s.dev.spinFrame s.dtime p []
        = ((s.dev.modSpinLink p fun x => { x with frameSeen := true }).spinInput p []).1.linkFault s.dtime (.spin p) := by
      rw [Dev.spinFrame_nil s.dtime hup hseen]
      simp only [htwice, Dev.modSpinLink_link, hv, Bool.true_or, if_true]
    obtain ⟨hstate, hdark⟩ := Dev.linkFault_spin ((s.dev.modSpinLink p fun x => { x with frameSeen := true }).spinInput p []).1 s.dtime p
    refine ⟨_, rfl, ?_, fun h hh => ?_⟩
    · rw [State.onDev_linkState, hframe]
      exact hstate
    · rw [State.onDev_head, hframe]
      exact hdark h hh

end Sys2Proof.Machine
end

section
/-! PROOFS. Learning passes and the trace (O18). -/

namespace Sys2Proof.Machine

variable {h : HeadId} {trk : Bool}

/-! ## Values -/

/-- A value in the two's-complement range of 32 bits reads back as stored. -/
theorem toSigned_ofSigned {v : Int} (hlo : -2147483648 ≤ v) (hhi : v < 2147483648) : toSigned 32 (ofSigned 32 v % 2 ^ 32) = v := by
  simp only [toSigned, ofSigned]
  norm_num
  split <;> omega

theorem satSigned_range (v : Int) : -2147483648 ≤ satSigned 32 v ∧ satSigned 32 v < 2147483648 := by
  simp only [satSigned]
  norm_num
  split
  · omega
  · split <;> omega

/-- Bits below one that is put stay. -/
theorem bits_putBits_below {x hi lo k v : Nat} (hlo : lo ≤ hi) (hk : hi < k) : bits (putBits x k 1 v) hi lo = bits x hi lo := by
  have hsum : putBits x k 1 v = (x / 2 ^ (k + 1) * 2 + v % 2) * 2 ^ k + x % 2 ^ k := by
    simp only [putBits, pow_succ, pow_zero, one_mul]
    ring
  have htest : ∀ n < k, (putBits x k 1 v).testBit n = x.testBit n := by
    intro n hn
    rw [hsum, Nat.mul_comm, Nat.testBit_two_pow_mul_add _ (Nat.mod_lt _ (by positivity)), if_pos hn, Nat.testBit_mod_two_pow]
    simp [hn]
  refine Nat.eq_of_testBit_eq fun n => ?_
  simp only [bits, Nat.testBit_mod_two_pow, Nat.testBit_div_two_pow]
  by_cases hn : n < hi + 1 - lo
  · rw [htest _ (by omega)]
  · simp [hn]

/-- A bit that is put reads as put. -/
theorem bit_putBits_one (x k : Nat) : bit (putBits x k 1 1) k = true := by
  have hsum : putBits x k 1 1 = (x / 2 ^ (k + 1) * 2 + 1) * 2 ^ k + x % 2 ^ k := by
    simp only [putBits, pow_succ, pow_zero, one_mul]
    ring
  have hdiv : putBits x k 1 1 / 2 ^ k = x / 2 ^ (k + 1) * 2 + 1 := by
    rw [hsum, Nat.mul_comm, Nat.mul_add_div (by positivity), Nat.div_eq_of_lt (Nat.mod_lt _ (by positivity))]
  unfold bit
  rw [hdiv]
  simp

/-! ## Learning passes -/

theorem Dev.learn_modLearn (d : Dev) (h : HeadId) (trk : Bool) (f : Learn → Learn) :
    ((d.modLearn h trk f).head h).learn trk = f ((d.head h).learn trk) := by
  cases trk <;> simp [Dev.modLearn, Head.learn]

theorem Dev.Only.modLearn {R : Fld → Nat → Prop} {P : List Part} {H : List HeadId} {S : List SpinId} {a b : Dev} (hab : Dev.Only R P H S a b)
    (hh : h ∈ H) (f : Learn → Learn) : Dev.Only R P H S a (b.modLearn h trk f) := hab.modHead hh _

theorem learnMode_ne {f : Fld} (htrk : .BZ_LEARN_TRK_MODE ≠ f) (hfoc : .BZ_LEARN_FOC_MODE ≠ f) : learnMode trk ≠ f := by
  cases trk <;> assumption

/-- A pass that starts holds the Tick's sample and nothing else. -/
theorem Learn.add_start {bin : Nat} (y : Int) (hb : bin < 256) :
    (Learn.start.add bin y).running = true ∧ (Learn.start.add bin y).counts[bin]? = some 1 ∧ (Learn.start.add bin y).sums[bin]? = some y
      ∧ (Learn.start.add bin y).counts.sum = 1 := by
  have hcount : ∀ n k, k < n → ((List.replicate n 0).set k 1).sum = 1 := by
    intro n
    induction n with
    | zero => exact fun k hk => absurd hk (Nat.not_lt_zero k)
    | succ n ih =>
      intro k hk
      cases k with
      | zero => simp [List.replicate_succ]
      | succ k => simp [List.replicate_succ, ih k (by omega)]
  have hzero : (List.replicate 256 (0 : Nat)).getD bin 0 = 0 := by
    rw [List.getD_eq_getElem _ _ (by rw [List.length_replicate]; exact hb), List.getElem_replicate]
  have hzero' : (List.replicate 256 (0 : Int)).getD bin 0 = 0 := by
    rw [List.getD_eq_getElem _ _ (by rw [List.length_replicate]; exact hb), List.getElem_replicate]
  unfold Learn.start Learn.add
  dsimp only
  rw [hzero, hzero', Nat.zero_add, zero_add]
  refine ⟨rfl, ?_, ?_, hcount 256 bin hb⟩
  · exact List.getElem?_set_self (by rw [List.length_replicate]; exact hb)
  · exact List.getElem?_set_self (by rw [List.length_replicate]; exact hb)

/-- A single pass ends the mode. -/
theorem Dev.endSingle_spec {d : Dev} (h : HeadId) (trk : Bool) :
    getF (setF (d.modLearn h trk fun _ => {}) (learnMode trk) h 0) (learnMode trk) h = 0
      ∧ ((setF (d.modLearn h trk fun _ => {}) (learnMode trk) h 0).head h).learn trk = {}
      ∧ ∀ f, f ≠ learnMode trk → ∀ i, getF (setF (d.modLearn h trk fun _ => {}) (learnMode trk) h 0) f i = getF d f i := by
  refine ⟨?_, ?_, fun f hf i => ?_⟩
  · rw [getF_setF, Nat.zero_mod]
  · rw [Dev.setF_head]
    exact d.learn_modLearn h trk _
  · exact (getF_setF_ne _ _ fun e => hf e.1).trans rfl

/-- The table of a pass. -/
def learnTable (trk : Bool) : Fld := if trk then .BZ_RUN_TRK_T else .BZ_RUN_FOC_T

/-- An entry of a table taken from a bin's mean. -/
def Dev.storeEntry (fld : Fld) (base : Nat) (mean : Int) (d : Dev) (p : Int × Nat) : Dev :=
  setI { d with rvPend := Sparse.erase d.rvPend (regKey fld (base + p.2)) } fld (base + p.2) (satSigned 32 (p.1 - mean))

theorem Dev.storeEntry_getF {fld f : Fld} {i base : Nat} {mean : Int} (d : Dev) (p : Int × Nat) (hne : ¬(f = fld ∧ i = base + p.2)) :
    getF (d.storeEntry fld base mean p) f i = getF d f i := (getF_setF_ne _ _ hne).trans rfl

theorem Dev.storeEntry_getI {fld : Fld} {base : Nat} {mean : Int} (d : Dev) (p : Int × Nat) (hw : fld.info.width = 32) :
    getI (d.storeEntry fld base mean p) fld (base + p.2) = satSigned 32 (p.1 - mean) := by
  obtain ⟨hlo, hhi⟩ := satSigned_range (p.1 - mean)
  unfold Dev.storeEntry getI setI
  rw [getF_setF, hw]
  exact toSigned_ofSigned hlo hhi

/-- Storing a list of means leaves every register but its entries. -/
theorem Dev.foldl_storeEntry_ne {fld f : Fld} {i base : Nat} {mean : Int} (l : List Int) (n : Nat) (d : Dev)
    (hne : f = fld → i < base + n) : getF ((l.zipIdx n).foldl (Dev.storeEntry fld base mean) d) f i = getF d f i := by
  induction l generalizing n d with
  | nil => rfl
  | cons x l ih =>
    rw [List.zipIdx_cons, List.foldl_cons, ih _ _ fun e => by have := hne e; omega]
    refine d.storeEntry_getF _ fun e => ?_
    have := hne e.1
    omega

/-- Each entry of the table is its bin's mean less the mean of all, saturated. -/
theorem Dev.foldl_storeEntry {fld : Fld} {base : Nat} {mean : Int} (hw : fld.info.width = 32) (l : List Int) (n : Nat) (d : Dev) {k : Nat} (hk : k < l.length) :
    getI ((l.zipIdx n).foldl (Dev.storeEntry fld base mean) d) fld (base + (n + k)) = satSigned 32 (l.getD k 0 - mean) := by
  induction l generalizing n d k with
  | nil => exact absurd hk (Nat.not_lt_zero k)
  | cons x l ih =>
    rw [List.zipIdx_cons, List.foldl_cons]
    cases k with
    | zero =>
      have hkept := Dev.foldl_storeEntry_ne (fld := fld) (f := fld) (i := base + n) (base := base) (mean := mean) l (n + 1) (d.storeEntry fld base mean (x, n))
        fun _ => by omega
      unfold getI
      rw [Nat.add_zero n, hkept]
      exact d.storeEntry_getI (x, n) hw
    | succ k =>
      have hrec := ih (n + 1) (d.storeEntry fld base mean (x, n)) (k := k) (by simpa using hk)
      rw [show n + 1 + k = n + (k + 1) by omega] at hrec
      exact hrec

/-- With no bin beyond 65,535 samples the means are the rounded quotients. -/
theorem Dev.learnMeans_eq (d : Dev) (x : Learn) (hc : ∀ c ∈ x.counts, c ≤ 65535) :
    d.learnMeans x = (d, (x.sums.zip x.counts).map fun p => divTie p.1 p.2) := by
  have hfold : ∀ (l : List (Int × Nat)) (acc : Dev × List Int), (∀ p ∈ l, p.2 ≤ 65535) →
      l.foldl (fun (acc : Dev × List Int) p =>
        if 65535 < p.2 then
          let r := acc.1.drawInt
          (r.2, acc.2 ++ [r.1])
        else (acc.1, acc.2 ++ [divTie p.1 p.2])) acc = (acc.1, acc.2 ++ l.map fun p => divTie p.1 p.2) := by
    intro l
    induction l with
    | nil => exact fun acc _ => by simp
    | cons p l ih =>
      intro acc hl
      have hp : ¬65535 < p.2 := Nat.not_lt.mpr (hl p (List.mem_cons_self ..))
      rw [List.foldl_cons, ih _ fun q hq => hl q (List.mem_cons_of_mem _ hq)]
      simp [hp]
  unfold Dev.learnMeans
  rw [hfold _ _ fun p hp => hc _ (List.of_mem_zip hp).2]
  rfl

/-- The end of a pass with an empty bin, in a single mode. -/
theorem Dev.learnEnd_empty {d : Dev} (hdone : ((d.head h).learn trk).done = true) (hempty : 0 ∈ ((d.head h).learn trk).counts)
    (hmode : getF d (learnMode trk) h = 1) :
    d.learnEnd h trk = setF ((setF d (if trk then .BZ_LEARN_TRK_FAIL else .BZ_LEARN_FOC_FAIL) h 1).modLearn h trk fun _ => {}) (learnMode trk) h 0 := by
  have hany : ((d.head h).learn trk).counts.any (· == 0) = true := List.any_eq_true.mpr ⟨0, hempty, rfl⟩
  have hmode' : getF (setF d (if trk then .BZ_LEARN_TRK_FAIL else .BZ_LEARN_FOC_FAIL) h 1) (learnMode trk) h = 1 := by
    rw [← hmode]
    cases trk <;> exact getF_setF_ne _ _ (by simp [learnMode])
  unfold Dev.learnEnd
  simp only [hdone, hany, if_true, hmode', Bool.not_true, Bool.false_eq_true, if_false]

/-- The end of a pass with every bin filled, in a single mode. -/
theorem Dev.learnEnd_full {d : Dev} (hdone : ((d.head h).learn trk).done = true)
    (hc : ∀ c ∈ ((d.head h).learn trk).counts, 1 ≤ c ∧ c ≤ 65535) (hmode : getF d (learnMode trk) h = 1) :
    let means := (((d.head h).learn trk).sums.zip ((d.head h).learn trk).counts).map fun p => divTie p.1 p.2
    d.learnEnd h trk = setF ((incF ((means.zipIdx).foldl (Dev.storeEntry (learnTable trk) (h.val * 256) (divTie means.sum 256)) d) .BZ_LEARN_PASSES h).modLearn
      h trk fun _ => {}) (learnMode trk) h 0 := by
  intro means
  have hany : ((d.head h).learn trk).counts.any (· == 0) = false := by
    refine List.any_eq_false.mpr fun c hcm hzero => ?_
    obtain ⟨hpos, -⟩ := hc c hcm
    rw [beq_iff_eq] at hzero
    omega
  have hmeans := d.learnMeans_eq ((d.head h).learn trk) fun c hcm => (hc c hcm).2
  have hmode' : getF (incF ((means.zipIdx).foldl (Dev.storeEntry (learnTable trk) (h.val * 256) (divTie means.sum 256)) d) .BZ_LEARN_PASSES h) (learnMode trk) h = 1 := by
    rw [getF_incF_ne _ _ _ (by cases trk <;> simp [learnMode]), Dev.foldl_storeEntry_ne _ _ _ fun e => absurd e (by cases trk <;> simp [learnMode, learnTable])]
    exact hmode
  unfold Dev.learnEnd
  simp only [hdone, hany, hmeans, Bool.not_true, Bool.false_eq_true, if_false]
  exact if_pos hmode'

/-! ## The trace -/

theorem State.onDev_bezel (s : State) (g : Dev → Dev) (b : BezelId) : (s.onDev g).dev.bezel b = (g s.dev).bezel b :=
  congrArg (·[b]) (State.onDev_bezels s g)

/-- The parameters of a trace as a write of BZ_TRACE_CTL leaves them. -/
def Dev.traceSetup (d : Dev) (b : BezelId) (word : Nat) : Dev :=
  setF (setF (setF d .BZ_TRACE_CTL_KIND b (bits word 29 28)) .BZ_TRACE_CTL_DIR b (bits word 27 27)) .BZ_TRACE_CTL_PRE b (bits word 26 13)

/-- TRACE_ARM of a trace that is not armed, with a PRE in range. -/
theorem Dev.traceWrite_arm {d : Dev} {b : BezelId} {word : Nat} (hpre : bits word 26 13 ≤ 8191) (harm : getF d .BZ_TRACE_CTL_ARM b = 0) :
    d.traceWrite b (putBits word 31 1 1) =
      if bit (putBits word 31 1 1) 30 then ((d.traceSetup b word).traceSetArm b).traceForce b else (d.traceSetup b word).traceSetArm b := by
  have harm' : getB (d.traceSetup b word) .BZ_TRACE_CTL_ARM b = false := by
    unfold Dev.traceSetup getB
    rw [getF_setF_ne _ _ (by simp), getF_setF_ne _ _ (by simp), getF_setF_ne _ _ (by simp), harm]
    rfl
  unfold Dev.traceWrite
  dsimp only
  rw [bits_putBits_below (by decide) (by decide), bits_putBits_below (by decide) (by decide), bits_putBits_below (by decide) (by decide),
    if_pos hpre, bit_putBits_one]
  have hgo : (if (!true) = true then setF (d.traceSetup b word) .BZ_TRACE_CTL_ARM b 0
      else if getB (d.traceSetup b word) .BZ_TRACE_CTL_ARM b = true then d.traceSetup b word else (d.traceSetup b word).traceSetArm b)
      = (d.traceSetup b word).traceSetArm b := by
    rw [harm']
    rfl
  exact congrArg (fun e : Dev => if bit (putBits word 31 1 1) 30 = true then e.traceForce b else e) hgo

/-- The registers of a trace that has been armed. -/
theorem Dev.traceSetArm_regs (d : Dev) (b : BezelId) (word : Nat) :
    let e := (d.traceSetup b word).traceSetArm b
    getF e .BZ_TRACE_CTL_ARM b = 1 ∧ getF e .BZ_TRACE_CTL_KIND b = bits word 29 28 ∧ getF e .BZ_TRACE_CTL_DIR b = bits word 27 27
      ∧ getF e .BZ_TRACE_CTL_PRE b = bits word 26 13 ∧ getF e .BZ_TRACE_STAT_DONE b = 0 ∧ getF e .BZ_TRACE_STAT_TRIGGERED b = 0
      ∧ getF e .BZ_TRACE_STAT_PRE_VALID b = 0 := by
  have hkind : bits word 29 28 % 2 ^ (Fld.info .BZ_TRACE_CTL_KIND).width = bits word 29 28 := Nat.mod_mod _ _
  have hdir : bits word 27 27 % 2 ^ (Fld.info .BZ_TRACE_CTL_DIR).width = bits word 27 27 := Nat.mod_mod _ _
  have hpre : bits word 26 13 % 2 ^ (Fld.info .BZ_TRACE_CTL_PRE).width = bits word 26 13 := Nat.mod_mod _ _
  have hone : 1 % 2 ^ (Fld.info .BZ_TRACE_CTL_ARM).width = 1 := rfl
  intro e
  refine ⟨?_, ?_, ?_, ?_, ?_, ?_, ?_⟩ <;>
    simp only [e, Dev.traceSetArm, Dev.traceSetup, Dev.modBezel_getF, getF_setF_if, reduceCtorEq, false_and, if_false, if_true, hkind, hdir, hpre, hone,
      Nat.zero_mod, and_self]

/-- What TRACE_ARM changes. -/
theorem Dev.traceSetArm_only (d : Dev) (b : BezelId) (word : Nat) :
    Dev.Only (theRegs [(.BZ_TRACE_CTL_ARM, b), (.BZ_TRACE_CTL_KIND, b), (.BZ_TRACE_CTL_DIR, b), (.BZ_TRACE_CTL_PRE, b),
      (.BZ_TRACE_STAT_DONE, b), (.BZ_TRACE_STAT_TRIGGERED, b), (.BZ_TRACE_STAT_PRE_VALID, b)]) [.bezels] [] [] d ((d.traceSetup b word).traceSetArm b) := by
  have hsetup : Dev.Only (theRegs [(.BZ_TRACE_CTL_ARM, b), (.BZ_TRACE_CTL_KIND, b), (.BZ_TRACE_CTL_DIR, b), (.BZ_TRACE_CTL_PRE, b),
      (.BZ_TRACE_STAT_DONE, b), (.BZ_TRACE_STAT_TRIGGERED, b), (.BZ_TRACE_STAT_PRE_VALID, b)]) [.bezels] [] [] d (d.traceSetup b word) := by
    refine Dev.Only.setF (Dev.Only.setF (Dev.Only.setF (Dev.Only.refl d) ?_ _) ?_ _) ?_ _ <;> simp [theRegs]
  refine Dev.Only.modBezel (Dev.Only.setF (Dev.Only.setF (Dev.Only.setF (Dev.Only.setF hsetup ?_ _) ?_ _) ?_ _) ?_ _) ?_ _ _ <;> simp [theRegs]

theorem Dev.traceSetArm_post (d : Dev) (b : BezelId) : ((d.traceSetArm b).bezel b).post = 0 :=
  congrArg Bezel.post (Dev.bezel_modBezel _ b _)

/-- Settles O18. -/
theorem learningPassesAndTrace : Obligations.LearningPassesAndTrace := by
  unfold Obligations.LearningPassesAndTrace
  refine ⟨fun h trk s hmode hclean hrun hdone hbin => ?_, fun h trk s hdone hempty hmode => ?_, fun h trk s hdone hmode hsums hcounts hc => ?_,
    fun b word s hpre harm => ?_, fun b s => ?_, fun b s harm htrig hpost => ?_⟩
  · have hstart : s.dev.learnStart h trk = s.dev.modLearn h trk fun _ =>
        Learn.start.add ((s.dev.head h).learn trk).bin (s.dev.loop h (learnLoop trk)).y := by
      simp [Dev.learnStart, hmode, hclean, hrun, hdone]
    have hlearn : ((s.dev.learnStart h trk).head h).learn trk = Learn.start.add ((s.dev.head h).learn trk).bin (s.dev.loop h (learnLoop trk)).y := by
      rw [hstart]
      exact s.dev.learn_modLearn h trk _
    obtain ⟨hrunning, hcount, hsum, htotal⟩ := Learn.add_start (s.dev.loop h (learnLoop trk)).y hbin
    refine ⟨_, rfl, ?_, ?_, ?_, ?_, Dev.Only.frame ?_⟩
    · rw [State.onDev_head, hlearn]
      exact hrunning
    · rw [State.onDev_head, hlearn]
      exact hcount
    · rw [State.onDev_head, hlearn]
      exact hsum
    · rw [State.onDev_head, hlearn]
      exact htotal
    · rw [hstart]
      exact (Dev.Only.refl _).modLearn (by simp) _
  · have hend := Dev.learnEnd_empty hdone hempty hmode
    obtain ⟨hoff, hnone, hrest⟩ := Dev.endSingle_spec (d := setF s.dev (if trk then .BZ_LEARN_TRK_FAIL else .BZ_LEARN_FOC_FAIL) h 1) h trk
    refine ⟨_, rfl, ?_, ?_, ?_, Dev.Only.frame ?_⟩
    · rw [State.onDev_getF _ _ _ _ (by cases trk <;> decide), hend, hrest _ (by cases trk <;> decide), getF_setF]
      cases trk <;> rfl
    · rw [State.onDev_getF _ _ _ _ (learnMode_ne (by decide) (by decide)), hend]
      exact hoff
    · rw [State.onDev_head, hend]
      exact hnone
    · rw [hend]
      refine Dev.Only.setF (Dev.Only.modLearn (Dev.Only.setF (Dev.Only.refl _) ?_ _) ?_ _) ?_ _ <;> simp [theRegs]
  · have hend := Dev.learnEnd_full hdone hc hmode
    dsimp only at hend
    have hlen : ((((s.dev.head h).learn trk).sums.zip ((s.dev.head h).learn trk).counts).map fun p => divTie p.1 p.2).length = 256 := by
      rw [List.length_map, List.length_zip, hsums, hcounts]
      rfl
    generalize hmeans : ((((s.dev.head h).learn trk).sums.zip ((s.dev.head h).learn trk).counts).map fun p => divTie p.1 p.2) = means at hend hlen
    have htable : (learnTable trk).info.width = 32 := by cases trk <;> rfl
    obtain ⟨hoff, -, hrest⟩ := Dev.endSingle_spec
      (d := incF ((means.zipIdx).foldl (Dev.storeEntry (learnTable trk) (h.val * 256) (divTie means.sum 256)) s.dev) .BZ_LEARN_PASSES h) h trk
    refine ⟨_, rfl, ?_, ?_, fun k hk => ?_⟩
    · rw [State.onDev_getF _ _ _ _ (learnMode_ne (by decide) (by decide)), hend]
      exact hoff
    · rw [State.onDev_getF _ _ _ _ (by decide), hend, hrest _ (by cases trk <;> decide), getF_incF _ _ _ _ _ (by decide),
        Dev.foldl_storeEntry_ne _ _ _ fun e => absurd e (by cases trk <;> simp [learnTable])]
      rfl
    · have hentry := Dev.foldl_storeEntry (base := h.val * 256) (mean := divTie means.sum 256) htable means 0 s.dev (k := k) (by rw [hlen]; exact hk)
      have hgot : means.getD k 0 = divTie (((s.dev.head h).learn trk).sums.getD k 0) (((s.dev.head h).learn trk).counts.getD k 0) := by
        rw [← hmeans, List.getD_eq_getElem _ _ (by rw [hmeans, hlen]; exact hk), List.getD_eq_getElem _ _ (by rw [hsums]; exact hk),
          List.getD_eq_getElem _ _ (by rw [hcounts]; exact hk), List.getElem_map, List.getElem_zip]
      rw [Nat.zero_add, hgot] at hentry
      unfold getI at hentry ⊢
      rw [State.onDev_getF _ _ _ _ (by cases trk <;> decide), hend]
      refine Eq.trans ?_ hentry
      have hkept : getF (setF ((incF ((means.zipIdx).foldl (Dev.storeEntry (learnTable trk) (h.val * 256) (divTie means.sum 256)) s.dev) .BZ_LEARN_PASSES h).modLearn
          h trk fun _ => {}) (learnMode trk) h 0) (learnTable trk) (h.val * 256 + k)
          = getF ((means.zipIdx).foldl (Dev.storeEntry (learnTable trk) (h.val * 256) (divTie means.sum 256)) s.dev) (learnTable trk) (h.val * 256 + k) := by
        rw [hrest _ (by cases trk <;> decide)]
        exact getF_incF_ne _ _ _ (by cases trk <;> simp [learnTable])
      exact congrArg (toSigned _) hkept
  · have hwrite := Dev.traceWrite_arm hpre harm
    obtain ⟨hon, hkind, hdir, hpreS, hdone, htrig, hvalid⟩ := s.dev.traceSetArm_regs b word
    have hregs : ∀ f, f ≠ .MSIX_PBA_BITS → ∀ i, getF (s.onDev fun d => d.traceWrite b (putBits word 31 1 1)).dev f i
        = getF ((s.dev.traceSetup b word).traceSetArm b) f i := by
      intro f hf i
      rw [State.onDev_getF _ _ _ _ hf, hwrite]
      split
      · exact Dev.modBezel_getF _ b _ _ _
      · rfl
    have hpost : ((s.dev.traceWrite b (putBits word 31 1 1)).bezel b).post = 0 := by
      rw [hwrite]
      split
      · unfold Dev.traceForce
        rw [Dev.bezel_modBezel]
        exact Dev.traceSetArm_post _ b
      · exact Dev.traceSetArm_post _ b
    refine ⟨_, rfl, (hregs _ (by decide) _).trans hon, (hregs _ (by decide) _).trans hkind, (hregs _ (by decide) _).trans hdir,
      (hregs _ (by decide) _).trans hpreS, (hregs _ (by decide) _).trans hdone, (hregs _ (by decide) _).trans htrig, (hregs _ (by decide) _).trans hvalid,
      ?_, Dev.Only.frame ?_⟩
    · rw [State.onDev_bezel]
      exact hpost
    · rw [hwrite]
      exact Dev.Only.ite (fun _ => (s.dev.traceSetArm_only b word).modBezel (by simp) _ _) fun _ => s.dev.traceSetArm_only b word
  · refine ⟨_, rfl, ?_, fun c hc => ?_, Dev.Only.frame ?_⟩
    · rw [State.onDev_bezel]
      exact s.dev.bezel_modBezel b _
    · rw [State.onDev_bezel]
      exact s.dev.bezel_modBezel_ne _ hc
    · exact (Dev.Only.refl _).modBezel (by simp) _ _
  · have hdone : s.dev.traceDone b = setF (setF s.dev .BZ_TRACE_STAT_DONE b 1) .BZ_TRACE_CTL_ARM b 0 := by simp [Dev.traceDone, getB, harm, htrig, hpost]
    refine ⟨_, rfl, ?_, ?_, Dev.Only.frame ?_⟩
    · rw [State.onDev_getF _ _ _ _ (by decide), hdone, getF_setF_ne _ _ (by simp), getF_setF]
      rfl
    · rw [State.onDev_getF _ _ _ _ (by decide), hdone, getF_setF]
      rfl
    · rw [hdone]
      refine Dev.Only.setF (Dev.Only.setF (Dev.Only.refl _) ?_ _) ?_ _ <;> simp [theRegs]

end Sys2Proof.Machine
end

section
/-! PROOFS. What each command of Casket does (O51). -/

namespace Sys2Proof.Machine

variable {s : State} {line : Nat} {m : Mem}

/-! ## Commands on a line -/

/-- A command on a line of the populated DRAM that changes Casket alone. -/
theorem onLine_modMem {f : Dev → Dev} {g : Mem → Mem} (hline : line < s.dev.dramLines) (hf : f s.dev = s.dev.modMem g) :
    ∃ t, onLine s line f = .next t ∧ t.dev.mem = g s.dev.mem ∧ Frame noRegs [.mem] [] [] s t := by
  refine ⟨_, if_pos hline, ?_, Dev.Only.frame ?_⟩
  · rw [State.onDev_mem, hf]
    rfl
  · rw [hf]
    exact (Dev.Only.refl _).modMem (by simp) _

/-- A command on a line of the populated DRAM that does nothing. -/
theorem onLine_same {f : Dev → Dev} (hline : line < s.dev.dramLines) (hf : f s.dev = s.dev) :
    ∃ t, onLine s line f = .next t ∧ Frame noRegs [] [] [] s t := by
  refine ⟨_, if_pos hline, Dev.Only.frame ?_⟩
  rw [hf]
  exact Dev.Only.refl _

/-! ## Reads -/

theorem Mem.readLine_hit {a : ArrLine} (h : m.hit? line = some a) : m.readLine line = m.touch a.set a.way := by simp only [Mem.readLine, h]

theorem Mem.readLine_miss (h : m.hit? line = none) (hoff : m.noAlloc = false) :
    m.readLine line = m.allocate line (m.overMerge line (m.fill line)) := by simp [Mem.readLine, h, Mem.off, hoff]

/-- An allocation of a line that is not held takes the way found, for that line; every other line held is one that was. -/
theorem Mem.allocate_miss {w : Nat} (h : m.hit? line = none) (hway : m.wayFor (lineSet line) = some w) (bytes : List Byte) :
    (m.allocate line bytes).hit? line = some ⟨lineSet line, w, line, bytes⟩
      ∧ ∀ a ∈ (m.allocate line bytes).array, a.line = line ∨ a ∈ m.array := by
  have halloc : m.allocate line bytes = Mem.touch (lineSet line) w { m with
      array := (m.array.filter fun a => !(a.line == line || (a.set == lineSet line && a.way == w))) ++ [⟨lineSet line, w, line, bytes⟩] } := by
    simp only [Mem.allocate, h, hway]
    rfl
  have hother : (m.array.filter fun a => !(a.line == line || (a.set == lineSet line && a.way == w))).find? (fun a => a.line == line) = none := by
    refine List.find?_eq_none.mpr fun a ha => ?_
    have hkept := (List.mem_filter.mp ha).2
    intro hline
    rw [hline] at hkept
    simp at hkept
  rw [halloc]
  refine ⟨?_, fun a ha => ?_⟩
  · refine (List.find?_append ..).trans ?_
    rw [hother]
    simp
  · rcases List.mem_append.mp (show a ∈ _ ++ _ from ha) with ha | ha
    · exact .inr (List.mem_filter.mp ha).1
    · rw [List.mem_singleton.mp ha]
      exact .inl rfl

/-! ## Writes -/

theorem Mem.write_waits {t : Nat} {w : WaitWrite} (h : m.roomFor w.line = false) :
    m.write t w = { m with waiting := m.waiting ++ [w] } := by simp [Mem.write, h]

theorem Mem.writeArray_buffers (m : Mem) (line : Nat) (mask : List Bool) (bs : List Byte) :
    (m.writeArray line mask bs).merge = m.merge ∧ (m.writeArray line mask bs).dram = m.dram := by
  unfold Mem.writeArray
  split <;> exact ⟨rfl, rfl⟩

theorem Mem.writeMerge_dram (m : Mem) (t line : Nat) (mask : List Bool) (bs : List Byte) : (m.writeMerge t line mask bs).dram = m.dram := by
  unfold Mem.writeMerge
  split <;> rfl

/-- An accepted write leaves DRAM, and its entry of the merging buffer is the line's with the write merged, or a new one. -/
theorem Mem.accept_spec (m : Mem) (t : Nat) (w : WaitWrite) :
    (m.accept t w).dram = m.dram
      ∧ (m.accept t w).merge? w.line = some (((m.merge? w.line).map (BufLine.merged w.mask w.bytes)).getD (BufLine.fresh t w.line w.mask w.bytes)) := by
  have hzero : (if w.zero ∧ !m.off then m.allocate w.line (zeros 128) else m).merge = m.merge
      ∧ (if w.zero ∧ !m.off then m.allocate w.line (zeros 128) else m).dram = m.dram := by
    obtain ⟨hmerge, -, hdram, -⟩ := m.allocate_spec w.line (zeros 128)
    split
    · exact ⟨hmerge, hdram⟩
    · exact ⟨rfl, rfl⟩
  obtain ⟨hmerge, hdram⟩ := Mem.writeArray_buffers (if w.zero ∧ !m.off then m.allocate w.line (zeros 128) else m) w.line w.mask w.bytes
  unfold Mem.accept
  dsimp only
  refine ⟨?_, ?_⟩
  · rw [Mem.writeMerge_dram]
    exact hdram.trans hzero.2
  · rw [Mem.writeMerge_merge?, if_pos rfl]
    have hsame : (Mem.writeEvict ((if w.zero ∧ !m.off then m.allocate w.line (zeros 128) else m).writeArray w.line w.mask w.bytes) w.line w.mask w.bytes).merge? w.line
        = m.merge? w.line := congrArg (List.find? _) (hmerge.trans hzero.1)
    exact congrArg (fun o : Option BufLine => some ((o.map (BufLine.merged w.mask w.bytes)).getD (BufLine.fresh t w.line w.mask w.bytes))) hsame

/-- An entry that has taken a write holds its masked bytes; one that has taken all 128 bytes has the full mask. -/
theorem BufLine.taken_bytes (o : Option BufLine) (t line : Nat) (mask : List Bool) (bs : List Byte) :
    let e := (o.map (BufLine.merged mask bs)).getD (BufLine.fresh t line mask bs)
    (∀ i < 128, mask.getD i false = true → e.mask.getD i false = true ∧ e.bytes.getD i 0 = bs.getD i 0)
      ∧ (mask = fullMask → e.mask = fullMask ∧ e.bytes = overlay fullMask bs (zeros 128)) := by
  have hfull : ∀ f : Nat → Bool, (∀ i < 128, f i = true) → (List.range 128).map f = fullMask := by
    intro f hf
    rw [fullMask, List.eq_replicate_iff]
    simpa using hf
  have hget : ∀ (f : Nat → Bool) {i : Nat}, i < 128 → ((List.range 128).map f).getD i false = f i := by
    intro f i hi
    rw [List.getD_eq_getElem _ _ (by simpa using hi), List.getElem_map, List.getElem_range]
  cases o with
  | none =>
    refine ⟨fun i hi hm => ⟨(hget (fun i => mask.getD i false) hi).trans hm, ?_⟩, fun hm => ⟨?_, hm ▸ rfl⟩⟩
    · exact (getD_overlay hi).trans (if_pos hm)
    · subst hm
      exact hfull (fun i => fullMask.getD i false) fun i hi => getD_fullMask hi
  | some e =>
    refine ⟨fun i hi hm => ⟨(hget (fun i => e.mask.getD i false || mask.getD i false) hi).trans ?_, ?_⟩, fun hm => ⟨?_, ?_⟩⟩
    · show (e.mask.getD i false || mask.getD i false) = true
      rw [hm, Bool.or_true]
    · exact (getD_overlay hi).trans (if_pos hm)
    · subst hm
      exact hfull (fun i => e.mask.getD i false || fullMask.getD i false) fun i hi => by rw [getD_fullMask hi, Bool.or_true]
    · subst hm
      exact overlay_fullMask _ _ _

/-! ## Drains -/

theorem Dev.drainMb_eq {d : Dev} {t : Nat} {fill : List Byte} (hwait : d.mem.waiting = []) :
    d.drainMb t line fill = d.modMem fun m => m.drainOver line fill := by
  have hnone : ∀ n : Mem, n.waiting = [] → Mem.admitWaiting t n.waiting.length n = n := fun n hn => Mem.admitWaiting_nil t _ hn
  have hkept : (d.mem.drainOver line fill).waiting = [] := by
    cases he : d.mem.merge? line with
    | none => simpa only [Mem.drainOver, he] using hwait
    | some e =>
      rcases d.mem.drainOver_cases he fill with ⟨hn, -⟩ | ⟨x, -, -, hn⟩ | ⟨-, -, hn⟩
      · rw [hn, ← hwait]
        unfold Mem.drainWaits
        split <;> rfl
      · rw [hn]
        exact hwait
      · rw [hn, (Mem.issue_frame _).2.2.1]
        exact hwait
  unfold Dev.drainMb Dev.modMem
  dsimp only
  rw [hnone _ hkept]

/-- An entry with a cause to drain drains when its fill is good. -/
theorem Dev.mbDrain_good {d : Dev} {t : Nat} {e : BufLine} (region : Region) (he : d.mem.merge? line = some e) (hdue : d.drainDue t e = true)
    (hwait : d.mem.waiting = []) : d.mbDrain t line region .good = d.modMem fun m => m.drain line := by
  have hgo : d.mbDrain t line region .good = d.drainMb t line (d.mem.fill line) := by simp [Dev.mbDrain, he, hdue]
  rw [hgo, Dev.drainMb_eq hwait]
  rfl

/-- A drain with room for a new entry: the line goes whole to the eviction buffer. -/
theorem Mem.drainOver_moves {e : BufLine} (he : m.merge? line = some e) (hnone : m.evict? line = none) (hroom : m.evict.length < 32) (fill : List Byte) :
    (m.drainOver line fill).merge? line = none ∧ (m.drainOver line fill).dram = m.dram
      ∧ ∃ x, (m.drainOver line fill).evict? line = some x ∧ x.bytes = m.drained line e fill := by
  have hmoved : m.drainOver line fill = (m.moved line (m.evict ++ [⟨line, m.drained line e fill, false⟩])).issue := by
    rcases m.drainOver_cases he fill with ⟨-, ⟨x, hx, -⟩ | hfull⟩ | ⟨x, hx, -, -⟩ | ⟨-, -, hn⟩
    · rw [hnone] at hx
      cases hx
    · omega
    · rw [hnone] at hx
      cases hx
    · exact hn
  obtain ⟨hmerge, hdram, -, -⟩ := Mem.issue_frame (m.moved line (m.evict ++ [⟨line, m.drained line e fill, false⟩]))
  have hevict := Mem.issue_evict (m.moved line (m.evict ++ [⟨line, m.drained line e fill, false⟩]))
  have hbytes : ((m.drainOver line fill).evict? line).map (·.bytes) = some (m.drained line e fill) := by
    have hfound : ((m.evict ++ [(⟨line, m.drained line e fill, false⟩ : EvictLine)]).find? fun x => x.line == line)
        = some ⟨line, m.drained line e fill, false⟩ := by
      rw [List.find?_append, show m.evict.find? (fun x => x.line == line) = none from hnone]
      simp
    rw [hmoved, Mem.evict?, find?_bytes, hevict]
    have hmap := congrArg (Option.map (·.bytes)) hfound
    rw [find?_bytes] at hmap
    exact hmap
  refine ⟨?_, ?_, ?_⟩
  · rw [hmoved, Mem.merge?, hmerge]
    refine List.find?_eq_none.mpr fun x hx hline => ?_
    have hkept := (List.mem_filter.mp hx).2
    simp [beq_iff_eq.mp hline] at hkept
  · rw [hmoved, hdram]
    rfl
  · obtain ⟨x, hx, hb⟩ := Option.map_eq_some_iff.mp hbytes
    exact ⟨x, hx, hb⟩

/-- A drain of a line whose eviction buffer entry is being written waits. -/
theorem Mem.drainOver_issued {e : BufLine} {x : EvictLine} (he : m.merge? line = some e) (hx : m.evict? line = some x) (hissued : x.issued = true)
    (fill : List Byte) :
    (m.drainOver line fill).merge = m.merge ∧ (m.drainOver line fill).evict = m.evict ∧ line ∈ (m.drainOver line fill).drainWait := by
  have hwaits : m.drainOver line fill = m.drainWaits line := by
    rcases m.drainOver_cases he fill with ⟨hn, -⟩ | ⟨y, hy, hq, -⟩ | ⟨hnone, -, -⟩
    · exact hn
    · rw [hx] at hy
      cases hy
      rw [hissued] at hq
      cases hq
    · rw [hx] at hnone
      cases hnone
  rw [hwaits]
  unfold Mem.drainWaits
  split
  next hin => exact ⟨rfl, rfl, List.contains_iff_mem.mp hin⟩
  next => exact ⟨rfl, rfl, by simp⟩

/-! ## A fill with bad bytes under the mask -/

/-- Flips of data bits change no byte but theirs, and no check bit. -/
theorem flipData_getD {flips : List Nat} {bs : List Byte} {i : Nat} (hi : i < 128) (hno : ∀ n ∈ flips, n / 8 ≠ i) :
    (flipData flips bs).getD i 0 = bs.getD i 0 := by
  have hfold : ∀ (l : List Nat) (b : Byte), (∀ n ∈ l, n / 8 ≠ i) → l.foldl (fun b n => if n / 8 = i then b ^^^ BitVec.twoPow 8 (n % 8) else b) b = b := by
    intro l
    induction l with
    | nil => exact fun _ _ => rfl
    | cons n l ih =>
      intro b hl
      rw [List.foldl_cons, if_neg (hl n (List.mem_cons_self ..))]
      exact ih b fun k hk => hl k (List.mem_cons_of_mem _ hk)
  unfold flipData
  rw [List.getD_eq_getElem _ _ (by simpa using hi), List.getElem_map, List.getElem_range]
  exact hfold flips _ hno

theorem flipCheck_data {flips : List Nat} (c : Nat) (h : ∀ n ∈ flips, n < 1024) : flipCheck flips c = c := by
  unfold flipCheck
  induction flips generalizing c with
  | nil => rfl
  | cons n l ih =>
    have hn : ¬1024 ≤ n := Nat.not_le.mpr (h n (List.mem_cons_self ..))
    rw [List.foldl_cons, if_neg hn]
    exact ih c fun k hk => h k (List.mem_cons_of_mem _ hk)

/-- The first 128 check bits of a line of 128 bytes are the parities of its bytes. -/
theorem lineCheckBits_parity (l : Nat) {bs : List Byte} {i : Nat} (hlen : bs.length = 128) (hi : i < 128) :
    bit (lineCheckBits l bs) i = oddParity (bs.getD i 0) := by
  have hlow : lineCheckBits l bs = 2 ^ 128 * (crc32c bs + l % 2 ^ 31 * 2 ^ 32) + parityWord bs := by
    unfold lineCheckBits
    ring
  have hlt : parityWord bs < 2 ^ 128 := hlen ▸ parityWord_lt bs
  rw [List.getD_eq_getElem _ _ (by omega), ← parityWord_bit bs i (by omega), bit_eq_testBit, bit_eq_testBit, hlow,
    Nat.testBit_two_pow_mul_add _ hlt, if_pos hi]

/-- With flips under a mask alone, no byte outside the mask fails its parity. -/
theorem badParity_masked {flips : List Nat} {bs : List Byte} {mask : List Bool} (l : Nat) (hlen : bs.length = 128)
    (hflips : ∀ n ∈ flips, n < 1024 ∧ mask.getD (n / 8) false = true) :
    ((badParity (flipData flips bs) (flipCheck flips (lineCheckBits l bs))).all fun i => mask.getD i false) = true := by
  refine List.all_eq_true.mpr fun i hbad => ?_
  obtain ⟨hrange, hparity⟩ := List.mem_filter.mp hbad
  have hi : i < 128 := List.mem_range.mp hrange
  by_contra hmask
  have hno : ∀ n ∈ flips, n / 8 ≠ i := fun n hn e => hmask (e ▸ (hflips n hn).2)
  rw [flipCheck_data _ fun n hn => (hflips n hn).1, lineCheckBits_parity l hlen hi, flipData_getD hi hno] at hparity
  simp at hparity

/-- Bad bytes under the mask are replaced: what is laid over them is all the same. -/
theorem overlay_flipData {flips : List Nat} {mask : List Bool} (new bs : List Byte) (hflips : ∀ n ∈ flips, mask.getD (n / 8) false = true) :
    overlay mask new (flipData flips bs) = overlay mask new bs := by
  refine overlay_eq_overlay fun i hi => ?_
  by_cases hm : mask.getD i false = true
  · rw [if_pos hm, if_pos hm]
  · rw [if_neg hm, if_neg hm]
    exact flipData_getD hi fun n hn e => hm (e ▸ hflips n hn)

/-- The drain of an entry whose fill is bad under its mask alone goes on; it lays the entry over the line either way. -/
theorem Dev.mbDrain_masked {d : Dev} {t : Nat} {e : BufLine} {flips : List Nat} (region : Region) (copy good again : Bool)
    (he : d.mem.merge? line = some e) (hdue : d.drainDue t e = true) (hwait : d.mem.waiting = []) (hnone : d.mem.evict? line = none)
    (hmiss : d.mem.hit? line = none) (hflips : ∀ n ∈ flips, n < 1024 ∧ e.mask.getD (n / 8) false = true)
    (hverdict : flipVerdict true line (d.mem.dramLine line) flips = 3) :
    ∃ fill, d.mbDrain t line region (.bad flips copy good again) = d.modMem (fun m => m.drainOver line fill)
      ∧ overlay e.mask e.bytes fill = overlay e.mask e.bytes (d.mem.dramLine line) := by
  have hfill : d.mem.fill line = d.mem.dramLine line := by simp only [Mem.fill, hnone]
  have hparity := badParity_masked (bs := d.mem.dramLine line) line (by simp [Mem.dramLine]) hflips
  by_cases hwhole : e.mask.all id = true
  · refine ⟨d.mem.dramLine line, ?_, rfl⟩
    have hgo : d.mbDrain t line region (.bad flips copy good again) = d.drainMb t line (d.mem.fill line) := by
      simp only [Dev.mbDrain, he, hdue, hwhole, Bool.not_true, Bool.false_eq_true, if_false, Bool.true_or, if_true]
    rw [hgo, Dev.drainMb_eq hwait, hfill]
  · refine ⟨flipData flips (d.mem.dramLine line), ?_, overlay_flipData _ _ fun n hn => (hflips n hn).2⟩
    have hgo : d.mbDrain t line region (.bad flips copy good again) = d.drainMb t line (flipData flips (d.mem.dramLine line)) := by
      simp only [Dev.mbDrain, he, hdue, hwhole, hmiss, hnone, hverdict, hparity, Bool.not_true, Bool.false_eq_true, if_false, Option.isSome_none,
        Bool.or_self, and_self, or_true, if_true]
    rw [hgo, Dev.drainMb_eq hwait]

/-! ## Completed writes and the disable -/

/-- What a drain leaves of Casket beyond the buffers. -/
theorem Mem.drain_frame (m : Mem) (line : Nat) :
    (m.drain line).dram = m.dram ∧ (m.drain line).array = m.array ∧ (m.drain line).noAlloc = m.noAlloc ∧ (m.drain line).disabling = m.disabling := by
  have hissue : ∀ n : Mem, n.issue.dram = n.dram ∧ n.issue.array = n.array ∧ n.issue.noAlloc = n.noAlloc ∧ n.issue.disabling = n.disabling := by
    intro n
    unfold Mem.issue
    split <;> exact ⟨rfl, rfl, rfl, rfl⟩
  unfold Mem.drain
  cases he : m.merge? line with
  | none => simp only [Mem.drainOver, he, and_self]
  | some e =>
    rcases m.drainOver_cases he (m.fill line) with ⟨hn, -⟩ | ⟨x, -, -, hn⟩ | ⟨-, -, hn⟩
    · rw [hn]
      unfold Mem.drainWaits
      split <;> exact ⟨rfl, rfl, rfl, rfl⟩
    · rw [hn]
      exact ⟨rfl, rfl, rfl, rfl⟩
    · rw [hn]
      exact hissue _

theorem Mem.foldl_drain_frame (l : List Nat) (m : Mem) :
    (l.foldl Mem.drain m).dram = m.dram ∧ (l.foldl Mem.drain m).array = m.array ∧ (l.foldl Mem.drain m).noAlloc = m.noAlloc
      ∧ (l.foldl Mem.drain m).disabling = m.disabling := by
  induction l generalizing m with
  | nil => exact ⟨rfl, rfl, rfl, rfl⟩
  | cons x l ih =>
    obtain ⟨hdram, harray, hoff, hdis⟩ := ih (m.drain x)
    obtain ⟨hdram', harray', hoff', hdis'⟩ := m.drain_frame x
    exact ⟨hdram.trans hdram', harray.trans harray', hoff.trans hoff', hdis.trans hdis'⟩

theorem Mem.drainCheck_frame (m : Mem) :
    m.drainCheck.dram = m.dram ∧ m.drainCheck.array = m.array ∧ m.drainCheck.noAlloc = m.noAlloc ∧ m.drainCheck.disabling = m.disabling := by
  unfold Mem.drainCheck
  split <;> exact ⟨rfl, rfl, rfl, rfl⟩

theorem Mem.admitWaiting_dram (t fuel : Nat) (m : Mem) : (Mem.admitWaiting t fuel m).dram = m.dram := by
  induction fuel generalizing m with
  | zero => rfl
  | succ n ih =>
    unfold Mem.admitWaiting
    split
    · rfl
    · next w l _ =>
      split
      · exact (ih _).trans (Mem.accept_spec { m with waiting := l } t w).1
      · rfl

/-- A completed DRAM write leaves in DRAM its line alone. -/
theorem Mem.writeDone_dram (m : Mem) (t : Nat) {e : EvictLine} {l : List EvictLine} (he : m.evict = e :: l) (hissued : e.issued = true) :
    (m.writeDone t e.line).dram = (m.writeDram e.line e.bytes).dram := by
  rw [Mem.writeDone_eq m t he hissued, (Mem.drainCheck_frame _).1, Mem.admitWaiting_dram]
  unfold Mem.afterWrite
  dsimp only
  rw [(Mem.foldl_drain_frame _ _).1, (Mem.issue_frame _).2.1]
  rfl

/-- The start of a disable's drains. -/
theorem Mem.startDrain_spec (m : Mem) :
    m.startDrain.noAlloc = true ∧ m.startDrain.disabling = m.disabling ∧ m.startDrain.array = m.array ∧ m.startDrain.dram = m.dram
      ∧ (m.disabling = true → m.merge = [] → m.drainSet = [] → m.startDrain.invalidating = true) := by
  unfold Mem.startDrain
  dsimp only
  obtain ⟨hdram, harray, hoff, hdis⟩ := Mem.drainCheck_frame ((m.merge.map (·.line)).foldl Mem.drain
    { m with noAlloc := true, invalidating := false, drainSet := (m.drainSet ++ m.merge.map (·.line)).eraseDups })
  obtain ⟨hdram', harray', hoff', hdis'⟩ := Mem.foldl_drain_frame (m.merge.map (·.line))
    { m with noAlloc := true, invalidating := false, drainSet := (m.drainSet ++ m.merge.map (·.line)).eraseDups }
  refine ⟨hoff.trans hoff', hdis.trans hdis', harray.trans harray', hdram.trans hdram', fun hd hm hset => ?_⟩
  rw [hm, hset]
  simp [Mem.drainCheck, hd]

/-- Settles O51. -/
theorem casketCommands : Obligations.CasketCommands := by
  unfold Obligations.CasketCommands
  refine ⟨fun line region s hline => ⟨fun hhit => ?_, fun w hmiss hoff hway => ?_, fun hmiss hoff => ?_⟩,
    fun line mask bs s hline hfull => ⟨?_, ?_⟩, fun line mask bs s hline hroom hwait => ⟨?_, ?_⟩,
    fun line e region ecc s hline he hdue => ?_, fun line e region flips copy good again s hline he hwait hdue hroom hnone hmiss hflips hverdict => ?_,
    fun line e region s hline he hwait hdue => ⟨fun hnone hroom => ?_, fun x hx hissued => ?_⟩,
    fun line e l s hline he heline hissued hlen => ?_, fun s hdis => ?_,
    fun s hinv hdis => ⟨fun hkeep => ?_, fun hkeep => ?_⟩, fun s hp3 => ⟨fun hdis => ?_, fun hdis => ?_⟩,
    fun line region ecc mask bs s hline c hc => ?_⟩
  · obtain ⟨a, ha⟩ := Option.isSome_iff_exists.mp hhit
    obtain ⟨t, ht, hmem, hframe⟩ := onLine_modMem (f := fun d => d.casketRead s.dtime line region .good) hline (Dev.casketRead_good s.dev s.dtime line region)
    rw [Mem.readLine_hit ha] at hmem
    exact ⟨t, ht, by rw [hmem]; rfl, by rw [hmem]; rfl, by rw [hmem]; rfl, by rw [hmem]; rfl, hframe⟩
  · obtain ⟨t, ht, hmem, hframe⟩ := onLine_modMem (f := fun d => d.casketRead s.dtime line region .good) hline (Dev.casketRead_good s.dev s.dtime line region)
    obtain ⟨hhit, harray⟩ := Mem.allocate_miss hmiss hway (s.dev.mem.overMerge line (s.dev.mem.fill line))
    rw [Mem.readLine_miss hmiss hoff] at hmem
    exact ⟨t, ht, by rw [hmem]; exact hhit, by rw [hmem]; exact harray, hframe⟩
  · have hread : s.dev.casketRead s.dtime line region .good = s.dev := by
      have hsame : s.dev.mem.readLine line = s.dev.mem := by simp [Mem.readLine, hmiss, Mem.off, hoff]
      rw [Dev.casketRead_good, Dev.modMem, hsame]
    exact onLine_same hline hread
  · obtain ⟨t, ht, hmem, hframe⟩ := onLine_modMem (s := s) (f := fun d => d.modMem fun m => m.write s.dtime ⟨line, mask, bs, false⟩) hline rfl
    exact ⟨t, ht, hmem.trans (Mem.write_waits hfull), hframe⟩
  · obtain ⟨t, ht, hmem, hframe⟩ := onLine_modMem (s := s) (f := fun d => d.modMem fun m => m.write s.dtime ⟨line, fullMask, zeros 128, true⟩) hline rfl
    exact ⟨t, ht, hmem.trans (Mem.write_waits hfull), hframe⟩
  · obtain ⟨t, ht, hmem, hframe⟩ := onLine_modMem (s := s) (f := fun d => d.modMem fun m => m.write s.dtime ⟨line, mask, bs, false⟩) hline rfl
    obtain ⟨hdram, hentry⟩ := s.dev.mem.accept_spec s.dtime ⟨line, mask, bs, false⟩
    obtain ⟨hbytes, -⟩ := BufLine.taken_bytes (s.dev.mem.merge? line) s.dtime line mask bs
    rw [Mem.write_eq_accept hroom hwait] at hmem
    exact ⟨t, _, ht, by rw [hmem]; exact hentry, hbytes, by rw [hmem]; exact hdram, hframe⟩
  · obtain ⟨t, ht, hmem, hframe⟩ := onLine_modMem (s := s) (f := fun d => d.modMem fun m => m.write s.dtime ⟨line, fullMask, zeros 128, true⟩) hline rfl
    obtain ⟨hdram, hentry⟩ := s.dev.mem.accept_spec s.dtime ⟨line, fullMask, zeros 128, true⟩
    obtain ⟨-, hwhole⟩ := BufLine.taken_bytes (s.dev.mem.merge? line) s.dtime line fullMask (zeros 128)
    obtain ⟨hmask, hzero⟩ := hwhole rfl
    rw [Mem.write_eq_accept hroom hwait] at hmem
    exact ⟨t, _, ht, by rw [hmem]; exact hentry, hmask, hzero.trans (overlay_fullMask_zeros _), by rw [hmem]; exact hdram, hframe⟩
  · exact onLine_same hline (by simp [Dev.mbDrain, he, hdue])
  · obtain ⟨fill, hdrain, hover⟩ := Dev.mbDrain_masked region copy good again he hdue hwait hnone hmiss hflips hverdict
    obtain ⟨t, ht, hmem, hframe⟩ := onLine_modMem (f := fun d => d.mbDrain s.dtime line region (.bad flips copy good again)) hline hdrain
    obtain ⟨hgone, -, x, hx, hbytes⟩ := Mem.drainOver_moves he hnone hroom fill
    refine ⟨t, x, ht, by rw [hmem]; exact hgone, by rw [hmem]; exact hx, ?_, hframe⟩
    rw [hbytes, Mem.drained, hmiss]
    exact hover
  · obtain ⟨t, ht, hmem, hframe⟩ := onLine_modMem (f := fun d => d.mbDrain s.dtime line region .good) hline (Dev.mbDrain_good region he hdue hwait)
    obtain ⟨hgone, hdram, x, hx, hbytes⟩ := Mem.drainOver_moves he hnone hroom (s.dev.mem.fill line)
    refine ⟨t, x, ht, by rw [hmem]; exact hgone, by rw [hmem]; exact hx, ?_, by rw [hmem]; exact hdram, hframe⟩
    have hfill : s.dev.mem.fill line = s.dev.mem.dramLine line := by simp only [Mem.fill, hnone]
    rw [hbytes, Mem.drained, hfill]
    cases s.dev.mem.hit? line <;> rfl
  · obtain ⟨t, ht, hmem, hframe⟩ := onLine_modMem (f := fun d => d.mbDrain s.dtime line region .good) hline (Dev.mbDrain_good region he hdue hwait)
    obtain ⟨hmerge, hevict, hin⟩ := Mem.drainOver_issued he hx hissued (s.dev.mem.fill line)
    exact ⟨t, ht, by rw [hmem]; exact hmerge, by rw [hmem]; exact hevict, by rw [hmem]; exact hin, hframe⟩
  · subst heline
    obtain ⟨t, ht, hmem, hframe⟩ := onLine_modMem (s := s) (f := fun d => d.modMem fun m => m.writeDone s.dtime e.line) hline rfl
    have hdram : t.dev.mem.dram = (s.dev.mem.writeDram e.line e.bytes).dram := by
      rw [hmem]
      exact s.dev.mem.writeDone_dram s.dtime he hissued
    refine ⟨t, ht, ?_, fun a ha => ?_, hframe⟩
    · rw [Mem.dramLine_congr hdram]
      exact s.dev.mem.writeDram_dramLine _ _ hlen
    · have hbyte : t.dev.mem.dramByte a = (s.dev.mem.writeDram e.line e.bytes).dramByte a := by
        unfold Mem.dramByte
        rw [hdram]
      rw [hbyte, Mem.writeDram_dramByte, if_neg (by omega)]
  · have hnot : getB (setF s.dev .CK_CTL_DISABLE 0 1) .CK_STAT_DISABLED 0 = false := by
      unfold getB
      rw [getF_setF_ne _ _ (by simp), hdis]
      rfl
    have hdo : s.dev.casketDisable = (setF s.dev .CK_CTL_DISABLE 0 1).modMem fun m => { m with disabling := true }.startDrain := by
      unfold Dev.casketDisable
      dsimp only
      rw [hnot]
      rfl
    obtain ⟨hoff, hdising, harray, hdram, hinv⟩ := Mem.startDrain_spec { s.dev.mem with disabling := true }
    have hmem : (s.onDev fun d => d.casketDisable).dev.mem = { s.dev.mem with disabling := true }.startDrain := by
      rw [State.onDev_mem, hdo]
      rfl
    refine ⟨_, rfl, ?_, ?_, ?_, ?_, ?_, fun hm hset => ?_, Dev.Only.frame ?_⟩
    · rw [State.onDev_getF _ _ _ _ (by decide), hdo, Dev.modMem_getF, getF_setF]
      rfl
    · rw [hmem]
      exact hoff
    · rw [hmem]
      exact hdising
    · rw [hmem]
      exact harray
    · rw [hmem]
      exact hdram
    · rw [hmem]
      exact hinv rfl hm hset
    · rw [hdo]
      exact ((Dev.Only.refl _).setF (by simp [theRegs]) _).modMem (by simp) _
  · have hdo : s.dev.invalidated = setF (s.dev.modMem fun m => { m with
        array := [], plru := [], invalidating := false, drainSet := [], disabling := false, p3Drain := false, noAlloc := true }) .CK_STAT_DISABLED 0 1 := by
      simp [Dev.invalidated, hinv, hdis, getB, hkeep, Dev.modMem]
    refine ⟨_, rfl, ?_, ?_, ?_, Dev.Only.frame ?_⟩
    · rw [State.onDev_mem, hdo]
      rfl
    · rw [State.onDev_mem, hdo]
      rfl
    · rw [State.onDev_getF _ _ _ _ (by decide), hdo, getF_setF]
      rfl
    · rw [hdo]
      exact ((Dev.Only.refl _).modMem (by simp) _).setF (by simp [theRegs]) _
  · have hdo : s.dev.invalidated = s.dev.modMem fun m => { m with
        array := [], plru := [], invalidating := false, drainSet := [], disabling := false, p3Drain := false, noAlloc := m.p3Drain } := by
      simp [Dev.invalidated, hinv, hdis, getB, hkeep, Dev.modMem]
    refine ⟨_, rfl, ?_, ?_, Dev.Only.frame ?_⟩
    · rw [State.onDev_mem, hdo]
      rfl
    · rw [State.onDev_mem, hdo]
      rfl
    · rw [hdo]
      exact (Dev.Only.refl _).modMem (by simp) _
  · have hdo : s.dev.casketEnable = setF ((setF s.dev .CK_CTL_DISABLE 0 0).modMem fun m => { m with noAlloc := false }) .CK_STAT_DISABLED 0 0 := by
      simp [Dev.casketEnable, hdis, hp3]
    refine ⟨_, rfl, ?_, ?_, ?_, Dev.Only.frame ?_⟩
    · rw [State.onDev_mem, hdo]
      rfl
    · rw [State.onDev_getF _ _ _ _ (by decide), hdo, getF_setF_ne _ _ (by simp), Dev.modMem_getF, getF_setF]
      rfl
    · rw [State.onDev_getF _ _ _ _ (by decide), hdo, getF_setF]
      rfl
    · rw [hdo]
      refine Dev.Only.setF (Dev.Only.modMem (Dev.Only.setF (Dev.Only.refl _) ?_ _) ?_ _) ?_ _ <;> simp [theRegs]
  · have hdo : s.dev.casketEnable = setF s.dev .CK_CTL_DISABLE 0 0 := by simp [Dev.casketEnable, hdis]
    refine ⟨_, rfl, ?_, Dev.Only.frame ?_⟩
    · rw [State.onDev_getF _ _ _ _ (by decide), hdo, getF_setF]
      rfl
    · rw [hdo]
      exact (Dev.Only.refl _).setF (by simp [theRegs]) _
  · simp only [List.mem_cons, List.not_mem_nil, or_false] at hc
    rcases hc with rfl | rfl | rfl | rfl | rfl <;> exact if_neg (Nat.not_lt.mpr hline)

end Sys2Proof.Machine
end

section
/-! PROOFS. The completion of a command (R281): what it writes, what it takes out, what it leaves as it was. -/

namespace Sys2Proof.Machine

/-! ## The budget of a completion -/

/-- The registers that a completion may change: the count of lost log entries, and of an EN = 0 that ends the fence values and RDY. -/
def doneRegs : Fld → Nat → Prop := fun f _ => f = .CL_LOG_STAT_LOST ∨ f = .CL_QFENCE_FENCE ∨ f = .CL_STAT_RDY

namespace Dev.Only

variable {R : Fld → Nat → Prop} {P : List Part} {H : List HeadId} {S : List SpinId} {a b : Dev}

theorem setFiligree (h : Dev.Only R P H S a b) (hp : .filigree ∈ P) (x : Filigree) : Dev.Only R P H S a { b with filigree := x } :=
  h.update hp rfl rfl rfl fun p hp => by cases p <;> simp_all [Part.same]

theorem dropCmd (h : Dev.Only R P H S a b) (hclasp : .clasp ∈ P) (hfiligree : .filigree ∈ P) (hdata : .data ∈ P) (q tag : Nat) :
    Dev.Only R P H S a (b.dropCmd q tag) :=
  ((h.modClasp hclasp fun _ => (b.dropCmd q tag).clasp).setFiligree hfiligree (b.dropCmd q tag).filigree).modData hdata
    fun _ => (b.dropCmd q tag).data

theorem addLog (h : Dev.Only R P H S a b) (hr : R .CL_LOG_STAT_LOST 0) (hclasp : .clasp ∈ P) (es : List LogEntry) :
    Dev.Only R P H S a (b.addLog es) := (h.modClasp hclasp _).incF hr _ _

theorem logCmd (h : Dev.Only R P H S a b) (hr : R .CL_LOG_STAT_LOST 0) (hclasp : .clasp ∈ P) (t : Nat) (c : Cmd) (status count ev : Nat) :
    Dev.Only R P H S a (b.logCmd t c status count ev).2 := h.addLog hr hclasp _

theorem signal (h : Dev.Only R P H S a b) (hclasp : .clasp ∈ P) (t : Nat) (p : QueuePair) : Dev.Only R P H S a (b.signal t p) :=
  ite (fun _ => (h.modPair hclasp _ _).msix _) fun _ => h.modPair hclasp _ _

theorem post (h : Dev.Only R P H S a b) (hclasp : .clasp ∈ P) (t q tag status count sqHead : Nat) (log : Option Nat) :
    Dev.Only R P H S a (b.post t q tag status count sqHead log) := by
  unfold Dev.post
  cases b.pair? q with
  | none => exact h
  | some p => exact ((h.send _).modPair hclasp _ _).signal hclasp _ _

theorem finishDisable (h : Dev.Only R P H S a b) (hfence : ∀ q, R .CL_QFENCE_FENCE q) (hrdy : R .CL_STAT_RDY 0) (hclasp : .clasp ∈ P) :
    Dev.Only R P H S a b.finishDisable :=
  ite (fun _ => ((h.foldl _ fun _ _ _ hd => hd.resetF (hfence _)).modClasp hclasp _).setF hrdy _) fun _ => h

theorem complete (h : Dev.Only R P H S a b) (hlost : R .CL_LOG_STAT_LOST 0) (hfence : ∀ q, R .CL_QFENCE_FENCE q) (hrdy : R .CL_STAT_RDY 0)
    (hclasp : .clasp ∈ P) (hfiligree : .filigree ∈ P) (hdata : .data ∈ P) (t : Nat) (c : Cmd) (status count ev : Nat) :
    Dev.Only R P H S a (b.complete t c status count ev) := by
  unfold Dev.complete
  dsimp only
  refine (((Dev.Only.dropCmd ?_ hclasp hfiligree hdata _ _).post hclasp _ _ _ _ _ _ _).finishDisable hfence hrdy hclasp)
  by_cases hdue : (status != 0 || c.recs.any (·.status != 0)) = true
  · rw [if_pos hdue]
    exact h.logCmd hlost hclasp _ _ _ _ _
  · rw [if_neg hdue]
    exact h

end Dev.Only

theorem Dev.complete_only (d : Dev) (t : Nat) (c : Cmd) (status count ev : Nat) :
    Dev.Only doneRegs [.clasp, .filigree, .data] [] [] d (d.complete t c status count ev) :=
  (Dev.Only.refl d).complete (by simp [doneRegs]) (by simp [doneRegs]) (by simp [doneRegs]) (by simp) (by simp) (by simp) _ _ _ _ _

/-- So a completion leaves every other register. -/
theorem Dev.complete_getF (d : Dev) (t : Nat) (c : Cmd) (status count ev : Nat) {f : Fld} (i : Nat) (hlost : f ≠ .CL_LOG_STAT_LOST)
    (hfence : f ≠ .CL_QFENCE_FENCE) (hrdy : f ≠ .CL_STAT_RDY) (hpba : f ≠ .MSIX_PBA_BITS) :
    getF (d.complete t c status count ev) f i = getF d f i :=
  (d.complete_only t c status count ev).registers f i (by simp [doneRegs, hlost, hfence, hrdy]) hpba

theorem Dev.complete_chain (d : Dev) (t : Nat) (c : Cmd) (status count ev : Nat) (n : Fin 16) :
    (d.complete t c status count ev).chain n = d.chain n := by
  have hsame : (d.complete t c status count ev).chains = d.chains := (d.complete_only t c status count ev).others .chains (by simp)
  simp only [Dev.chain, hsame]

/-! ## The steps of a completion -/

/-- The reset of a field for each pair touches the register file alone. -/
theorem foldl_resetF_eq (f : Fld) (l : List QueuePair) (d : Dev) :
    ∃ r, l.foldl (fun d p => resetF d f p.qid) d = { d with regs := r } := by
  induction l generalizing d with
  | nil => exact ⟨d.regs, rfl⟩
  | cons p l ih =>
    obtain ⟨r, hr⟩ := ih (resetF d f p.qid)
    exact ⟨r, hr⟩

theorem Dev.finishDisable_data (d : Dev) : d.finishDisable.data = d.data := by
  unfold Dev.finishDisable
  split
  · obtain ⟨r, hr⟩ := foldl_resetF_eq .CL_QFENCE_FENCE d.clasp.queues d
    simp only [hr]
    rfl
  · rfl

theorem Dev.finishDisable_cmds (d : Dev) : d.finishDisable.clasp.cmds = d.clasp.cmds := by
  unfold Dev.finishDisable
  split
  · obtain ⟨r, hr⟩ := foldl_resetF_eq .CL_QFENCE_FENCE d.clasp.queues d
    simp only [hr]
    rfl
  · rfl

theorem Dev.finishDisable_slots (d : Dev) : d.finishDisable.clasp.slots = d.clasp.slots := by
  unfold Dev.finishDisable
  split
  · obtain ⟨r, hr⟩ := foldl_resetF_eq .CL_QFENCE_FENCE d.clasp.queues d
    simp only [hr]
    rfl
  · rfl

theorem Dev.finishDisable_hostOut (d : Dev) : d.finishDisable.hostOut = d.hostOut := by
  unfold Dev.finishDisable
  split
  · obtain ⟨r, hr⟩ := foldl_resetF_eq .CL_QFENCE_FENCE d.clasp.queues d
    simp only [hr]
    rfl
  · rfl

theorem Dev.finishDisable_id {d : Dev} (h : d.clasp.disabling = false ∨ d.clasp.cmds ≠ []) : d.finishDisable = d := by
  unfold Dev.finishDisable
  rw [if_neg]
  rcases h with h | h <;> simp [h]

/-- A change of pairs that keeps their numbers. -/
theorem Dev.pair?_modPair (d : Dev) (q x : Nat) (f : QueuePair → QueuePair) (hf : ∀ p, (f p).qid = p.qid) :
    (d.modPair q f).pair? x = if x = q then (d.pair? x).map f else d.pair? x := by
  simp only [Dev.pair?, Dev.modPair, Dev.modClasp, List.find?_map]
  have hkey : ((fun p : QueuePair => p.qid == x) ∘ fun p => if p.qid = q then f p else p) = fun p => p.qid == x := by
    funext p
    simp only [Function.comp]
    split <;> simp [hf]
  rw [hkey]
  cases hfind : d.clasp.queues.find? (fun p => p.qid == x) with
  | none => simp
  | some p =>
    have hq : p.qid = x := by simpa using List.find?_some hfind
    by_cases hx : x = q
    · simp [hx, hq ▸ hx]
    · simp [hx, hq]

theorem Dev.pair?_modPair_ne (d : Dev) {q x : Nat} {f : QueuePair → QueuePair} (hx : x ≠ q) (hf : ∀ p, (f p).qid = p.qid) :
    (d.modPair q f).pair? x = d.pair? x := by rw [Dev.pair?_modPair d q x f hf, if_neg hx]

theorem Dev.pair?_qid {d : Dev} {q : Nat} {p : QueuePair} (h : d.pair? q = some p) : p.qid = q := by
  simpa using List.find?_some h

theorem Dev.cmd?_key {d : Dev} {q tag : Nat} {c : Cmd} (h : d.cmd? q tag = some c) : c.qid = q ∧ c.e.tag = tag := by
  simpa using List.find?_some h

theorem Dev.cmd?_mem {d : Dev} {q tag : Nat} {c : Cmd} (h : d.cmd? q tag = some c) : c ∈ d.clasp.cmds := List.mem_of_find?_eq_some h

/-- A change of commands that keeps their names. -/
theorem Dev.cmd?_modCmd (d : Dev) (q tag x y : Nat) (f : Cmd → Cmd) (hf : ∀ c, (f c).qid = c.qid ∧ (f c).e = c.e) :
    (d.modCmd q tag f).cmd? x y = if x = q ∧ y = tag then (d.cmd? x y).map f else d.cmd? x y := by
  simp only [Dev.cmd?, Dev.modCmd, Dev.modClasp, List.find?_map]
  have hkey : ((fun c : Cmd => c.qid == x && c.e.tag == y) ∘ fun c => if c.qid = q ∧ c.e.tag = tag then f c else c)
      = fun c => c.qid == x && c.e.tag == y := by
    funext c
    simp only [Function.comp]
    split <;> simp [hf]
  rw [hkey]
  cases hfind : d.clasp.cmds.find? (fun c => c.qid == x && c.e.tag == y) with
  | none => simp
  | some c =>
    have hc : c.qid = x ∧ c.e.tag = y := by simpa using List.find?_some hfind
    simp only [Option.map_some, hc.1, hc.2]
    split <;> rfl

theorem Dev.signal_data (d : Dev) (t : Nat) (p : QueuePair) : (d.signal t p).data = d.data := by
  unfold Dev.signal
  split
  · exact Dev.msix_data _ _
  · rfl

theorem Dev.signal_cmds (d : Dev) (t : Nat) (p : QueuePair) : (d.signal t p).clasp.cmds = d.clasp.cmds := by
  unfold Dev.signal
  split
  · rw [Dev.msix_clasp]
    rfl
  · rfl

theorem Dev.signal_slots (d : Dev) (t : Nat) (p : QueuePair) : (d.signal t p).clasp.slots = d.clasp.slots := by
  unfold Dev.signal
  split
  · rw [Dev.msix_clasp]
    rfl
  · rfl

theorem Dev.signal_disabling (d : Dev) (t : Nat) (p : QueuePair) : (d.signal t p).clasp.disabling = d.clasp.disabling := by
  unfold Dev.signal
  split
  · rw [Dev.msix_clasp]
    rfl
  · rfl

theorem Dev.mem_hostOut_signal {d : Dev} {m : HostMsg} (h : m ∈ d.hostOut) (t : Nat) (p : QueuePair) : m ∈ (d.signal t p).hostOut := by
  unfold Dev.signal
  split
  · exact Dev.mem_hostOut_msix (d := d.modPair p.qid _) h _
  · exact h

theorem Dev.signal_pair? (d : Dev) (t x : Nat) (p : QueuePair) (hx : x ≠ p.qid) : (d.signal t p).pair? x = d.pair? x := by
  unfold Dev.signal
  split
  · simp only [Dev.pair?, Dev.msix_clasp]
    exact Dev.pair?_modPair_ne d hx fun _ => rfl
  · exact Dev.pair?_modPair_ne d hx fun _ => rfl

section Posting

variable (d : Dev) (t q tag status count sqHead : Nat) (log : Option Nat)

theorem Dev.post_data : (d.post t q tag status count sqHead log).data = d.data := by
  unfold Dev.post
  split
  · rfl
  · exact Dev.signal_data _ _ _

theorem Dev.post_cmds : (d.post t q tag status count sqHead log).clasp.cmds = d.clasp.cmds := by
  unfold Dev.post
  split
  · rfl
  · exact Dev.signal_cmds _ _ _

theorem Dev.post_slots : (d.post t q tag status count sqHead log).clasp.slots = d.clasp.slots := by
  unfold Dev.post
  split
  · rfl
  · exact Dev.signal_slots _ _ _

theorem Dev.post_disabling : (d.post t q tag status count sqHead log).clasp.disabling = d.clasp.disabling := by
  unfold Dev.post
  split
  · rfl
  · exact Dev.signal_disabling _ _ _

theorem Dev.post_pair? {x : Nat} (hx : x ≠ q) : (d.post t q tag status count sqHead log).pair? x = d.pair? x := by
  unfold Dev.post
  split
  · rfl
  · next p hp =>
    rw [Dev.signal_pair? _ _ _ _ (by rwa [Dev.pair?_qid hp])]
    exact Dev.pair?_modPair_ne (d.send _) hx fun _ => rfl

theorem Dev.mem_hostOut_post {m : HostMsg} (h : m ∈ d.hostOut) : m ∈ (d.post t q tag status count sqHead log).hostOut := by
  unfold Dev.post
  split
  · exact h
  · exact Dev.mem_hostOut_signal (List.mem_append_left _ h) _ _

theorem Dev.post_entry {p : QueuePair} (h : d.pair? q = some p) :
    HostMsg.write (p.cqBase + 16 * p.cqTail) (cqEntry tag status count sqHead (log.getD 0) log.isSome p.phase)
      ∈ (d.post t q tag status count sqHead log).hostOut := by
  unfold Dev.post
  simp only [h]
  exact Dev.mem_hostOut_signal (List.mem_append_right _ (List.mem_singleton.mpr rfl)) _ _

end Posting

/-! ## A completion as a whole -/

/-- The device as a completion logs it: with the command's entries where they are due. -/
def Dev.logged (d : Dev) (t : Nat) (c : Cmd) (status count ev : Nat) : Dev :=
  if status != 0 || c.recs.any (·.status != 0) then (d.logCmd t c status count ev).2 else d

/-- The log slot that a completion names, if it has entries. -/
def Dev.logSlot (d : Dev) (t : Nat) (c : Cmd) (status count ev : Nat) : Option Nat :=
  if status != 0 || c.recs.any (·.status != 0) then some (d.logCmd t c status count ev).1 else none

theorem Dev.complete_eq (d : Dev) (t : Nat) (c : Cmd) (status count ev : Nat) :
    d.complete t c status count ev = (((d.logged t c status count ev).dropCmd c.qid c.e.tag).post t c.qid c.e.tag status count c.sqHead
      (d.logSlot t c status count ev)).finishDisable := by
  unfold Dev.complete Dev.logged Dev.logSlot
  by_cases hdue : (status != 0 || c.recs.any (·.status != 0)) = true
  · simp only [if_pos hdue]
  · simp only [if_neg hdue]

theorem Dev.addLog_eq (d : Dev) (es : List LogEntry) :
    ∃ r l n, d.addLog es = { d with regs := r, clasp := { d.clasp with log := l, logNext := n } } := by
  refine ⟨(d.addLog es).regs, (d.clasp.log ++ es).drop ((d.clasp.log ++ es).length - 1024), d.clasp.logNext + es.length, ?_⟩
  simp only [Dev.addLog, incF, setF, Dev.modClasp]

/-- Logging leaves everything but the log, its next number and the count of lost entries. -/
theorem Dev.logged_eq (d : Dev) (t : Nat) (c : Cmd) (status count ev : Nat) :
    ∃ r l n, d.logged t c status count ev = { d with regs := r, clasp := { d.clasp with log := l, logNext := n } } := by
  unfold Dev.logged
  split
  · exact d.addLog_eq _
  · exact ⟨d.regs, d.clasp.log, d.clasp.logNext, rfl⟩

section Completion

variable (d : Dev) (t : Nat) (c : Cmd) (status count ev : Nat)

theorem Dev.complete_data : (d.complete t c status count ev).data = (d.dropCmd c.qid c.e.tag).data := by
  rw [Dev.complete_eq, Dev.finishDisable_data, Dev.post_data]
  obtain ⟨r, l, n, hlog⟩ := d.logged_eq t c status count ev
  rw [hlog]
  rfl

theorem Dev.complete_cmds :
    (d.complete t c status count ev).clasp.cmds = d.clasp.cmds.filter fun x => !(x.qid == c.qid && x.e.tag == c.e.tag) := by
  rw [Dev.complete_eq, Dev.finishDisable_cmds, Dev.post_cmds]
  obtain ⟨r, l, n, hlog⟩ := d.logged_eq t c status count ev
  rw [hlog]
  rfl

theorem Dev.complete_slots :
    (d.complete t c status count ev).clasp.slots = d.clasp.slots.filter fun x => !(x.qid == c.qid && x.tag == c.e.tag) := by
  rw [Dev.complete_eq, Dev.finishDisable_slots, Dev.post_slots]
  obtain ⟨r, l, n, hlog⟩ := d.logged_eq t c status count ev
  rw [hlog]
  rfl

theorem Dev.complete_pair? {x : Nat} (hx : x ≠ c.qid) (hstay : d.clasp.disabling = false) :
    (d.complete t c status count ev).pair? x = d.pair? x := by
  obtain ⟨r, l, n, hlog⟩ := d.logged_eq t c status count ev
  rw [Dev.complete_eq, Dev.finishDisable_id, Dev.post_pair? _ _ _ _ _ _ _ _ hx]
  · rw [hlog]
    rfl
  · left
    rw [Dev.post_disabling, hlog]
    exact hstay

theorem Dev.mem_hostOut_complete {m : HostMsg} (h : m ∈ d.hostOut) : m ∈ (d.complete t c status count ev).hostOut := by
  rw [Dev.complete_eq, Dev.finishDisable_hostOut]
  refine Dev.mem_hostOut_post _ _ _ _ _ _ _ _ ?_
  obtain ⟨r, l, n, hlog⟩ := d.logged_eq t c status count ev
  rw [hlog]
  exact h

theorem Dev.complete_entry {p : QueuePair} (h : d.pair? c.qid = some p) :
    ∃ idx logged, HostMsg.write (p.cqBase + 16 * p.cqTail) (cqEntry c.e.tag status count c.sqHead idx logged p.phase)
      ∈ (d.complete t c status count ev).hostOut := by
  rw [Dev.complete_eq, Dev.finishDisable_hostOut]
  refine ⟨_, _, Dev.post_entry _ _ _ _ _ _ _ _ ?_⟩
  obtain ⟨r, l, n, hlog⟩ := d.logged_eq t c status count ev
  rw [hlog]
  exact h

theorem Dev.complete_cmd?_none : (d.complete t c status count ev).cmd? c.qid c.e.tag = none := by
  unfold Dev.cmd?
  rw [Dev.complete_cmds, List.find?_eq_none]
  intro x hx
  simpa [not_and_or, imp_iff_not_or] using (List.mem_filter.mp hx).2

end Completion

/-- A command is completed when a completion of its pair and tag has run, what went before it leaving the pair and the place in the
submission queue, and what comes after it taking nothing back. -/
theorem completed_after {s : State} {g : Dev → Dev} {d : Dev} {c : Cmd} {t q tag status count ev : Nat}
    (hcmds : (g s.dev).clasp.cmds = (d.complete t c status count ev).clasp.cmds)
    (hout : ∀ m ∈ (d.complete t c status count ev).hostOut, m ∈ (g s.dev).hostOut) (hqid : c.qid = q) (htag : c.e.tag = tag)
    (hpair : d.pair? q = s.dev.pair? q) (hsome : (s.dev.pair? q).isSome = true) (hcmd : ∃ x, s.dev.cmd? q tag = some x ∧ x.sqHead = c.sqHead) :
    Completed q tag status count s (s.onDev g) := by
  subst hqid htag
  obtain ⟨p, hp⟩ := Option.isSome_iff_exists.mp hsome
  obtain ⟨x, hx, hhead⟩ := hcmd
  obtain ⟨idx, lg, hentry⟩ := d.complete_entry t c status count ev (hpair.trans hp)
  refine ⟨?_, p, x, idx, lg, hp, hx, ?_⟩
  · have hnone := d.complete_cmd?_none t c status count ev
    unfold Dev.cmd? at hnone ⊢
    rw [State.onDev_clasp, hcmds]
    exact hnone
  · rw [hhead]
    exact Dev.mem_hostOut_flush (hout _ hentry)

/-- The same of a command that ends in that completion. -/
theorem completed_of {s : State} {g : Dev → Dev} {d : Dev} {c : Cmd} {t q tag status count ev : Nat}
    (hg : g s.dev = d.complete t c status count ev) (hqid : c.qid = q) (htag : c.e.tag = tag) (hpair : d.pair? q = s.dev.pair? q)
    (hsome : (s.dev.pair? q).isSome = true) (hcmd : ∃ x, s.dev.cmd? q tag = some x ∧ x.sqHead = c.sqHead) :
    Completed q tag status count s (s.onDev g) :=
  completed_after (by rw [hg]) (fun _ hm => by rwa [hg]) hqid htag hpair hsome hcmd

/-- The admin command that an `admin?` finds. -/
theorem Dev.admin?_key {d : Dev} {tag opc : Nat} {c : Cmd} (h : d.admin? tag opc = some c) :
    d.cmd? 0 tag = some c ∧ c.qid = 0 ∧ c.e.tag = tag ∧ c.e.opc = opc := by
  unfold Dev.admin? at h
  cases hc : d.cmd? 0 tag with
  | none => simp [hc] at h
  | some x =>
    simp only [hc] at h
    split at h
    · next hopc =>
      cases h
      exact ⟨rfl, (Dev.cmd?_key hc).1, (Dev.cmd?_key hc).2, hopc⟩
    · cases h

/-- An admin command that ends in its own completion. -/
theorem completed_admin {s : State} {g : Dev → Dev} {d : Dev} {c : Cmd} {t tag opc status count ev : Nat}
    (hadmin : s.dev.admin? tag opc = some c) (hsome : (s.dev.pair? 0).isSome = true) (hg : g s.dev = d.complete t c status count ev)
    (hpair : d.pair? 0 = s.dev.pair? 0) : Completed 0 tag status count s (s.onDev g) := by
  obtain ⟨hcmd, hqid, htag, -⟩ := Dev.admin?_key hadmin
  exact completed_of hg hqid htag hpair hsome ⟨c, hcmd, rfl⟩

theorem State.onDev_pair? (s : State) (g : Dev → Dev) (q : Nat) : (s.onDev g).dev.pair? q = (g s.dev).pair? q := by
  simp only [Dev.pair?, State.onDev_clasp]

theorem State.onDev_cmd? (s : State) (g : Dev → Dev) (q tag : Nat) : (s.onDev g).dev.cmd? q tag = (g s.dev).cmd? q tag := by
  simp only [Dev.cmd?, State.onDev_clasp]

theorem State.onDev_chain (s : State) (g : Dev → Dev) (c : Fin 16) : (s.onDev g).dev.chain c = (g s.dev).chain c := by
  simp only [Dev.chain, State.onDev_chains]

end Sys2Proof.Machine
end

section
/-! PROOFS. CHAIN_CREATE, CHAIN_DELETE and CHAIN_REPLACE (O43). -/

namespace Sys2Proof.Machine

/-! ## Repetitions in a list -/

theorem eraseDups_length_le (l : List Nat) : l.eraseDups.length ≤ l.length := by
  induction hn : l.length using Nat.strong_induction_on generalizing l with
  | _ n ih =>
    cases l with
    | nil => simp
    | cons a l =>
      have hfilter := List.length_filter_le (fun b => !b == a) l
      have hrec := ih _ (by rw [← hn]; exact Nat.lt_succ_of_le hfilter) (l.filter fun b => !b == a) rfl
      rw [List.eraseDups_cons, List.length_cons]
      simp only [List.length_cons] at hn
      omega

/-- A list without repetitions is one that loses none. -/
theorem eraseDups_length_eq_iff (l : List Nat) : l.eraseDups.length = l.length ↔ l.Nodup := by
  induction hn : l.length generalizing l with
  | zero => simp [List.length_eq_zero_iff.mp hn]
  | succ n ih =>
    cases l with
    | nil => cases hn
    | cons a l =>
      have hle := eraseDups_length_le (l.filter fun b => !b == a)
      have hfilter := List.length_filter_le (fun b => !b == a) l
      have hln : l.length = n := by simpa using hn
      rw [List.eraseDups_cons, List.length_cons, List.nodup_cons, ← ih l hln]
      constructor
      · intro h
        have hall : (l.filter fun b => !b == a).length = l.length := by omega
        have hsame : (l.filter fun b => !b == a) = l := List.filter_eq_self.mpr (List.length_filter_eq_length_iff.mp hall)
        rw [hsame] at h
        refine ⟨fun hmem => ?_, by omega⟩
        simpa using List.length_filter_eq_length_iff.mp hall a hmem
      · rintro ⟨hmem, h⟩
        have hsame : (l.filter fun b => !b == a) = l :=
          List.filter_eq_self.mpr fun b hb => by simpa using fun e : b = a => hmem (e ▸ hb)
        rw [hsame]
        omega

/-! ## Member bytes -/

/-- The fields of a member byte. -/
def memberFlds (j : Nat) : List Fld := [memStateF j, memSpinF j, memSideF j]

theorem mod_four_cases (j : Nat) : j % 4 = 0 ∨ j % 4 = 1 ∨ j % 4 = 2 ∨ j % 4 = 3 := by omega

theorem memStateF_eq_iff (i j : Nat) : memStateF i = memStateF j ↔ i % 4 = j % 4 := by
  rcases mod_four_cases i with hi | hi | hi | hi <;> rcases mod_four_cases j with hj | hj | hj | hj <;> simp [memStateF, hi, hj]

theorem memSpinF_eq_iff (i j : Nat) : memSpinF i = memSpinF j ↔ i % 4 = j % 4 := by
  rcases mod_four_cases i with hi | hi | hi | hi <;> rcases mod_four_cases j with hj | hj | hj | hj <;> simp [memSpinF, hi, hj]

theorem memSideF_eq_iff (i j : Nat) : memSideF i = memSideF j ↔ i % 4 = j % 4 := by
  rcases mod_four_cases i with hi | hi | hi | hi <;> rcases mod_four_cases j with hj | hj | hj | hj <;> simp [memSideF, hi, hj]

/-- The three fields of member bytes are apart, and have the widths of their register. -/
theorem memberFlds_apart (i j : Nat) : memStateF i ≠ memSpinF j ∧ memStateF i ≠ memSideF j ∧ memSpinF i ≠ memSideF j := by
  rcases mod_four_cases i with hi | hi | hi | hi <;> rcases mod_four_cases j with hj | hj | hj | hj <;>
    simp [memStateF, memSpinF, memSideF, hi, hj]

theorem memberFlds_width (j : Nat) :
    (memStateF j).info.width = 2 ∧ (memSpinF j).info.width = 5 ∧ (memSideF j).info.width = 1 ∧ memStateF j ≠ .MSIX_PBA_BITS
      ∧ memSpinF j ≠ .MSIX_PBA_BITS ∧ memSideF j ≠ .MSIX_PBA_BITS := by
  rcases mod_four_cases j with hj | hj | hj | hj <;> simp [memStateF, memSpinF, memSideF, hj, Fld.info]

/-- What a member byte shows after a member byte of the same chain has been set. -/
theorem Dev.memState_setMember (d : Dev) (c i j state surf : Nat) :
    (d.setMember c i state surf).memState c j = if j = i then state % 4 else d.memState c j := by
  unfold Dev.memState Dev.setMember
  obtain ⟨hspin, hside, -⟩ := memberFlds_apart j i
  rw [getF_setF_ne _ _ (by simp [hside]), getF_setF_ne _ _ (by simp [hspin]), getF_setF_if, (memberFlds_width i).1]
  have hkey : (memStateF j = memStateF i ∧ 4 * c + j / 4 = 4 * c + i / 4) ↔ j = i := by rw [memStateF_eq_iff]; omega
  simp only [hkey]
  rfl

theorem Dev.memSurf_val (d : Dev) (c j : Nat) :
    (d.memSurf c j).val = (2 * getF d (memSpinF j) (4 * c + j / 4) + getF d (memSideF j) (4 * c + j / 4)) % 64 := rfl

theorem Dev.memSurf_setMember (d : Dev) (c i j state : Nat) {surf : Nat} (hsurf : surf < 64) :
    ((d.setMember c i state surf).memSurf c j).val = if j = i then surf else (d.memSurf c j).val := by
  rw [Dev.memSurf_val, Dev.memSurf_val]
  unfold Dev.setMember
  obtain ⟨-, -, hside⟩ := memberFlds_apart j i
  obtain ⟨hspinOther, hsideOther, -⟩ := memberFlds_apart i j
  have hcross : memSideF j ≠ memSpinF i := fun e => (memberFlds_apart i j).2.2 e.symm
  have hspinKey : (memSpinF j = memSpinF i ∧ 4 * c + j / 4 = 4 * c + i / 4) ↔ j = i := by rw [memSpinF_eq_iff]; omega
  have hsideKey : (memSideF j = memSideF i ∧ 4 * c + j / 4 = 4 * c + i / 4) ↔ j = i := by rw [memSideF_eq_iff]; omega
  obtain ⟨-, hwspin, hwside, -⟩ := memberFlds_width i
  rw [getF_setF_ne (f := memSpinF j) _ _ (by simp [hside]), getF_setF_if (f := memSpinF j), getF_setF_ne (f := memSpinF j) _ _ (by simp [Ne.symm hspinOther]),
    getF_setF_if (f := memSideF j), getF_setF_ne (f := memSideF j) _ _ (by simp [hcross]), getF_setF_ne (f := memSideF j) _ _ (by simp [Ne.symm hsideOther]),
    hwspin, hwside]
  simp only [hspinKey, hsideKey]
  by_cases hj : j = i
  · simp only [hj, if_true]
    omega
  · simp only [hj, if_false]

theorem Dev.memSurf_modChain (d : Dev) (x : Fin 16) (f : Chain → Chain) (c j : Nat) : (d.modChain x f).memSurf c j = d.memSurf c j := rfl

theorem Dev.memState_modChain (d : Dev) (x : Fin 16) (f : Chain → Chain) (c j : Nat) : (d.modChain x f).memState c j = d.memState c j := rfl

/-- Setting the member bytes of a chain, each to its own values. -/
def Dev.seat (d : Dev) (c : Nat) (state surf : Nat → Nat) : Dev :=
  (List.range 16).foldl (fun d j => d.setMember c j (state j) (surf j)) d

theorem Dev.seat_member (d : Dev) (c : Nat) {state surf : Nat → Nat} (hsurf : ∀ j, surf j < 64) {j : Nat} (hj : j < 16) :
    (d.seat c state surf).memState c j = state j % 4 ∧ ((d.seat c state surf).memSurf c j).val = surf j := by
  have hfold : ∀ (l : List Nat) (d : Dev), (j ∈ l ∨ d.memState c j = state j % 4 ∧ (d.memSurf c j).val = surf j) →
      (l.foldl (fun d j => d.setMember c j (state j) (surf j)) d).memState c j = state j % 4
        ∧ ((l.foldl (fun d j => d.setMember c j (state j) (surf j)) d).memSurf c j).val = surf j := by
    intro l
    induction l with
    | nil => exact fun d h => by simpa using h
    | cons i l ih =>
      intro d h
      refine ih _ ?_
      by_cases hi : j = i
      · right
        rw [Dev.memState_setMember, Dev.memSurf_setMember _ _ _ _ _ (hsurf i), if_pos hi, if_pos hi, hi]
        exact ⟨rfl, rfl⟩
      · rcases h with h | h
        · exact Or.inl ((List.mem_cons.mp h).resolve_left hi)
        · right
          rw [Dev.memState_setMember, Dev.memSurf_setMember _ _ _ _ _ (hsurf i), if_neg hi, if_neg hi]
          exact h
  exact hfold _ d (Or.inl (List.mem_range.mpr hj))

/-- The fields of member bytes. -/
def seatRegs : Fld → Nat → Prop := fun f _ => ∃ j, f ∈ memberFlds j

/-- A field that is none of a member byte. -/
theorem not_seatRegs {f : Fld} (h : f.info.reg ≠ .CH_CHAIN_MEM) (i : Nat) : ¬seatRegs f i := by
  rintro ⟨j, hj⟩
  refine h ?_
  rcases mod_four_cases j with e | e | e | e <;> simp [memberFlds, memStateF, memSpinF, memSideF, e] at hj <;>
    rcases hj with rfl | rfl | rfl <;> rfl

theorem Dev.seat_only (d : Dev) (c : Nat) (state surf : Nat → Nat) {P : List Part} : Dev.Only seatRegs P [] [] d (d.seat c state surf) :=
  (Dev.Only.refl d).foldl _ fun j _ _ hd =>
    ((hd.setF ⟨j, by simp [memberFlds]⟩ _).setF ⟨j, by simp [memberFlds]⟩ _).setF ⟨j, by simp [memberFlds]⟩ _

/-! ## The look at every member (R248) -/

/-- The STATE fields of member bytes. -/
def stateRegs : Fld → Nat → Prop := fun f _ => ∃ j, f = memStateF j

theorem Dev.memberCheck_only {R : Fld → Nat → Prop} {P : List Part} {a b : Dev} (h : Dev.Only R P [] [] a b) (hr : ∀ f i, stateRegs f i → R f i)
    (t c j : Nat) : Dev.Only R P [] [] a (b.memberCheck t c j) :=
  Dev.Only.ite (fun _ => (h.setF (hr _ _ ⟨j, rfl⟩) _).event _ _ _ _) fun _ => h

theorem Dev.checkMembers_only (d : Dev) (t : Nat) : Dev.Only stateRegs [] [] [] d (d.checkMembers t) :=
  (Dev.Only.refl d).foldl _ fun _ _ _ hd =>
    Dev.Only.ite (fun _ => hd.foldl _ fun _ _ _ hd => Dev.memberCheck_only hd (fun _ _ h => h) _ _ _) fun _ => hd

/-- An unused member byte stays so. -/
theorem Dev.memberCheck_unused {d : Dev} {c j : Nat} (h : d.memState c j = 3) (t c' j' : Nat) : (d.memberCheck t c' j').memState c j = 3 := by
  unfold Dev.memberCheck
  split
  · next hlost =>
    unfold Dev.memState Dev.setMemState
    rw [Dev.event_getF, getF_setF_ne]
    · exact h
    · rintro ⟨hf, hi⟩
      have hsame : d.memState c' j' = d.memState c j := by unfold Dev.memState; rw [hf, hi]
      omega
  · exact h

theorem Dev.checkMembers_unused {d : Dev} {c j : Nat} (h : d.memState c j = 3) (t : Nat) : (d.checkMembers t).memState c j = 3 := by
  unfold Dev.checkMembers
  refine List.foldlRecOn (motive := fun d : Dev => d.memState c j = 3) _ _ h fun d hd c' _ => ?_
  split
  · exact List.foldlRecOn (motive := fun d : Dev => d.memState c j = 3) _ _ hd fun d hd j' _ => Dev.memberCheck_unused hd t c' j'
  · exact hd

/-- The surface of a member does not depend on its state. -/
theorem Dev.Only.memSurf {R : Fld → Nat → Prop} {P : List Part} {H : List HeadId} {S : List SpinId} {a b : Dev} (h : Dev.Only R P H S a b)
    (hR : ∀ f i, R f i → (∀ j, f ≠ memSpinF j) ∧ ∀ j, f ≠ memSideF j) (c j : Nat) : b.memSurf c j = a.memSurf c j := by
  obtain ⟨-, -, -, -, hspin, hside⟩ := memberFlds_width j
  apply Fin.ext
  rw [Dev.memSurf_val, Dev.memSurf_val, h.registers _ _ (fun hr => (hR _ _ hr).1 j rfl) hspin, h.registers _ _ (fun hr => (hR _ _ hr).2 j rfl) hside]

/-! ## CHAIN_CREATE -/

/-- The registers of a new chain, no member seated. -/
def Dev.chainHeader (d : Dev) (n k m : Nat) : Dev :=
  setF (setF (setF (setF d .CH_CHAIN_W0_VALID n 1) .CH_CHAIN_W0_K n k) .CH_CHAIN_W0_M n m) .CH_CHAIN_W0_DEGRADED n 0

/-- A chain as CHAIN_CREATE makes it: its registers, its members seated and looked at. -/
def Dev.chainMade (d : Dev) (t n k m : Nat) (surfs : List Nat) : Dev :=
  (((d.chainHeader n k m).seat n (fun j => if j < surfs.length then 0 else 3) fun j => surfs.getD j 0).modChain (chainOf n)
    fun _ => {}).checkMembers t

theorem seat_surfs (d : Dev) (n : Nat) (surfs : List Nat) :
    (List.range 16).foldl (fun d j => match surfs[j]? with
        | some s => d.setMember n j 0 s
        | none => d.setMember n j 3 0) d
      = d.seat n (fun j => if j < surfs.length then 0 else 3) fun j => surfs.getD j 0 := by
  unfold Dev.seat
  congr 1
  funext d j
  by_cases hj : j < surfs.length
  · simp [hj]
  · simp [hj]

/-- The surfaces that the host names for a new chain. -/
def hostSurfs (host : List Byte) (len : Nat) : List Nat := ((host.take len).map (·.toNat)).map fun b => b % 64

theorem Dev.chainCreate_inUse {d : Dev} {tag : Nat} {c : Cmd} (t : Nat) (host : List Byte) (hadmin : d.admin? tag 0x10 = some c)
    (hvalid : d.chainValid (bits c.e.arg 3 0) = true) : d.chainCreate t tag host = d.complete t c 0x6006 0 := by
  unfold Dev.chainCreate
  simp only [hadmin, hvalid, if_true]

section Create

variable {d : Dev} {tag : Nat} {c : Cmd} {host : List Byte}

/-- The first three checks of CHAIN_CREATE pass: a free number, a whole buffer, surfaces that are fitted. -/
structure ChainAsked (d : Dev) (tag : Nat) (c : Cmd) (host : List Byte) : Prop where
  admin : d.admin? tag 0x10 = some c
  free : d.chainValid (bits c.e.arg 3 0) = false
  whole : host.length = c.e.len
  inRange : ∀ b ∈ host, b.toNat < 64
  fitted : ∀ b ∈ host, d.surfFitted ⟨b.toNat % 64, by omega⟩ = true

theorem hostSurfs_spins (hrange : ∀ b ∈ host, b.toNat < 64) : (hostSurfs host host.length).map (· / 2) = host.map fun b => b.toNat / 2 := by
  simp only [hostSurfs, List.take_length, List.map_map]
  refine List.map_congr_left fun b hb => ?_
  simp [Nat.mod_eq_of_lt (hrange b hb)]

/-- CHAIN_CREATE once those checks pass: the definition is judged by R231. -/
theorem Dev.chainCreate_judged (h : ChainAsked d tag c host) (t : Nat) :
    d.chainCreate t tag host
      = if bits c.e.arg 7 4 = 0 ∨ bits c.e.arg 9 8 = 0 ∨ bits c.e.arg 9 8 = 3 ∨ 16 < bits c.e.arg 7 4 + bits c.e.arg 9 8
          ∨ c.e.len ≠ bits c.e.arg 7 4 + bits c.e.arg 9 8 ∨ ¬(host.map fun b => b.toNat / 2).Nodup
          ∨ (∃ b ∈ host, d.memberOk ⟨b.toNat % 64, by omega⟩ = false)
        then d.complete t c 0x100D 0
        else (d.chainMade t (bits c.e.arg 3 0) (bits c.e.arg 7 4) (bits c.e.arg 9 8) (hostSurfs host c.e.len)).complete t c 0 0 := by
  have hshort : ¬((host.take c.e.len).map (·.toNat)).length < c.e.len := by simp [h.whole]
  have hfit : ¬(((host.take c.e.len).map (·.toNat)).map fun b => b % 64).any
      (fun s => decide (s < 64) && !d.surfFitted ⟨s % 64, by omega⟩) = true := by
    simp only [← h.whole, List.take_length, List.any_map, List.any_eq_true, not_exists, not_and]
    intro b hb
    simp [h.fitted b hb]
  have hbig : ((host.take c.e.len).map (·.toNat)).any (decide <| 64 ≤ ·) = false := by
    simp only [← h.whole, List.take_length, List.any_map, List.any_eq_false]
    intro b hb
    simpa using h.inRange b hb
  have hspins : (((host.take c.e.len).map (·.toNat)).map fun b => b % 64).map (· / 2) = host.map fun b => b.toNat / 2 := by
    rw [← hostSurfs_spins h.inRange, h.whole]
    rfl
  have hmember : (((host.take c.e.len).map (·.toNat)).map fun b => b % 64).any (fun s => !d.memberOk ⟨s % 64, by omega⟩) = true
      ↔ ∃ b ∈ host, d.memberOk ⟨b.toNat % 64, by omega⟩ = false := by
    simp [← h.whole]
  unfold Dev.chainCreate
  simp only [h.admin, h.free, if_neg hshort, if_neg hfit, hbig, hspins, hmember, ne_eq, eraseDups_length_eq_iff, Bool.false_eq_true,
    if_false, false_or]
  split
  · rfl
  · unfold Dev.chainMade Dev.chainHeader hostSurfs
    rw [← seat_surfs] <;> rfl

end Create

/-- A field outside the member bytes is as the header has set it. -/
theorem Dev.chainMade_getF (d : Dev) (t n k m : Nat) (surfs : List Nat) {f : Fld} (hf : f.info.reg ≠ .CH_CHAIN_MEM) (hpba : f ≠ .MSIX_PBA_BITS) (i : Nat) :
    getF (d.chainMade t n k m surfs) f i = getF (d.chainHeader n k m) f i := by
  have hseat : ¬seatRegs f i := not_seatRegs hf i
  have hstate : ¬stateRegs f i := fun ⟨j, hj⟩ => hseat ⟨j, by simp [memberFlds, hj]⟩
  unfold Dev.chainMade
  rw [(Dev.checkMembers_only _ t).registers f i hstate hpba, Dev.modChain_getF,
    (Dev.seat_only (P := []) _ _ _ _).registers f i hseat hpba]

theorem Dev.chainMade_clasp (d : Dev) (t n k m : Nat) (surfs : List Nat) : (d.chainMade t n k m surfs).clasp = d.clasp := by
  have hcheck := fun d : Dev => (d.checkMembers_only t).others .clasp (by simp)
  have hseat := fun (d : Dev) (st sf : Nat → Nat) => (d.seat_only n st sf (P := [])).others .clasp (by simp)
  unfold Dev.chainMade
  rw [hcheck, Dev.modChain_clasp, hseat]
  simp only [Dev.chainHeader, Dev.setF_clasp]

/-- The members of a chain that has been made: those named, and no further one. -/
theorem Dev.chainMade_members (d : Dev) (t n k m : Nat) {surfs : List Nat} (hsurfs : ∀ x ∈ surfs, x < 64) :
    (∀ j x, j < 16 → surfs[j]? = some x → ((d.chainMade t n k m surfs).memSurf n j).val = x)
      ∧ ∀ j, surfs.length ≤ j → j < 16 → (d.chainMade t n k m surfs).memState n j = 3 := by
  have hlt : ∀ j, surfs.getD j 0 < 64 := fun j => by
    by_cases hj : j < surfs.length
    · rw [List.getD_eq_getElem _ _ hj]
      exact hsurfs _ (List.getElem_mem hj)
    · rw [List.getD_eq_default _ _ (by omega)]
      omega
  refine ⟨fun j x hj hx => ?_, fun j hlen hj => ?_⟩
  · have hstates : ∀ f i, stateRegs f i → (∀ j, f ≠ memSpinF j) ∧ ∀ j, f ≠ memSideF j := by
      rintro f i ⟨y, rfl⟩
      exact ⟨fun j => (memberFlds_apart y j).1, fun j => (memberFlds_apart y j).2.1⟩
    unfold Dev.chainMade
    rw [(Dev.checkMembers_only _ t).memSurf hstates, Dev.memSurf_modChain, (Dev.seat_member _ n hlt hj).2, List.getD_eq_getElem?_getD, hx]
    rfl
  · unfold Dev.chainMade
    refine Dev.checkMembers_unused ?_ t
    rw [Dev.memState_modChain, (Dev.seat_member _ n hlt hj).1, if_neg (by omega)]

/-- A field of a chain as a completed command leaves it. -/
theorem chain_field_of {s : State} {g : Dev → Dev} {d : Dev} {t status count : Nat} {c : Cmd} (hg : g s.dev = d.complete t c status count)
    {f : Fld} (i : Nat) (hlost : f ≠ .CL_LOG_STAT_LOST) (hfence : f ≠ .CL_QFENCE_FENCE) (hrdy : f ≠ .CL_STAT_RDY) (hpba : f ≠ .MSIX_PBA_BITS) :
    getF (s.onDev g).dev f i = getF d f i := by
  rw [State.onDev_getF _ _ _ _ hpba, hg, Dev.complete_getF _ _ _ _ _ _ _ hlost hfence hrdy hpba]

/-- The member bytes of a chain as a completed command leaves them. -/
theorem chain_member_of {s : State} {g : Dev → Dev} {d : Dev} {t status count : Nat} {c : Cmd} (hg : g s.dev = d.complete t c status count)
    (n j : Nat) : (s.onDev g).dev.memState n j = d.memState n j ∧ ((s.onDev g).dev.memSurf n j).val = (d.memSurf n j).val := by
  have hfield : ∀ f ∈ memberFlds j, getF (s.onDev g).dev f (4 * n + j / 4) = getF d f (4 * n + j / 4) := by
    intro f hf
    rcases mod_four_cases j with e | e | e | e <;> simp [memberFlds, memStateF, memSpinF, memSideF, e] at hf <;>
      rcases hf with rfl | rfl | rfl <;> exact chain_field_of hg _ (by decide) (by decide) (by decide) (by decide)
  rw [Dev.memSurf_val, Dev.memSurf_val, hfield (memSpinF j) (by simp [memberFlds]), hfield (memSideF j) (by simp [memberFlds])]
  exact ⟨hfield (memStateF j) (by simp [memberFlds]), rfl⟩

theorem bits_lt (x hi lo : Nat) : bits x hi lo < 2 ^ (hi + 1 - lo) := Nat.mod_lt _ (by positivity)

theorem chainOf_val {n : Nat} (h : n < 16) : (chainOf n).val = n := Nat.mod_eq_of_lt h

/-! ## CHAIN_DELETE and CHAIN_REPLACE -/

/-- A chain's registers and members as CHAIN_DELETE leaves them. -/
def Dev.chainCleared (d : Dev) (n : Nat) : Dev :=
  (([Fld.CH_CHAIN_W0_VALID, .CH_CHAIN_W0_K, .CH_CHAIN_W0_M, .CH_CHAIN_W0_DEGRADED, .CH_CHAIN_W5_REB_MEMBER,
    .CH_CHAIN_W5_REB_NEXT].foldl (fun d f => resetF d f n) d).seat n (fun _ => 0) fun _ => 0).modChain (chainOf n) fun _ => {}

theorem Dev.chainDelete_free {d : Dev} {tag : Nat} {c : Cmd} (t : Nat) (hadmin : d.admin? tag 0x11 = some c)
    (hvalid : d.chainValid (bits c.e.arg 3 0) = true) (hbusy : d.chainBusy (bits c.e.arg 3 0) = false)
    (hvols : ∀ v ∈ d.clasp.volumes, v.chain? ≠ some (bits c.e.arg 3 0)) :
    d.chainDelete t tag = (d.chainCleared (bits c.e.arg 3 0)).complete t c 0 0 := by
  have hnone : d.clasp.volumes.any (fun v => v.chain? == some (bits c.e.arg 3 0)) = false := by
    simpa [List.any_eq_false] using hvols
  unfold Dev.chainDelete
  simp only [hadmin, hvalid, hbusy, hnone, Bool.not_true, Bool.false_eq_true, or_self, if_false]
  rfl

theorem Dev.chainDelete_none {d : Dev} {tag : Nat} {c : Cmd} (t : Nat) (hadmin : d.admin? tag 0x11 = some c)
    (hvalid : d.chainValid (bits c.e.arg 3 0) = false) : d.chainDelete t tag = d.complete t c 0x1002 0 := by
  unfold Dev.chainDelete
  simp only [hadmin, hvalid, Bool.not_false, if_true]

theorem Dev.chainCleared_valid (d : Dev) (n : Nat) : getF (d.chainCleared n) .CH_CHAIN_W0_VALID n = 0 := by
  unfold Dev.chainCleared
  rw [Dev.modChain_getF, (Dev.seat_only (P := []) _ _ _ _).registers _ _ (not_seatRegs (by decide) n) (by decide)]
  simp only [List.foldl_cons, List.foldl_nil]
  rw [getF_resetF_ne _ (by simp), getF_resetF_ne _ (by simp), getF_resetF_ne _ (by simp), getF_resetF_ne _ (by simp),
    getF_resetF_ne _ (by simp), getF_resetF]
  rfl

theorem Dev.chainCleared_clasp (d : Dev) (n : Nat) : (d.chainCleared n).clasp = d.clasp := by
  have hseat := fun d : Dev => (d.seat_only n (fun _ => 0) (fun _ => 0) (P := [])).others .clasp (by simp)
  unfold Dev.chainCleared
  rw [Dev.modChain_clasp, hseat]
  rfl

/-- A chain with a new surface in a member's place, to be rebuilt from row 0. -/
def Dev.memberReplaced (d : Dev) (n j x : Nat) : Dev :=
  setF (setF ((d.setMember n j 2 x).modChain (chainOf n) fun x => { x with
    rebuilding := some j, rebuilds := x.rebuilds.filter fun b => b.resync.isNone }) .CH_CHAIN_W5_REB_MEMBER n j) .CH_CHAIN_W5_REB_NEXT n 0

theorem Dev.chainReplace_ok {d : Dev} {tag n j x : Nat} {c : Cmd} (t : Nat) (hadmin : d.admin? tag 0x12 = some c)
    (hn : n = bits c.e.arg 3 0) (hj : j = bits c.e.arg 7 4) (hx : x = bits c.e.arg 13 8)
    (hvalid : d.chainValid n = true) (hmember : j < d.chainK n + d.chainM n)
    (hreb : (d.chain (chainOf n)).rebuilding = none ∨ (d.chain (chainOf n)).rebuilding = some j)
    (hfit : d.surfFitted ⟨x % 64, by omega⟩ = true) (hok : d.memberOk ⟨x % 64, by omega⟩ = true)
    (hspins : ∀ i ∈ d.members n, i ≠ j → (d.memSurf n i).val / 2 ≠ x / 2) :
    d.chainReplace t tag = (d.memberReplaced n j x).complete t c 0 0 := by
  subst hn hj hx
  have hidle : (d.chain (chainOf (bits c.e.arg 3 0))).rebuilding.any (· != bits c.e.arg 7 4) = false := by
    rcases hreb with h | h <;> simp [h]
  have hapart : ((d.members (bits c.e.arg 3 0)).any fun i =>
      i != bits c.e.arg 7 4 && (d.memSurf (bits c.e.arg 3 0) i).val / 2 == bits c.e.arg 13 8 / 2) = false := by
    simpa [List.any_eq_false] using hspins
  unfold Dev.chainReplace
  simp only [hadmin, hvalid, hidle, hfit, hok, hapart, Bool.not_true, Bool.false_eq_true, false_or, or_self, if_false,
    if_neg (Nat.not_le.mpr hmember)]
  rfl

theorem Dev.memberReplaced_spec (d : Dev) {n j x : Nat} (hj : j < 16) (hx : x < 64) :
    (d.memberReplaced n j x).memState n j = 2 ∧ ((d.memberReplaced n j x).memSurf n j).val = x
      ∧ getF (d.memberReplaced n j x) .CH_CHAIN_W5_REB_MEMBER n = j ∧ getF (d.memberReplaced n j x) .CH_CHAIN_W5_REB_NEXT n = 0
      ∧ ((d.memberReplaced n j x).chain (chainOf n)).rebuilding = some j := by
  have hkept : ∀ f ∈ memberFlds j, getF (d.memberReplaced n j x) f (4 * n + j / 4) = getF (d.setMember n j 2 x) f (4 * n + j / 4) := by
    intro f hf
    rcases mod_four_cases j with e | e | e | e <;> simp [memberFlds, memStateF, memSpinF, memSideF, e] at hf <;>
      rcases hf with rfl | rfl | rfl <;>
      (unfold Dev.memberReplaced; rw [getF_setF_ne _ _ (by simp), getF_setF_ne _ _ (by simp), Dev.modChain_getF])
  refine ⟨?_, ?_, ?_, ?_, ?_⟩
  · refine (hkept (memStateF j) (by simp [memberFlds])).trans ?_
    have h := d.memState_setMember n j j 2 x
    rwa [if_pos rfl] at h
  · rw [Dev.memSurf_val, hkept (memSpinF j) (by simp [memberFlds]), hkept (memSideF j) (by simp [memberFlds]), ← Dev.memSurf_val,
      Dev.memSurf_setMember _ _ _ _ _ hx, if_pos rfl]
  · unfold Dev.memberReplaced
    rw [getF_setF_ne _ _ (by simp), getF_setF]
    exact Nat.mod_eq_of_lt hj
  · exact getF_setF _ _ _ _
  · unfold Dev.memberReplaced
    rw [Dev.setF_chain, Dev.setF_chain, Dev.chain_modChain]

/-- Settles O43, by the case of each admin command and of what refuses it. -/
theorem chainDefinitions : Obligations.ChainDefinitions := by
  unfold Obligations.ChainDefinitions
  refine ⟨?_, ?_, ?_, ?_, ?_, ?_⟩
  · intro tag n k m c host s hadmin hpair hn hk hm hfree hk0 hm12 hsum hlen hhost hrange hnodup hready
    subst hn hk hm
    have hasked : ChainAsked s.dev tag c host := ⟨hadmin, hfree, hhost.trans hlen.symm, hrange, fun b hb => (hready b hb).1⟩
    have hmade : s.dev.chainCreate s.dtime tag host
        = (s.dev.chainMade s.dtime (bits c.e.arg 3 0) (bits c.e.arg 7 4) (bits c.e.arg 9 8) (hostSurfs host c.e.len)).complete s.dtime c 0 0 := by
      rw [Dev.chainCreate_judged hasked, if_neg]
      rintro (h | h | h | h | h | h | ⟨b, hb, h⟩)
      · omega
      · omega
      · omega
      · omega
      · exact h hlen
      · exact h hnodup
      · simp [(hready b hb).2] at h
    have hsurfs : hostSurfs host c.e.len = host.map fun b => b.toNat % 64 := by
      simp [hostSurfs, ← hlen ▸ hhost]
    obtain ⟨hsurf, hunused⟩ := s.dev.chainMade_members s.dtime (bits c.e.arg 3 0) (bits c.e.arg 7 4) (bits c.e.arg 9 8)
      (surfs := hostSurfs host c.e.len) (by simp [hsurfs]; omega)
    have hbits := And.intro (bits_lt c.e.arg 7 4) (bits_lt c.e.arg 9 8)
    refine ⟨_, rfl, ?_, ?_, ?_, fun j b hb => ?_, fun j hlo hhi => ?_, ?_, completed_admin hadmin hpair hmade ?_⟩
    · simp only [Dev.chainValid, getB]
      rw [chain_field_of hmade _ (by decide) (by decide) (by decide) (by decide), Dev.chainMade_getF _ _ _ _ _ _ (by decide) (by decide)]
      unfold Dev.chainHeader
      rw [getF_setF_ne _ _ (by simp), getF_setF_ne _ _ (by simp), getF_setF_ne _ _ (by simp), getF_setF]
      rfl
    · simp only [Dev.chainK]
      rw [chain_field_of hmade _ (by decide) (by decide) (by decide) (by decide), Dev.chainMade_getF _ _ _ _ _ _ (by decide) (by decide)]
      unfold Dev.chainHeader
      rw [getF_setF_ne _ _ (by simp), getF_setF_ne _ _ (by simp), getF_setF]
      exact Nat.mod_eq_of_lt hbits.1
    · simp only [Dev.chainM]
      rw [chain_field_of hmade _ (by decide) (by decide) (by decide) (by decide), Dev.chainMade_getF _ _ _ _ _ _ (by decide) (by decide)]
      unfold Dev.chainHeader
      rw [getF_setF_ne _ _ (by simp), getF_setF]
      exact Nat.mod_eq_of_lt hbits.2
    · have hj : j < host.length := (List.getElem?_eq_some_iff.mp hb).1
      rw [(chain_member_of hmade _ j).2, hsurf j (b.toNat % 64) (by omega) (by simp [hsurfs, hb])]
      exact Nat.mod_eq_of_lt (hrange b (List.mem_of_getElem? hb))
    · rw [(chain_member_of hmade _ j).1]
      exact hunused j (by simp [hsurfs]; omega) hhi
    · rw [chain_field_of hmade _ (by decide) (by decide) (by decide) (by decide), Dev.chainMade_getF _ _ _ _ _ _ (by decide) (by decide)]
      unfold Dev.chainHeader
      rw [getF_setF]
      rfl
    · simp only [Dev.pair?, Dev.chainMade_clasp]
  · intro tag c host s hadmin hpair hvalid
    exact ⟨_, rfl, completed_admin hadmin hpair (Dev.chainCreate_inUse _ host hadmin hvalid) rfl⟩
  · intro tag c host s hadmin hpair hfree hlen hrange hfit hdup
    refine ⟨_, rfl, completed_admin hadmin hpair (d := s.dev) (c := c) (t := s.dtime) (ev := 0) ?_ rfl⟩
    rw [Dev.chainCreate_judged ⟨hadmin, hfree, hlen, hrange, hfit⟩, if_pos]
    simp [hdup]
  · intro tag n c s hadmin hpair hn hvalid hbusy hvols
    subst hn
    have hgone := Dev.chainDelete_free s.dtime hadmin hvalid hbusy hvols
    refine ⟨_, rfl, ?_, ?_, completed_admin hadmin hpair hgone ?_⟩
    · simp only [Dev.chainValid, getB]
      rw [chain_field_of hgone _ (by decide) (by decide) (by decide) (by decide), Dev.chainCleared_valid]
      rfl
    · rw [State.onDev_chain, hgone, Dev.complete_chain]
      exact Dev.chain_modChain _ _ _
    · simp only [Dev.pair?, Dev.chainCleared_clasp]
  · intro tag c s hadmin hpair hvalid
    exact ⟨_, rfl, completed_admin hadmin hpair (Dev.chainDelete_none _ hadmin hvalid) rfl⟩
  · intro tag n j x c s hadmin hpair hn hj hx hvalid hmember hreb hfit hok hspins
    have hdone := Dev.chainReplace_ok s.dtime hadmin hn hj hx hvalid hmember hreb hfit hok hspins
    obtain ⟨hstate, hsurf, hshown, hnext, hrebuilding⟩ := s.dev.memberReplaced_spec (n := n) (j := j) (x := x)
      (hj ▸ bits_lt c.e.arg 7 4) (hx ▸ bits_lt c.e.arg 13 8)
    refine ⟨_, rfl, ?_, ?_, ?_, ?_, ?_, completed_admin hadmin hpair hdone rfl⟩
    · rw [(chain_member_of hdone n j).1, hstate]
    · rw [(chain_member_of hdone n j).2, hsurf]
    · rw [chain_field_of hdone _ (by decide) (by decide) (by decide) (by decide), hshown]
    · rw [chain_field_of hdone _ (by decide) (by decide) (by decide) (by decide), hnext]
    · rw [State.onDev_chain, hdone, Dev.complete_chain, hrebuilding]

end Sys2Proof.Machine
end

section
/-! PROOFS. EN, the queue pairs, QUEUE_RESTART and fences (O45). -/

namespace Sys2Proof.Machine

/-! ## The end of EN = 0 -/

/-- The reset of a field for each pair: its reset value for the pairs of the list. -/
theorem getF_foldl_resetF (f : Fld) {l : List QueuePair} {p : QueuePair} (hp : p ∈ l) (d : Dev) :
    getF (l.foldl (fun d p => resetF d f p.qid) d) f p.qid = f.resetVal p.qid := by
  have hfold : ∀ (l : List QueuePair) (d : Dev), (p ∈ l ∨ getF d f p.qid = f.resetVal p.qid) →
      getF (l.foldl (fun d p => resetF d f p.qid) d) f p.qid = f.resetVal p.qid := by
    intro l
    induction l with
    | nil => exact fun d h => by simpa using h
    | cons x l ih =>
      intro d h
      refine ih _ ?_
      by_cases hx : p.qid = x.qid
      · right
        rw [hx, getF_resetF]
      · rcases h with h | h
        · exact Or.inl ((List.mem_cons.mp h).resolve_left fun e => hx (e ▸ rfl))
        · right
          rw [getF_resetF_ne _ (by simp [hx]), h]
  exact hfold l d (Or.inl hp)

/-- A fence value of 0 stays 0 through the end of EN = 0. -/
theorem Dev.finishDisable_fence {d : Dev} {q : Nat} (h : getF d .CL_QFENCE_FENCE q = 0) : getF d.finishDisable .CL_QFENCE_FENCE q = 0 := by
  unfold Dev.finishDisable
  split
  · have hfold : getF (d.clasp.queues.foldl (fun d p => resetF d .CL_QFENCE_FENCE p.qid) d) .CL_QFENCE_FENCE q = 0 := by
      refine List.foldlRecOn (motive := fun d : Dev => getF d .CL_QFENCE_FENCE q = 0) _ _ h fun d hd p _ => ?_
      by_cases hp : q = p.qid
      · rw [hp, getF_resetF]
        rfl
      · rw [getF_resetF_ne _ (by simp [hp]), hd]
    rw [getF_setF_ne _ _ (by simp)]
    exact hfold
  · exact h

theorem Dev.finishDisable_pair?_none {d : Dev} {q : Nat} (h : d.pair? q = none) : d.finishDisable.pair? q = none := by
  unfold Dev.finishDisable
  split
  · rfl
  · exact h

/-- With EN = 0 and nothing outstanding, the pairs go and RDY reads 0. -/
theorem Dev.finishDisable_fired {d : Dev} (hdis : d.clasp.disabling = true) (hnone : d.clasp.cmds = []) :
    d.finishDisable.clasp.queues = [] ∧ getF d.finishDisable .CL_STAT_RDY 0 = 0
      ∧ (∀ p ∈ d.clasp.queues, getF d.finishDisable .CL_QFENCE_FENCE p.qid = 0) := by
  unfold Dev.finishDisable
  rw [if_pos (by simp [hdis, hnone])]
  refine ⟨rfl, getF_setF _ _ _ _, fun p hp => ?_⟩
  rw [getF_setF_ne _ _ (by simp), Dev.modClasp_getF, getF_foldl_resetF _ hp]
  rfl

/-- A pair that is not there, and a fence value of 0, stay so when a command of another pair completes. -/
theorem Dev.complete_gone (d : Dev) (t : Nat) (c : Cmd) (status count ev : Nat) {q : Nat} (hq : q ≠ c.qid) :
    (d.pair? q = none → (d.complete t c status count ev).pair? q = none)
      ∧ (getF d .CL_QFENCE_FENCE q = 0 → getF (d.complete t c status count ev) .CL_QFENCE_FENCE q = 0) := by
  obtain ⟨r, l, n, hlog⟩ := d.logged_eq t c status count ev
  have hlogF : getF (d.logged t c status count ev) .CL_QFENCE_FENCE q = getF d .CL_QFENCE_FENCE q := by
    unfold Dev.logged
    split
    · exact (Dev.Only.logCmd (R := fun f _ => f = .CL_LOG_STAT_LOST) (P := [.clasp]) (H := []) (S := []) (Dev.Only.refl d) rfl (by simp) t c status count
        ev).registers _ _ (by simp) (by decide)
    · rfl
  rw [Dev.complete_eq]
  refine ⟨fun h => Dev.finishDisable_pair?_none ?_, fun h => Dev.finishDisable_fence ?_⟩
  · rw [Dev.post_pair? _ _ _ _ _ _ _ _ hq, hlog]
    exact h
  · have hpost := fun (b : Dev) (log : Option Nat) => (Dev.Only.post (R := noRegs) (P := [.clasp, .filigree, .data]) (H := []) (S := [])
      (Dev.Only.refl b) (by simp) t c.qid c.e.tag status count c.sqHead log).registers .CL_QFENCE_FENCE q (by simp [noRegs]) (by decide)
    have hdrop := fun b : Dev => (Dev.Only.dropCmd (R := noRegs) (P := [.clasp, .filigree, .data]) (H := []) (S := [])
      (Dev.Only.refl b) (by simp) (by simp) (by simp) c.qid c.e.tag).registers .CL_QFENCE_FENCE q (by simp [noRegs]) (by decide)
    rw [hpost, hdrop, hlogF, h]

/-! ## Fences -/

namespace Dev.Only

variable {R : Fld → Nat → Prop} {P : List Part} {H : List HeadId} {S : List SpinId} {a b : Dev}

theorem closeObjs (h : Dev.Only R P H S a b) (hclasp : .clasp ∈ P) (q : Nat) : Dev.Only R P H S a (b.closeObjs q) := by
  unfold Dev.closeObjs
  exact h.modClasp hclasp _

theorem freeTail (h : Dev.Only R P H S a b) (hclasp : .clasp ∈ P) (q vol : Nat) : Dev.Only R P H S a (b.freeTail q vol) := h.modClasp hclasp _

theorem leaveRow (h : Dev.Only R P H S a b) (hdata : .data ∈ P) (hchains : .chains ∈ P) (w : WriteJob) :
    Dev.Only R P H S a (b.leaveRow w) := by
  unfold Dev.leaveRow
  split
  · exact h
  · exact (h.modData hdata _).modChain hchains _ _

theorem cutWrite (h : Dev.Only R P allHeads S a b) (hdata : .data ∈ P) (hchains : .chains ∈ P) (hsurf : .surfaces ∈ P) (w : WriteJob) :
    Dev.Only R P allHeads S a (b.cutWrite w) := by
  unfold Dev.cutWrite
  refine ite (fun _ => h) fun _ => ?_
  split
  · exact ((h.leaveRow hdata hchains w).dropWrite hdata _).modSurf hsurf _ _
  · exact (h.stopSpots hdata (List.mem_finRange _) _).modWrite hdata _ _
  · exact h

end Dev.Only

/-- What an abort or a fence does before the command completes: its sectors are cut, and an APPEND's object closes. -/
def Dev.cutBody (d : Dev) (c : Cmd) : Dev :=
  let d := (d.data.writes.filter fun w => w.owner == some (c.qid, c.e.tag)).foldl Dev.cutWrite d
  if c.e.opc = 0x24 then
    match d.ownObj c.qid c.e.volume with
    | some _ => (d.modVolume c.e.volume Volume.voidObj).freeTail c.qid c.e.volume
    | none => d
  else d

theorem Dev.cutCmd_eq (d : Dev) (t : Nat) (c : Cmd) (status : Nat) :
    d.cutCmd t c status = (d.cutBody c).complete t { c with result := none } status (d.committedNow c) := rfl

/-- Cutting the sectors of a command leaves Clasp as it was. -/
theorem Dev.cutWrites_clasp (l : List WriteJob) (d : Dev) : (l.foldl Dev.cutWrite d).clasp = d.clasp :=
  (Dev.Only.foldl (R := noRegs) (P := [.data, .chains, .surfaces]) (H := allHeads) (S := []) (Dev.Only.refl d) l fun w _ _ hd =>
    hd.cutWrite (by simp) (by simp) (by simp) w).others .clasp (by simp)

theorem Dev.cutBody_clasp (d : Dev) (c : Cmd) :
    (d.cutBody c).clasp.queues = d.clasp.queues ∧ (d.cutBody c).clasp.cmds = d.clasp.cmds := by
  unfold Dev.cutBody
  dsimp only
  have hcut := Dev.cutWrites_clasp (d.data.writes.filter fun w => w.owner == some (c.qid, c.e.tag)) d
  split
  · split
    · constructor <;> simp only [Dev.freeTail, Dev.modVolume, Dev.modClasp, hcut]
    · constructor <;> rw [hcut]
  · constructor <;> rw [hcut]

/-- Commands cut one after the other: those that remain had been there, and are none of them. -/
theorem Dev.cmds_foldl_cutCmd {t status : Nat} {x : Cmd} (l : List Cmd) {d : Dev}
    (hx : x ∈ (l.foldl (fun d c => d.cutCmd t c status) d).clasp.cmds) : x ∈ d.clasp.cmds ∧ x ∉ l := by
  induction l generalizing d with
  | nil => exact ⟨hx, List.not_mem_nil⟩
  | cons c l ih =>
    obtain ⟨hin, hnot⟩ := ih hx
    change x ∈ (d.cutCmd t c status).clasp.cmds at hin
    rw [Dev.cutCmd_eq, Dev.complete_cmds, (d.cutBody_clasp c).2] at hin
    obtain ⟨hmem, hkey⟩ := List.mem_filter.mp hin
    refine ⟨hmem, fun h => ?_⟩
    rcases List.mem_cons.mp h with rfl | h
    · simp at hkey
    · exact hnot h

/-- A pair without commands is fenced by its value alone. -/
theorem Dev.fence_idle {d : Dev} {q : Nat} (h : ∀ c ∈ d.clasp.cmds, c.qid ≠ q) (t v : Nat) :
    d.fence t q v = (setF d .CL_QFENCE_FENCE q v).closeObjs q := by
  have hnone : ((setF d .CL_QFENCE_FENCE q v).clasp.cmds.filter fun c => c.qid == q && c.fence != v) = [] := by
    rw [Dev.setF_clasp, List.filter_eq_nil_iff]
    intro c hc
    simp [h c hc]
  unfold Dev.fence
  simp only [hnone, List.foldl_nil]

/-- A fence of a pair with one command under another value. -/
theorem Dev.fence_one {d : Dev} {q v : Nat} {c : Cmd} (h : (d.clasp.cmds.filter fun c => c.qid == q && c.fence != v) = [c]) (t : Nat) :
    d.fence t q v = (((setF d .CL_QFENCE_FENCE q v).cutBody c).complete t { c with result := none } 0x4003 (d.committedNow c)).closeObjs q := by
  unfold Dev.fence
  simp only [Dev.setF_clasp, h, List.foldl_cons, List.foldl_nil, Dev.cutCmd_eq]
  rfl

theorem Dev.qfence_same {d : Dev} {q v : Nat} (t : Nat) (h : getF d .CL_QFENCE_FENCE q = v % 2 ^ 16) : d.qfence t q v = d := by
  unfold Dev.qfence
  rw [if_pos (Or.inr (Or.inr h))]

theorem Dev.qfence_new {d : Dev} {q v : Nat} (t : Nat) (hq : q ≠ 0) (hthere : (d.pair? q).isSome = true)
    (h : getF d .CL_QFENCE_FENCE q ≠ v % 2 ^ 16) : d.qfence t q v = d.fence t q (v % 2 ^ 16) := by
  have hsome : (d.pair? q).isNone = false := by simpa [Option.isSome_iff_ne_none] using hthere
  unfold Dev.qfence
  rw [if_neg]
  rintro (h' | h' | h')
  · exact hq h'
  · simp [hsome] at h'
  · exact h h'

/-- The fence value of a pair raised by 1, as EN = 0 does it (R274). -/
def Dev.raiseFence (t : Nat) (d : Dev) (q : Nat) : Dev := d.fence t q ((getF d .CL_QFENCE_FENCE q + 1) % 2 ^ 16)

/-- Fence values alone. -/
def fenceRegs : Fld → Nat → Prop := fun f _ => f = .CL_QFENCE_FENCE

theorem Dev.raiseFence_idle {d : Dev} {q : Nat} (h : ∀ c ∈ d.clasp.cmds, c.qid ≠ q) (t : Nat) :
    Dev.raiseFence t d q = (setF d .CL_QFENCE_FENCE q ((getF d .CL_QFENCE_FENCE q + 1) % 2 ^ 16)).closeObjs q := Dev.fence_idle h t _

/-- Raising the fence values of pairs that have no command leaves the commands and the pairs. -/
theorem Dev.foldl_raiseFence (t : Nat) (l : List Nat) {d : Dev} (hidle : ∀ q ∈ l, ∀ c ∈ d.clasp.cmds, c.qid ≠ q) :
    Dev.Only fenceRegs [.clasp] [] [] d (l.foldl (Dev.raiseFence t) d) ∧ (l.foldl (Dev.raiseFence t) d).clasp.cmds = d.clasp.cmds
      ∧ (l.foldl (Dev.raiseFence t) d).clasp.queues = d.clasp.queues := by
  induction l generalizing d with
  | nil => exact ⟨Dev.Only.refl d, rfl, rfl⟩
  | cons x l ih =>
    have hraise := Dev.raiseFence_idle (hidle x (by simp)) t
    have hcmds : (Dev.raiseFence t d x).clasp.cmds = d.clasp.cmds := by rw [hraise]; rfl
    have hqueues : (Dev.raiseFence t d x).clasp.queues = d.clasp.queues := by rw [hraise]; rfl
    obtain ⟨honly, hc, hq⟩ := ih (d := Dev.raiseFence t d x) fun q hq => hcmds ▸ hidle q (List.mem_cons_of_mem _ hq)
    refine ⟨?_, hc.trans hcmds, hq.trans hqueues⟩
    refine Dev.Only.trans ?_ honly
    rw [hraise]
    exact ((Dev.Only.refl d).setF rfl _).closeObjs (by simp) _

theorem Dev.fence_foldl_raiseFence (t : Nat) {l : List Nat} (hnd : l.Nodup) {d : Dev} (hidle : ∀ q ∈ l, ∀ c ∈ d.clasp.cmds, c.qid ≠ q) (q : Nat) :
    getF (l.foldl (Dev.raiseFence t) d) .CL_QFENCE_FENCE q
      = if q ∈ l then (getF d .CL_QFENCE_FENCE q + 1) % 2 ^ 16 else getF d .CL_QFENCE_FENCE q := by
  induction l generalizing d with
  | nil => simp
  | cons x l ih =>
    obtain ⟨hx, hnd⟩ := List.nodup_cons.mp hnd
    have hraise := Dev.raiseFence_idle (hidle x (by simp)) t
    have hcmds : (Dev.raiseFence t d x).clasp.cmds = d.clasp.cmds := by rw [hraise]; rfl
    have hone : getF (Dev.raiseFence t d x) .CL_QFENCE_FENCE q
        = if q = x then (getF d .CL_QFENCE_FENCE q + 1) % 2 ^ 16 else getF d .CL_QFENCE_FENCE q := by
      rw [hraise]
      unfold Dev.closeObjs
      rw [Dev.modClasp_getF, getF_setF_if]
      by_cases hqx : q = x
      · simp [hqx, Fld.info]
      · simp [hqx]
    rw [List.foldl_cons, ih hnd fun q hq => hcmds ▸ hidle q (List.mem_cons_of_mem _ hq), hone]
    by_cases hqx : q = x
    · simp [hqx, hx]
    · simp [hqx]

/-! ## EN -/

/-- The admin pair that EN = 1 makes. -/
def Dev.adminPair (d : Dev) : QueuePair :=
  ⟨0, getF d .CL_AQ_SQ_BASE_BASE 0 * 4096, getF d .CL_AQ_CQ_BASE_BASE 0 * 4096, getF d .CL_AQ_SIZE_SIZE 0 + 1, 0, false, 0, 0, 0, 0, 0, 0,
    true, false, [], 0, 0⟩

theorem Dev.clEnable_eq {d : Dev} (hen : getF d .CL_CTL_EN 0 = 0) :
    d.clEnable = if getF d .CL_AQ_SIZE_SIZE 0 = 0 then setB d .CL_CTL_EN 0 true
      else setF ((setB d .CL_CTL_EN 0 true).modClasp fun k =>
        { k with disabling := false, queues := d.adminPair :: k.queues.filter (·.qid != 0) }) .CL_STAT_RDY 0 1 := by
  have hother : ∀ f : Fld, f ≠ .CL_CTL_EN → getF (setB d .CL_CTL_EN 0 true) f 0 = getF d f 0 := fun f hf =>
    getF_setF_ne _ _ (by simp [hf])
  have hoff : getB d .CL_CTL_EN 0 = false := by simp [getB, hen]
  unfold Dev.clEnable
  simp only [hoff, Bool.false_eq_true, if_false, hother .CL_AQ_SIZE_SIZE (by decide), hother .CL_AQ_SQ_BASE_BASE (by decide),
    hother .CL_AQ_CQ_BASE_BASE (by decide)]
  rfl

/-- The I/O pairs of Clasp. -/
def Dev.ioPairs (d : Dev) : List Nat := (d.clasp.queues.filter (·.qid != 0)).map (·.qid)

/-- EN = 0 with the fence values of the I/O pairs raised, before it is judged whether anything is outstanding. -/
def Dev.disabling (d : Dev) (t : Nat) : Dev :=
  (((setB d .CL_CTL_EN 0 false).ioPairs.foldl (Dev.raiseFence t) (setB d .CL_CTL_EN 0 false))).modClasp fun k => { k with disabling := true }

theorem Dev.clDisable_eq {d : Dev} (t : Nat) (hen : getF d .CL_CTL_EN 0 = 1) : d.clDisable t = (d.disabling t).finishDisable := by
  have hon : getB d .CL_CTL_EN 0 = true := by simp [getB, hen]
  unfold Dev.clDisable
  simp only [hon, Bool.not_true, Bool.false_eq_true, if_false]
  rfl

theorem Dev.ioPairs_ne_zero {d : Dev} {q : Nat} (h : q ∈ d.ioPairs) : q ≠ 0 := by
  obtain ⟨p, hp, rfl⟩ := List.mem_map.mp h
  simpa using (List.mem_filter.mp hp).2

section Disabling

variable {d : Dev} (t : Nat) (hidle : ∀ c ∈ d.clasp.cmds, c.qid = 0)
include hidle

theorem Dev.ioPairs_idle : ∀ q ∈ (setB d .CL_CTL_EN 0 false).ioPairs, ∀ c ∈ (setB d .CL_CTL_EN 0 false).clasp.cmds, c.qid ≠ q :=
  fun _ hq c hc e => Dev.ioPairs_ne_zero hq (e ▸ hidle c hc)

/-- While EN = 0 fences pairs that have no command, only their fence values, EN and Clasp change. -/
theorem Dev.disabling_spec :
    Dev.Only (fun f _ => f = .CL_CTL_EN ∨ f = .CL_QFENCE_FENCE) [.clasp] [] [] d (d.disabling t)
      ∧ (d.disabling t).clasp.cmds = d.clasp.cmds ∧ (d.disabling t).clasp.queues = d.clasp.queues
      ∧ getF (d.disabling t) .CL_CTL_EN 0 = 0 := by
  obtain ⟨honly, hcmds, hqueues⟩ := Dev.foldl_raiseFence t _ (Dev.ioPairs_idle hidle)
  unfold Dev.disabling
  refine ⟨?_, hcmds, hqueues, ?_⟩
  · refine Dev.Only.modClasp (Dev.Only.trans ((Dev.Only.refl d).setB (Or.inl rfl) false) (honly.mono (fun f i h => Or.inr h) ?_ ?_ ?_)) ?_ _ <;> simp
  · rw [Dev.modClasp_getF, honly.registers _ _ (by simp [fenceRegs]) (by decide)]
    exact getF_setF _ _ _ _

theorem Dev.disabling_fence (hnd : (d.clasp.queues.map (·.qid)).Nodup) {p : QueuePair} (hp : p ∈ d.clasp.queues) (hq : p.qid ≠ 0) :
    getF (d.disabling t) .CL_QFENCE_FENCE p.qid = (getF d .CL_QFENCE_FENCE p.qid + 1) % 2 ^ 16 := by
  have hmem : p.qid ∈ (setB d .CL_CTL_EN 0 false).ioPairs := List.mem_map.mpr ⟨p, List.mem_filter.mpr ⟨hp, by simpa using hq⟩, rfl⟩
  have hio : (setB d .CL_CTL_EN 0 false).ioPairs.Nodup := hnd.sublist (List.filter_sublist.map _)
  unfold Dev.disabling
  rw [Dev.modClasp_getF, Dev.fence_foldl_raiseFence t hio (Dev.ioPairs_idle hidle), if_pos hmem]
  unfold setB
  rw [getF_setF_ne _ _ (by simp)]

end Disabling

/-! ## Deleting and restarting a pair -/

theorem Dev.removePair_pair? (d : Dev) (q x : Nat) : (d.removePair q).pair? x = if x = q then none else d.pair? x := by
  unfold Dev.removePair Dev.pair? resetF Dev.modClasp
  dsimp only
  rw [List.find?_filter]
  by_cases hx : x = q
  · rw [if_pos hx, List.find?_eq_none]
    intro p _
    simp [hx]
  · rw [if_neg hx]
    congr 1
    funext p
    by_cases hp : p.qid = x <;> simp [hp, hx]

theorem Dev.deleteQueue_gone {d : Dev} {tag : Nat} {c : Cmd} (t : Nat) (hadmin : d.admin? tag 0x02 = some c) (hq : c.e.argQid ≠ 0)
    (hpair : (d.pair? c.e.argQid).isSome = true) (hidle : ∀ x ∈ d.clasp.cmds, x.qid ≠ c.e.argQid) (hobj : ∀ v ∈ d.clasp.volumes, v.obj = none) :
    d.deleteQueue t tag = (d.removePair c.e.argQid).complete t c 0 0 := by
  have hnone : d.outstanding c.e.argQid = 0 := by
    unfold Dev.outstanding
    rw [List.length_eq_zero_iff, List.filter_eq_nil_iff]
    simpa using hidle
  have hown : d.ownsObj c.e.argQid = false := by
    unfold Dev.ownsObj
    rw [List.any_eq_false]
    intro v hv
    simp [hobj v hv]
  have hthere : (d.pair? c.e.argQid).isNone = false := by simpa [Option.isSome_iff_ne_none] using hpair
  unfold Dev.deleteQueue
  simp only [hadmin, hq, hthere, hnone, hown, Bool.false_eq_true, ne_eq, not_true_eq_false, or_self, if_false]

theorem Dev.deleteQueue_busy {d : Dev} {tag : Nat} {c : Cmd} (t : Nat) (hadmin : d.admin? tag 0x02 = some c) (hq : c.e.argQid ≠ 0)
    (hpair : (d.pair? c.e.argQid).isSome = true) (hbusy : ∃ x ∈ d.clasp.cmds, x.qid = c.e.argQid) :
    d.deleteQueue t tag = d.complete t c 0x1008 0 := by
  have hsome : d.outstanding c.e.argQid ≠ 0 := by
    unfold Dev.outstanding
    rw [Ne, List.length_eq_zero_iff, List.filter_eq_nil_iff]
    simpa using hbusy
  have hthere : (d.pair? c.e.argQid).isNone = false := by simpa [Option.isSome_iff_ne_none] using hpair
  unfold Dev.deleteQueue
  simp only [hadmin, hq, hthere, hsome, Bool.false_eq_true, or_self, if_false, ne_eq, not_false_eq_true, true_or, if_true]

theorem Dev.deleteQueue_none {d : Dev} {tag : Nat} {c : Cmd} (t : Nat) (hadmin : d.admin? tag 0x02 = some c)
    (h : c.e.argQid = 0 ∨ d.pair? c.e.argQid = none) : d.deleteQueue t tag = d.complete t c 0x1002 0 := by
  unfold Dev.deleteQueue
  simp only [hadmin]
  rw [if_pos (by rcases h with h | h <;> simp [h])]

/-- A frozen pair as QUEUE_RESTART leaves it; with DISCARD its head goes to its tail and its object closes. -/
def Dev.restarted (d : Dev) (q : Nat) (discard : Bool) : Dev :=
  (if discard then (d.modPair q fun x => { x with sqHead := x.sqTail }).closeObjs q else d).modPair q fun x => { x with frozen := false }

theorem Dev.queueRestart_frozen {d : Dev} {tag : Nat} {c : Cmd} {p : QueuePair} (t : Nat) (hadmin : d.admin? tag 0x03 = some c)
    (hq : c.e.argQid ≠ 0) (hpair : d.pair? c.e.argQid = some p) (hfrozen : p.frozen = true) :
    d.queueRestart t tag = (d.restarted c.e.argQid (bit c.e.arg 0)).complete t c 0 0 := by
  unfold Dev.queueRestart
  simp only [hadmin, hpair, hq, hfrozen, Bool.not_true, Bool.false_eq_true, or_self, if_false]
  rfl

theorem Dev.queueRestart_running {d : Dev} {tag : Nat} {c : Cmd} {p : QueuePair} (t : Nat) (hadmin : d.admin? tag 0x03 = some c)
    (hpair : d.pair? c.e.argQid = some p) (hrun : p.frozen = false) : d.queueRestart t tag = d.complete t c 0x1002 0 := by
  unfold Dev.queueRestart
  simp only [hadmin, hpair, hrun, Bool.not_false, or_true, if_true]

theorem Dev.closeObjs_pair? (d : Dev) (q x : Nat) : (d.closeObjs q).pair? x = d.pair? x := rfl

theorem Dev.restarted_pair? (d : Dev) (q : Nat) (discard : Bool) (x : Nat) :
    (d.restarted q discard).pair? x
      = if x = q then (d.pair? x).map fun p => { p with frozen := false, sqHead := if discard then p.sqTail else p.sqHead } else d.pair? x := by
  unfold Dev.restarted
  rw [Dev.pair?_modPair _ _ _ _ (by intro p; rfl)]
  cases discard with
  | false => rfl
  | true =>
    simp only [if_true, Dev.closeObjs_pair?]
    rw [Dev.pair?_modPair _ _ _ _ (by intro p; rfl)]
    by_cases hx : x = q
    · simp only [if_pos hx, Option.map_map]
      rfl
    · simp only [if_neg hx]

theorem Dev.restarted_disabling (d : Dev) (q : Nat) (discard : Bool) : (d.restarted q discard).clasp.disabling = d.clasp.disabling := by
  cases discard <;> rfl

/-! ## CREATE_QUEUE -/

/-- The pair that the ARG of a CREATE_QUEUE describes. -/
def Cmd.newPair (c : Cmd) : QueuePair :=
  ⟨c.e.argQid, c.e.dptr, c.e.xptr, bits c.e.arg 53 42 + 1, bits c.e.arg 41 31, bit c.e.arg 30, bits c.e.arg 29 22, bits c.e.arg 21 14,
    0, 0, 0, 0, true, false, [], 0, 0⟩

/-- The device with that pair. -/
def Dev.pairMade (d : Dev) (c : Cmd) : Dev :=
  resetF (d.modClasp fun k => { k with queues := k.queues ++ [c.newPair] }) .CL_QFENCE_FENCE c.e.argQid

theorem Dev.createQueue_eq {d : Dev} {tag : Nat} {c : Cmd} (t : Nat) (hadmin : d.admin? tag 0x01 = some c) :
    d.createQueue t tag = if (d.pair? c.e.argQid).isSome then d.complete t c 0x6006 0 else (d.pairMade c).complete t c 0 0 := by
  unfold Dev.createQueue
  simp only [hadmin]
  rfl

theorem Dev.pairMade_pair? (d : Dev) (c : Cmd) (x : Nat) :
    (d.pairMade c).pair? x = (d.pair? x).or (if c.e.argQid = x then some c.newPair else none) := by
  unfold Dev.pairMade Dev.pair? resetF Dev.modClasp
  dsimp only
  rw [List.find?_append]
  congr 1
  by_cases hx : c.e.argQid = x <;> simp [Cmd.newPair, hx]

/-- Settles O45, by the case of each request and of what refuses it. -/
theorem queueAdministration : Obligations.QueueAdministration := by
  unfold Obligations.QueueAdministration
  refine ⟨?_, ?_, ?_, ?_, ?_, ?_, ?_⟩
  · intro s hen
    have heq := Dev.clEnable_eq hen
    refine ⟨fun hsize => ?_, fun hsize => ?_⟩
    · rw [if_neg hsize] at heq
      refine ⟨_, rfl, ?_, ?_, ?_, Dev.Only.frame ?_⟩
      · rw [State.onDev_getF _ _ _ _ (by decide), heq, getF_setF_ne _ _ (by simp), Dev.modClasp_getF]
        exact getF_setF _ _ _ _
      · rw [State.onDev_getF _ _ _ _ (by decide), heq]
        exact getF_setF _ _ _ _
      · rw [State.onDev_pair?, heq]
        rfl
      · rw [heq]
        exact (((Dev.Only.refl _).setB (by simp [theRegs]) _).modClasp (by simp) _).setF (by simp [theRegs]) _
    · rw [if_pos hsize] at heq
      refine ⟨_, rfl, ?_, Dev.Only.frame ?_⟩
      · rw [State.onDev_getF _ _ _ _ (by decide), heq]
        exact getF_setF _ _ _ _
      · rw [heq]
        exact (Dev.Only.refl _).setB (by simp [theRegs]) _
  · intro s hen hnone
    have heq := Dev.clDisable_eq s.dtime hen
    obtain ⟨honly, hcmds, hqueues, hoff⟩ := Dev.disabling_spec (d := s.dev) s.dtime (by simp [hnone])
    obtain ⟨hgone, hrdy, hfence⟩ := Dev.finishDisable_fired (d := s.dev.disabling s.dtime) rfl (hcmds.trans hnone)
    have hall : Dev.Only (fun f _ => f = .CL_CTL_EN ∨ f = .CL_STAT_RDY ∨ f = .CL_QFENCE_FENCE) [.clasp] [] [] s.dev (s.dev.clDisable s.dtime) := by
      rw [heq]
      refine Dev.Only.finishDisable (honly.mono (fun f i h => ?_) (by simp) (by simp) (by simp)) (by simp) (by simp) (by simp)
      rcases h with h | h <;> simp [h]
    refine ⟨_, rfl, ?_, ?_, ?_, fun p hp => ?_, Dev.Only.frame hall⟩
    · have hend : Dev.Only (fun f _ => f = .CL_QFENCE_FENCE ∨ f = .CL_STAT_RDY) [.clasp] [] [] (s.dev.disabling s.dtime)
          (s.dev.disabling s.dtime).finishDisable := (Dev.Only.refl _).finishDisable (by simp) (by simp) (by simp)
      rw [State.onDev_getF _ _ _ _ (by decide), heq, hend.registers _ _ (by simp) (by decide), hoff]
    · rw [State.onDev_getF _ _ _ _ (by decide), heq, hrdy]
    · rw [State.onDev_clasp, heq, hgone]
    · rw [State.onDev_getF _ _ _ _ (by decide), heq, hfence p (by rwa [hqueues])]
  · intro s hen hsome hidle hnd
    obtain ⟨honly, hcmds, hqueues, hoff⟩ := Dev.disabling_spec s.dtime hidle
    have heq : s.dev.clDisable s.dtime = s.dev.disabling s.dtime := by
      rw [Dev.clDisable_eq s.dtime hen, Dev.finishDisable_id (Or.inr (by rwa [hcmds]))]
    refine ⟨_, rfl, ?_, ?_, ?_, ?_, fun p hp hq => ?_, Dev.Only.frame (by rwa [heq])⟩
    · rw [State.onDev_getF _ _ _ _ (by decide), heq, hoff]
    · rw [State.onDev_clasp, heq]
      rfl
    · rw [State.onDev_clasp, heq, hqueues]
    · rw [State.onDev_clasp, heq, hcmds]
    · rw [State.onDev_getF _ _ _ _ (by decide), heq, Dev.disabling_fence s.dtime hidle hnd hp hq]
  · intro tag c s hadmin hpair hstay
    have hmk := Dev.createQueue_eq s.dtime hadmin
    refine ⟨fun hnone => ?_, fun hsome => ?_⟩
    · rw [if_neg (by simp [hnone])] at hmk
      have hne : c.e.argQid ≠ 0 := fun e => by simp [e ▸ hnone] at hpair
      have hqid : c.e.argQid ≠ c.qid := (Dev.admin?_key hadmin).2.1 ▸ hne
      refine ⟨_, rfl, ?_, ?_, completed_admin hadmin hpair hmk ?_⟩
      · rw [State.onDev_pair?, hmk, Dev.complete_pair? (s.dev.pairMade c) _ _ _ _ _ hqid hstay, Dev.pairMade_pair?, hnone, if_pos rfl]
        rfl
      · rw [State.onDev_getF _ _ _ _ (by decide), hmk]
        refine (Dev.complete_gone _ _ _ _ _ _ hqid).2 ?_
        exact getF_resetF _ _ _
      · rw [Dev.pairMade_pair?, if_neg hne, Option.or_none]
    · rw [if_pos hsome] at hmk
      exact ⟨_, rfl, completed_admin hadmin hpair hmk rfl⟩
  · intro tag c s hadmin hpair
    refine ⟨fun hne hthere hidle hobj => ?_, fun hne hthere hbusy => ?_, fun hbad => ?_⟩
    · have hdel := Dev.deleteQueue_gone s.dtime hadmin hne hthere hidle hobj
      have hqid : c.e.argQid ≠ c.qid := (Dev.admin?_key hadmin).2.1 ▸ hne
      refine ⟨_, rfl, ?_, ?_, completed_admin hadmin hpair hdel ?_⟩
      · rw [State.onDev_pair?, hdel]
        exact (Dev.complete_gone _ _ _ _ _ _ hqid).1 (by rw [Dev.removePair_pair?, if_pos rfl])
      · rw [State.onDev_getF _ _ _ _ (by decide), hdel]
        exact (Dev.complete_gone _ _ _ _ _ _ hqid).2 (getF_resetF _ _ _)
      · rw [Dev.removePair_pair?, if_neg (Ne.symm hne)]
    · exact ⟨_, rfl, completed_admin hadmin hpair (Dev.deleteQueue_busy s.dtime hadmin hne hthere hbusy) rfl⟩
    · exact ⟨_, rfl, completed_admin hadmin hpair (Dev.deleteQueue_none s.dtime hadmin hbad) rfl⟩
  · intro tag c p s hadmin hpair hstay hne hthere
    have hqid : c.e.argQid ≠ c.qid := (Dev.admin?_key hadmin).2.1 ▸ hne
    refine ⟨fun hfrozen => ?_, fun hrun => ?_⟩
    · have hgo := Dev.queueRestart_frozen s.dtime hadmin hne hthere hfrozen
      refine ⟨_, rfl, completed_admin hadmin hpair hgo ?_, ?_⟩
      · rw [Dev.restarted_pair?, if_neg (Ne.symm hne)]
      · rw [State.onDev_pair?, hgo, Dev.complete_pair? _ _ _ _ _ _ hqid ((Dev.restarted_disabling _ _ _).trans hstay), Dev.restarted_pair?,
          if_pos rfl, hthere]
        rfl
    · have hgo := Dev.queueRestart_running s.dtime hadmin hthere hrun
      refine ⟨_, rfl, ?_, completed_admin hadmin hpair hgo rfl⟩
      rw [State.onDev_pair?, hgo, Dev.complete_pair? _ _ _ _ _ _ hqid hstay, hthere]
  · intro q v s hthere hne
    refine ⟨fun hsame => ⟨_, rfl, Dev.Only.frame ?_⟩, fun hnew => ⟨_, rfl, fun c hc hq => ?_, fun c hone hcmd => ?_⟩⟩
    · rw [Dev.qfence_same s.dtime hsame]
      exact Dev.Only.refl _
    · rw [State.onDev_clasp, Dev.qfence_new s.dtime hne hthere hnew] at hc
      obtain ⟨hmem, hnot⟩ := Dev.cmds_foldl_cutCmd _ hc
      by_contra hfence
      refine hnot (List.mem_filter.mpr ⟨hmem, ?_⟩)
      rw [Bool.and_eq_true, beq_iff_eq, bne_iff_ne]
      exact ⟨hq, hfence⟩
    · have hfenced := Dev.qfence_new s.dtime hne hthere hnew
      rw [Dev.fence_one hone] at hfenced
      obtain ⟨hqid, htag⟩ := Dev.cmd?_key hcmd
      have hpair : ((setF s.dev .CL_QFENCE_FENCE q (v % 2 ^ 16)).cutBody c).pair? q = s.dev.pair? q := by
        simp only [Dev.pair?, (Dev.cutBody_clasp _ c).1, Dev.setF_clasp]
      exact completed_after (d := (setF s.dev .CL_QFENCE_FENCE q (v % 2 ^ 16)).cutBody c) (c := { c with result := none }) (t := s.dtime)
        (ev := 0) (by rw [hfenced]; rfl) (fun m hm => by rw [hfenced]; exact hm) hqid htag hpair hthere ⟨c, hcmd, rfl⟩

end Sys2Proof.Machine
end

section
/-! PROOFS. Refutations by work that still names a command: its completion takes that work out or sets it free (R204, R287), where the
statement keeps it. -/

namespace Sys2Proof.Machine

-- evaluating a command on a concrete device runs through its register file and its vectors of heads and spindles
set_option maxRecDepth 8000

/-- A pair of a number, its queues empty. -/
def pairOf (q : Nat) : QueuePair := ⟨q, 0, 0, 2, 0, false, 0, 0, 0, 0, 0, 0, true, false, [], 0, 0⟩

/-- A command of a pair under tag 0, with its opcode and ARG. -/
def cmdOf (q opc arg : Nat) : Cmd := { qid := q, e := ⟨opc, 0, 0, 0, 0, 0, 0, 0, 0, 0, 0, 0, arg⟩, order := 0 }

/-- An ABORT of tag 0 of pair 1, where nothing is outstanding, and a sector in flight that names the ABORT's own pair and tag. -/
def abortLeft : Dev :=
  (Dev.modClasp {} fun x => { x with queues := [pairOf 0, pairOf 1], cmds := [cmdOf 0 0x04 (2 ^ 54)] }).modData fun x =>
    { x with writes := [{ id := 0, owner := some (0, 0), surf := 0, head := 0, home := 0, target := 0, kind := 1, volume := 0, flags := 0,
                          epoch := 1, logical := 0, time := 0, chain := 0xFF, member := 0xFF, seq := 0, reason := 0, data := [] }] }

/-- Refutes O46: an ABORT whose tag is not there completes, and with it the sector that names the ABORT loses its owner. -/
theorem not_abortLogsAndVolumes : ¬ Obligations.AbortLogsAndVolumes := by
  unfold Obligations.AbortLogsAndVolumes
  rintro ⟨habort, -⟩
  obtain ⟨-, hnone⟩ := habort 0 (cmdOf 0 0x04 (2 ^ 54)) (cmdOf 1 0 0) (pairOf 1) { dev := abortLeft } (by decide) (by decide) (by decide) (by decide)
  obtain ⟨t, hnext, hdata, -⟩ := hnone (by decide)
  have howner : t.dev.data.writes.map (·.owner) = [none] := by
    rw [run_eq_next hnext, State.onDev_data]
    decide
  rw [hdata] at howner
  exact absurd howner (by decide)

/-- A granted READ of sector 0 of an unchained volume, its disc not there, and a read not yet made that names the command. -/
def readLeft : Dev :=
  (Dev.modClasp {} fun x => { x with
    queues := [pairOf 1], cmds := [{ cmdOf 1 0x20 0 with granted := true, total := 1 }]
    volumes := [{ id := 0, stream := false, ranges := [⟨0, 0, 0, 1⟩], appSector := 0, appByte := 0, obj := none }] }).modData fun x =>
    { x with reads := [{ id := 0, why := .cmd 1 0, surf := 0, head := 0, psa := 0, home := 0, lsn := 0, kinds := [1], volume := 0,
                         logical := 0, epoch := 1 }] }

/-- Refutes O47: a READ that its surface cannot serve completes, and with it the read that names the command goes. -/
theorem not_startOfIoCommands : ¬ Obligations.StartOfIoCommands := by
  unfold Obligations.StartOfIoCommands
  rintro ⟨-, -, hread, -⟩
  obtain ⟨t, hnext, hreads, -⟩ := hread 1 0 0 { cmdOf 1 0x20 0 with granted := true, total := 1 }
    { id := 0, stream := false, ranges := [⟨0, 0, 0, 1⟩], appSector := 0, appByte := 0, obj := none } ⟨0, 0, 0xFF, 0xFF, 0⟩ { dev := readLeft }
    (by decide) (by decide) rfl rfl rfl (by decide) rfl rfl rfl (by decide) (by decide) rfl (by decide) rfl (by decide) (by decide)
  have hgone : t.dev.data.reads.length = 0 := by
    rw [run_eq_next hnext, State.onDev_data]
    decide
  rw [hreads] at hgone
  exact absurd hgone (by decide)

end Sys2Proof.Machine
end

section
/-! PROOFS. Data from host memory, and copies between devices (O48). -/

namespace Sys2Proof.Machine

/-! ## Staging one sector -/

/-- The status of a sector to be staged: whether it has a place, and what refuses that. -/
theorem Dev.stageSector_status (d : Dev) (owner : Option (Nat × Nat)) (fua : Bool) (order time : Nat) (v : Volume) (n : Nat) (comp : Bool)
    (data : List Byte) :
    (d.stageSector owner fua order time v n comp data).2.1 = ((d.locate v n).map d.stageStatus).getD 0x1004 := by
  unfold Dev.stageSector
  cases d.locate v n with
  | none => rfl
  | some p =>
    simp only [Option.map_some, Option.getD_some]
    by_cases hst : d.stageStatus p = 0
    · simp only [hst, ne_eq, not_true_eq_false, if_false]
      cases d.replaceable v.id p <;> rfl
    · simp only [ne_eq, hst, not_false_eq_true, if_true]

theorem Dev.stageSector_clasp (d : Dev) (owner : Option (Nat × Nat)) (fua : Bool) (order time : Nat) (v : Volume) (n : Nat) (comp : Bool)
    (data : List Byte) : (d.stageSector owner fua order time v n comp data).1.clasp = d.clasp :=
  ((Dev.Only.refl (R := noRegs) (P := [.data, .chains]) (H := []) (S := []) d).stageSector (by simp) (by simp) owner fua order time v n comp
    data).others .clasp (by simp)

/-- A job that carries the bytes of a sector of a volume, staged for a place. -/
structure StagedFor (w : WriteJob) (data : List Byte) (order vol : Nat) (p : Place) : Prop where
  bytes : w.data = data
  order : w.order = order
  volume : w.volume = vol
  state : w.state = .staged
  surf : w.surf = p.surf
  home : w.home = p.psa

/-- A sector of an unchained place that nothing refuses is staged: a job carries its bytes. -/
theorem Dev.stageSector_job {d : Dev} {v : Volume} {n : Nat} {p : Place} (hp : d.locate v n = some p) (hplain : p.chain = 0xFF)
    (hst : d.stageStatus p = 0) (owner : Option (Nat × Nat)) (fua : Bool) (order time : Nat) (comp : Bool) (data : List Byte) :
    ∃ w ∈ (d.stageSector owner fua order time v n comp data).1.data.writes, StagedFor w data order v.id p := by
  unfold Dev.stageSector
  simp only [hp, hst, ne_eq, not_true_eq_false, if_false, hplain, if_true]
  cases hrep : d.replaceable v.id p with
  | some w =>
    have hmem : w ∈ d.data.writes := List.mem_of_find?_eq_some hrep
    have hkey := List.find?_some hrep
    simp only [Bool.and_eq_true, beq_iff_eq] at hkey
    obtain ⟨⟨⟨⟨⟨⟨⟨hvol, hsurf⟩, hhome⟩, hstate⟩, -⟩, -⟩, -⟩, -⟩ := hkey
    refine ⟨_, List.mem_map.mpr ⟨w, hmem, rfl⟩, ?_⟩
    rw [if_pos rfl]
    exact ⟨rfl, rfl, hvol, hstate, hsurf, hhome⟩
  | none => exact ⟨_, List.mem_append_right _ (List.mem_singleton.mpr rfl), ⟨rfl, rfl, rfl, rfl, rfl, rfl⟩⟩

/-- A completion leaves a staged job staged. -/
theorem StagedFor.complete {d : Dev} {data : List Byte} {order vol : Nat} {p : Place} (h : ∃ w ∈ d.data.writes, StagedFor w data order vol p)
    (t : Nat) (c : Cmd) (status count ev : Nat) : ∃ w ∈ (d.complete t c status count ev).data.writes, StagedFor w data order vol p := by
  obtain ⟨w, hw, hjob⟩ := h
  rw [Dev.complete_data]
  refine ⟨_, List.mem_map.mpr ⟨w, hw, rfl⟩, ?_⟩
  split
  · exact ⟨hjob.bytes, hjob.order, hjob.volume, hjob.state, hjob.surf, hjob.home⟩
  · exact hjob

/-! ## The bytes of a WRITE -/

/-- What a sector may be staged for does not hang on the commands, nor on the power state's waits. -/
theorem Dev.stageStatus_clasp (d : Dev) (k : Clasp) (w : Power) (p : Place) :
    ({ d with clasp := k, power := w } : Dev).stageStatus p = d.stageStatus p := rfl

theorem Dev.locate_clasp (d : Dev) (k : Clasp) (w : Power) (v : Volume) (n : Nat) :
    ({ d with clasp := k, power := w } : Dev).locate v n = d.locate v n := rfl

/-- The device once the bytes of a command have come in. -/
def Dev.dataIn (d : Dev) (q tag : Nat) (bs : List Byte) : Dev :=
  (d.modCmd q tag fun c => { c with buf := c.buf ++ bs, got := c.got + bs.length }).notIdle

/-- The command of the one sector of a WRITE, staged. -/
def Cmd.oneStaged (c : Cmd) (bs : List Byte) : Cmd :=
  { c with buf := bs.drop sectorBytes, got := c.got + bs.length, recs := [⟨c.e.addr, 0, 0⟩], staged := 1 }

section OneSector

variable {d : Dev} {q tag : Nat} {c : Cmd} {v : Volume} {bs : List Byte}
  (hcmd : d.cmd? q tag = some c) (hvol : d.volume? c.e.volume = some v) (htotal : c.total = 1) (hrecs : c.recs = []) (hstaged : c.staged = 0)
  (hbuf : c.buf = []) (hfua : c.e.fua = false) (hlen : bs.length = 65536)
  (hst : (d.stageSector (some (q, tag)) false c.order c.time v c.e.addr false bs).2.1 = 0)

/-- The device with that sector staged, before its command completes. -/
def Dev.sectorIn (d : Dev) (q tag : Nat) (v : Volume) (bs : List Byte) : Dev := (d.dataIn q tag bs).writeNext q tag v

include hcmd in
theorem Dev.dataIn_cmd : (d.dataIn q tag bs).cmd? q tag = some { c with buf := c.buf ++ bs, got := c.got + bs.length } := by
  have h := Dev.cmd?_modCmd d q tag q tag (fun c => { c with buf := c.buf ++ bs, got := c.got + bs.length }) fun _ => ⟨rfl, rfl⟩
  rw [if_pos ⟨rfl, rfl⟩, hcmd] at h
  exact h

include hst in
/-- Staged from the bytes received, the sector has the status that it would have had before. -/
theorem Dev.dataIn_status : ((d.dataIn q tag bs).stageSector (some (q, tag)) false c.order c.time v c.e.addr false bs).2.1 = 0 := by
  rw [Dev.stageSector_status] at hst ⊢
  exact hst

include hcmd hrecs hbuf hfua hlen hst hstaged

theorem Dev.sectorIn_spec :
    (d.sectorIn q tag v bs).cmd? q tag = some (c.oneStaged bs)
      ∧ (d.sectorIn q tag v bs).data = ((d.dataIn q tag bs).stageSector (some (q, tag)) false c.order c.time v c.e.addr false bs).1.data
      ∧ (d.sectorIn q tag v bs).clasp.queues = d.clasp.queues := by
  have hstatus := Dev.dataIn_status hst
  have htake : bs.take sectorBytes = bs := List.take_of_length_le (by rw [hlen]; exact le_refl _)
  have hsame := Dev.stageSector_clasp (d.dataIn q tag bs) (some (q, tag)) false c.order c.time v c.e.addr false bs
  unfold Dev.sectorIn Dev.writeNext
  simp only [Dev.dataIn_cmd hcmd, hrecs, hbuf, hfua, List.nil_append, List.length_nil, Nat.add_zero, htake, hstatus, if_true]
  refine ⟨?_, rfl, ?_⟩
  · rw [Dev.cmd?_modCmd _ _ _ _ _ _ (by intro c; exact ⟨rfl, rfl⟩), if_pos ⟨rfl, rfl⟩]
    have hkept : ((d.dataIn q tag bs).stageSector (some (q, tag)) false c.order c.time v c.e.addr false bs).1.cmd? q tag
        = (d.dataIn q tag bs).cmd? q tag := by simp only [Dev.cmd?, hsame]
    rw [hkept, Dev.dataIn_cmd hcmd]
    simp [Cmd.oneStaged, hrecs, hbuf, hstaged, hfua]
  · simp only [Dev.modCmd, Dev.modClasp, hsame]
    rfl

include hvol htotal

/-- So the bytes of a WRITE of one sector complete it. -/
theorem Dev.hostData_one (t : Nat) (hopc : c.e.opc = 0x21) (hlist : c.list.asked = false) (hxlist : c.xlist.asked = false)
    (hstart : c.started = true) (hresult : c.result = none) :
    d.hostData t q tag bs = ((d.sectorIn q tag v bs).release q tag).complete t (c.oneStaged bs) 0 1 := by
  obtain ⟨hqid, htag⟩ := Dev.cmd?_key hcmd
  have hcmd2 := (Dev.sectorIn_spec hcmd hrecs hstaged hbuf hfua hlen hst (v := v)).1
  have hvol2 : (d.dataIn q tag bs).volume? c.e.volume = some v := hvol
  have hmore : (d.dataIn q tag bs).writeMore t q tag = (d.sectorIn q tag v bs).allStaged t q tag := by
    unfold Dev.writeMore
    simp only [Dev.dataIn_cmd hcmd, hvol2, hbuf, hrecs, htotal, hlen, List.nil_append, List.length_nil]
    have hone : min (65536 / sectorBytes) (1 - 0) = 1 := by decide
    simp only [hone, iter]
    change (match (d.sectorIn q tag v bs).cmd? q tag with
      | none => d.sectorIn q tag v bs
      | some c => if c.recs.length = c.total then (d.sectorIn q tag v bs).allStaged t q tag else d.sectorIn q tag v bs) = _
    simp only [hcmd2]
    exact if_pos htotal.symm
  have hall : (d.sectorIn q tag v bs).allStaged t q tag = ((d.sectorIn q tag v bs).release q tag).complete t (c.oneStaged bs) 0 1 := by
    have hfua2 : (c.oneStaged bs).e.fua = false := hfua
    have hopc2 : (c.oneStaged bs).e.opc ≠ 0x22 := by simp [Cmd.oneStaged, hopc]
    have hresult2 : (c.oneStaged bs).result = none := hresult
    have hworst : worstStatus (c.oneStaged bs).recs = 0 := rfl
    have hclass : statusClass 0 = 0 := rfl
    unfold Dev.allStaged
    simp only [hcmd2, hfua2, Bool.false_eq_true, if_false, Dev.writeDone, hresult2, hworst, hclass, if_true, hopc2]
    rfl
  have hend : (((d.sectorIn q tag v bs).release q tag).complete t (c.oneStaged bs) 0 1).cmd? q tag = none := by
    have h := Dev.complete_cmd?_none ((d.sectorIn q tag v bs).release q tag) t (c.oneStaged bs) 0 1 0
    have hkeys : (c.oneStaged bs).qid = q ∧ (c.oneStaged bs).e.tag = tag := ⟨hqid, htag⟩
    rwa [hkeys.1, hkeys.2] at h
  unfold Dev.hostData
  simp only [hcmd, hlist, hxlist, hopc, hstart, Bool.or_self, Bool.false_eq_true, Bool.not_true, ne_eq, not_true_eq_false, false_and, or_self,
    if_false, if_true]
  change Dev.listShort ((d.dataIn q tag bs).writeMore t q tag) t q tag = _
  rw [hmore, hall]
  unfold Dev.listShort
  simp only [hend]

end OneSector

/-! ## Errors on the host's side -/

/-- The device with an error logged through AER. -/
def Dev.aerLogged (d : Dev) : Dev := { d with pcie := { d.pcie with aerErrors := d.pcie.aerErrors + 1 } }.send .aer

theorem Dev.dmaError_eq {d : Dev} {q tag : Nat} {c : Cmd} (t : Nat) (hcmd : d.cmd? q tag = some c) (hopc : c.e.opc ≠ 0x24) :
    d.dmaError t q tag = d.aerLogged.complete t c 0x3004 (d.countOf c 0x3004) := by
  have hcmd2 : d.aerLogged.cmd? q tag = some c := hcmd
  unfold Dev.dmaError
  simp only [hcmd, hopc, if_false]
  change d.aerLogged.finish t q tag 0x3004 = _
  unfold Dev.finish
  simp only [hcmd2]
  rfl

/-! ## Receive slots -/

/-- The slot that a RECEIVE opens. -/
def Dev.slotOpened (d : Dev) (t q tag : Nat) (c : Cmd) : Dev :=
  ((d.modCmd q tag fun c => { c with started := true }).modClasp fun k => { k with
    slots := k.slots ++ [⟨bits c.e.arg 5 0, q, tag, zeros 64, [], t⟩] }).notIdle

theorem Dev.startReceive_eq {d : Dev} {q tag : Nat} {c : Cmd} (t : Nat) (hcmd : d.cmd? q tag = some c) (hopc : c.e.opc = 0x29)
    (hgranted : c.granted = true) (hstart : c.started = false) (hfree : ∀ x ∈ d.clasp.slots, x.slot ≠ bits c.e.arg 5 0) :
    d.startReceive t q tag = d.slotOpened t q tag c := by
  have hnone : d.clasp.slots.any (·.slot == bits c.e.arg 5 0) = false := by simpa [List.any_eq_false] using hfree
  unfold Dev.startReceive
  simp only [hcmd, hopc, hgranted, hstart, hnone, ne_eq, not_true_eq_false, Bool.not_true, Bool.false_eq_true, or_self, if_false]
  rfl

theorem Dev.Only.notIdle {R : Fld → Nat → Prop} {P : List Part} {H : List HeadId} {S : List SpinId} {a b : Dev} (h : Dev.Only R P H S a b)
    (hp : .power ∈ P) : Dev.Only R P H S a b.notIdle := h.modPower hp _

/-- A slot that is found by its number takes a change of it. -/
theorem mem_modSlot {d : Dev} {x : RecvSlot} (hx : x ∈ d.clasp.slots) (f : RecvSlot → RecvSlot) : f x ∈ (d.modSlot x.slot f).clasp.slots :=
  List.mem_map.mpr ⟨x, hx, if_pos rfl⟩

section PeerWrite

variable {d : Dev} {addr : Nat} {bs : List Byte} {x : RecvSlot} {c : Cmd} {v : Volume}
  (hslot : (d.clasp.slots.find? (·.slot == addr / 2 ^ 30)) = some x) (hcmd : d.cmd? x.qid x.tag = some c)
  (hvol : d.volume? c.e.volume = some v) (hfence : c.fence = getF d .CL_QFENCE_FENCE x.qid)

/-- The header of a slot with the bytes of a peer write in it. -/
def RecvSlot.headerIn (x : RecvSlot) (off t : Nat) (bs : List Byte) : RecvSlot :=
  { x with header := (x.header.take off ++ bs ++ x.header.drop (off + bs.length)).take 64, since := t }

/-- Bytes of the header stand where they were written. -/
theorem RecvSlot.headerIn_bytes (x : RecvSlot) {off : Nat} (t : Nat) {bs : List Byte} (hfit : off + bs.length ≤ 64) (hlen : x.header.length = 64) :
    ((x.headerIn off t bs).header.drop off).take bs.length = bs := by
  have hoff : (x.header.take off).length = off := by rw [List.length_take]; omega
  have hwhole : (x.header.take off ++ bs ++ x.header.drop (off + bs.length)).length = 64 := by
    simp only [List.length_append, hoff, List.length_drop]
    omega
  unfold RecvSlot.headerIn
  dsimp only
  rw [List.take_of_length_le (le_of_eq hwhole), List.append_assoc, List.drop_left' hoff, List.take_left]

include hslot hcmd hvol hfence

theorem Dev.peerWriteIn_header (t : Nat) (hoff : addr % 2 ^ 30 < 64) :
    d.peerWriteIn t addr bs = d.modSlot x.slot fun x => x.headerIn (addr % 2 ^ 30) t bs := by
  unfold Dev.peerWriteIn
  simp only [hslot, hcmd, Option.bind_some, hvol, hfence, ne_eq, not_true_eq_false, if_false, if_pos hoff]
  rfl

theorem Dev.peerWriteIn_stream (t : Nat) (hstream : v.stream = true) (hoff : addr % 2 ^ 30 = 65536 + x.data.length)
    (hmore : x.data.length + bs.length < c.e.len) :
    d.peerWriteIn t addr bs = (d.modSlot x.slot fun x => { x with data := x.data ++ bs, since := t }).notIdle := by
  have htake : bs.take (c.e.len - x.data.length) = bs := List.take_of_length_le (by omega)
  have hnext : ¬(addr % 2 ^ 30 - 65536 ≠ x.data.length) := by omega
  have hopen : ¬(x.data.length + bs.length = c.e.len) := by omega
  unfold Dev.peerWriteIn
  simp only [hslot, hcmd, Option.bind_some, hvol, hfence, ne_eq, not_true_eq_false, if_false, if_neg (show ¬addr % 2 ^ 30 < 64 by omega),
    if_neg (show ¬addr % 2 ^ 30 < 65536 by omega), if_neg hnext, htake, hstream, if_true, if_neg hopen]

theorem Dev.peerWriteIn_outOfOrder (t : Nat) (hdata : 65536 ≤ addr % 2 ^ 30) (hoff : addr % 2 ^ 30 ≠ 65536 + x.data.length) :
    d.peerWriteIn t addr bs = d.peerDrop := by
  have hnext : addr % 2 ^ 30 - 65536 ≠ x.data.length := by omega
  unfold Dev.peerWriteIn
  simp only [hslot, hcmd, Option.bind_some, hvol, hfence, ne_eq, not_true_eq_false, if_false, if_neg (show ¬addr % 2 ^ 30 < 64 by omega),
    if_neg (show ¬addr % 2 ^ 30 < 65536 by omega), if_pos hnext]

end PeerWrite

/-- A peer write to no open slot, or under another fence value than the pair's, is dropped. -/
theorem Dev.peerWriteIn_refused {d : Dev} {addr : Nat} (t : Nat) (bs : List Byte)
    (h : (∀ x ∈ d.clasp.slots, x.slot ≠ addr / 2 ^ 30) ∨ (∃ x c, (d.clasp.slots.find? (·.slot == addr / 2 ^ 30)) = some x
      ∧ d.cmd? x.qid x.tag = some c ∧ c.fence ≠ getF d .CL_QFENCE_FENCE x.qid)) : d.peerWriteIn t addr bs = d.peerDrop := by
  unfold Dev.peerWriteIn
  rcases h with h | ⟨x, c, hslot, hcmd, hfence⟩
  · have hnone : (d.clasp.slots.find? (·.slot == addr / 2 ^ 30)) = none := by simpa [List.find?_eq_none] using h
    simp only [hnone]
  · simp only [hslot, hcmd, Option.bind_some]
    cases d.volume? c.e.volume with
    | none => rfl
    | some v => simp only [ne_eq, hfence, not_false_eq_true, if_true]

/-- A dropped peer write is counted, and nothing else changes. -/
theorem peerDrop_spec {s : State} {g : Dev → Dev} (hg : g s.dev = s.dev.peerDrop) :
    getF (s.onDev g).dev .CH_STAT_PEER_DROPS 0 = min (2 ^ Fld.CH_STAT_PEER_DROPS.info.width - 1) (getF s.dev .CH_STAT_PEER_DROPS 0 + 1)
      ∧ Frame (theRegs [(.CH_STAT_PEER_DROPS, 0)]) [] [] [] s (s.onDev g) := by
  refine ⟨?_, Dev.Only.frame ?_⟩
  · rw [State.onDev_getF _ _ _ _ (by decide), hg]
    exact getF_incF _ _ _ _ _ (by decide)
  · rw [hg]
    exact (Dev.Only.refl _).incF (by simp [theRegs]) _ _

/-! ## The end of a RECEIVE -/

theorem Dev.recvTimeout_soon {d : Dev} {t slot : Nat} {x : RecvSlot} (hslot : (d.clasp.slots.find? (·.slot == slot)) = some x)
    (hsoon : tooSoon t x.since (100000000 * getF d .CL_CTL_RECV_TIMEOUT 0) = true) : d.recvTimeout1 t slot = d := by
  unfold Dev.recvTimeout1
  simp only [hslot, hsoon, if_true]

/-- The device with a slot taken away. -/
def Dev.slotGone (d : Dev) (x : RecvSlot) : Dev := d.modClasp fun k => { k with slots := k.slots.filter (· != x) }

theorem Dev.recvTimeout_due {d : Dev} {t slot : Nat} {x : RecvSlot} {c : Cmd} {v : Volume}
    (hslot : (d.clasp.slots.find? (·.slot == slot)) = some x) (hcmd : d.cmd? x.qid x.tag = some c) (hvol : d.volume? c.e.volume = some v)
    (hstream : v.stream = false) (hbuf : c.buf = []) (hresult : c.result = none)
    (hdue : tooSoon t x.since (100000000 * getF d .CL_CTL_RECV_TIMEOUT 0) = false) :
    d.recvTimeout1 t slot = (d.slotGone x).complete t c 0x6011 (d.countOf c 0x6011) := by
  have hcmd2 : (d.slotGone x).cmd? x.qid x.tag = some c := hcmd
  have hempty : Dev.recvSectors x.qid x.tag v true (c.buf.length / sectorBytes + 1)
      (d.modClasp fun k => { k with slots := k.slots.filter (· != x) }) = d.slotGone x := by
    unfold Dev.recvSectors
    change (match (d.slotGone x).cmd? x.qid x.tag with | none => _ | some c => _) = _
    simp only [hcmd2, hbuf]
    rfl
  unfold Dev.recvTimeout1
  simp only [hslot, hdue, Bool.false_eq_true, if_false]
  unfold Dev.recvEnd
  simp only [hcmd, hvol, hstream, Bool.false_eq_true, if_false, hempty, hcmd2, hresult]
  rfl

/-! ## The end of a COPY -/

theorem Dev.peerReadDone_sent {d : Dev} {q tag : Nat} {c : Cmd} (t : Nat) (hcmd : d.cmd? q tag = some c) (hopc : c.e.opc = 0x28)
    (hstart : c.started = true) (hall : c.total ≤ c.recs.length) :
    d.peerReadDone t q tag true = (d.resultSlot c c.produced 0 0).complete t c (worstStatus c.recs) c.done := by
  unfold Dev.peerReadDone
  simp only [hcmd, hopc, hstart, ne_eq, not_true_eq_false, Bool.not_true, Bool.false_eq_true, or_self, if_false, if_neg (Nat.not_lt.mpr hall)]

theorem Dev.peerReadDone_lost {d : Dev} {q tag : Nat} {c : Cmd} (t : Nat) (hcmd : d.cmd? q tag = some c) (hopc : c.e.opc = 0x28)
    (hstart : c.started = true) : d.peerReadDone t q tag false = (d.resultSlot c c.produced 0 0).complete t c 0x6010 c.done := by
  unfold Dev.peerReadDone
  simp only [hcmd, hopc, hstart, ne_eq, not_true_eq_false, Bool.not_true, Bool.not_false, Bool.false_eq_true, or_self, if_false, if_true]

/-- Settles O48, by the case of each message and timer that its clauses describe. -/
theorem hostDataAndCopies : Obligations.HostDataAndCopies := by
  unfold Obligations.HostDataAndCopies
  refine ⟨?_, ?_, ?_, ?_, ?_, ?_, ?_⟩
  · intro q tag bs c v s hpair hcmd hvol hopc _ hlist hxlist hstart htotal hrecs hstaged hbuf hfua hresult hlen hplain hst
    have hdone := Dev.hostData_one hcmd hvol htotal hrecs hstaged hbuf hfua hlen hst s.dtime hopc hlist hxlist hstart hresult
    obtain ⟨hcmd2, hdata, hqueues⟩ := Dev.sectorIn_spec hcmd hrecs hstaged hbuf hfua hlen hst (v := v)
    refine ⟨_, rfl, completed_of hdone (Dev.cmd?_key hcmd).1 (Dev.cmd?_key hcmd).2 ?_ hpair ⟨c, hcmd, rfl⟩, ?_⟩
    · simp only [Dev.pair?, Dev.release, Dev.modClasp, hqueues]
    · obtain ⟨p, hp⟩ : ∃ p, s.dev.locate v c.e.addr = some p := by
        cases hloc : s.dev.locate v c.e.addr with
        | none => rw [Dev.stageSector_status, hloc] at hst; cases hst
        | some p => exact ⟨p, rfl⟩
      have hok : s.dev.stageStatus p = 0 := by rwa [Dev.stageSector_status, hp] at hst
      obtain ⟨w, hw, hjob⟩ := Dev.stageSector_job (d := s.dev.dataIn q tag bs) (p := p) hp (hplain p hp) hok (some (q, tag)) false c.order c.time
        false bs
      obtain ⟨w, hw, hjob⟩ := StagedFor.complete (d := (s.dev.sectorIn q tag v bs).release q tag) ⟨w, hdata.symm ▸ hw, hjob⟩ s.dtime
        (c.oneStaged bs) 0 1 0
      refine ⟨w, ?_, hjob.bytes, hjob.order, hjob.volume, hjob.state, fun p' hp' => ?_⟩
      · rw [State.onDev_data, hdone]
        exact hw
      · cases hp.symm.trans hp'
        exact ⟨hjob.surf, hjob.home⟩
  · intro q tag c s hpair hcmd hopc
    have hdone := Dev.dmaError_eq s.dtime hcmd hopc
    refine ⟨_, rfl, completed_of hdone (Dev.cmd?_key hcmd).1 (Dev.cmd?_key hcmd).2 rfl hpair ⟨c, hcmd, rfl⟩, ?_, ?_⟩
    · refine Dev.mem_hostOut_flush ?_
      change HostMsg.aer ∈ (s.dev.dmaError s.dtime q tag).hostOut
      rw [hdone]
      exact Dev.mem_hostOut_complete _ _ _ _ _ _ (List.mem_append_right _ (List.mem_singleton.mpr rfl))
    · rw [State.onDev_pcie, hdone, (Dev.complete_only _ _ _ _ _ _).others .pcie (by simp)]
      rfl
  · intro q tag c s hcmd hopc hgranted hstart hfree
    have hopened := Dev.startReceive_eq s.dtime hcmd hopc hgranted hstart hfree
    refine ⟨_, rfl, ?_, ?_, Dev.Only.frame ?_⟩
    · rw [State.onDev_cmd?, hopened]
      have h := Dev.cmd?_modCmd s.dev q tag q tag (fun c => { c with started := true }) fun _ => ⟨rfl, rfl⟩
      rw [if_pos ⟨rfl, rfl⟩, hcmd] at h
      exact h
    · rw [State.onDev_clasp, hopened]
      rfl
    · rw [hopened]
      exact (((Dev.Only.refl _).modCmd (by simp) _ _ _).modClasp (by simp) _).notIdle (by simp)
  · intro src addr bs x c v s hslot hcmd hvol hfence
    have hmem : x ∈ s.dev.clasp.slots := List.mem_of_find?_eq_some hslot
    refine ⟨fun hfit hoff hlen => ?_, fun hstream hoff hmore => ?_, fun hlo hoff => ?_⟩
    · have hin := Dev.peerWriteIn_header (bs := bs) hslot hcmd hvol hfence s.dtime hoff
      refine ⟨_, x.headerIn (addr % 2 ^ 30) s.dtime bs, rfl, ?_, rfl, x.headerIn_bytes s.dtime hfit hlen, rfl, Dev.Only.frame ?_⟩
      · rw [State.onDev_clasp, hin]
        exact mem_modSlot hmem _
      · rw [hin]
        exact (Dev.Only.refl _).modClasp (by simp) _
    · have hin := Dev.peerWriteIn_stream (bs := bs) hslot hcmd hvol hfence s.dtime hstream hoff hmore
      refine ⟨_, rfl, ?_, Dev.Only.frame ?_⟩
      · rw [State.onDev_clasp, hin]
        exact mem_modSlot hmem fun x => { x with data := x.data ++ bs, since := s.dtime }
      · rw [hin]
        exact ((Dev.Only.refl _).modClasp (by simp) _).notIdle (by simp)
    · exact ⟨_, rfl, peerDrop_spec (Dev.peerWriteIn_outOfOrder hslot hcmd hvol hfence s.dtime hlo hoff)⟩
  · intro src addr bs s h
    exact ⟨_, rfl, peerDrop_spec (Dev.peerWriteIn_refused s.dtime bs h)⟩
  · intro n x c v s hslot hcmd hopc hvol hstream hbuf hresult hpair
    refine ⟨fun hdue => ?_, fun hsoon => ⟨_, rfl, Dev.Only.frame ?_⟩⟩
    · have hend := Dev.recvTimeout_due hslot hcmd hvol hstream hbuf hresult hdue
      have hcount : s.dev.countOf c 0x6011 = s.dev.committedNow c := by
        simp [Dev.countOf, hopc, readOpc, writeOpc, statusClass]
      rw [hcount] at hend
      refine ⟨_, rfl, fun y hy => ?_, completed_of hend (Dev.cmd?_key hcmd).1 (Dev.cmd?_key hcmd).2 rfl hpair ⟨c, hcmd, rfl⟩⟩
      rw [State.onDev_clasp, hend, Dev.complete_slots] at hy
      simpa using (List.mem_filter.mp (List.mem_filter.mp hy).1).2
    · rw [Dev.recvTimeout_soon hslot hsoon]
      exact Dev.Only.refl _
  · intro q tag c s hpair hcmd hopc hstart
    refine ⟨fun hall => ?_, ?_⟩
    · have hdone := Dev.peerReadDone_sent s.dtime hcmd hopc hstart hall
      refine ⟨_, rfl, ?_, completed_of hdone (Dev.cmd?_key hcmd).1 (Dev.cmd?_key hcmd).2 rfl hpair ⟨c, hcmd, rfl⟩⟩
      refine Dev.mem_hostOut_flush ?_
      change _ ∈ (s.dev.peerReadDone s.dtime q tag true).hostOut
      rw [hdone]
      exact Dev.mem_hostOut_complete _ _ _ _ _ _ (List.mem_append_right _ (List.mem_singleton.mpr rfl))
    · exact ⟨_, rfl, completed_of (Dev.peerReadDone_lost s.dtime hcmd hopc hstart) (Dev.cmd?_key hcmd).1 (Dev.cmd?_key hcmd).2 rfl hpair
        ⟨c, hcmd, rfl⟩⟩

end Sys2Proof.Machine
end

section
/-! PROOFS. Closing and padding the rows of a chain, and their parity (O41). -/

namespace Sys2Proof.Machine

/-- The number of a chain names it. -/
@[simp] theorem chainOf_coe (c : Fin 16) : chainOf c = c := Fin.ext (Nat.mod_eq_of_lt c.isLt)

/-! ## Queueing jobs one after the other -/

/-- Queueing a job for each number of a list, the numbers of the jobs noted under their keys. -/
def addJobs (job : Nat → WriteJob) (key : Nat → Nat) (l : List Nat) (acc : Dev × List (Nat × Nat)) : Dev × List (Nat × Nat) :=
  l.foldl (fun acc i => ((acc.1.addWrite (job i)).1, acc.2 ++ [(key i, (acc.1.addWrite (job i)).2)])) acc

section AddJobs

variable (job : Nat → WriteJob) (key : Nat → Nat)

theorem addJobs_cons (i : Nat) (l : List Nat) (acc : Dev × List (Nat × Nat)) :
    addJobs job key (i :: l) acc = addJobs job key l ((acc.1.addWrite (job i)).1, acc.2 ++ [(key i, (acc.1.addWrite (job i)).2)]) := rfl

theorem addJobs_only (l : List Nat) (acc : Dev × List (Nat × Nat)) : Dev.Only noRegs [.data] [] [] acc.1 (addJobs job key l acc).1 := by
  induction l generalizing acc with
  | nil => exact Dev.Only.refl _
  | cons i l ih =>
    exact ((Dev.Only.refl acc.1).addWrite (by simp) (job i)).trans (ih ((acc.1.addWrite (job i)).1, acc.2 ++ [(key i, (acc.1.addWrite (job i)).2)]))

/-- What was there stays. -/
theorem addJobs_kept (l : List Nat) (acc : Dev × List (Nat × Nat)) :
    (∀ w ∈ acc.1.data.writes, w ∈ (addJobs job key l acc).1.data.writes) ∧ (∀ x ∈ acc.2, x ∈ (addJobs job key l acc).2) := by
  induction l generalizing acc with
  | nil => exact ⟨fun _ h => h, fun _ h => h⟩
  | cons i l ih =>
    obtain ⟨hw, hx⟩ := ih ((acc.1.addWrite (job i)).1, acc.2 ++ [(key i, (acc.1.addWrite (job i)).2)])
    exact ⟨fun w h => hw w (List.mem_append_left _ h), fun x h => hx x (List.mem_append_left _ h)⟩

/-- Each number has its job, under a number of its own that was free. -/
theorem addJobs_job {l : List Nat} {i : Nat} (hi : i ∈ l) (acc : Dev × List (Nat × Nat)) :
    ∃ n, acc.1.data.nextId ≤ n ∧ { job i with id := n } ∈ (addJobs job key l acc).1.data.writes ∧ (key i, n) ∈ (addJobs job key l acc).2 := by
  induction l generalizing acc with
  | nil => cases hi
  | cons x l ih =>
    rcases List.mem_cons.mp hi with rfl | hi
    · obtain ⟨hw, hx⟩ := addJobs_kept job key l ((acc.1.addWrite (job i)).1, acc.2 ++ [(key i, (acc.1.addWrite (job i)).2)])
      exact ⟨acc.1.data.nextId, le_refl _, hw _ (List.mem_append_right _ (List.mem_singleton.mpr rfl)),
        hx _ (List.mem_append_right _ (List.mem_singleton.mpr rfl))⟩
    · obtain ⟨n, hn, hw, hx⟩ := ih hi ((acc.1.addWrite (job x)).1, acc.2 ++ [(key x, (acc.1.addWrite (job x)).2)])
      exact ⟨n, (Nat.le_succ _).trans hn, hw, hx⟩

end AddJobs

/-! ## Closing a row -/

/-- The filler of a data member of a row (R238). -/
def Dev.filler (d : Dev) (c : Nat) (r : ChainRow) (j : Nat) : WriteJob :=
  { id := 0, owner := none, surf := d.memSurf c j
    head := ((d.pickHead (d.memSurf c j) (psaLayer r.psa) (psaStripe r.psa)).getD (headOf (surfSpin (d.memSurf c j)) 0))
    home := r.psa, target := r.psa, kind := 0x20, volume := r.volume, flags := 0, epoch := 1
    logical := if r.stream then (r.row * d.chainK c + j) * sectorBytes else r.row * d.chainK c + j, time := d.rowTime r, chain := c, member := j
    seq := 0, reason := 0, data := zeros sectorBytes, waited := r.needed, row := r.row, order := d.clasp.nextOrder }

/-- The data positions of a row without a staged sector. -/
def Dev.holes (d : Dev) (c : Nat) (r : ChainRow) : List Nat := (List.range (d.chainK c)).filter fun j => !r.parts.any (·.1 == j)

theorem Dev.mem_holes {d : Dev} {c : Nat} {r : ChainRow} {j : Nat} : j ∈ d.holes c r ↔ j < d.chainK c ∧ ∀ id, (j, id) ∉ r.parts := by
  unfold Dev.holes
  rw [List.mem_filter, List.mem_range]
  refine and_congr_right fun _ => ?_
  simp only [Bool.not_eq_true', List.any_eq_false, beq_iff_eq, Prod.forall]
  exact ⟨fun h id hid => h j id hid rfl, fun h a id hid e => h id (e ▸ hid)⟩

/-- The device with the fillers of a row queued, and their parts. -/
def Dev.filled (d : Dev) (c : Nat) (r : ChainRow) : Dev × List (Nat × Nat) := addJobs (d.filler c r) id (d.holes c r) (d, [])

/-- The padding counted, where there was any. -/
def Dev.paddingCounted (d : Dev) (c : Nat) (r : ChainRow) : Dev :=
  if (d.holes c r).isEmpty then (d.filled c r).1 else incF (d.filled c r).1 .CH_STAT_PADDED 0

/-- The row as it is closed at epoch 1. -/
def ChainRow.closedWith (r : ChainRow) (fill : List (Nat × Nat)) : ChainRow := { r with closed := true, parts := r.parts ++ fill, epoch := 1 }

/-- The device with a row of a first write closed. -/
def Dev.rowClosed (d : Dev) (c : Fin 16) (r : ChainRow) : Dev :=
  (d.paddingCounted c r).modChain c fun x => { x with rows := x.rows.map fun y => if y = r then y.closedWith (d.filled c r).2 else y }

theorem Dev.closeRow_first {d : Dev} {c : Fin 16} {r : ChainRow} (h : ∀ y ∈ (d.chain c).complete, y.1 ≠ r.psa) :
    d.closeRow c r = d.rowClosed c r := by
  have hnone : (d.chain (chainOf c)).complete.find? (·.1 == r.psa) = none := by simpa [List.find?_eq_none] using h
  have hmod : ∀ (b : Dev) (f : Chain → Chain), b.modChain (chainOf c) f = b.modChain c f := fun b f => by rw [chainOf_coe]
  unfold Dev.closeRow
  simp only [hnone, hmod]
  rfl

section RowClosed

variable (d : Dev) (c : Fin 16) (r : ChainRow)

theorem Dev.filled_only : Dev.Only noRegs [.data] [] [] d (d.filled c r).1 :=
  addJobs_only (d.filler c r) id (d.holes c r) (d, [])

theorem Dev.rowClosed_only : Dev.Only (theRegs [(.CH_STAT_PADDED, 0)]) [.data, .chains] [] [] d (d.rowClosed c r) := by
  have hfill : Dev.Only (theRegs [(.CH_STAT_PADDED, 0)]) [.data, .chains] [] [] d (d.filled c r).1 :=
    (d.filled_only c r).mono (fun _ _ h => h.elim) (by simp) (by simp) (by simp)
  refine Dev.Only.modChain ?_ (by simp) _ _
  exact Dev.Only.ite (fun _ => hfill) fun _ => hfill.incF (by simp [theRegs]) _ _

theorem Dev.paddingCounted_chain : (d.paddingCounted c r).chain c = d.chain c := by
  have hchains : (d.filled c r).1.chains = d.chains := (d.filled_only c r).others .chains (by simp)
  have hsame : (d.paddingCounted c r).chains = (d.filled c r).1.chains := by
    unfold Dev.paddingCounted
    split <;> rfl
  simp only [Dev.chain, hsame, hchains]

theorem Dev.rowClosed_row {r : ChainRow} (hr : r ∈ (d.chain c).rows) : r.closedWith (d.filled c r).2 ∈ ((d.rowClosed c r).chain c).rows := by
  unfold Dev.rowClosed
  rw [Dev.chain_modChain, Dev.paddingCounted_chain]
  exact List.mem_map.mpr ⟨r, hr, if_pos rfl⟩

theorem Dev.rowClosed_writes : (d.rowClosed c r).data.writes = (d.filled c r).1.data.writes := by
  unfold Dev.rowClosed Dev.paddingCounted
  split <;> rfl

theorem Dev.rowClosed_padded :
    getF (d.rowClosed c r) .CH_STAT_PADDED 0
      = if (d.holes c r).isEmpty then getF d .CH_STAT_PADDED 0 else min 255 (getF d .CH_STAT_PADDED 0 + 1) := by
  have hsame : getF (d.filled c r).1 .CH_STAT_PADDED 0 = getF d .CH_STAT_PADDED 0 := (d.filled_only c r).registers _ _ (by simp [noRegs]) (by decide)
  unfold Dev.rowClosed Dev.paddingCounted
  rw [Dev.modChain_getF]
  split
  · exact hsame
  · rw [← hsame]
    exact getF_incF _ _ _ _ _ (by decide)

end RowClosed

theorem Dev.chainRowWrite_ready {d : Dev} {c : Fin 16} {psa : Nat} {r : ChainRow}
    (hr : (d.chain c).rows.find? (fun r => r.psa == psa && !r.closed) = some r) :
    d.chainRowWrite c psa = if d.rowReady c r then d.closeRow c r else d := by
  unfold Dev.chainRowWrite
  simp only [hr]

theorem Dev.padExpiry_eq {d : Dev} {c : Fin 16} {psa : Nat} {r : ChainRow}
    (hr : (d.chain c).rows.find? (fun r => r.psa == psa && !r.closed) = some r) :
    d.padExpiry c psa = if 400 * getF d .CH_CFG_PAD_AFTER 0 ≤ r.age ∧ !(d.chain c).rows.any (fun x => x.psa == r.psa && x.closed)
      then d.closeRow c r else d := by
  unfold Dev.padExpiry
  simp only [hr]

/-- What O41 says of a row that is closed. -/
theorem rowClosed_spec {s : State} {g : Dev → Dev} {c : Fin 16} {psa : Nat} {r : ChainRow}
    (hr : (s.dev.chain c).rows.find? (fun r => r.psa == psa && !r.closed) = some r) (hg : g s.dev = s.dev.rowClosed c r) :
    ∃ r', r' ∈ ((s.onDev g).dev.chain c).rows ∧ r'.psa = psa ∧ r'.closed = true ∧ r'.epoch = 1
      ∧ (∀ j < s.dev.chainK c, (∀ id, (j, id) ∉ r.parts) →
          ∃ w ∈ (s.onDev g).dev.data.writes, (j, w.id) ∈ r'.parts ∧ w.kind = 0x20 ∧ w.data = zeros 65536 ∧ w.home = psa ∧ w.target = psa
            ∧ w.chain = c.val ∧ w.member = j ∧ w.volume = r.volume ∧ w.epoch = 1)
      ∧ (∀ x ∈ r.parts, x ∈ r'.parts)
      ∧ ((∃ j < s.dev.chainK c, ∀ id, (j, id) ∉ r.parts) → getF (s.onDev g).dev .CH_STAT_PADDED 0 = min 255 (getF s.dev .CH_STAT_PADDED 0 + 1))
      ∧ ((∀ j < s.dev.chainK c, ∃ id, (j, id) ∈ r.parts) → getF (s.onDev g).dev .CH_STAT_PADDED 0 = getF s.dev .CH_STAT_PADDED 0)
      ∧ Frame (theRegs [(.CH_STAT_PADDED, 0)]) [.data, .chains] [] [] s (s.onDev g) := by
  have hmem : r ∈ (s.dev.chain c).rows := List.mem_of_find?_eq_some hr
  have hpsa : r.psa = psa := by
    have h := List.find?_some hr
    simp only [Bool.and_eq_true, beq_iff_eq] at h
    exact h.1
  have hpadded : getF (s.onDev g).dev .CH_STAT_PADDED 0
      = if (s.dev.holes c r).isEmpty then getF s.dev .CH_STAT_PADDED 0 else min 255 (getF s.dev .CH_STAT_PADDED 0 + 1) := by
    rw [State.onDev_getF _ _ _ _ (by decide), hg, Dev.rowClosed_padded]
  refine ⟨r.closedWith (s.dev.filled c r).2, ?_, hpsa, rfl, rfl, fun j hj hid => ?_, fun x hx => List.mem_append_left _ hx, fun hsome => ?_,
    fun hall => ?_, Dev.Only.frame (hg ▸ s.dev.rowClosed_only c r)⟩
  · rw [State.onDev_chain, hg]
    exact s.dev.rowClosed_row c hmem
  · obtain ⟨n, -, hw, hx⟩ := addJobs_job (s.dev.filler c r) id (Dev.mem_holes.mpr ⟨hj, hid⟩) (s.dev, [])
    refine ⟨{ s.dev.filler c r j with id := n }, ?_, List.mem_append_right _ hx, rfl, rfl, hpsa, hpsa, rfl, rfl, rfl, rfl⟩
    rw [State.onDev_data, hg, Dev.rowClosed_writes]
    exact hw
  · obtain ⟨j, hj, hid⟩ := hsome
    rw [hpadded, if_neg]
    intro hempty
    exact List.not_mem_nil (List.isEmpty_iff.mp hempty ▸ Dev.mem_holes.mpr ⟨hj, hid⟩)
  · rw [hpadded, if_pos]
    rw [List.isEmpty_iff, List.eq_nil_iff_forall_not_mem]
    intro j hj
    obtain ⟨hk, hno⟩ := Dev.mem_holes.mp hj
    obtain ⟨id, hid⟩ := hall j hk
    exact hno id hid

/-- Where the device stays, so does the rest. -/
theorem rowLeft_spec {s : State} {g : Dev → Dev} (hg : g s.dev = s.dev) : Frame noRegs [] [] [] s (s.onDev g) :=
  Dev.Only.frame (by rw [hg]; exact Dev.Only.refl _)

/-! ## The parity of a row -/

/-- The sector of the parity member of a row (R234, R241). -/
def Dev.parityJob (d : Dev) (c : Nat) (r : ChainRow) (i : Nat) : WriteJob :=
  { id := 0, owner := none, surf := d.memSurf c (d.chainK c + i)
    head := ((d.pickHead (d.memSurf c (d.chainK c + i)) (psaLayer r.psa) (psaStripe r.psa)).getD
      (headOf (surfSpin (d.memSurf c (d.chainK c + i))) 0))
    home := r.psa, target := if r.ovr then 0 else r.psa, kind := 3 + i, volume := r.volume
    flags := if r.ovr then 8 else 0, epoch := r.epoch, logical := r.row, time := d.rowTime r, chain := c, member := d.chainK c + i, seq := 0
    reason := if r.ovr then 1 else 0
    data := if i = 0 then (rowParity r.ovr (d.chainK c) (d.rowData r) r.olds).1 else (rowParity r.ovr (d.chainK c) (d.rowData r) r.olds).2
    waited := (r.parts.any fun x => (d.write? x.2).any (·.waited)) || r.needed, row := r.row
    order := ((r.parts.filterMap fun x => (d.write? x.2).map (·.order)).min?).getD d.clasp.nextOrder }

/-- The parity members that are there. -/
def Dev.parityHere (d : Dev) (c : Nat) : List Nat := (List.range (d.chainM c)).filter fun i => !(d.missingOf c).contains (d.chainK c + i)

theorem Dev.mem_parityHere {d : Dev} {c i : Nat} : i ∈ d.parityHere c ↔ i < d.chainM c ∧ d.chainK c + i ∉ d.missingOf c := by
  unfold Dev.parityHere
  rw [List.mem_filter, List.mem_range]
  simp

/-- The device with the parity sectors of a row queued, and their parts. -/
def Dev.parityQueued (d : Dev) (c : Nat) (r : ChainRow) : Dev × List (Nat × Nat) :=
  addJobs (d.parityJob c r) (d.chainK c + ·) (d.parityHere c) (d, [])

/-- The jobs of a row once its parity is made: those of missing members go, the others take the epoch of the row. -/
def rowJobs (missing : List Nat) (r : ChainRow) (l : List WriteJob) : List WriteJob :=
  (l.filter fun w => !((r.parts.filter fun x => missing.contains x.1).map (·.2)).contains w.id).map fun w =>
    if (r.parts.map (·.2)).contains w.id then { w with epoch := r.epoch } else w

/-- A command that waits for a sector of the row waits for its parity too. -/
def parityWaits (r : ChainRow) (parity : List (Nat × Nat)) (y : Cmd) : Cmd :=
  if y.waits.any ((r.parts.map (·.2)).contains ·) then { y with waits := y.waits ++ parity.map (·.2) } else y

/-- The row with its parity made. -/
def ChainRow.madeWith (r : ChainRow) (m : Nat) (k : Nat) (missing : List Nat) (parity : List (Nat × Nat)) : ChainRow :=
  { r with
    made := true, touched := (r.parts.map (·.1)) ++ (List.range m).map (k + ·)
    parts := (r.parts.filter fun x => !missing.contains x.1) ++ parity }

/-- The device with the parity of a row queued, its commands waiting for it. -/
def Dev.rowQueued (d : Dev) (c : Fin 16) (r : ChainRow) : Dev :=
  ((d.parityQueued c r).1.modData fun x => { x with writes := rowJobs (d.missingOf c) r x.writes }).modClasp fun x =>
    { x with cmds := x.cmds.map (parityWaits r (d.parityQueued c r).2) }

/-- The device with the parity of a row queued and the row made. -/
def Dev.rowMade (d : Dev) (c : Fin 16) (r : ChainRow) : Dev :=
  (d.rowQueued c r).modChain c fun x => { x with
    rows := x.rows.map fun y =>
      if y = r then r.madeWith ((d.rowQueued c r).chainM c) (d.chainK c) (d.missingOf c) (d.parityQueued c r).2 else y }

theorem Dev.makeParity_eq (d : Dev) (t : Nat) (c : Fin 16) (r : ChainRow) :
    d.makeParity t c r = ((d.rowMade c r).addDegraded c r.psa (d.missingOf c)).checkWaits t := by
  unfold Dev.makeParity
  refine congrArg (fun e : Dev => (e.addDegraded c r.psa (d.missingOf c)).checkWaits t) ?_
  rfl

section RowMade

variable (d : Dev) (c : Fin 16) (r : ChainRow)

/-- Each parity member that is there has its sector queued. -/
theorem Dev.rowMade_job (hparts : ∀ x ∈ r.parts, x.2 < d.data.nextId) {i : Nat} (hi : i ∈ d.parityHere c) :
    ∃ n, { d.parityJob c r i with id := n } ∈ (d.rowMade c r).data.writes := by
  obtain ⟨n, hn, hw, -⟩ := addJobs_job (d.parityJob c r) (d.chainK c + ·) hi (d, [])
  have hfree : ∀ x ∈ r.parts, x.2 ≠ n := fun x hx => Nat.ne_of_lt (Nat.lt_of_lt_of_le (hparts x hx) hn)
  have hids : ∀ l : List (Nat × Nat), (∀ x ∈ l, x ∈ r.parts) → (l.map (·.2)).contains n = false := by
    intro l hl
    rw [List.contains_eq_mem, decide_eq_false_iff_not, List.mem_map]
    rintro ⟨x, hx, he⟩
    exact hfree x (hl x hx) he
  refine ⟨n, List.mem_map.mpr ⟨{ d.parityJob c r i with id := n }, List.mem_filter.mpr ⟨hw, ?_⟩, ?_⟩⟩
  · rw [Bool.not_eq_true']
    exact hids _ fun x hx => (List.mem_filter.mp hx).1
  · rw [if_neg]
    rw [hids r.parts fun x hx => hx]
    exact Bool.false_ne_true

theorem Dev.rowMade_degraded : ((d.rowMade c r).chain c).degraded = (d.chain c).degraded := by
  have hchains : (d.parityQueued c r).1.chains = d.chains :=
    (addJobs_only (d.parityJob c r) (d.chainK c + ·) (d.parityHere c) (d, [])).others .chains (by simp)
  unfold Dev.rowMade
  rw [Dev.chain_modChain]
  simp only [Dev.rowQueued, Dev.chain, Dev.modClasp, Dev.modData, hchains]

end RowMade

/-! ## The degraded rows of a chain -/

/-- The members that are missing, each once, in order. -/
theorem Dev.missingOf_sorted (d : Dev) (c : Nat) : (d.missingOf c).SortedLT :=
  (List.pairwise_lt_range.filter _).sortedLT

/-- The bits of a mask are the members it was made of. -/
theorem bit_mask {l : List Nat} (hl : l.SortedLT) {j : Nat} (hj : j ∈ l) : Nat.testBit (l.map (2 ^ ·)).sum j = true := by
  rw [← Nat.mem_bitIndices, Nat.bitIndices_sum_map_two_pow hl]
  exact hj

/-- A row entered under a mask: after it, the list has the row with every bit of the mask. -/
def degradedWith (l : List (Nat × Nat)) (psa mask : Nat) : List (Nat × Nat) :=
  if l.any (·.1 == psa) then l.map fun y => if y.1 = psa then (psa, Nat.lor y.2 mask) else y else l ++ [(psa, mask)]

theorem mem_degradedWith (l : List (Nat × Nat)) (psa mask : Nat) :
    ∃ y ∈ degradedWith l psa mask, y.1 = psa ∧ ∀ j, Nat.testBit mask j = true → bit y.2 j = true := by
  unfold degradedWith
  split
  · rename_i hany
    obtain ⟨y, hy, hpsa⟩ := List.any_eq_true.mp hany
    refine ⟨(psa, Nat.lor y.2 mask), List.mem_map.mpr ⟨y, hy, if_pos (beq_iff_eq.mp hpsa)⟩, rfl, fun j hj => ?_⟩
    rw [bit_eq_testBit]
    change Nat.testBit (y.2 ||| mask) j = true
    rw [Nat.testBit_or, hj, Bool.or_true]
  · exact ⟨(psa, mask), List.mem_append_right _ (List.mem_singleton.mpr rfl), rfl, fun j hj => (bit_eq_testBit _ _).trans hj⟩

section AddDegraded

variable (d : Dev) (c : Fin 16) (psa : Nat) (missing : List Nat)

theorem Dev.addDegraded_none : d.addDegraded c psa [] = d := rfl

theorem Dev.addDegraded_some (h : missing ≠ []) :
    d.addDegraded c psa missing
      = setF (d.modChain c fun x => { x with degraded := degradedWith x.degraded psa (missing.map (2 ^ ·)).sum }) .CH_CHAIN_W0_DEGRADED c
          (degradedWith (d.chain c).degraded psa (missing.map (2 ^ ·)).sum).length := by
  unfold Dev.addDegraded
  rw [if_neg (by simpa using h)]
  simp only [chainOf_coe, Dev.chain_modChain]
  rfl

theorem Dev.addDegraded_data : (d.addDegraded c psa missing).data = d.data := by
  unfold Dev.addDegraded
  split <;> rfl

end AddDegraded

/-! ## The commands that waited -/

/-- What every completion and every result slot keeps, the round of the waiting commands keeps. -/
theorem Dev.checkWaits_keeps {P : Dev → Prop} (hcomplete : ∀ d t c status count, P d → P (d.complete t c status count))
    (hslot : ∀ d c tok supplied stored, P d → P (d.resultSlot c tok supplied stored)) {d : Dev} (h : P d) (t : Nat) : P (d.checkWaits t) := by
  have hdone : ∀ d c status, P d → P (d.writeDone t c status) := by
    intro d c status hd
    unfold Dev.writeDone
    cases c.result with
    | none => exact hcomplete _ _ _ _ _ hd
    | some x => exact hcomplete _ _ _ _ _ (hslot _ _ _ _ _ hd)
  have hfail : ∀ d id status, P d → P (d.failWaits t id status) := fun d id status hd =>
    List.foldlRecOn (motive := P) _ _ hd fun d hd c _ => hcomplete _ _ _ _ _ hd
  have hreloc : ∀ d s, P d → P (d.relocFail t s) := by
    intro d s hd
    unfold Dev.relocFail
    split
    · exact List.foldlRecOn (motive := P) _ _ hd fun d hd w _ => hfail _ _ _ hd
    · exact hd
  exact List.foldlRecOn (motive := P) _ _ (List.foldlRecOn (motive := P) _ _ h fun d hd c _ => hdone _ _ _ hd) fun d hd s _ => hreloc _ _ hd

theorem Dev.checkWaits_chain (d : Dev) (t : Nat) (c : Fin 16) : (d.checkWaits t).chain c = d.chain c :=
  Dev.checkWaits_keeps (P := fun e => e.chain c = d.chain c) (fun e _ _ _ _ h => (e.complete_chain _ _ _ _ _ c).trans h)
    (fun _ _ _ _ _ h => h) rfl t

theorem Dev.checkWaits_degraded (d : Dev) (t i : Nat) : getF (d.checkWaits t) .CH_CHAIN_W0_DEGRADED i = getF d .CH_CHAIN_W0_DEGRADED i :=
  Dev.checkWaits_keeps (P := fun e => getF e .CH_CHAIN_W0_DEGRADED i = getF d .CH_CHAIN_W0_DEGRADED i)
    (fun e _ _ _ _ h => (e.complete_getF _ _ _ _ _ i (by decide) (by decide) (by decide) (by decide)).trans h) (fun _ _ _ _ _ h => h) rfl t

/-- A job stays queued, but for its owner, who may be gone. -/
theorem Dev.checkWaits_job {P : WriteJob → Prop} (howner : ∀ w o, P w → P { w with owner := o }) {d : Dev} (h : ∃ w ∈ d.data.writes, P w) (t : Nat) :
    ∃ w ∈ (d.checkWaits t).data.writes, P w := by
  refine Dev.checkWaits_keeps (P := fun e => ∃ w ∈ e.data.writes, P w) (fun e _ _ _ _ h => ?_) (fun _ _ _ _ _ h => h) h t
  obtain ⟨w, hw, hP⟩ := h
  rw [Dev.complete_data]
  refine ⟨_, List.mem_map.mpr ⟨w, hw, rfl⟩, ?_⟩
  split
  · exact howner w _ hP
  · exact hP

theorem Dev.engineDone_parity {d : Dev} {t : Nat} {c : Fin 16} {psa : Nat} {r : ChainRow}
    (hidle : ∀ b ∈ (d.chain c).rebuilds, b.psa = psa → b.ready = false ∧ b.dead = false)
    (hr : ((d.chain c).rows.find? fun r => r.psa == psa && r.closed && !r.made && r.await.isEmpty) = some r) :
    d.engineDone t c psa = d.makeParity t c r := by
  have hnone : ((d.chain c).rebuilds.find? fun b =>
      b.psa == psa && (b.ready || (b.dead && (b.forOver || b.job.any fun id => (d.read? id).isNone)))) = none := by
    rw [List.find?_eq_none]
    intro b hb hkey
    simp only [Bool.and_eq_true, beq_iff_eq] at hkey
    obtain ⟨hpsa, hready⟩ := hkey
    obtain ⟨hno, hlive⟩ := hidle b hb hpsa
    rw [hno, hlive] at hready
    exact Bool.false_ne_true hready
  unfold Dev.engineDone
  simp only [hnone, hr]

/-- What O41 says of the sector of a row's parity member. -/
structure ParityFor (d : Dev) (c : Fin 16) (r : ChainRow) (i psa : Nat) (w : WriteJob) : Prop where
  kind : w.kind = 3 + i
  member : w.member = d.chainK c + i
  chain : w.chain = c.val
  home : w.home = psa
  epoch : w.epoch = r.epoch
  logical : w.logical = r.row
  data : w.data = (d.parityJob c r i).data

/-- Settles O41: a closed row gets its fillers and counts once, and its parity is queued for the members that are there. -/
theorem rowsOfAChain : Obligations.RowsOfAChain := by
  unfold Obligations.RowsOfAChain
  refine ⟨?_, ?_, ?_⟩
  · intro c psa r i s hr hcomp hi
    have hpsa : r.psa = psa := by
      have h := List.find?_some hr
      simp only [Bool.and_eq_true, beq_iff_eq] at h
      exact h.1
    have hfirst : s.dev.closeRow c r = s.dev.rowClosed c r := Dev.closeRow_first (hpsa ▸ hcomp)
    rcases hi with ⟨rfl, hready⟩ | ⟨rfl, hage, hopen⟩
    · have hg : s.dev.chainRowWrite c psa = s.dev.rowClosed c r := by rw [Dev.chainRowWrite_ready hr, if_pos hready, hfirst]
      obtain ⟨r', hspec⟩ := rowClosed_spec (g := fun d => d.chainRowWrite c psa) hr hg
      exact ⟨_, r', rfl, hspec⟩
    · have hno : (s.dev.chain c).rows.any (fun x => x.psa == r.psa && x.closed) = false := by
        rw [List.any_eq_false]
        intro y hy hkey
        simp only [Bool.and_eq_true, beq_iff_eq] at hkey
        exact Bool.false_ne_true ((hopen y hy (hkey.1.trans hpsa)).symm.trans hkey.2)
      have hg : s.dev.padExpiry c psa = s.dev.rowClosed c r := by rw [Dev.padExpiry_eq hr, if_pos ⟨hage, by rw [hno]; rfl⟩, hfirst]
      obtain ⟨r', hspec⟩ := rowClosed_spec (g := fun d => d.padExpiry c psa) hr hg
      exact ⟨_, r', rfl, hspec⟩
  · intro c psa r s hr
    refine ⟨fun hready => ⟨_, rfl, rowLeft_spec ?_⟩, fun hage => ⟨_, rfl, rowLeft_spec ?_⟩⟩
    · rw [Dev.chainRowWrite_ready hr, if_neg (by rw [hready]; exact Bool.false_ne_true)]
    · rw [Dev.padExpiry_eq hr, if_neg fun h => Nat.not_le.mpr hage h.1]
  · intro c psa r s hidle hr hparts
    have hpsa : r.psa = psa := by
      have h := List.find?_some hr
      simp only [Bool.and_eq_true, beq_iff_eq] at h
      exact h.1.1.1
    have hdo : s.dev.engineDone s.dtime c psa = ((s.dev.rowMade c r).addDegraded c psa (s.dev.missingOf c)).checkWaits s.dtime := by
      rw [Dev.engineDone_parity hidle hr, Dev.makeParity_eq, hpsa]
    have hchain : ((s.onDev fun d => d.engineDone s.dtime c psa).dev.chain c).degraded
        = (((s.dev.rowMade c r).addDegraded c psa (s.dev.missingOf c)).chain c).degraded := by
      rw [State.onDev_chain, hdo, Dev.checkWaits_chain]
    refine ⟨_, rfl, fun i hi hhere => ?_, fun hnone => ?_, fun hsome => ⟨?_, fun hlen => ?_⟩⟩
    · obtain ⟨n, hn⟩ := s.dev.rowMade_job c r hparts (Dev.mem_parityHere.mpr ⟨hi, hhere⟩)
      have hjob : ParityFor s.dev c r i psa { s.dev.parityJob c r i with id := n } := ⟨rfl, rfl, rfl, hpsa, rfl, rfl, rfl⟩
      obtain ⟨w, hw, hfor⟩ := Dev.checkWaits_job (d := (s.dev.rowMade c r).addDegraded c psa (s.dev.missingOf c)) (P := ParityFor s.dev c r i psa)
        (fun w o h => ⟨h.kind, h.member, h.chain, h.home, h.epoch, h.logical, h.data⟩)
        ⟨_, (Dev.addDegraded_data _ c psa _).symm ▸ hn, hjob⟩ s.dtime
      refine ⟨w, ?_, hfor.kind, hfor.member, hfor.chain, hfor.home, hfor.epoch, hfor.logical, hfor.data⟩
      rw [State.onDev_data, hdo]
      exact hw
    · rw [hchain, hnone, Dev.addDegraded_none, Dev.rowMade_degraded]
    · rw [hchain, Dev.addDegraded_some _ _ _ _ hsome, Dev.setF_chain, Dev.chain_modChain]
      obtain ⟨y, hy, hkey, hbits⟩ := mem_degradedWith ((s.dev.rowMade c r).chain c).degraded psa ((s.dev.missingOf c).map (2 ^ ·)).sum
      exact ⟨y, hy, hkey, fun j hj => hbits j (bit_mask (s.dev.missingOf_sorted c) hj)⟩
    · rw [hchain, Dev.addDegraded_some _ _ _ _ hsome, Dev.setF_chain, Dev.chain_modChain] at hlen ⊢
      rw [State.onDev_getF _ _ _ _ (by decide), hdo, Dev.checkWaits_degraded, Dev.addDegraded_some _ _ _ _ hsome, getF_setF]
      exact Nat.mod_eq_of_lt (Nat.lt_of_le_of_lt hlen (by decide))

end Sys2Proof.Machine
end

section
/-! PROOFS. Arming a sector (O35). -/

namespace Sys2Proof.Machine

/-! ## What stands still -/

@[simp] theorem State.onDev_surf (s : State) (g : Dev → Dev) (x : SurfId) : (s.onDev g).dev.surf x = (g s.dev).surf x := by
  simp only [Dev.surf, State.onDev_surfaces]

@[simp] theorem State.onDev_write? (s : State) (g : Dev → Dev) (id : Nat) : (s.onDev g).dev.write? id = (g s.dev).write? id := by
  simp only [Dev.write?, State.onDev_data]

/-- What leaves the surfaces leaves each of them. -/
theorem Dev.Only.surf {R : Fld → Nat → Prop} {P : List Part} {H : List HeadId} {S : List SpinId} {a b : Dev} (h : Dev.Only R P H S a b)
    (hP : Part.surfaces ∉ P) (x : SurfId) : b.surf x = a.surf x := by
  have hsame : b.surfaces = a.surfaces := h.others .surfaces hP
  simp only [Dev.surf, hsame]

theorem Dev.write?_id {d : Dev} {id : Nat} {w : WriteJob} (h : d.write? id = some w) : w.id = id :=
  beq_iff_eq.mp (List.find?_some (p := fun x : WriteJob => x.id == id) h)

/-- A changed job that keeps its number is found under it. -/
theorem Dev.write?_modWrite {d : Dev} {id : Nat} {w : WriteJob} (h : d.write? id = some w) {f : WriteJob → WriteJob} (hf : ∀ x, (f x).id = x.id) :
    (d.modWrite id f).write? id = some (f w) := by
  have hkey : ((fun x : WriteJob => x.id == id) ∘ fun x => if x.id = id then f x else x) = fun x => x.id == id := by
    funext x
    by_cases hx : x.id = id
    · simp only [Function.comp, if_pos hx, hf]
    · simp only [Function.comp, if_neg hx]
  unfold Dev.write? Dev.modWrite
  change List.find? _ (List.map _ d.data.writes) = _
  rw [List.find?_map, hkey]
  change Option.map _ (d.write? id) = _
  rw [h, Option.map_some, if_pos (Dev.write?_id h)]

/-! ## The frontiers of a surface -/

/-- The registers that show the frontiers of a surface. -/
def frontierRegs (s : SurfId) (f : Fld) (i : Nat) : Prop := f = .FC_RELOC_NEXT_FRONTIER ∧ ∃ g ∈ surfHeads s, i / 4 = g.val

theorem Dev.Only.showFrontier {R : Fld → Nat → Prop} {P : List Part} {H : List HeadId} {S : List SpinId} {a b : Dev} (h : Dev.Only R P H S a b)
    (s : SurfId) (hR : ∀ f i, frontierRegs s f i → R f i) : Dev.Only R P H S a (b.showFrontier s) := by
  refine h.foldl _ fun g hg d hd => hd.foldl _ fun k hk e he => he.setF (hR _ _ ⟨rfl, g, hg, ?_⟩) _
  have hlt : k < 4 := List.mem_range.mp hk
  omega

/-- The frontier of one spot put elsewhere, those of the others stay. -/
theorem Surface.frontierAt_put (x : Surface) (psa : Nat) {j k : Nat} (hj : j < 4) (hk : k ≠ j) {y : Surface}
    (hy : y.frontier = (List.range 4).map fun i => if i = k then psa else x.frontierAt i) : y.frontierAt j = x.frontierAt j := by
  have hget : y.frontier.getD j 0 = x.frontierAt j := by
    rw [hy, List.getD_eq_getElem _ _ (by simpa using hj), List.getElem_map, List.getElem_range, if_neg hk.symm]
  have hge : 4 ≤ x.frontierAt j := by
    unfold Surface.frontierAt
    dsimp only
    split
    · unfold psaOf
      omega
    · omega
  unfold Surface.frontierAt
  rw [hget]
  exact if_neg (Nat.not_lt.mpr hge)

/-- With a spot whose frontier is not at the end, nothing is full. -/
theorem Dev.relocCheck_room {d : Dev} {s : SurfId} {k : Nat} (hk : k < 4) (h : frontierEnd ((d.surf s).frontierAt k) = false) (t : Nat) :
    d.relocCheck t s = d := by
  have hall : ((List.range 4).all fun k => frontierEnd ((d.surf s).frontierAt k)) = false := by
    rw [List.all_eq_false]
    exact ⟨k, List.mem_range.mpr hk, by rw [h]; exact Bool.false_ne_true⟩
  unfold Dev.relocCheck
  simp only [hall, Bool.and_false, Bool.false_eq_true, if_false]

/-! ## Arming one sector -/

/-- A sector takes a relocation place. -/
def armMoves (w : WriteJob) (target : Nat) : Bool := inReloc target && w.reason != 0

/-- The SEQ of a sector that is armed. -/
def armSeq (sf : Surface) (w : WriteJob) : Nat := if w.reason = 0 then 0 else if w.seq = 0 then sf.nextSeq else w.seq

/-- The surface of a sector that is armed. -/
def Surface.armed (x : Surface) (s : SpotId) (w : WriteJob) (target : Nat) : Surface :=
  { x with
    nextSeq := if w.reason ≠ 0 ∧ w.seq = 0 then x.nextSeq + 1 else x.nextSeq
    frontier := if armMoves w target then (List.range 4).map fun k => if k = s.val then nextFrontier target else x.frontierAt k else x.frontier
    reallocTurn := x.reallocTurn && !w.background
    written := x.written ++ [target] }

/-- The job of a sector that is armed. -/
def WriteJob.armed (w : WriteJob) (h : HeadId) (s : SpotId) (target seq bank : Nat) : WriteJob :=
  { w with
    state := .armed, head := h, spot := s, target, seq
    flags := w.flags % 2 + reasonFlags w.reason
    sent := 0, bank, begun := false, pass := none, readBack := none
    gateSeen := false, gateLost := false, bad := false, under := false, tempWait := 0 }

/-- The device with the place of a sector taken. -/
def Dev.placeTaken (d : Dev) (h : HeadId) (s : SpotId) (w : WriteJob) (target : Nat) : Dev :=
  let moved := armMoves w target
  let f := (d.surf w.surf).frontierAt s
  let d := if moved ∧ psaLayer f = psaLayer target then incF d .FC_WR_STAT_SKIPPED h (psaStripe target - psaStripe f) else d
  let d := d.modSurf w.surf fun x => x.armed s w target
  if moved then d.showFrontier w.surf else d

theorem Dev.armOne_eq (d : Dev) (h : HeadId) (s : SpotId) (w : WriteJob) (target bank : Nat) :
    d.armOne h s w target bank
      = ((d.placeTaken h s w target).modWrite w.id fun x => x.armed h s target (armSeq (d.surf w.surf) w) bank).modDown h fun x =>
          { x with wLayer := psaLayer target, wStripe := psaStripe target, armReq := Nat.lor x.armReq (2 ^ s.val), armEpoch := x.epoch, bank } := rfl

section Armed

variable (d : Dev) (h : HeadId) (s : SpotId) (w : WriteJob) (target bank : Nat)

/-- The registers that arming on a surface touches. -/
def armRegs (h : HeadId) (x : SurfId) (f : Fld) (i : Nat) : Prop := (f = .FC_WR_STAT_SKIPPED ∧ i = h.val) ∨ frontierRegs x f i

theorem Dev.placeTaken_only : Dev.Only (armRegs h w.surf) [.surfaces] [] [] d (d.placeTaken h s w target) := by
  unfold Dev.placeTaken
  dsimp only
  have hskip : Dev.Only (armRegs h w.surf) [.surfaces] [] [] d
      (if armMoves w target ∧ psaLayer ((d.surf w.surf).frontierAt s) = psaLayer target then
        incF d .FC_WR_STAT_SKIPPED h (psaStripe target - psaStripe ((d.surf w.surf).frontierAt s)) else d) :=
    Dev.Only.ite (fun _ => (Dev.Only.refl d).incF (Or.inl ⟨rfl, rfl⟩) _ _) fun _ => Dev.Only.refl d
  have hsurf := hskip.modSurf (by simp) w.surf fun x => x.armed s w target
  exact Dev.Only.ite (fun _ => hsurf.showFrontier _ fun _ _ => Or.inr) fun _ => hsurf

theorem Dev.placeTaken_surf : (d.placeTaken h s w target).surf w.surf = (d.surf w.surf).armed s w target := by
  unfold Dev.placeTaken
  dsimp only
  have hskip : ∀ e : Dev, e.surf w.surf = d.surf w.surf →
      (e.modSurf w.surf fun x => x.armed s w target).surf w.surf = (d.surf w.surf).armed s w target := fun e he => by rw [Dev.surf_modSurf, he]
  have hbase := hskip (if armMoves w target ∧ psaLayer ((d.surf w.surf).frontierAt s) = psaLayer target then
      incF d .FC_WR_STAT_SKIPPED h (psaStripe target - psaStripe ((d.surf w.surf).frontierAt s)) else d) (by split <;> rfl)
  split
  · rw [((Dev.Only.refl _).showFrontier w.surf (R := frontierRegs w.surf) (P := []) (H := []) (S := []) fun _ _ hr => hr).surf (by simp)]
    exact hbase
  · exact hbase

theorem Dev.armOne_surf : (d.armOne h s w target bank).surf w.surf = (d.surf w.surf).armed s w target :=
  (d.placeTaken_surf h s w target)

theorem Dev.armOne_only : Dev.Only (armRegs h w.surf) [.data, .surfaces] [h] [] d (d.armOne h s w target bank) := by
  rw [Dev.armOne_eq]
  have hplace : Dev.Only (armRegs h w.surf) [.data, .surfaces] [h] [] d (d.placeTaken h s w target) :=
    (d.placeTaken_only h s w target).mono (fun _ _ hr => hr) (by simp) (by simp) (by simp)
  exact (hplace.modWrite (by simp) _ _).modDown (by simp) _

theorem Dev.armOne_write? (hw : d.write? w.id = some w) :
    (d.armOne h s w target bank).write? w.id = some (w.armed h s target (armSeq (d.surf w.surf) w) bank) := by
  have hdata : (d.placeTaken h s w target).data = d.data := (d.placeTaken_only h s w target).others .data (by simp)
  have hplace : (d.placeTaken h s w target).write? w.id = some w := by
    unfold Dev.write?
    rw [hdata]
    exact hw
  exact Dev.write?_modWrite hplace fun _ => rfl

theorem Dev.armOne_down : ((d.armOne h s w target bank).head h).down
    = { (d.head h).down with
        wLayer := psaLayer target, wStripe := psaStripe target, armReq := Nat.lor (d.head h).down.armReq (2 ^ s.val)
        armEpoch := (d.head h).down.epoch, bank } := by
  have hhead : ((d.placeTaken h s w target).modWrite w.id fun x => x.armed h s target (armSeq (d.surf w.surf) w) bank).head h = d.head h :=
    (d.placeTaken_only h s w target).headsKept h (by simp)
  rw [Dev.armOne_eq, Dev.modDown_down, hhead]

end Armed

/-! ## The request -/

theorem Dev.armList_single {d : Dev} {h : HeadId} {spot : SpotId} {id p : Nat} {w : WriteJob} (hw : d.write? id = some w)
    (hmay : d.mayArmJob h spot w = true) (htarget : d.targetFor h spot w = some p) (htakes : d.headTakes h w p = true) :
    d.armList h [(spot, id)] = [(spot, w, p)] := by
  unfold Dev.armList
  simp only [List.filterMap_cons, List.filterMap_nil, hw, hmay, htarget, htakes, if_true]

theorem armStripe_single (spot : SpotId) (w : WriteJob) (p : Nat) : armStripe [(spot, w, p)] = some (p / 4) := by
  unfold armStripe
  cases hfind : [(spot, w, p)].find? fun x => !inReloc x.2.2 || x.2.1.reason == 0 with
  | none => rfl
  | some x =>
    cases List.mem_singleton.mp (List.mem_of_find?_eq_some hfind)
    rfl

theorem psaLayer_stripeStart (p : Nat) : psaLayer (4 * (p / 4)) = psaLayer p := by
  unfold psaLayer
  omega

theorem psaStripe_stripeStart (p : Nat) : psaStripe (4 * (p / 4)) = psaStripe p := by
  unfold psaStripe
  omega

theorem Dev.writeArm_single {d : Dev} {h : HeadId} {spot : SpotId} {id p bank : Nat} {w : WriteJob} (hhead : d.headMayWrite h = true)
    (hw : d.write? id = some w) (hmay : d.mayArmJob h spot w = true) (htarget : d.targetFor h spot w = some p)
    (htakes : d.headTakes h w p = true) (hspot : p % 4 = spot.val) (hlayer : d.layerLimited h (psaLayer p) = false)
    (hreq : (d.head h).down.armReq = 0) (hrate : rateOk (stripeRadius (psaLayer p) (psaStripe p)) (getF d .TQ_STAT_SPEED (spinOf h)) = true)
    (hahead : ∀ n, d.untilStripe h (psaLayer p) (psaStripe p) = some n → 0 ≤ n) (hbank : d.bankFor h (psaLayer p) = some bank)
    (hnew : p ∉ (d.surf (surfOf h)).written) :
    d.writeArm h [(spot, id)] = (d.modMotion h fun m => { m with placeW := true }).armOne h spot w p bank := by
  have hpast : ((d.untilStripe h (psaLayer p) (psaStripe p)).any fun k => decide (k < 0)) = false := by
    cases hn : d.untilStripe h (psaLayer p) (psaStripe p) with
    | none => rfl
    | some n => exact decide_eq_false (not_lt.mpr (hahead n hn))
  have hfree : (d.jobAt h spot).isNone = true := by
    unfold Dev.mayArmJob at hmay
    simp only [Bool.and_eq_true] at hmay
    obtain ⟨⟨⟨⟨⟨⟨⟨-, hfree⟩, -⟩, -⟩, -⟩, -⟩, -⟩, -⟩ := hmay
    exact hfree
  have hp : 4 * (p / 4) + spot.val = p := by omega
  have hcontains : (d.surf (surfOf h)).written.contains p = false := by simpa using hnew
  unfold Dev.writeArm
  simp only [hhead, Bool.not_true, Bool.false_eq_true, if_false, Dev.armList_single hw hmay htarget htakes, armStripe_single,
    psaLayer_stripeStart, psaStripe_stripeStart, hlayer, hreq, hrate, hpast, hbank, ne_eq, not_true_eq_false, and_false, decide_false,
    List.foldl_cons, List.foldl_nil, hp]
  refine if_pos ⟨Or.inl trivial, ?_⟩
  rw [← Bool.and_eq_true]
  change (!(d.surf (surfOf h)).written.contains p && (d.jobAt h spot).isNone) = true
  rw [hcontains, hfree]
  rfl

theorem Dev.writeArm_none {d : Dev} {h : HeadId} (hhead : d.headMayWrite h = false) (jobs : List (SpotId × Nat)) : d.writeArm h jobs = d := by
  unfold Dev.writeArm
  rw [hhead]
  rfl

/-- Settles O35: one sector armed, nothing armed on a head that may not write, and what a head that may write is like. -/
theorem armingASector : Obligations.ArmingASector := by
  unfold Obligations.ArmingASector
  refine ⟨?_, ?_, ?_⟩
  · intro h spot id p bank k w s hhead hw hmay htarget htakes hspot hlayer hreq hrate hahead hbank hnew hk hkspot hroom
    have hsurf : w.surf = surfOf h := by
      unfold Dev.mayArmJob at hmay
      simp only [Bool.and_eq_true, beq_iff_eq] at hmay
      obtain ⟨⟨⟨⟨⟨⟨⟨⟨⟨⟨⟨-, hsurf⟩, -⟩, -⟩, -⟩, -⟩, -⟩, -⟩, -⟩, -⟩, -⟩, -⟩ := hmay
      exact hsurf
    cases Dev.write?_id hw
    have harm := Dev.writeArm_single hhead hw hmay htarget htakes hspot hlayer hreq hrate hahead hbank hnew
    have hsf : ((s.dev.modMotion h fun m => { m with placeW := true }).armOne h spot w p bank).surf (surfOf h)
        = (s.dev.surf (surfOf h)).armed spot w p := by
      rw [← hsurf, Dev.armOne_surf]
      rfl
    have hend : frontierEnd ((((s.dev.modMotion h fun m => { m with placeW := true }).armOne h spot w p bank).surf (surfOf h)).frontierAt k)
        = false := by
      rw [hsf]
      by_cases hmoves : armMoves w p = true
      · rw [Surface.frontierAt_put (s.dev.surf (surfOf h)) (nextFrontier p) hk hkspot.symm (if_pos hmoves)]
        exact hroom
      · have hsame : ((s.dev.surf (surfOf h)).armed spot w p).frontier = (s.dev.surf (surfOf h)).frontier := if_neg hmoves
        unfold Surface.frontierAt
        rw [hsame]
        exact hroom
    have hdo : (s.dev.writeArm h [(spot, w.id)]).relocCheck s.dtime (surfOf h)
        = (s.dev.modMotion h fun m => { m with placeW := true }).armOne h spot w p bank := by
      rw [harm, Dev.relocCheck_room hk hend]
    have hdown := (s.dev.modMotion h fun m => { m with placeW := true }).armOne_down h spot w p bank
    refine ⟨_, w.armed h spot p (armSeq (s.dev.surf w.surf) w) bank, rfl, ?_, rfl, rfl, rfl, rfl, rfl, ?_, ?_, ?_, ?_, ?_, ?_, ?_, ?_⟩
    · rw [State.onDev_write?, hdo]
      exact Dev.armOne_write? _ h spot w p bank hw
    · rw [← hsurf]
      rfl
    · rw [State.onDev_surf, hdo, hsf]
      change (if w.reason ≠ 0 ∧ w.seq = 0 then _ else _) = _
      split <;> rfl
    · rw [State.onDev_surf, hdo, hsf]
      rfl
    · rw [State.onDev_head, hdo, hdown, Dev.modMotion_head_down, hreq]
      exact Nat.zero_or _
    · rw [State.onDev_head, hdo, hdown]
    · rw [State.onDev_head, hdo, hdown]
    · rw [State.onDev_head, hdo, hdown]
    · refine Dev.Only.frame ?_
      rw [hdo, ← hsurf]
      have hplace : Dev.Only (armRegs h w.surf) [.data, .surfaces] [h] [] s.dev (s.dev.modMotion h fun m => { m with placeW := true }) :=
        (Dev.Only.refl s.dev).modMotion (by simp) _
      exact hplace.trans (Dev.armOne_only _ h spot w p bank)
  · intro h jobs k s hhead hk hroom
    refine ⟨_, rfl, rowLeft_spec ?_⟩
    rw [Dev.writeArm_none hhead, Dev.relocCheck_room hk hroom]
  · intro h s hhead
    unfold Dev.headMayWrite Dev.ableToWrite at hhead
    simp only [Bool.and_eq_true, Bool.not_eq_true', beq_iff_eq] at hhead
    obtain ⟨⟨⟨⟨⟨⟨⟨⟨⟨⟨⟨⟨⟨⟨⟨⟨⟨⟨-, hlaser⟩, -⟩, hmode⟩, hguard⟩, -⟩, -⟩, -⟩, hwarm⟩, hcool⟩, hdip⟩, -⟩, hinhibit⟩, -⟩, -⟩, hstate⟩, hrate⟩, -⟩, -⟩ := hhead
    exact ⟨hmode, hlaser, beq_iff_eq.mp hguard, hwarm, hcool, hdip, hinhibit, hstate, hrate⟩

end Sys2Proof.Machine
end

section
/-! PROOFS. The power ladder (O56): what a new power state keeps, the steps down, wakes, exits and bay events. -/

namespace Sys2Proof.Machine

/-! ## The register file through a power state -/

theorem fldOf_regKey (f : Fld) (i : Nat) : fldOf (regKey f i) = f := by
  have hlt : f.ctorIdx < 1024 := f.ctorIdx_lt
  have hmod : regKey f i % 1024 = f.ctorIdx := by
    unfold regKey
    omega
  unfold fldOf
  rw [hmod, Fld.ofNat_ctorIdx]

/-- Dropping other keys leaves the value of a key. -/
theorem Sparse.get_filter {β : Type} (dflt : Nat → β) (l : List (Nat × β)) {q : Nat → Bool} {k : Nat} (hk : q k = true) :
    Sparse.get dflt (l.filter fun p => q p.1) k = Sparse.get dflt l k := by
  induction l with
  | nil => rfl
  | cons x l ih =>
    rw [List.filter_cons]
    by_cases hx : q x.1 = true
    · rw [if_pos hx]
      simp only [Sparse.get, ih]
    · have hne : k ≠ x.1 := fun e => hx (e ▸ hk)
      rw [if_neg hx, ih]
      simp only [Sparse.get, if_neg hne]

/-- What is dropped is of fields that are not kept. -/
theorem Dev.dropFields_only (d : Dev) (keep : Fld → Bool) :
    Dev.Only (fun f _ => keep f = false) [.rvPend, .hmPend] [] [] d (d.dropFields keep) := by
  unfold Dev.dropFields
  dsimp only
  refine Dev.Only.foldl ?_ _ fun x hx e he => he.setF ?_ _
  · refine { registers := fun f i hf _ => ?_, others := fun p hp => ?_, headsKept := fun _ _ => rfl, spinsKept := fun _ _ => rfl }
    · have hkeep : keep (fldOf (regKey f i)) = true := by
        rw [fldOf_regKey]
        exact Bool.eq_true_of_not_eq_false hf
      exact Sparse.get_filter keyDefault d.regs (q := fun k => keep (fldOf k)) hkeep
    · have hrv : p ≠ .rvPend := fun e => hp (by simp [e])
      have hhm : p ≠ .hmPend := fun e => hp (by simp [e])
      cases p with
      | rvPend => exact absurd rfl hrv
      | hmPend => exact absurd rfl hhm
      | _ => rfl
  · have hdrop := (List.mem_filter.mp hx).2
    exact Bool.not_eq_true' _ ▸ hdrop

/-- What leaves every head leaves the heads. -/
theorem Dev.Only.heads {R : Fld → Nat → Prop} {P : List Part} {S : List SpinId} {a b : Dev} (h : Dev.Only R P [] S a b) : b.heads = a.heads :=
  Vector.ext fun i hi => h.headsKept ⟨i, hi⟩ (by simp)

/-- What leaves every spindle leaves the spindles. -/
theorem Dev.Only.spindles {R : Fld → Nat → Prop} {P : List Part} {H : List HeadId} {a b : Dev} (h : Dev.Only R P H [] a b) :
    b.spindles = a.spindles :=
  Vector.ext fun i hi => h.spinsKept ⟨i, hi⟩ (by simp)

/-! ## A new power state -/

/-- Any register. -/
def anyRegs : Fld → Nat → Prop := fun _ _ => True

theorem Dev.Only.dropFields {P : List Part} {H : List HeadId} {S : List SpinId} {a b : Dev} (h : Dev.Only anyRegs P H S a b)
    (hrv : .rvPend ∈ P) (hhm : .hmPend ∈ P) (keep : Fld → Bool) : Dev.Only anyRegs P H S a (b.dropFields keep) :=
  h.trans ((b.dropFields_only keep).mono (fun _ _ _ => trivial) (by simp [hrv, hhm]) (by simp) (by simp))

section SetState

variable (d : Dev) (n : Nat)

theorem Dev.setState_only : Dev.Only anyRegs [.rvPend, .hmPend, .power] [] [] d (d.setState n) := by
  have hbase : Dev.Only anyRegs [.rvPend, .hmPend, .power] [] [] d
      ((incF (setF d .PM_STAT_STATE 0 n) .PM_STAT_TRANSITIONS 0).modPower fun p =>
        { p with idle := 0, inP1 := 0, inP2 := 0, deepest := n, spunDown := p.spunDown && n == 2 }) :=
    (((Dev.Only.refl d).setF trivial n).incF trivial 1 _).modPower (by simp) _
  exact Dev.Only.ite (fun _ => hbase) fun _ => hbase.dropFields (by simp) (by simp) _

/-- The state is shown; no power state loses the field. -/
theorem Dev.setState_pState (hn : n ≤ 4) : (d.setState n).pState = n := by
  have hbase : getF ((incF (setF d .PM_STAT_STATE 0 n) .PM_STAT_TRANSITIONS 0).modPower fun p =>
      { p with idle := 0, inP1 := 0, inP2 := 0, deepest := n, spunDown := p.spunDown && n == 2 }) .PM_STAT_STATE 0 = n := by
    rw [Dev.modPower_getF, getF_incF_ne _ _ _ (by decide), getF_setF]
    exact Nat.mod_eq_of_lt (Nat.lt_of_le_of_lt hn (by decide))
  unfold Dev.setState Dev.pState
  dsimp only
  split
  · exact hbase
  · refine ((Dev.dropFields_only _ fun f => f.info.retention.through n).registers .PM_STAT_STATE 0 ?_ (by decide)).trans hbase
    rw [Bool.not_eq_false]
    exact decide_eq_true hn

theorem Dev.setState_power :
    (d.setState n).power = { d.power with idle := 0, inP1 := 0, inP2 := 0, deepest := n, spunDown := d.power.spunDown && n == 2 } := by
  unfold Dev.setState
  dsimp only
  split
  · rfl
  · exact (Dev.dropFields_only _ fun f => f.info.retention.through n).others .power (by simp)

end SetState

/-! ## The steps down -/

/-- A head in an optical mode is to go to SAFE_PARK. -/
def Dev.parkHead (d : Dev) (h : HeadId) : Dev :=
  if opticalMode (d.mode h) ∨ d.mode h = 8 then d.modMotion h fun m => { m with wantSafe := true } else d

/-- Every head on its way to PARKED. -/
def Dev.headsParking (d : Dev) : Dev := allHeads.foldl Dev.parkHead d

theorem Dev.parkHead_only (d : Dev) (h : HeadId) : Dev.Only noRegs [] [h] [] d (d.parkHead h) :=
  Dev.Only.ite (fun _ => (Dev.Only.refl d).modMotion (by simp) _) fun _ => Dev.Only.refl d

theorem Dev.headsParking_only (d : Dev) : Dev.Only noRegs [] allHeads [] d d.headsParking :=
  (Dev.Only.refl d).foldl _ fun h hh e he => he.trans ((e.parkHead_only h).mono (fun _ _ hr => hr) (by simp) (by simpa using hh) (by simp))

theorem Dev.parkHead_mode (d : Dev) (x h : HeadId) : (d.parkHead x).mode h = d.mode h :=
  (d.parkHead_only x).registers .MO_MODE_MODE h (by simp [noRegs]) (by decide)

/-- A head in an optical mode, once passed, is to go to SAFE_PARK. -/
theorem Dev.foldl_parkHead {h : HeadId} (l : List HeadId) {d : Dev} (hmode : opticalMode (d.mode h) = true)
    (hpassed : h ∈ l ∨ (d.head h).motion.wantSafe = true) : ((l.foldl Dev.parkHead d).head h).motion.wantSafe = true := by
  induction l generalizing d with
  | nil => exact hpassed.resolve_left (by simp)
  | cons x l ih =>
    refine ih (by rw [Dev.parkHead_mode]; exact hmode) ?_
    by_cases hx : x = h
    · right
      rw [hx, Dev.parkHead, if_pos (.inl hmode), Dev.modMotion_motion]
    · refine hpassed.imp (fun hmem => (List.mem_cons.mp hmem).resolve_left (Ne.symm hx)) fun hsafe => ?_
      rw [(d.parkHead_only x).headsKept h (by simpa using Ne.symm hx)]
      exact hsafe

theorem Dev.headsParking_safe (d : Dev) {h : HeadId} (hmode : opticalMode (d.mode h) = true) : (d.headsParking.head h).motion.wantSafe = true := by
  have hmem : h ∈ allHeads := List.mem_finRange h
  unfold Dev.headsParking
  exact Dev.foldl_parkHead allHeads hmode (.inl hmem)

theorem Dev.p1Idle_steps {d : Dev} (hstate : d.pState = 0) (hmay : d.ladderMay 1 = true) (hidle : d.idleNow = true)
    (hlong : getF d .PM_CFG_P1_IDLE 0 ≤ d.power.idle) : d.p1Idle = d.setState 1 :=
  if_pos ⟨hstate, hmay, hidle, .inr hlong⟩

theorem Dev.p1Idle_stays {d : Dev} (h : d.pState ≠ 0 ∨ d.idleNow = false ∨ (d.pcie.d3 = false ∧ d.power.idle < getF d .PM_CFG_P1_IDLE 0)) :
    d.p1Idle = d := by
  refine if_neg fun ⟨hstate, _, hidle, hlong⟩ => ?_
  rcases h with hs | hi | ⟨hd3, hshort⟩
  · exact hs hstate
  · exact Bool.false_ne_true (hi.symm.trans hidle)
  · rcases hlong with hd | hl
    · exact Bool.false_ne_true (hd3.symm.trans hd)
    · exact Nat.not_lt.mpr hl hshort

theorem Dev.p2Idle_steps {d : Dev} (hstate : d.pState = 1) (hmay : d.ladderMay 2 = true) (hcal : d.calRuns = false)
    (hlong : 400 * getF d .PM_CFG_P2_IDLE 0 ≤ d.power.inP1) : d.p2Idle = d.headsParking.setState 2 :=
  if_pos ⟨hstate, hmay, by rw [hcal]; rfl, .inr hlong⟩

theorem Dev.p2Idle_stays {d : Dev} (h : d.pState ≠ 1 ∨ d.calRuns = true ∨ (d.pcie.d3 = false ∧ d.power.inP1 < 400 * getF d .PM_CFG_P2_IDLE 0)) :
    d.p2Idle = d := by
  refine if_neg fun ⟨hstate, _, hcal, hlong⟩ => ?_
  rcases h with hs | hc | ⟨hd3, hshort⟩
  · exact hs hstate
  · rw [hc] at hcal
    exact Bool.false_ne_true hcal
  · rcases hlong with hd | hl
    · exact Bool.false_ne_true (hd3.symm.trans hd)
    · exact Nat.not_lt.mpr hl hshort

/-! ## The spindles stop -/

/-- The registers that a stop of the spindles touches. -/
def haltRegs (f : Fld) (_ : Nat) : Prop :=
  f = .TQ_CTL_RUN ∨ f = .TQ_STAT_STATE ∨ f = .TQ_STAT_AT_SPEED ∨ f = .TQ_STAT_DEPTH_LIM ∨ f = .TQ_STAT_SPEED

theorem Dev.writeRun_halt (d : Dev) (t : Nat) (x : SpinId) : d.writeRun t x false = (setB d .TQ_CTL_RUN x false).torcHalt x := rfl

theorem Dev.torcHalt_run (d : Dev) (x : SpinId) (i : Nat) : getF (d.torcHalt x) .TQ_CTL_RUN i = getF d .TQ_CTL_RUN i := by
  have honly : Dev.Only (fun f _ => f ≠ .TQ_CTL_RUN) [] [] [x] d (d.torcHalt x) :=
    Dev.torcHalt_only (Dev.Only.refl d) (by simp) (by decide) (by decide) (by decide) (by decide)
  exact honly.registers _ _ (fun h => h rfl) (by decide)

/-- Every RUN written to 0. -/
def Dev.allStop (d : Dev) (t : Nat) (l : List SpinId) : Dev := l.foldl (fun d x => d.writeRun t x false) d

theorem Dev.allStop_only (d : Dev) (t : Nat) (l : List SpinId) : Dev.Only haltRegs [] [] allSpins d (d.allStop t l) := by
  refine (Dev.Only.refl d).foldl _ fun x _ e he => ?_
  have hset := he.setB (f := .TQ_CTL_RUN) (i := x) (by simp [haltRegs]) false
  exact Dev.torcHalt_only hset (List.mem_finRange x) (by simp [haltRegs]) (by simp [haltRegs]) (by simp [haltRegs]) (by simp [haltRegs])

theorem Dev.allStop_run (d : Dev) (t : Nat) (l : List SpinId) {x : SpinId} (hx : x ∈ l ∨ getF d .TQ_CTL_RUN x = 0) :
    getF (d.allStop t l) .TQ_CTL_RUN x = 0 := by
  induction l generalizing d with
  | nil => exact hx.resolve_left (by simp)
  | cons y l ih =>
    refine ih (d.writeRun t y false) ?_
    rw [Dev.writeRun_halt, Dev.torcHalt_run]
    by_cases hy : y = x
    · right
      rw [hy]
      exact getF_setF _ _ _ _
    · have hne : x.val ≠ y.val := fun e => hy (Fin.ext e.symm)
      rcases hx with hx | hx
      · exact .inl ((List.mem_cons.mp hx).resolve_left fun e => hy e.symm)
      · right
        exact (getF_setF_ne _ _ fun h => hne h.2).trans hx

/-- The spindle stop of P2 made. -/
def Dev.spun (d : Dev) (t : Nat) (l : List SpinId) : Dev := (d.allStop t l).modPower fun p => { p with spunDown := true }

theorem Dev.spun_only (d : Dev) (t : Nat) (l : List SpinId) : Dev.Only haltRegs [.power] [] allSpins d (d.spun t l) :=
  ((d.allStop_only t l).mono (P' := [.power]) (fun _ _ hr => hr) (by simp) (fun _ hx => hx) fun _ hx => hx).modPower (by simp) _

theorem Dev.spun_run (d : Dev) (t : Nat) {l : List SpinId} {x : SpinId} (hx : x ∈ l) : getF (d.spun t l) .TQ_CTL_RUN x = 0 :=
  d.allStop_run t l (.inl hx)

theorem Dev.spun_spunDown (d : Dev) (t : Nat) (l : List SpinId) : (d.spun t l).power.spunDown = true := rfl

/-- SPINDOWN has come. -/
structure Dev.SpinsDown (d : Dev) : Prop where
  state : d.pState = 2
  may : d.ladderMay 2 = true
  turning : d.power.spunDown = false
  d3 : d.pcie.d3 = false
  set : getF d .PM_CFG_SPINDOWN 0 ≠ 0
  long : 24000 * getF d .PM_CFG_SPINDOWN 0 ≤ d.power.inP2

theorem Dev.SpinsDown.spindown {d : Dev} (h : d.SpinsDown) (t : Nat) :
    d.spindown t = if d.stagedData then (d.wake 6).padAll t else d.spun t allSpins := by
  have hset : 24000 * getF d .PM_CFG_SPINDOWN 0 ≠ 0 := Nat.mul_ne_zero (by decide) h.set
  unfold Dev.spindown
  simp only [h.state, h.may, h.turning, h.d3, hset, Nat.not_lt.mpr h.long, ne_eq, not_true_eq_false, Bool.not_true, Bool.not_false,
    Bool.false_eq_true, if_false, and_false, or_self]
  rfl

theorem Dev.padAll_only (d : Dev) (t : Nat) : Dev.Only noRegs [.data, .chains, .clasp] [] [] d (d.padAll t) := by
  unfold Dev.padAll
  dsimp only
  refine Dev.Only.foldl (Dev.Only.foldl (Dev.Only.refl d) _ fun v _ e he => ?_) _ fun c _ e he => ?_
  · exact he.padTail (by simp) (by simp) (by simp) _ _ _ _ _
  · exact he.modChain (by simp) _ _

/-! ## Wakes -/

/-- The waits of a device that a wake finds below P0. -/
def Power.woken (p : Power) (state : Nat) : Power := { p with exiting := true, onlyP2 := false, downTo := none, deepest := max p.deepest state }

theorem Dev.wake_below {d : Dev} (h : d.pState ≠ 0) (cause : Nat) :
    d.wake cause = setF (d.modPower fun p => p.woken (getF d .PM_STAT_STATE 0)) .PM_STAT_LAST_WAKE 0 cause := if_neg h

theorem Dev.wake_only (d : Dev) (cause : Nat) : Dev.Only (theRegs [(.PM_STAT_LAST_WAKE, 0)]) [.power] [] [] d (d.wake cause) := by
  refine Dev.Only.ite (fun _ => Dev.Only.ite (fun _ => ?_) fun _ => Dev.Only.refl d) fun _ => ?_
  · exact (Dev.Only.refl d).modPower (by simp) _
  · exact ((Dev.Only.refl d).modPower (by simp) _).setF (by simp [theRegs]) _

theorem Dev.wake_inP0 {d : Dev} (h : d.pState = 0) (cause : Nat) :
    Dev.Only noRegs [.power] [] [] d (d.wake cause) ∧ (d.wake cause).power.exiting = d.power.exiting := by
  unfold Dev.wake
  rw [if_pos h]
  split
  · exact ⟨(Dev.Only.refl d).modPower (by simp) _, rfl⟩
  · exact ⟨Dev.Only.refl d, rfl⟩

theorem Dev.wakeBay_deep {d : Dev} (h : 3 ≤ d.pState) :
    d.wakeBay = setF (d.modPower fun p =>
      { p with onlyP2 := !p.exiting || p.onlyP2, exiting := true, downTo := none, deepest := max p.deepest (getF d .PM_STAT_STATE 0) })
      .PM_STAT_LAST_WAKE 0 3 := if_neg (Nat.not_lt.mpr h)

/-- The host is told of a bay event. -/
def Dev.bayTold (d : Dev) : Dev :=
  if d.pcie.d3cold ∨ d.pcie.turnedOff then d.send .wakePin
  else if d.pcie.d3 then d.send .pme
  else { d with cameo := { d.cameo with notify := true, owed := true } }

theorem Dev.bayWake_deep {d : Dev} (h : 3 ≤ d.pState) : d.bayWake = d.wakeBay.bayTold := if_neg (Nat.not_lt.mpr h)

theorem Dev.bayTold_wakePin {d : Dev} (h : d.pcie.d3cold = true) : HostMsg.wakePin ∈ d.bayTold.hostOut := by
  rw [Dev.bayTold, if_pos (.inl h)]
  exact List.mem_append_right _ (List.mem_singleton.mpr rfl)

theorem Dev.bayTold_pme {d : Dev} (hcold : d.pcie.d3cold = false) (hoff : d.pcie.turnedOff = false) (hhot : d.pcie.d3 = true) :
    HostMsg.pme ∈ d.bayTold.hostOut := by
  rw [Dev.bayTold, if_neg (by rw [hcold, hoff]; decide), if_pos hhot]
  exact List.mem_append_right _ (List.mem_singleton.mpr rfl)

theorem Dev.bayTold_only (d : Dev) : Dev.Only noRegs [] [] [] d d.bayTold := by
  refine Dev.Only.ite (fun _ => (Dev.Only.refl d).send _) fun _ => Dev.Only.ite (fun _ => (Dev.Only.refl d).send _) fun _ => ?_
  exact (Dev.Only.refl d).updateNone (fun _ _ _ => rfl) rfl rfl fun p => by cases p <;> rfl

/-! ## The end of an exit -/

/-- The state that an exit leads to. -/
def Dev.exitTo (d : Dev) : Nat := if d.power.onlyP2 ∧ 3 ≤ d.pState then 2 else 0

theorem Dev.thermalRestart_only (d : Dev) : Dev.Only anyRegs [.thermal] [] [] d d.thermalRestart := by
  unfold Dev.thermalRestart
  dsimp only
  refine Dev.Only.foldl ?_ _ fun z _ e he => he.setI trivial _
  exact (Dev.Only.refl d).update (q := .thermal) (by simp) rfl rfl rfl fun p hp => by cases p <;> simp_all [Part.same]

theorem Dev.ptmResume_only (d : Dev) : Dev.Only noRegs [.libTime] [] [] d d.ptmResume := by
  have hlib : ∀ l : LibTime, Dev.Only noRegs [.libTime] [] [] d { d with libTime := l } := fun l => (Dev.Only.refl d).setLibTime (by simp) l
  refine Dev.Only.ite (fun _ => ?_) fun _ => Dev.Only.refl d
  refine Dev.Only.ite (fun _ => hlib _) fun _ => Dev.Only.ite (fun _ => Dev.Only.refl d) fun _ => ?_
  exact (hlib _).send _

/-- The device at the end of an exit, its new state still to be shown. -/
def Dev.exitReady (d : Dev) : Dev :=
  (((if 4 ≤ d.pState then d.thermalRestart else d).modPower fun p =>
    { p with exiting := false, onlyP2 := false, downTo := none }).leaveState).casketResume

theorem Dev.exitDone_eq {d : Dev} (h : d.power.exiting = true) : d.exitDone = (d.exitReady.setState d.exitTo).ptmResume := by
  unfold Dev.exitDone
  rw [h]
  rfl

theorem Dev.exitReady_only (d : Dev) : Dev.Only anyRegs [.thermal, .power, .rvPend, .hmPend, .mem] [] [] d d.exitReady := by
  have hwarm : Dev.Only anyRegs [.thermal, .power, .rvPend, .hmPend, .mem] [] [] d (if 4 ≤ d.pState then d.thermalRestart else d) :=
    Dev.Only.ite (fun _ => d.thermalRestart_only.mono (fun _ _ hr => hr) (by simp) (by simp) (by simp)) fun _ => Dev.Only.refl d
  have hidle := hwarm.modPower (by simp) fun p => { p with exiting := false, onlyP2 := false, downTo := none }
  unfold Dev.exitReady Dev.casketResume Dev.leaveState
  exact (hidle.dropFields (by simp) (by simp) _).modMem (by simp) _

theorem Dev.exitReady_exiting (d : Dev) : d.exitReady.power.exiting = false := by
  unfold Dev.exitReady Dev.casketResume Dev.leaveState
  rw [Dev.modMem_power, (Dev.dropFields_only _ _).others .power (by simp)]
  rfl

theorem Dev.exitTo_le (d : Dev) : d.exitTo ≤ 4 := by
  unfold Dev.exitTo
  split <;> decide

theorem Dev.exitDone_only {d : Dev} (h : d.power.exiting = true) :
    Dev.Only anyRegs [.thermal, .power, .rvPend, .hmPend, .mem, .libTime] [] [] d d.exitDone := by
  rw [Dev.exitDone_eq h]
  have hready : Dev.Only anyRegs [.thermal, .power, .rvPend, .hmPend, .mem, .libTime] [] [] d d.exitReady :=
    d.exitReady_only.mono (fun _ _ hr => hr) (by simp) (by simp) (by simp)
  have hstate := hready.trans ((d.exitReady.setState_only d.exitTo).mono (fun _ _ hr => hr) (by simp) (by simp) (by simp))
  exact hstate.trans ((Dev.ptmResume_only _).mono (fun _ _ _ => trivial) (by simp) (by simp) (by simp))

theorem Dev.exitDone_state {d : Dev} (h : d.power.exiting = true) : d.exitDone.pState = d.exitTo := by
  rw [Dev.exitDone_eq h]
  exact ((Dev.ptmResume_only _).registers .PM_STAT_STATE 0 (by simp [noRegs]) (by decide)).trans (Dev.setState_pState _ _ d.exitTo_le)

theorem Dev.exitDone_exiting {d : Dev} (h : d.power.exiting = true) : d.exitDone.power.exiting = false := by
  have hpower : d.exitDone.power = (d.exitReady.setState d.exitTo).power := by
    rw [Dev.exitDone_eq h]
    exact (Dev.ptmResume_only _).others .power (by simp)
  rw [hpower, Dev.setState_power]
  exact d.exitReady_exiting

theorem Dev.exitDone_stays {d : Dev} (h : d.power.exiting = false) : d.exitDone = d := by
  unfold Dev.exitDone
  rw [h]
  rfl

/-! ## The entry to P4 -/

/-- What the PCI Express function shows changes. -/
theorem Dev.pcie_only {R : Fld → Nat → Prop} (d : Dev) (x : Pcie) : Dev.Only R [.pcie] [] [] d { d with pcie := x } :=
  (Dev.Only.refl d).update (q := .pcie) (by simp) rfl rfl rfl fun p hp => by cases p <;> simp_all [Part.same]

/-- The device on its way to P4: DRAM, queue pairs and the link are gone. -/
def Dev.dramLost (d : Dev) : Dev :=
  { d.saveAccounts.loseDram with
    clasp := { d.saveAccounts.loseDram.clasp with log := [], logNext := 1 }
    pcie := { d.saveAccounts.loseDram.pcie with linkUp := false, d3cold := true } }

/-- Hallmark keeps of its heads the accounts alone. -/
def Dev.hallmarksLost (d : Dev) : Dev := allHeads.foldl (fun d h => d.modCal h fun x => { accounts := x.accounts, recSerial := x.recSerial }) d

theorem Dev.enterP4_eq (d : Dev) : d.enterP4 = d.dramLost.hallmarksLost.setState 4 := rfl

theorem Dev.dramLost_spindles (d : Dev) : d.dramLost.spindles = d.spindles := by
  have hsaved : d.saveAccounts.spindles = d.spindles := by
    unfold Dev.saveAccounts
    split <;> rfl
  exact hsaved

theorem Dev.enterP4_only (d : Dev) : Dev.Only anyRegs [.rvPend, .hmPend, .power] allHeads [] d.dramLost d.enterP4 := by
  rw [Dev.enterP4_eq]
  have hheads : Dev.Only anyRegs [.rvPend, .hmPend, .power] allHeads [] d.dramLost d.dramLost.hallmarksLost :=
    (Dev.Only.refl _).foldl _ fun h hh e he => he.modCal hh _
  exact hheads.trans ((Dev.setState_only _ 4).mono (fun _ _ hr => hr) (by simp) (by simp) (by simp))

/-- The PME_Turn_Off handshake done. -/
def Dev.turnOff (d : Dev) : Dev := { d with pcie := { d.pcie with turnedOff := true } }

theorem Dev.pmeTurnOff_eq {d : Dev} (h : d.pcie.d3 = true) : d.pmeTurnOff = d.turnOff.deepSteps := by
  unfold Dev.pmeTurnOff
  rw [h]
  rfl

theorem Dev.deepSteps_high {d : Dev} (hdown : d.power.downTo = none) (h : d.pState < 2) : d.deepSteps = d := by
  have h2 : d.pState ≠ 2 := Nat.ne_of_lt h
  have h3 : d.pState ≠ 3 := Nat.ne_of_lt (Nat.lt_succ_of_lt h)
  unfold Dev.deepSteps
  rw [if_neg (by rw [hdown]; exact nofun), if_neg fun hc => h2 hc.1, if_neg fun hc => h3 hc.1]

theorem Dev.deepSteps_P4 {d : Dev} (hdown : d.power.downTo = none) (h : d.pState = 3) (hmay : d.ladderMay 4 = true) (hd3 : d.pcie.d3 = true)
    (hoff : d.pcie.turnedOff = true) : d.deepSteps = d.enterP4 := by
  unfold Dev.deepSteps
  rw [if_neg (by rw [hdown]; exact nofun), if_neg fun hc => absurd (h.symm.trans hc.1) (by decide), if_pos ⟨h, hmay, hd3, hoff⟩]

/-! ## The settled statement -/

theorem State.onDev_pState (s : State) (g : Dev → Dev) : (s.onDev g).dev.pState = (g s.dev).pState := State.onDev_getF s g _ 0 (by decide)

/-- Settles O56: every step of the ladder ends in setState, whose one shown state no Retention column loses. -/
theorem powerLadderSteps : Obligations.PowerLadderSteps := by
  unfold Obligations.PowerLadderSteps
  refine ⟨fun s => ⟨?_, ?_, ?_, ?_⟩, fun s hstate hmay hturn hd3 hset hlong => ⟨fun hstaged => ?_, fun hstaged => ?_⟩,
    fun s => ⟨fun hlink hd3 => ?_, fun hd3 => ?_⟩, fun s hd3 hdown => ⟨fun hhigh => ?_, fun hthree hmay => ?_⟩,
    fun s hbelow => ?_, fun s hzero => ?_, fun s => ⟨fun hex hfull => ?_, fun hex hbay hdeep => ?_, fun hidle => ?_⟩,
    fun _ s => ⟨fun hdeep hidle => ?_, fun hshallow => ?_⟩⟩
  · intro hstate hmay hidle hlong
    have hdo := Dev.p1Idle_steps hstate hmay hidle hlong
    have honly := s.dev.setState_only 1
    refine ⟨_, rfl, ?_, ?_, ?_, ?_, ?_, ?_⟩
    · rw [State.onDev_pState, hdo, Dev.setState_pState _ _ (by decide)]
    · rw [State.onDev_heads, hdo, honly.heads]
    · rw [State.onDev_spindles, hdo, honly.spindles]
    · rw [State.onDev_data, hdo]
      exact honly.others .data (by simp)
    · rw [State.onDev_clasp, hdo]
      exact honly.others .clasp (by simp)
    · rw [State.onDev_power, hdo, Dev.setState_power]
  · exact fun h => ⟨_, rfl, rowLeft_spec (Dev.p1Idle_stays h)⟩
  · intro hstate hmay hcal hlong
    have hdo := Dev.p2Idle_steps hstate hmay hcal hlong
    have honly := s.dev.headsParking.setState_only 2
    refine ⟨_, rfl, ?_, ?_, ?_, fun h hmode => ?_⟩
    · rw [State.onDev_pState, hdo, Dev.setState_pState _ _ (by decide)]
    · rw [State.onDev_spindles, hdo, honly.spindles, s.dev.headsParking_only.spindles]
    · rw [State.onDev_power, hdo, Dev.setState_power]
    · rw [State.onDev_head, hdo, honly.headsKept h (by simp)]
      exact s.dev.headsParking_safe hmode
  · exact fun h => ⟨_, rfl, rowLeft_spec (Dev.p2Idle_stays h)⟩
  · have hdo := (Dev.SpinsDown.spindown ⟨hstate, hmay, hturn, hd3, hset, hlong⟩ s.dtime).trans (if_neg (by rw [hstaged]; exact Bool.false_ne_true))
    have honly := s.dev.spun_only s.dtime allSpins
    refine ⟨_, rfl, fun x => ?_, ?_, ?_, ?_⟩
    · rw [State.onDev_getF _ _ _ _ (by decide), hdo]
      have hx : x ∈ allSpins := List.mem_finRange x
      exact Dev.spun_run s.dev s.dtime hx
    · rw [State.onDev_power, hdo, Dev.spun_spunDown]
    · rw [State.onDev_pState, hdo]
      exact (honly.registers .PM_STAT_STATE 0 (by simp [haltRegs]) (by decide)).trans hstate
    · rw [State.onDev_data, hdo]
      exact honly.others .data (by simp)
  · have hdo := (Dev.SpinsDown.spindown ⟨hstate, hmay, hturn, hd3, hset, hlong⟩ s.dtime).trans (if_pos hstaged)
    have hpad := (s.dev.wake 6).padAll_only s.dtime
    have hwake := Dev.wake_below (d := s.dev) (by rw [hstate]; decide) 6
    refine ⟨_, rfl, ?_, ?_⟩
    · rw [State.onDev_power, hdo]
      refine (congrArg Power.exiting (hpad.others .power (by simp))).trans ?_
      rw [hwake]
      rfl
    · rw [State.onDev_getF _ _ _ _ (by decide), hdo]
      refine (hpad.registers .PM_STAT_LAST_WAKE 0 (by simp [noRegs]) (by decide)).trans ?_
      rw [hwake, getF_setF]
      rfl
  · have hdo : s.dev.d3hot = setF { s.dev with pcie := { s.dev.pcie with d3 := true } } .PM_STAT_D3 0 1 :=
      if_neg (by rw [hlink, hd3]; decide)
    refine ⟨_, rfl, ?_, ?_, Dev.Only.frame ?_⟩
    · rw [State.onDev_getF _ _ _ _ (by decide), hdo, getF_setF]
      rfl
    · rw [State.onDev_pcie, hdo]
      rfl
    · rw [hdo]
      exact (Dev.pcie_only s.dev _).setF (by simp [theRegs]) _
  · have hdo : s.dev.d0Return = setF { s.dev with pcie := { s.dev.pcie with d3 := false, turnedOff := false, d3cold := false } } .PM_STAT_D3 0 0 :=
      if_neg (by rw [hd3]; decide)
    refine ⟨_, rfl, ?_, ?_, ?_, Dev.Only.frame ?_⟩
    · rw [State.onDev_getF _ _ _ _ (by decide), hdo, getF_setF]
      rfl
    · rw [State.onDev_pcie, hdo]
      rfl
    · rw [State.onDev_pState, hdo]
      exact getF_setF_ne _ _ (by decide)
    · rw [hdo]
      exact (Dev.pcie_only s.dev _).setF (by simp [theRegs]) _
  · have hdo : s.dev.pmeTurnOff = s.dev.turnOff := (Dev.pmeTurnOff_eq hd3).trans (Dev.deepSteps_high hdown hhigh)
    refine ⟨_, rfl, ?_, Dev.Only.frame ?_⟩
    · rw [State.onDev_pcie, hdo]
      rfl
    · rw [hdo]
      exact Dev.pcie_only s.dev _
  · have hdo : s.dev.pmeTurnOff = s.dev.turnOff.enterP4 :=
      (Dev.pmeTurnOff_eq hd3).trans (Dev.deepSteps_P4 hdown hthree hmay hd3 rfl)
    have honly := s.dev.turnOff.enterP4_only
    refine ⟨_, rfl, ?_, ?_, ?_, ?_, ?_, ?_⟩
    · rw [State.onDev_pState, hdo, Dev.enterP4_eq, Dev.setState_pState _ _ (by decide)]
    · rw [State.onDev_mem, hdo]
      exact congrArg Mem.dram (honly.others .mem (by simp))
    · rw [State.onDev_clasp, hdo]
      exact congrArg Clasp.queues (honly.others .clasp (by simp))
    · rw [State.onDev_clasp, hdo]
      exact congrArg Clasp.cmds (honly.others .clasp (by simp))
    · rw [State.onDev_data, hdo]
      exact congrArg Data.writes (honly.others .data (by simp))
    · rw [State.onDev_spindles, hdo, honly.spindles, Dev.dramLost_spindles]
      rfl
  · have hdo := Dev.wake_below (d := s.dev) (Nat.pos_iff_ne_zero.mp hbelow) 2
    have honly := s.dev.wake_only 2
    refine ⟨_, rfl, ?_, ?_, ?_, ?_, ?_, Dev.Only.frame honly⟩
    · rw [State.onDev_power, hdo]
      rfl
    · rw [State.onDev_power, hdo]
      rfl
    · rw [State.onDev_power, hdo]
      rfl
    · rw [State.onDev_getF _ _ _ _ (by decide), hdo, getF_setF]
      rfl
    · rw [State.onDev_pState]
      exact honly.registers .PM_STAT_STATE 0 (by simp [theRegs]) (by decide)
  · obtain ⟨honly, hexit⟩ := Dev.wake_inP0 hzero 2
    refine ⟨_, rfl, ?_, Dev.Only.frame honly⟩
    rw [State.onDev_power, hexit]
  · have honly := Dev.exitDone_only hex
    have hto : s.dev.exitTo = 0 := if_neg (by rw [hfull]; exact fun h => Bool.false_ne_true h.1)
    refine ⟨_, rfl, ?_, ?_, ?_, ?_, ?_⟩
    · rw [State.onDev_pState, Dev.exitDone_state hex, hto]
    · rw [State.onDev_power, Dev.exitDone_exiting hex]
    · rw [State.onDev_clasp]
      exact honly.others .clasp (by simp)
    · rw [State.onDev_data]
      exact honly.others .data (by simp)
    · rw [State.onDev_spindles, honly.spindles]
  · have hto : s.dev.exitTo = 2 := if_pos ⟨hbay, hdeep⟩
    refine ⟨_, rfl, ?_, ?_⟩
    · rw [State.onDev_pState, Dev.exitDone_state hex, hto]
    · rw [State.onDev_power, Dev.exitDone_exiting hex]
  · exact ⟨_, rfl, rowLeft_spec (Dev.exitDone_stays hidle)⟩
  · have hdo := Dev.bayWake_deep hdeep
    have htold := s.dev.wakeBay.bayTold_only
    have hpower : s.dev.bayWake.power = s.dev.wakeBay.power := by
      rw [hdo]
      exact htold.others .power (by simp)
    have hwoken := Dev.wakeBay_deep hdeep
    have hpcie : s.dev.wakeBay.pcie = s.dev.pcie := by
      rw [hwoken]
      rfl
    refine ⟨_, rfl, ?_, ?_, ?_, fun hcold => ?_, fun hcold hoff hhot => ?_, Dev.Only.frame ?_⟩
    · rw [State.onDev_power, hpower, hwoken]
      rfl
    · rw [State.onDev_power, hpower, hwoken]
      change (!s.dev.power.exiting || s.dev.power.onlyP2) = true
      rw [hidle]
      rfl
    · rw [State.onDev_getF _ _ _ _ (by decide), hdo]
      refine (htold.registers .PM_STAT_LAST_WAKE 0 (by simp [noRegs]) (by decide)).trans ?_
      rw [hwoken, getF_setF]
      rfl
    · refine Dev.mem_hostOut_flush ?_
      change HostMsg.wakePin ∈ s.dev.bayWake.hostOut
      rw [hdo]
      exact Dev.bayTold_wakePin (hpcie.symm ▸ hcold)
    · refine Dev.mem_hostOut_flush ?_
      change HostMsg.pme ∈ s.dev.bayWake.hostOut
      rw [hdo]
      exact Dev.bayTold_pme (hpcie.symm ▸ hcold) (hpcie.symm ▸ hoff) (hpcie.symm ▸ hhot)
    · rw [hdo]
      refine Dev.Only.trans ?_ (htold.mono (fun _ _ hr => hr.elim) (by simp) (by simp) (by simp))
      rw [hwoken]
      exact ((Dev.Only.refl s.dev).modPower (by simp) _).setF (by simp [theRegs]) _
  · exact ⟨_, rfl, rowLeft_spec (if_pos hshallow)⟩

end Sys2Proof.Machine
end
